-- ==== Sys2Proof/Word.lean ====
section
/-! DEFINITION. The words of the LZQ-6410 (spec/00 R1): bytes, 32-bit register words and the two halves of a stamp. -/

namespace Sys2Proof

/-- One byte (R1). -/
abbrev Byte := BitVec 8

/-- One 32-bit word: a register, a Stream Port word (R30), a sequence number (R40). -/
abbrev Word := BitVec 32

/-- Device monotonic time, 48 bits of microseconds (R284). -/
abbrev Dmt := BitVec 48

/-- The epoch count (R287). -/
abbrev Epoch := BitVec 16

end Sys2Proof
end

