-- ==== Sys2Proof/Syntax.lean ====
section
/-! DEFINITION. The commands of the block: one constructor for each row of the opcode table, with the row's operands.
`src` is the writer of a register as spec/17 R357 numbers sources: 0 the keeper's system window, 0x10 to 0x13 harts 0
to 3 in machine mode, 0x14 to 0x17 the same in user mode. `tid` a tenant, `chan` and `n` a channel, `sq` a submission
queue, `a` and `ch` an actuator or its channel (0 A, 1 B), `h` a hart. `torn` (`tornA`, `tornB`): the gate that the
command forces off falls before the dram's first bit (spec/07 R160). `bsy`: the length of the busy phase in units of
10 ns (spec/02 R54). What heads, sensors, marks, hosts and partners bring is an operand. -/

namespace Sys2Proof

/-- An entry of the current checkpoint for a bushel that is not OPEN (R136): STATE is 0 FREE, 2 CLOSED, 3 RELEASED, 4 SYSTEM or
5 BAD. -/
structure DirEntry where
  bushel : Nat
  gen : Word := 0
  state : Nat := 0
  chan : Nat := 0
  intake : Bool := false
  opening : BitVec 16 := 0
  lastSeq : Word := 0
deriving DecidableEq, Repr

/-- What a channel decodes of a sector in one step of the ladder (R164, R165): the offset of each resume mark; the iterations
after which the decoder succeeds on the samples and erasures of the step, and the information bytes. -/
structure Decoded where
  resumes : List (Option Int) := []
  iters : Nat := 0
  bytes : List Byte := []
deriving DecidableEq, Repr

/-- What a channel sees of a sector in one step of the ladder (R164, R165): preamble transitions within the sync window; the
sync mark, in bits from where it is expected, with its bit errors; the dram bits that match their pattern; what it decodes. -/
structure Seen extends Decoded where
  edges : Nat := 0
  sync : Option (Int × Nat) := none
  dram : Nat := 0
deriving DecidableEq, Repr

/-- The commands. -/
inductive Instr where
  /-- REGISTER_WRITE (R3). -/
  | registerWrite (src addr : Nat) (v : Word)
  /-- SP_BSY_MAX_READ (R54). -/
  | spBsyMaxRead
  /-- ARB_STAT_READ (R108). -/
  | arbStatRead (n : Nat)
  /-- SHK_LAST_READ (R188). -/
  | shkLastRead
  /-- ECC_CNT_READ (R329). -/
  | eccCntRead (b : Nat)
  /-- CLK_STOP_READ (R345). -/
  | clkStopRead
  /-- DMT_LO_READ (R295). -/
  | dmtLoRead
  /-- SP_WRITE_GRAINS (R38). -/
  | spWriteGrains (tid chan len : Nat) (seq : Word) (data : List Word) (trailer : Word)
  /-- SP_READ_STREAM (R39). -/
  | spReadStream (tid chan len : Nat) (seq : Word)
  /-- SP_MGMT_WRITE (R43). -/
  | spMgmtWrite (tid chan len : Nat) (adr : Word) (data : List Word) (trailer : Word) (bsy : Nat)
  /-- SP_MGMT_READ (R44). -/
  | spMgmtRead (tid chan len : Nat) (adr : Word)
  /-- SP_DOORBELL (R45). -/
  | spDoorbell (tid chan len : Nat) (word1 : Word)
  /-- SP_NOP (R45). -/
  | spNop (tid chan len : Nat) (word1 : Word)
  /-- SP_RESERVED_TYPE_HEADER (R38). -/
  | spReservedTypeHeader (word0 word1 : Word)
  /-- SP_READ_DATA_READY (R44). -/
  | spReadDataReady (bsy : Nat)
  /-- COMMIT_EDGE (R43). -/
  | commitEdge (queued : Bool) (sq bsy : Nat)
  /-- SP_FRAME_ABORT (R48). -/
  | spFrameAbort
  /-- SP_STALL_TIMEOUT (R48). -/
  | spStallTimeout
  /-- SP_STATUS_LOST (R48). -/
  | spStatusLost
  /-- SP_FRM_OUT_OF_TURN (R36). -/
  | spFrmOutOfTurn
  /-- CARTRIDGE_REMOVAL (R50). -/
  | cartridgeRemoval
  /-- CARTRIDGE_SEATED (R50). -/
  | cartridgeSeated
  /-- QDB_WRITE (R58). -/
  | qdbWrite (src : Nat) (v : Word)
  /-- QUEUE_CONFIG_WRITE (R56). -/
  | queueConfigWrite (src addr : Nat) (v : Word)
  /-- POOL_CONFIG_WRITE (R71). -/
  | poolConfigWrite (src addr : Nat) (v : Word)
  /-- DESCRIPTOR_FETCH (R62). -/
  | descriptorFetch (sq : Nat)
  /-- READ_GRAINS (R65). -/
  | readGrains (sq : Nat)
  /-- READ_GRAINS_COMPLETE (R65). -/
  | readGrainsComplete (sq : Nat)
  /-- QUERY_HEAD (R67). -/
  | queryHead (sq : Nat)
  /-- SEAL (R129). -/
  | seal (sq : Nat)
  /-- OPEN_CHANNEL (R65). -/
  | openChannel (sq : Nat)
  /-- CLOSE_CHANNEL (R53). -/
  | closeChannel (sq : Nat)
  /-- RELEASE_BUSHEL (R135). -/
  | releaseBushel (sq : Nat)
  /-- VERIFY_RANGE (R65). -/
  | verifyRange (sq : Nat)
  /-- VERIFY_RANGE_COMPLETE (R65). -/
  | verifyRangeComplete (sq : Nat) (media : List (Nat × Nat × List Byte)) (unreadable : Bool)
  /-- FLUSH (R65). -/
  | flush (sq : Nat)
  /-- MIRROR_RESYNC (R65). -/
  | mirrorResync (sq : Nat)
  /-- READ_EVENTS (R65). -/
  | readEvents (sq : Nat)
  /-- ZERO_WINDOW (R65). -/
  | zeroWindow (sq : Nat)
  /-- ZERO_WINDOW_COMPLETE (R72). -/
  | zeroWindowComplete (sq : Nat)
  /-- SET_RESERVATION (R65). -/
  | setReservation (sq : Nat)
  /-- QUEUED_WRITE_GRAINS (R66). -/
  | queuedWriteGrains (sq : Nat)
  /-- FORWARDED_OPCODE (R68). -/
  | forwardedOpcode (sq : Nat)
  /-- FWD_POST (R68). -/
  | fwdPost (src : Nat) (v : Word)
  /-- SESSION_CHALLENGE (R79). -/
  | sessionChallenge (tid : Nat)
  /-- SESSION_RESPOND (R79). -/
  | sessionRespond (tid : Nat)
  /-- SESSION_CLOSE (R81). -/
  | sessionClose (tid : Nat)
  /-- NONCE_EXPIRY (R79). -/
  | nonceExpiry (tid : Nat)
  /-- LOCKOUT_EXPIRY (R80). -/
  | lockoutExpiry (tid : Nat)
  /-- TENANT_CONFIG_WRITE (R78). -/
  | tenantConfigWrite (src t : Nat) (v : Word)
  /-- KEY_WRITE (R82). -/
  | keyWrite (src t i : Nat) (v : Word)
  /-- CHAN_RIGHTS_WRITE (R84). -/
  | chanRightsWrite (src n : Nat) (v : Word)
  /-- WINDOW_CONFIG_WRITE (R85). -/
  | windowConfigWrite (src t w : Nat) (second : Bool) (v : Word)
  /-- BUF_REGION_WRITE (R97). -/
  | bufRegionWrite (src : Nat) (wreg : Bool) (v : Word)
  /-- MIRROR_RATE_WRITE (R111). -/
  | mirrorRateWrite (src : Nat) (v : Word)
  /-- BANK_ARBITRATION (R103). -/
  | bankArbitration (bank cycles : Nat) (reqs : List (Nat × Nat × Nat))
  /-- GRANT_CUTOFF (R106). -/
  | grantCutoff (bank presented : Nat)
  /-- ARB_COUNTER_CLEAR (R108). -/
  | arbCounterClear (src : Nat)
  /-- STAGING_CHECK_DONE (R100). -/
  | stagingCheckDone (token : BitVec 16)
  /-- STAGING_TIMEOUT (R101). -/
  | stagingTimeout (token : BitVec 16)
  /-- MEDIA_NOW_RECOMPUTE (R112). -/
  | mediaNowRecompute
  /-- SHED_FRAME_BOUNDARY (R115). -/
  | shedFrameBoundary
  /-- DEFERRED_RECORD_FORM (R131). -/
  | deferredRecordForm (chan : Nat)
  /-- BFREE_PUSH (R133). -/
  | bfreePush (src : Nat) (v : Word)
  /-- LDG_SYS_WRITE (R138). -/
  | ldgSysWrite (src : Nat) (gen : Bool) (v : Word)
  /-- SREC_APPEND (R138). -/
  | srecAppend (src : Nat)
  /-- SREC_BEGIN (R138). -/
  | srecBegin (src bushel : Nat)
  /-- SYSTEM_RECORD_FORMED (R138). -/
  | systemRecordFormed
  /-- SCAN_START (R371). -/
  | scanStart (src checkpoint : Nat) (directory : List DirEntry)
  /-- SCAN_COMPLETE (R139). -/
  | scanComplete (media : List (Nat × Nat × List Byte))
  /-- CHAIN_MARK (R143). -/
  | chainMark (period : Nat) (backward index tornA tornB : Bool)
  /-- CHAIN_SILENCE (R144). -/
  | chainSilence (tornA tornB : Bool)
  /-- ZONE_MULTIPLIER_SETTLE (R147). -/
  | zoneMultiplierSettle (ch : Nat)
  /-- TABLE_APPLY (R151). -/
  | tableApply (src : Nat)
  /-- BMAP_WRITE (R158). -/
  | bmapWrite (src b : Nat) (v : Word)
  /-- WRITE_GATE_OPEN (R159). -/
  | writeGateOpen (ch : Nat)
  /-- RECORD_WRITTEN (R160). -/
  | recordWritten (ch : Nat)
  /-- PREAMP_WRITE_FAULT (R160). -/
  | preampWriteFault (ch : Nat) (low torn : Bool)
  /-- SECTOR_READ_COMPLETE (R164). -/
  | sectorReadComplete (ch edges : Nat) (sync : Option (Int × Nat)) (dram : Nat) (decoded : Decoded)
  /-- SECTOR_READ_PORT_GO (R166). -/
  | sectorReadPortGo (src ch : Nat)
  /-- AEV_ARM (R167). -/
  | aevArm (src a : Nat) (v : Word)
  /-- AEV_DISARM (R167). -/
  | aevDisarm (src a : Nat)
  /-- AEV_FIRE (R167). -/
  | aevFire (a : Nat)
  /-- SERVO_SAMPLE (R175). -/
  | servoSample (a : Nat) (sam : Option Int) (parity : Bool) (burst : Nat) (y t : Word) (torn : Bool)
  /-- SEEK_TIMEOUT (R182). -/
  | seekTimeout (a : Nat)
  /-- LOST_TIMEOUT (R187). -/
  | lostTimeout (a : Nat)
  /-- SPINDLE_SAMPLE (R176). -/
  | spindleSample (period : Nat) (shock : BitVec 16) (tornA tornB : Bool)
  /-- ACT_SEEK (R179). -/
  | actSeek (src a : Nat)
  /-- ACT_PARK (R190). -/
  | actPark (src a : Nat) (torn : Bool)
  /-- ACT_ACQUIRE (R191). -/
  | actAcquire (src a : Nat)
  /-- CHANNEL_SEEK_TARGET (R179). -/
  | channelSeekTarget (ch track head : Nat)
  /-- LOAD_TIMEOUT (R191). -/
  | loadTimeout (a : Nat)
  /-- LOOP_SWAP (R185). -/
  | loopSwap (src : Nat) (v : Word)
  /-- COEF_BANK_WRITE (R184). -/
  | coefBankWrite (src addr : Nat) (v : Word)
  /-- LOOP_CTRL_WRITE (R191). -/
  | loopCtrlWrite (src : Nat) (v : Word)
  /-- SHOCK_ASSERT (R188). -/
  | shockAssert (reading : BitVec 16) (tornA tornB : Bool)
  /-- SHOCK_RELEASE (R188). -/
  | shockRelease
  /-- SHOCK_HOLD_END (R188). -/
  | shockHoldEnd (a : Nat)
  /-- SHOCK_QUIET_END (R188). -/
  | shockQuietEnd (a : Nat)
  /-- SPINDLE_START (R197). -/
  | spindleStart (src : Nat) (dir : Bool)
  /-- SPINDLE_STOP (R197). -/
  | spindleStop (src : Nat)
  /-- SPINDLE_HEAT (R197). -/
  | spindleHeat (src : Nat) (auto : Bool)
  /-- DETECT_DONE (R199). -/
  | detectDone (turning backward : Bool) (rpm8 : Nat)
  /-- BRAKE_END (R200). -/
  | brakeEnd
  /-- BRAKE_TIMEOUT (R200). -/
  | brakeTimeout
  /-- SENSE_DONE (R201). -/
  | senseDone (times : List Nat)
  /-- RAMP_STEP (R202). -/
  | rampStep (crossing : Bool)
  /-- BEMF_ZERO_CROSSING (R205). -/
  | bemfZeroCrossing (interval onTime : Nat) (flyback backward : Bool)
  /-- KICK_BRAKE_END (R203). -/
  | kickBrakeEnd
  /-- COMMUTATION_LOST (R206). -/
  | commutationLost
  /-- START_TIMEOUT (R204). -/
  | startTimeout
  /-- START_GAP_END (R204). -/
  | startGapEnd
  /-- FAIL_PAUSE_END (R204). -/
  | failPauseEnd
  /-- HEATER_MEASURE (R208). -/
  | heaterMeasure (r : Nat)
  /-- HEAT_TIMEOUT (R208). -/
  | heatTimeout
  /-- ENERGY_MEASURE (R215). -/
  | energyMeasure (vhold : Nat)
  /-- ENERGY_REOPEN (R220). -/
  | energyReopen
  /-- DL_HEARTBEAT (R224). -/
  | dlHeartbeat
  /-- DL_ACTUATOR_FRAME (R224). -/
  | dlActuatorFrame
  /-- DL_SPINDLE_FRAME (R224). -/
  | dlSpindleFrame
  /-- DL_MEASURE_FRAME (R224). -/
  | dlMeasureFrame (seq : Byte) (vhold vin gap : Nat)
  /-- DL_STATE_FRAME (R224). -/
  | dlStateFrame (seq : Byte) (retA retB rampA rampB loadedA loadedB harvest charger tornA tornB : Bool) (gap : Nat)
  /-- DL_PWRFAIL_FRAME (R228). -/
  | dlPwrfailFrame (seq : Byte) (gap : Nat)
  /-- POWER_DIE_AUTO_RETRACT (R225). -/
  | powerDieAutoRetract
  /-- DIELINK_DOWN (R226). -/
  | dielinkDown (tornA tornB : Bool)
  /-- POWER_LOSS_VIN (R228). -/
  | powerLossVin
  /-- POWER_LOSS_VHOLD (R229). -/
  | powerLossVhold
  /-- PL_PORT_CLOSE (R230). -/
  | plPortClose
  /-- PL_QUEUE_EMPTY (R230). -/
  | plQueueEmpty (a : Nat)
  /-- PL_DRAIN_TIMEOUT (R230). -/
  | plDrainTimeout (tornA tornB : Bool)
  /-- PL_BOTH_PARKED (R230). -/
  | plBothParked
  /-- LOGIC_DIE_BROWNOUT (R230). -/
  | logicDieBrownout
  /-- VIN_VALID (R396). -/
  | vinValid (vhold : Nat)
  /-- HARVEST_AT_N_L (R231). -/
  | harvestAtNL
  /-- HARVEST_END (R231). -/
  | harvestEnd
  /-- RETRACT_COMPLETE (R234). -/
  | retractComplete (a : Nat) (spent : Bool)
  /-- OVR_MIRROR_FRAME_RX (R249). -/
  | ovrMirrorFrameRx (frame : List Byte)
  /-- OVR_SEAL_NOTE_RX (R251). -/
  | ovrSealNoteRx (frame : List Byte)
  /-- OVR_CANCEL_RX (R250). -/
  | ovrCancelRx (frame : List Byte)
  /-- OVR_HEARTBEAT_RX (R244). -/
  | ovrHeartbeatRx (frame : List Byte)
  /-- OVR_INVALID_FRAME_RX (R253). -/
  | ovrInvalidFrameRx (fresh : Bool)
  /-- OVR_LINK_SILENCE (R253). -/
  | ovrLinkSilence
  /-- OVR_HEARTBEAT_SEND (R245). -/
  | ovrHeartbeatSend
  /-- MIRROR_FRAME_QUEUE (R247). -/
  | mirrorFrameQueue (chan : Nat)
  /-- CATCH_UP_SEND (R257). -/
  | catchUpSend (chan : Nat) (media : List Byte)
  /-- PROV_TIMEOUT (R250). -/
  | provTimeout (chan : Nat)
  /-- OVR_CONFIG_WRITE (R238). -/
  | ovrConfigWrite (src addr : Nat) (v : Word)
  /-- NMT_START_REMOTE_NODE (R265). -/
  | nmtStartRemoteNode (node : Nat)
  /-- NMT_STOP_REMOTE_NODE (R265). -/
  | nmtStopRemoteNode (node : Nat)
  /-- NMT_ENTER_PRE_OPERATIONAL (R265). -/
  | nmtEnterPreOperational (node : Nat)
  /-- NMT_RESET_COMMUNICATION (R265). -/
  | nmtResetCommunication (node : Nat)
  /-- NMT_RESET_NODE (R265). -/
  | nmtResetNode (node : Nat)
  /-- DICT_ENABLE (R264). -/
  | dictEnable (src : Nat)
  /-- CAN_HEARTBEAT_SEND (R266). -/
  | canHeartbeatSend
  /-- EMCY_SEND (R267). -/
  | emcySend
  /-- CAN_TIME_FRAME (R268). -/
  | canTimeFrame (cob : Nat) (data : List Byte)
  /-- CAN_ERROR_PASSIVE (R262). -/
  | canErrorPassive (tec rec : Byte)
  /-- CAN_BUS_OFF (R262). -/
  | canBusOff
  /-- CAN_BUS_OFF_RECOVERY (R262). -/
  | canBusOffRecovery
  /-- CAN_RX_OVERRUN (R260). -/
  | canRxOverrun
  /-- SDO_INITIATE (R269). -/
  | sdoInitiate (data : List Byte)
  /-- SDO_SEGMENT (R269). -/
  | sdoSegment (data : List Byte)
  /-- SDO_TIMEOUT (R269). -/
  | sdoTimeout
  /-- BULK_WR_INIT (R271). -/
  | bulkWrInit (frame : List Byte)
  /-- BULK_RD_INIT (R271). -/
  | bulkRdInit (frame : List Byte)
  /-- BULK_SEG (R271). -/
  | bulkSeg (frame : List Byte)
  /-- BULK_WIN_ACK (R271). -/
  | bulkWinAck (frame : List Byte)
  /-- BULK_END (R271). -/
  | bulkEnd (frame : List Byte)
  /-- BULK_END_ACK (R271). -/
  | bulkEndAck (frame : List Byte)
  /-- BULK_ABORT (R270). -/
  | bulkAbort (frame : List Byte)
  /-- BULK_ACK_TIMER (R271). -/
  | bulkAckTimer
  /-- BULK_TIMEOUT (R271). -/
  | bulkTimeout
  /-- DICT_QUEUE_SERVE (R278). -/
  | dictQueueServe
  /-- DICT_FW_POST (R279). -/
  | dictFwPost (src : Nat) (v : Word)
  /-- DICT_FW_TIMEOUT (R279). -/
  | dictFwTimeout
  /-- RPDO_RX (R281). -/
  | rpdoRx (n : Nat) (data : List Byte)
  /-- TPDO_SAMPLE (R280). -/
  | tpdoSample
  /-- TPDO_EVENT_TIMER (R280). -/
  | tpdoEventTimer (n : Nat)
  /-- TIME_START (R290). -/
  | timeStart (src : Nat)
  /-- DMT_WRAP (R285). -/
  | dmtWrap
  /-- CORE_LOAD (R298). -/
  | coreLoad (h addr size rd ilen : Nat) (signed fetch : Bool)
  /-- CORE_STORE (R298). -/
  | coreStore (h addr size rs ilen : Nat)
  /-- CORE_AMO (R299). -/
  | coreAmo (h addr op rd rs : Nat)
  /-- CORE_LR (R299). -/
  | coreLr (h addr rd : Nat)
  /-- CORE_SC (R299). -/
  | coreSc (h addr rd rs : Nat)
  /-- FENCE_I (R297). -/
  | fenceI (h : Nat)
  /-- CBO_CLEAN (R308). -/
  | cboClean (h addr : Nat)
  /-- CBO_FLUSH (R308). -/
  | cboFlush (h addr : Nat)
  /-- CBO_INVAL (R308). -/
  | cboInval (h addr : Nat)
  /-- CBO_ZERO (R308). -/
  | cboZero (h addr : Nat)
  /-- CACHE_FILL_COMPLETE (R304). -/
  | cacheFillComplete (h : Nat)
  /-- VICTIM_WRITEBACK_COMPLETE (R311). -/
  | victimWritebackComplete
  /-- CACHE_RANGE_CLEAN (R309). -/
  | cacheRangeClean (src : Nat)
  /-- CACHE_RANGE_FLUSH (R309). -/
  | cacheRangeFlush (src : Nat)
  /-- CACHE_RANGE_INVALIDATE (R309). -/
  | cacheRangeInvalidate (src : Nat)
  /-- CACHE_RANGE_ZERO (R309). -/
  | cacheRangeZero (src : Nat)
  /-- SWEEPER_STEP (R309). -/
  | sweeperStep
  /-- CACHE_CONTROL_WRITE (R307). -/
  | cacheControlWrite (src : Nat) (nc : Bool) (v : Word)
  /-- MTIMECMP_HI_WRITE (R303). -/
  | mtimecmpHiWrite (src c : Nat) (v : Word)
  /-- MACHINE_TIMER_INTERRUPT (R301). -/
  | machineTimerInterrupt (h : Nat)
  /-- SCRUB_STEP (R318). -/
  | scrubStep (upsets : List (Nat × Bool × Byte))
  /-- WALKER_STEP (R319). -/
  | walkerStep (mem word : Nat) (upset double : Bool) (synd : Byte)
  /-- GRAIN_REPAIR_DONE (R324). -/
  | grainRepairDone (body : List Byte)
  /-- CE_LOG_POP (R321). -/
  | ceLogPop (src : Nat)
  /-- UE_LOG_POP (R321). -/
  | ueLogPop (src : Nat)
  /-- RETIRE_MAP_WRITE (R322). -/
  | retireMapWrite (src i : Nat) (v : Word)
  /-- HALT_REPAIR (R326). -/
  | haltRepair (src chan page : Nat)
  /-- HALT_SPLIT (R327). -/
  | haltSplit (src chan : Nat)
  /-- XTAL_READY (R330). -/
  | xtalReady
  /-- PLL_ENABLE (R331). -/
  | pllEnable (src : Nat) (v : Word)
  /-- PLL_LOCKED (R331). -/
  | pllLocked
  /-- CLK_SRC_WRITE (R333). -/
  | clkSrcWrite (src : Nat) (v : Word)
  /-- CLOCK_SWITCH_COMPLETE (R333). -/
  | clockSwitchComplete
  /-- XTAL_STOPPED (R335). -/
  | xtalStopped
  /-- FREEZE_ASSERT (R340). -/
  | freezeAssert
  /-- FREEZE_RELEASE (R341). -/
  | freezeRelease
  /-- JTAG_EXTEST (R342). -/
  | jtagExtest
  /-- JTAG_IDCODE (R342). -/
  | jtagIdcode
  /-- JTAG_SAMPLE_PRELOAD (R342). -/
  | jtagSamplePreload
  /-- JTAG_FRZ_STAT (R342). -/
  | jtagFrzStat
  /-- JTAG_FRZ_READ (R343). -/
  | jtagFrzRead (adr : Word)
  /-- JTAG_BYPASS (R342). -/
  | jtagBypass
  /-- TAP_RESET (R376). -/
  | tapReset
  /-- SENSOR_SAMPLE (R348). -/
  | sensorSample (sensor : Nat) (reading : BitVec 16) (tornA tornB : Bool)
  /-- THRESHOLD_SLOT_WRITE (R347). -/
  | thresholdSlotWrite (src slot w : Nat) (v : Word)
  /-- AGE_MINUTE (R353). -/
  | ageMinute
  /-- EVENT_RECORD (R356). -/
  | eventRecord
  /-- COALESCE_WINDOW_CLOSE (R359). -/
  | coalesceWindowClose (code unit : Byte)
  /-- EVR_CLEAR (R361). -/
  | evrClear (src : Nat)
  /-- RAILS_UP (R364). -/
  | railsUp
  /-- BOOT_ROM_RUN (R366). -/
  | bootRomRun (image : List (Nat × Byte))
  /-- CORE_RELEASE (R376). -/
  | coreRelease (src h : Nat)
  /-- CORE_RESET (R376). -/
  | coreReset (src h : Nat)
  /-- RESUME_APPLY (R373). -/
  | resumeApply (src : Nat)
  /-- RESUME_DISCARD (R372). -/
  | resumeDiscard (src : Nat)
  /-- BOOT_FLOOR_WRITE (R368). -/
  | bootFloorWrite (src : Nat) (v : Word)
  /-- RESET_N_ASSERT (R376). -/
  | resetNAssert
  /-- SOFTWARE_RESET (R376). -/
  | softwareReset (src : Nat)
  /-- WDT_KICK (R377). -/
  | wdtKick (src : Nat) (v : Word)
  /-- WATCHDOG_EXPIRY (R377). -/
  | watchdogExpiry
  /-- DEFERRED_RESET_EFFECT (R377). -/
  | deferredResetEffect
  /-- LOGIC_DIE_RESET_RELEASE (R377). -/
  | logicDieResetRelease
  /-- OVORE_FRAME_SENT (R245). -/
  | ovoreFrameSent
  /-- LANE_TRAINED (R241). -/
  | laneTrained (lane : Nat) (gained : Bool)
  /-- DL_BAD_CRC_FRAME (R224). -/
  | dlBadCrcFrame
  /-- CAN_ERROR_ACTIVE (R262). -/
  | canErrorActive
  /-- VAON_OUT_OF_REGULATION (R288). -/
  | vaonOutOfRegulation
deriving DecidableEq, Repr

end Sys2Proof
end

