-- ==== Sys2Proof/Decode.lean ====
section
/-! DEFINITION. The decoder of the opcode table's words. No row of the table gives bits, so no word spells a command:
commands come from the queue of the state with their operands. -/

namespace Sys2Proof

/-- The command that a word of the table spells: none, as no row gives bits. -/
def decodeTableWord (nbits w : Nat) : Option Instr :=
  match nbits, w with
  | _, _ => none

end Sys2Proof
end

