-- ==== Sys2Proof/Config.lean ====
section
/-! DEFINITION. What the spec leaves to the part (fuses, ROM contents, keys) and the free values: opaque constants
with no body, so no proof can see what they are. -/

namespace Sys2Proof.Config

/-- DEVICE_UID, the 64-bit identity fused at manufacture (R87), byte `i` of its eight bytes. Log entry 11. -/
opaque deviceUid : Fin 8 → Byte

/-- The fused grade bit GRADE.AUTO (R9). Log entry 11. -/
opaque gradeAuto : Bool

/-- The device's ECDSA P-256 private key as a number (R128): no register, chain, pin or record carries it. Log entry 11. -/
opaque privateKey : Nat

/-- Byte `i` of the device's public key, X then Y in SEC 1 order (R128, R142 LDG_PUBKEY). Log entry 11. -/
opaque publicKey : Fin 64 → Byte

/-- Byte `i` of the fused Keanath key hash `k` (R379 BOOT_KEYHASH). Log entry 11. -/
opaque bootKeyHash : Fin 2 → Fin 32 → Byte

/-- The fused boot floor of a part as delivered (R368). Log entry 11. -/
opaque bootFloor : Word

/-- The fused revocation bits of a part as delivered (R379). Log entry 11. -/
opaque bootRevoke : BitVec 2

/-- Byte `i` of the 32 KiB boot ROM (R296); the spec does not print it. Log entry 11. -/
opaque bootRom : Nat → Byte

/-- The `n`-th fresh 128-bit NONCE (R79): the spec gives no source for its value. Log entry 3. -/
opaque freshNonce : Nat → BitVec 128

/-- A value the spec leaves open, the `n`-th one of a run. Log entry 3. -/
opaque freeWord : Nat → Word

/-- The number of the bit in error that an ECC log entry gives (R321): the spec does not print the numbering. Log entry 12. -/
opaque syndrome : Nat → BitVec 8

/-- The listed entries (row, column, shift) of code 0 (R156), whose matrix the spec does not print. Log entry 11. -/
opaque codeZero : List (Nat × Nat × Nat)

end Sys2Proof.Config
end

