-- ==== Sys2Proof/Machine/State.lean ====
section
/-! DEFINITION. The state of the LZQ-6410 as a block: every register, queue, account, engine and pin the spec names,
as plain data, and the queue of the commands that wait. Default values are the values at reset; INVENTORY.md lists
each with its rule. A table indexed by a number is sparse (`Sparse`): what it does not list is at its default. -/

namespace Sys2Proof.Machine

/-- A table by number, keys rising and no entry equal to the table's default: equal tables are equal data. -/
abbrev Sparse (α : Type) := List (Nat × α)

/-- The pair every stamp is taken as (R286). -/
structure Stamp where
  dmt : Dmt := 0
  epoch : Epoch := 0
deriving DecidableEq, Repr

/-! ## The event recorder (spec/17) -/

/-- One event entry (R357); `aux` of a coalescing code is its count. -/
structure Event where
  stamp : Stamp := {}
  code : Byte
  unit : Byte := 0
  aux : BitVec 16 := 0
  detail : Word := 0
deriving DecidableEq, Repr

/-- An open coalescing window (R359): its pair, the events counted since it opened and the last of them. -/
structure Window where
  code : Byte
  unit : Byte
  count : Nat := 0
  last : Event
deriving DecidableEq, Repr

/-- The intake, the two areas and the windows (R355, R356, R359). -/
structure Recorder where
  intake : List Event := []
  dropped : Nat := 0
  first : List Event := []
  last : List Event := []
  total : Word := 0
  droppedTotal : BitVec 16 := 0
  windows : List Window := []
deriving DecidableEq, Repr

/-! ## Evidence time (spec/13) -/

/-- A formed anchor (R293). Its header bytes 0–19 and body bytes 0–119 are `head` and `body`. -/
structure Anchor where
  number : Nat
  cause : Nat
  epoch : Epoch
  head : List Byte
  body : List Byte
deriving DecidableEq, Repr

/-- A wrap of DMT latched while no record could be formed (R395). -/
structure WrapLatch where
  dmt : Dmt
  oldEpoch : Epoch
  newEpoch : Epoch
  /-- its TIME_ROLL has been recorded -/
  told : Bool
deriving DecidableEq, Repr

/-- DMT, epochs, the wall estimate and the anchors (R284 to R295, R395). -/
structure Time where
  dmt : Dmt := 0
  /-- millionths of a microsecond the RC count carries (R284) -/
  frac : Nat := 0
  epoch : Epoch := 0
  valid : Bool := false
  retained : Bool := false
  started : Bool := false
  ofs : Int := 0
  /-- millionths of a microsecond of OFS and of P not yet applied (R291) -/
  ofsAcc : Nat := 0
  slewAcc : Nat := 0
  slew : Nat := 0
  master : Bool := false
  lastAnchorDmt : Dmt := 0
  lastCause : Nat := 0
  anchorNo : Nat := 0
  anchorEpoch : Epoch := 0
  waiting : List Anchor := []
  /-- latest anchor written or read of each of the last 16 epochs, newest epoch first (R294) -/
  store : List Anchor := []
  wrap : Option WrapLatch := none
  hiLatch : BitVec 16 := 0
  hiHeld : Bool := false
  /-- an APPEND has begun a checkpoint whose last part is still to come: no anchor goes between (R137, R138) -/
  midCheckpoint : Bool := false
  /-- the anchor credit: page, actuator and cost (R294) -/
  credit : Option (Nat × Nat × Nat) := none
deriving DecidableEq, Repr

/-! ## Buffer (spec/05) -/

/-- The two page pools (R98). -/
inductive Pool | write | read
deriving DecidableEq, Repr

/-- The grain that a page still holds after WRITTEN (R39): where it belongs, and its 32-byte header. -/
structure Held where
  chan : Nat
  intake : Bool := false
  opening : BitVec 16 := 0
  seq : Word
  hdr : List Byte
deriving DecidableEq, Repr

/-- An allocated pool page: who holds it, what still reads it, whether its return point is reached (R25, R98, R99). -/
structure Page where
  num : Nat
  pool : Pool
  /-- the tenant whose share it counts against; none for firmware use -/
  tid : Option Nat := none
  held : Bool := false
  freed : Bool := false
  mirror : Bool := false
  readers : Nat := 0
  /-- the grain that it holds between WRITTEN and its return (R39) -/
  holds : Option Held := none
  /-- the staging token that names it until it is returned (R100, R101) -/
  token : Option (BitVec 16) := none
deriving DecidableEq, Repr

/-- A staging (R100, R101). -/
structure Staging where
  token : BitVec 16
  page : Nat
  chan : Nat
  seq : Word
  tid : Option Nat
  bushel : Nat
  tag : Nat
  hdr : List Byte
  checked : Bool := false
  revoked : Bool := false
deriving DecidableEq, Repr

/-- A request at a bank: requester, beats, the BUF cycles it has waited, and of one made since the last decision how long
after it (R103, R106, R108). -/
structure Request where
  who : Nat
  beats : Nat
  waited : Nat := 0
  late : Nat := 0
deriving DecidableEq, Repr

/-- One bank's arbiter (R103 to R107): the grant in progress, the requests pending, the last grantee at each PRIO. -/
structure Bank where
  grant : Option Request := none
  reqs : List Request := []
  ptr : Sparse Nat := []
deriving DecidableEq, Repr

/-- The shedding state of a channel or an intake (R113 to R116). -/
structure Shed where
  basis : Nat := 0
  quota : Nat := 0
  factor : Nat := 32768
deriving DecidableEq, Repr

/-! ## Records and channels (spec/06) -/

/-- Record kinds (R121). -/
inductive Kind | grain | seal | divergence | directory | header
deriving DecidableEq, Repr

/-- Where a record's energy stands in the committed account (R131, R218). `credit`: the seal credit's own energy;
`reserve`: the start-up reserve of a recovery seal, in no account. -/
inductive Account | debit | record | credit | intake | reserve
deriving DecidableEq, Repr

/-- A formed record on its way to the media (R119 to R131, R159). -/
structure Rec where
  kind : Kind
  chan : Nat := 0
  /-- a copy of a partner's record (R249, R251) -/
  intake : Bool := false
  /-- a record of the system record port or an anchor (R138, R294) -/
  system : Bool := false
  anchor : Bool := false
  seq : Word
  opening : BitVec 16 := 0
  /-- header bytes 0–27 (R120); bytes 28–31 are formed under the bushel's GEN -/
  hdr : List Byte
  page : Nat
  /-- the page and slot are the seal credit's or the anchor credit's, not its own -/
  onCredit : Bool := false
  act : Nat
  bushel : Nat
  gen : Word
  cost : Nat := 0
  account : Account
  tid : Option Nat := none
  ordinal : Nat := 0
  reason : Nat := 0
  /-- DMT at which it was queued (R159) -/
  since : Dmt := 0
  torn : Bool := false
  place : Nat := 0
  digest : List Byte := []
  /-- the body of a record other than a grain, laid in its page when its turn with the credit comes -/
  body : List Byte := []
  /-- of a chain member: the chain head before it -/
  chainIn : List Byte := []
  /-- its number in the order in which records were formed: the model's own -/
  form : Nat := 0
deriving DecidableEq, Repr

/-- A formed seal of the opening: its identity (R129) and whether it is WRITTEN. -/
structure SealId where
  ordinal : Nat
  covers : Word
  written : Bool := false
  /-- the chain head it covers -/
  chain : List Byte := []
deriving DecidableEq, Repr

/-- A seal credit (R25, R218): one page, one slot, the energy of one record. -/
structure Credit where
  page : Nat
  act : Nat
  cost : Nat
  tid : Option Nat
deriving DecidableEq, Repr

/-- A channel (R14, R67, R124 to R134). -/
structure Chan where
  isOpen : Bool := false
  halted : Bool := false
  everOpened : Bool := false
  durable : Word := 0
  written : Word := 0
  mirrored : Word := 0
  sealed : Word := 0
  frameMax : Nat := 0
  cls : Nat := 0
  mirror : Bool := false
  sealEvery : Nat := 0
  firstSeq : Word := 0
  opening : BitVec 16 := 0
  nextOpening : BitVec 16 := 0
  bushel : Nat := 0xFFFFFFFF
  gen : Word := 0
  act : Nat := 0
  prevBushel : Nat := 0xFFFFFFFF
  promised : Nat := 0
  chain : List Byte := []
  sealChain : List Byte := []
  ordinal : Nat := 0
  covers : Word := 0
  seals : List SealId := []
  lastCommit : Stamp := {}
  credit : Option Credit := none
  /-- the frame in flight or the commands that will close it are in `sp` and `cmds`; closing: a CLOSE_CHANNEL formed its seal -/
  closing : Bool := false
  /-- the first lost grain of a halted channel (R325) and what the halt holds -/
  lost : Option Word := none
  /-- the scan halted it and no grain is lost: `lost` is then the sequence after its head (R141, R374) -/
  cut : Bool := false
  haltCost : Nat := 0
  spare : Option Nat := none
  /-- reopened from the resume table and not yet verified (R373), with the head and chain head that it gave -/
  resumed : Bool := false
  savedHead : Word := 0
  savedChain : List Byte := []
  /-- the first grain of the opening whose record was abandoned (R230 step 6, R327): it never reaches WRITTEN -/
  gap : Option Word := none
  /-- of an opening that the scan found: the seals up to this sequence lie in bushels that were not read (R129, R139) -/
  sealsFrom : Option Word := none
deriving DecidableEq, Repr

/-- States of a bushel (R133, R136). -/
inductive BushelState | free | opened | closed | released | system | bad
deriving DecidableEq, Repr

/-- What the device knows of a bushel (R133, R136): `chan` is the last channel held, `lastSeq` the last grain placed. -/
structure Bushel where
  state : BushelState := .free
  gen : Word := 0
  chan : Nat := 0
  intake : Bool := false
  opening : BitVec 16 := 0
  lastSeq : Word := 0
  /-- the next place to write -/
  next : Nat := 0
deriving DecidableEq, Repr

/-- A record due but not yet formed: it waits for the seal credit or for energy (R131). -/
inductive Due where
  | seal (chan reason : Nat) (tag : Option Nat)
  /-- `behind`: the first grain of a write in flight, which it follows (R253) -/
  | divergence (chan event cause : Nat) (stamp : Stamp) (behind : Option Word)
deriving DecidableEq, Repr

/-- A step that a system record command has still to take (R138). -/
inductive SysPart
  /-- firmware's body, at the offset and under the SEQ of the registers -/
  | append
  /-- the header of the bushel that BEGIN opens -/
  | header
  /-- the copy of an anchor of the store (R294) -/
  | anchorCopy (a : Anchor)
deriving DecidableEq, Repr

/-- The system record command in flight (R138): the parts still to form, and the bushel a BEGIN opens. -/
structure SysCmd where
  parts : List SysPart
  begin : Option Nat := none
  bushel : Nat
  gen : Word
  place : Nat
  src : Nat := 0
  seq : Word := 0
  formed : Bool := false
deriving DecidableEq, Repr

/-- The recovery scan in progress (R139): what the current checkpoint lists, and the channels it resumes (R374). -/
structure Scan where
  /-- the bushels listed OPEN: bushel, generation, channel, opening, intake -/
  listed : List (Nat × Word × Nat × BitVec 16 × Bool)
deriving DecidableEq, Repr

/-! ## The Stream Port and the queues (spec/02, spec/03) -/

/-- How far the frame on the port has come (R37, R43 to R46). `writing`: the host's words are in, before the commit
edge (R48 to R51 act on it); `reading`: an admitted read in its busy phase. -/
inductive FramePhase | writing | reading
deriving DecidableEq, Repr

/-- The frame between H0 and TA, and the credits it holds (R25, R36, R38). -/
structure Frame where
  phase : FramePhase
  word0 : Word
  word1 : Word
  ty : Nat
  tid : Nat
  chan : Nat
  len : Nat
  tag : Nat
  pages : List Nat := []
  earmark : Nat := 0
  roll : Bool := false
  act : Nat := 0
  held : Bool := false
  /-- CRC-32C of the header and data words, and the trailer received (R42) -/
  crc : Word := 0
  trailer : Word := 0
  data : List Word := []
  /-- of a READ_STREAM: the 32-byte headers of its grains as admitted, beside `pages` (R44) -/
  hdrs : List (List Byte) := []
  /-- it holds its tag; a management frame of a tenant whose share has none left goes on without (log entry 67) -/
  tagged : Bool := true
  /-- the host's words are all in; 0 while a frame waits in its host-driven phase (R48) -/
  driven : Bool := true
  /-- grains whose MIRROR frame was queued (R247) -/
  mirrored : Nat := 0
  statusLost : Bool := false
deriving DecidableEq, Repr

/-- The port (R36, R37, R50). -/
structure Port where
  seated : Bool := true
  frame : Option Frame := none
  rdy0 : Bool := false
  rdy1 : Bool := false
  /-- SP_BSY_N in H1, which tells Refused from HOLD (R37) -/
  bsy1 : Bool := true
  bsyN : Bool := true
  /-- the words the device last drove -/
  out : List Word := []
deriving DecidableEq, Repr

/-- A stored or posted completion entry (R60): without SQ_HEAD, REPLAY and PHASE, which a post sets. -/
structure Completion where
  cmdId : Word
  res0 : Word
  res1 : Word
  code : Nat
  irq : Bool := false
  fwd : Bool := false
deriving DecidableEq, Repr

/-- What a queue keeps beside its registers: the PHASE of a CQ and the replay window of an SQ (R60, R64). -/
structure Queue where
  phase : Bool := true
  replay : List Completion := []
deriving DecidableEq, Repr

/-- A command in flight (R62 to R73). -/
structure Cmd where
  tag : Nat
  sq : Nat
  /-- none: firmware -/
  owner : Option Nat
  desc : List Byte
  op : Nat
  cmdId : Word
  irq : Bool := false
  fence : Bool := false
  sqHead : Nat
  /-- the completion queue whose slot it took at fetch -/
  cq : Nat := 0
  /-- step 7 of R63 has passed and the effect has begun -/
  running : Bool := false
  /-- the head, seal sequence or count it waits for -/
  target : Word := 0
  /-- the channels a FLUSH of ALL waits for, with their heads at fetch -/
  waits : List (Nat × Word) := []
  pages : List Nat := []
  earmark : Nat := 0
  roll : Bool := false
  act : Nat := 0
  held : Bool := false
  crc : Word := 0
  done : Nat := 0
  /-- what is to be posted once the last access is over: code and result 1 -/
  ends : Option (Nat × Word) := none
deriving DecidableEq, Repr

/-! ## Tenants (spec/04) -/

/-- The shares SET_RESERVATION gives (R65, R92). -/
structure Share where
  pages : Nat := 0
  tagsW : Nat := 0
  tagsR : Nat := 0
  tagsC : Nat := 0
  slotsA : Nat := 0
  slotsB : Nat := 0
  rate : Nat := 0
  energy : Nat := 0
deriving DecidableEq, Repr

/-- A tenant: its session, key, interrupt causes, aperture and shares (R79 to R92). -/
structure Tenant where
  /-- 0 closed, 1 challenge issued, 2 open, 3 locked (R87) -/
  sess : Nat := 0
  nonce : Option (BitVec 128) := none
  response : Sparse Word := []
  fails : Nat := 0
  /-- failures in a row that count toward the next lock -/
  run : Nat := 0
  /-- locks since the last success: the next lock lasts 2 to that power seconds (R80) -/
  locks : Nat := 0
  /-- the length of the lock in ms and the DMT at which it began -/
  lockMs : Nat := 0
  lockAt : Dmt := 0
  key : List Byte := List.replicate 32 0
  keyStage : Sparse Word := []
  keySet : Bool := false
  cause : BitVec 7 := 0
  mask : BitVec 7 := 0
  cqPend : List Nat := []
  aperWin : Nat := 0
  aperPage : Nat := 0
  aperOut : Bool := false
  share : Share := {}
deriving DecidableEq, Repr

/-! ## Read/write channels, chain band, loops, spindle (spec/07, spec/08, spec/09) -/

/-- For whom a sector is read (R65, R100, R166). -/
inductive ReadFor where
  | command (tag : Nat)
  | port
deriving DecidableEq, Repr

/-- A sector read in the read queue of a channel (R159, R164 to R166). -/
structure Read where
  what : ReadFor
  seq : Word := 0
  bushel : Nat := 0
  /-- the next place of the bushel to read; of the sector-read port, the buffer offset of DEST -/
  place : Nat := 0
  /-- of the sector-read port: head 0 to 7, track and sector (R166) -/
  head : Nat := 0
  track : Nat := 0
  sector : Nat := 0
  /-- ladder step at which the next read of the sector is done -/
  ladder : Nat := 0
  /-- the read of step 5 at +JOG has failed, the one at −JOG is to come (R165, R183) -/
  half : Bool := false
  /-- the channel still holds the samples of the steps before (R165 steps 2 and 6) -/
  samples : Bool := false
deriving DecidableEq, Repr

/-- A read/write channel (R147, R159 to R166). -/
structure Rwc where
  wq : List Rec := []
  gate : Option Rec := none
  batchBushel : Option Nat := none
  batchLeft : Nat := 0
  reads : List Read := []
  reading : Option Read := none
  /-- the read whose read gate is open (R147, R164) -/
  rgate : Option Read := none
  /-- bits of the codeword last read whose resume mark was not found, which the decoder takes as erasures: first, count (R164) -/
  erased : List (Nat × Nat) := []
  /-- the bits that the open write gate lays down, by the data-angle bit at which each run begins (R152) -/
  sector : List (Nat × List Bool) := []
  /-- after a loss of lock the torn records come first (R163) -/
  tornFirst : Bool := false
  /-- ratio M at which the channel's multiplier stands, or settles (R147) -/
  ratio : Nat := 96
  settled : Bool := false
  faultLow : Bool := false
deriving DecidableEq, Repr

/-- The chain band (R143 to R146): the last 256 forward mark periods in picoseconds, newest first. -/
structure Chain where
  periods : List Nat := []
  /-- consecutive forward marks within 2 % of the expected period -/
  good : Nat := 0
  /-- marks since the last index mark -/
  since : Nat := 0
  revs : Nat := 0
deriving DecidableEq, Repr

/-- A loaded code (R156): its number, Z, K_b, M_b and its entries (row, column, shift). -/
structure Code where
  num : Nat
  z : Nat
  kb : Nat
  mb : Nat
  entries : List (Nat × Nat × Nat)
deriving DecidableEq, Repr

/-- The tables in force (R151): the staged registers as they stood at the last successful apply. -/
structure Tables where
  nw : Nat := 400
  wlen : Nat := 12
  pre16 : Nat := 4
  dram16 : Nat := 2
  tracks : Nat := 0
  /-- zone number: first track, M, code, S, SKEW of each enabled zone -/
  zones : List (Nat × Nat × Nat × Nat × Nat) := []
  ofs : Sparse Nat := []
  syncTol : Nat := 8
  syncTolW : Nat := 32
  resTol : Nat := 4
  syncErr : Nat := 2
  /-- the loaded codes -/
  codes : List Code := []
deriving DecidableEq, Repr

/-- Input and output history of one notch (R175). -/
structure Notch where
  x1 : Int := 0
  x2 : Int := 0
  y1 : Int := 0
  y2 : Int := 0
deriving DecidableEq, Repr

/-- One segment of a profile (R180): its jerk and the time left, Q16.16 tracks/ms³ and Q0.32 ms. -/
structure Segment where
  jerk : Int
  left : Nat
deriving DecidableEq, Repr

/-- An actuator loop (R171 to R191). Positions Q20.12, velocities, accelerations and the bias Q16.16; the integrator and
the notch histories in output units with 16 fraction bits. -/
structure Loop where
  p : Int := 0
  v : Int := 0
  b : Int := 0
  uPrev : Int := 0
  i : Int := 0
  notches : List Notch := [{}, {}, {}, {}]
  rPos : Int := 0
  rVel : Int := 0
  rAcc : Int := 0
  profile : List Segment := []
  target : Int := 0
  head : Nat := 0
  /-- target given in LOST or ACQUIRE (R179), or to be planned at the next sample (R181): track, head of the actuator -/
  held : Option (Nat × Nat) := none
  replan : Option (Nat × Nat) := none
  /-- the first valid wedge on a new head replaces p (R179) -/
  headNew : Bool := false
  settle : Nat := 0
  seekCount : Nat := 0
  seekFailed : Bool := false
  acq : Nat := 0
  /-- |PES| of the last samples, newest first, and whether the wedge was missed -/
  pesHist : List (Nat × Bool) := []
  /-- the offset of the retry ladder's step 5, and the one that the channel asks for (R183) -/
  jog : Int := 0
  want : Int := 0
  /-- in holdover, how far the SAMs found have shifted the expected wedge from the held angle, in 1/256 mark (R171) -/
  shift : Int := 0
  /-- running mean of the burst amplitude sum (R186) -/
  burst : Nat := 0
  loadReq : Bool := false
  /-- a retract is asked of the power die in the next ACTUATOR frame (R190) -/
  retReq : Bool := false
  /-- samples since SHOCK_N rose, while the hold and the quiet period of R188 run -/
  shockHold : Option Nat := none
  shockQuiet : Option Nat := none
deriving DecidableEq, Repr

/-- The spindle speed loop and the swap in progress (R176, R185). -/
structure SpinLoop where
  i : Int := 0
  u : Int := 0
deriving DecidableEq, Repr

/-- Shock sensor (R188). -/
structure Shock where
  low : Bool := false
  sample : Int := 0
  peak : Nat := 0
deriving DecidableEq, Repr

/-- What a BRAKE leads to (R200, R203, R204). -/
inductive BrakeFor | off | detect | kick | gap | stopped
deriving DecidableEq, Repr

/-- The commutation sequencer beside its registers (R196 to R211). -/
structure Spindle where
  dir : Bool := false
  /-- the DETECT in progress serves a HEAT command; the START that follows -/
  forHeat : Bool := false
  autoStart : Bool := false
  brake : BrakeFor := .off
  /-- entered from a START or HEAT command or after a failed attempt (R210) -/
  starting : Bool := false
  waitPark : Bool := false
  /-- the rotor lies at the heater vector: the start that waits goes straight to RAMP (R209) -/
  heated : Bool := false
  vector : Nat := 0
  /-- the first vector of the attempt (R203) -/
  guess : Nat := 0
  stepUs : Nat := 0
  good : Nat := 0
  kicks : Nat := 0
  early : Nat := 0
  rampI : Nat := 0
  crossings : List Nat := []
  predicted : Nat := 0
  atCount : Nat := 0
  offCount : Nat := 0
  gapWait : Bool := false
  /-- FAIL was entered with SPINDLE_START_FAIL (R204) -/
  failed : Bool := false
  /-- STOP has come to its short brake (R196) -/
  stopBrake : Bool := false
  /-- the one attempt on the reserve has been made (R233) -/
  spent : Bool := false
  /-- nanoseconds from the last zero crossing to the commutation that follows it (R205); below 0 when ADV puts it before -/
  delay : Int := 0
deriving DecidableEq, Repr

/-! ## Power die and die link (spec/10) -/

/-- How the power die detected the loss that stands (R228, R229). -/
inductive PowerLoss | vin | vhold
deriving DecidableEq, Repr

/-- The power die and the energy account's own state (R213 to R236). -/
structure Power where
  vin : Nat := 5000
  vhold : Nat := 16000
  vholds : List Nat := []
  vinValid : Bool := true
  armed : Bool := true
  charger : Bool := true
  rails : Bool := true
  vaon : Bool := true
  loss : Option PowerLoss := none
  /-- the logic die has acted on that detection: later PWRFAIL frames repeat it (R228) -/
  told : Bool := false
  /-- admission closed as at power loss: by step 1 of R230, by R226 -/
  admClosed : Bool := false
  spinup : Option Nat := none
  autoRetract : Bool := false
  retract : Sparse Bool := []
  loaded : Sparse Bool := []
  loadReq : Sparse Bool := []
  coil : Sparse Int := []
  spinCmd : Int := 0
  bridge : Nat := 0
  heater : Bool := false
  drain : Bool := false
  harvest : Bool := false
  driveNL : Bool := false
  /-- the class of the spindle at the detection (R210) -/
  wasTurning : Bool := false
  wasStarting : Bool := false
  /-- DMT at the detection (R267) -/
  lostAt : Dmt := 0
  /-- a DRAIN_ABANDONED has been recorded in the sequence (R372) -/
  lost : Bool := false
deriving DecidableEq, Repr

/-- The die link as the logic die sees it (R224): the sequence counts of the two directions. -/
structure DieLink where
  tx : Byte := 0
  rx : Byte := 0
  /-- a valid frame has come since reset -/
  rxSeen : Bool := false
  /-- the frame that the logic die last sent: its 80 bits (R224) -/
  out : BitVec 80 := 0
  /-- the harvest and charger states of the last STATE frame received (R224) -/
  harvest : Bool := false
  charger : Bool := false
deriving DecidableEq, Repr

/-! ## Ovore (spec/11) -/

/-- A frame queued for the link (R242, R243): its bytes after the 16-byte header are formed when it leaves. -/
structure OvrFrame where
  /-- 1 MIRROR, 2 SEAL_NOTE, 3 CANCEL -/
  ty : Nat
  chan : Nat
  seq : Word
  count : Nat := 1
  committed : Bool := false
  opening : BitVec 16 := 0
  page : Option Nat := none
  body : List Byte := []
deriving DecidableEq, Repr

/-- What the owner keeps of a mirrored channel (R246, R247, R257). -/
structure OvrOwn where
  granted : Word := 0
  sent : Word := 0
  lagging : Bool := false
  resync : Bool := false
  /-- the last grain sent by the catch-up, and how many of `extras` it has sent -/
  pos : Word := 0
  posX : Nat := 0
  /-- seals and divergence records not yet known to be held: the head they follow, the frame type, their bytes -/
  extras : List (Word × Nat × List Byte) := []
  gapHalted : Bool := false
  /-- after a power-up: members that only the media hold may follow the last grain sent (R257) -/
  search : Bool := false
deriving DecidableEq, Repr

/-- An intake of the partner's channel (R249 to R256). -/
structure Intake where
  isOpen : Bool := false
  opening : BitVec 16 := 0
  firstSeq : Word := 0
  frameMax : Nat := 0
  cls : Nat := 0
  sealEvery : Nat := 0
  confirmed : Word := 0
  written : Word := 0
  sealed : Word := 0
  received : Word := 0
  bushel : Nat := 0xFFFFFFFF
  gen : Word := 0
  act : Nat := 0
  prevBushel : Nat := 0xFFFFFFFF
  promised : Nat := 0
  chain : List Byte := []
  sealChain : List Byte := []
  ordinal : Nat := 0
  credit : Option Credit := none
  /-- cost and page of each credit granted and not yet returned or turned into a record -/
  granted : Word := 0
  outstanding : List (Nat × Nat) := []
  halted : Bool := false
  truncated : Bool := false
  closing : Bool := false
  /-- header bytes 0–19 of the divergence records confirmed since the last grain -/
  held : List (List Byte) := []
  /-- the first grain of the opening whose record was abandoned (R230 step 6) -/
  gap : Option Word := none
deriving DecidableEq, Repr

/-- A member received and not yet confirmed (R249): a provisional grain, or a committed member that waits for its turn.
`kind` is its header's KIND; `hdr` its header bytes 0–27. -/
structure Prov where
  chan : Nat
  kind : Nat
  seq : Word
  page : Nat
  hdr : List Byte
  cost : Nat
  came : Dmt
  committed : Bool
deriving DecidableEq, Repr

/-- The link (R241 to R258). -/
structure Ovore where
  txq : List OvrFrame := []
  sending : Option OvrFrame := none
  beating : Bool := false
  /-- a HEARTBEAT is due at the next frame boundary -/
  beatDue : Bool := false
  notes : List (List Byte) := []
  fseqTx : Byte := 0
  fseqRx : Byte := 0
  rxSeen : Bool := false
  good : Nat := 0
  errs : Nat := 0
  own : Sparse OvrOwn := []
  intakes : Sparse Intake := []
  prov : List Prov := []
  /-- the bytes of the frame last put on the lanes -/
  out : List Byte := []
  /-- its ten-bit characters on each lane, and the running disparity of each lane after it (R240, R241) -/
  lane0 : List (BitVec 10) := []
  lane1 : List (BitVec 10) := []
  rd0 : Bool := false
  rd1 : Bool := false
deriving DecidableEq, Repr

/-! ## The object dictionary (spec/12) -/

/-- Where a dictionary request came from (R273, R278). -/
inductive Source where
  | rpdo | sdo | bulk
  | mailbox (tid : Nat)
deriving DecidableEq, Repr

/-- A request in the dictionary queue (R278): `index`, `sub`; `data` of a write; `limit` bytes wanted and `offset` of a read. -/
structure DictReq where
  src : Source
  index : Nat
  sub : Nat
  write : Bool
  data : List Byte := []
  offset : Nat := 0
  limit : Nat := 16384
  /-- TAG of a bulk or mailbox request; of an SDO request the command byte of its response -/
  tag : Byte := 0
  /-- the transfer it belongs to has been aborted: it is served and not answered -/
  mute : Bool := false
  /-- the last request of a CAN frame: until it is served, the frame waits in the receive FIFO (R260; log entry 58) -/
  frame : Bool := true
deriving DecidableEq, Repr

/-- The segmented SDO transfer in progress (R269). -/
structure Sdo where
  index : Nat
  sub : Nat
  write : Bool
  toggle : Bool := false
  /-- write: the bytes received; read: the bytes taken from the object and still to send -/
  data : List Byte := []
  /-- read: bytes of the object still to be taken, and where the next stands; of a DOMAIN they are taken as they are sent (R276) -/
  left : Nat := 0
  pos : Nat := 0
deriving DecidableEq, Repr

/-- The bulk transfer in progress (R270, R271). -/
structure Bulk where
  tag : Byte
  index : Nat
  sub : Nat
  write : Bool
  size : Nat := 0
  blksize : Nat := 16
  /-- write: the bytes received; read: the bytes taken from the object so far, of a DOMAIN as they are sent (R276) -/
  data : List Byte := []
  /-- OFFSET of a read -/
  offset : Nat := 0
  /-- segments acknowledged, and the highest SEQ in order of the current window -/
  base : Nat := 0
  seq : Nat := 0
  lastSeen : Bool := false
  waiting : Bool := false
  ended : Bool := false
deriving DecidableEq, Repr

/-- A mailbox's pending request (R272). -/
structure Mailbox where
  pending : Bool := false
  tag : Byte := 0
  overrun : Bool := false
deriving DecidableEq, Repr

/-- The last transmission of a TPDO (R280). -/
structure Tpdo where
  sent : Bool := false
  last : List Byte := []
  sentAt : Dmt := 0
deriving DecidableEq, Repr

/-- An EMCY frame due (R267). -/
structure Emcy where
  code : Nat
  b3 : Byte
  detail : Word
deriving DecidableEq, Repr

/-- A CAN frame the device has sent: its 11-bit COB-ID, its data, and whether it is an FD frame with BRS set or a classic
frame (R260). -/
structure CanFrame where
  cob : Nat
  data : List Byte
  fd : Bool := false
deriving DecidableEq, Repr

/-- The dictionary engine and the CAN node (R260 to R283). -/
structure Dict where
  /-- values of the communication objects and firmware-served entries the device uses, at keys 256·index + sub -/
  objs : Sparse Nat := []
  sdo : Option Sdo := none
  bulk : Option Bulk := none
  mbx : Sparse Mailbox := []
  queue : List DictReq := []
  fw : Option DictReq := none
  emcyDue : List Emcy := []
  emcyLast : Option Dmt := none
  active : List Nat := []
  tpdo : Sparse Tpdo := []
  incidents : Word := 0
  nominal : Nat := 500
  dataRate : Nat := 2000
  /-- power loss: writes and F entries are refused (R282) -/
  refusing : Bool := false
  out : List CanFrame := []
deriving DecidableEq, Repr

/-! ## Cores and cache (spec/14) -/

/-- What a core waits for while its cache fill is under way (R304). -/
structure Waiting where
  addr : Nat
  size : Nat
  /-- 0 load, 1 store, 2 AMO (`arg` its operation), 3 LR, 4 SC, 5 cbo.zero, 6 fetch -/
  op : Nat
  rd : Nat := 0
  arg : Nat := 0
  value : Word := 0
  signed : Bool := false
  ilen : Nat := 4
deriving DecidableEq, Repr

/-- A hart (R296 to R300): x1 to x31 sparse with default 0, CSRs by number. -/
structure Hart where
  x : Sparse Word := []
  pc : Word := 0
  machine : Bool := true
  csr : Sparse Word := []
  reservation : Option Nat := none
  waiting : Option Waiting := none
  /-- instructions prefetched and not yet discarded (R297) -/
  prefetched : Bool := false
  /-- mcycle and minstret (R297) -/
  cycles : BitVec 64 := 0
  retired : BitVec 64 := 0
deriving DecidableEq, Repr

/-- A cache line (R304): base address, way, dirty, 64 bytes; the list of lines is in order of use, newest first. -/
structure Line where
  base : Nat
  way : Nat
  dirty : Bool := false
  bytes : List Byte
deriving DecidableEq, Repr

/-- An entry of the victim buffer (R311). -/
structure Victim where
  base : Nat
  dirty : Bool
  granted : Bool := false
  bytes : List Byte
  /-- its words with an uncorrectable error: offset in the line, syndrome -/
  bad : List (Nat × Byte) := []
deriving DecidableEq, Repr

/-- A range operation in progress (R309). -/
structure Sweep where
  op : Nat
  pos : Nat
  last : Nat
deriving DecidableEq, Repr

/-- The program cache (R304 to R311). -/
structure Cache where
  lines : List Line := []
  victims : List Victim := []
  sweep : Option Sweep := none
deriving DecidableEq, Repr

/-! ## Stored data protection (spec/15) -/

/-- A word in error (R316): memory as R321 numbers them, word address, two bits or one. -/
structure BadWord where
  mem : Nat
  word : Nat
  double : Bool
  synd : Byte := 0
deriving DecidableEq, Repr

/-- An entry of the CE or UE log (R321). -/
structure EccEntry where
  word : Nat
  mem : Nat
  reader : Nat
  synd : Byte
  repeats : Nat := 0
deriving DecidableEq, Repr

/-- A repair under way (R324): the grain's channel, sequence and page. -/
structure Repair where
  chan : Nat
  intake : Bool
  seq : Word
  page : Nat
deriving DecidableEq, Repr

/-- Words in error, the two logs and the repairs (R315 to R327). -/
structure Ecc where
  bad : List BadWord := []
  ce : List EccEntry := []
  ue : List EccEntry := []
  repairs : List Repair := []
  scrubAt : Nat := 0
  /-- DMT at the first request of the pass in progress (R318) -/
  passAt : Option Dmt := none
deriving DecidableEq, Repr

/-! ## Clocks, dies, JTAG, monitors, start-up, pins (spec/16 to spec/19) -/

/-- Clock state beside the registers (R330 to R341). -/
structure Clock where
  stopped : Bool := false
  frozen : Bool := false
  xtalStopped : Bool := false
  freezeLow : Bool := false
  /-- a stop has happened whose CLOCK_STOPPED is not yet recorded (R338) -/
  unreported : Bool := false
  stopLast : Nat := 0
  stopDmt : Dmt := 0
  switching : List Nat := []
deriving DecidableEq, Repr

/-- Whether the logic die runs (R364, R376, R377). `reset`: held in a RESET_N, software or watchdog reset;
`powerOn`: in power-on reset with the rails up; `off`: the rails are down. -/
inductive Die | running | reset | powerOn | off
deriving DecidableEq, Repr

/-- The TAP (R342, R343): the instruction, and what the next Capture-DR loads. -/
structure Tap where
  ir : Nat := 1
  dr : Nat := 0x164105CB
deriving DecidableEq, Repr

/-- A threshold slot's runs (R348). -/
structure Slot where
  up : Nat := 0
  down : Nat := 0
  seen : Nat := 0
  asserted : Bool := false
deriving DecidableEq, Repr

/-- Monitors (R346 to R353). -/
structure Monitor where
  slots : Sparse Slot := []
  /-- every enabled slot has received its samples (R349) -/
  ready : Bool := false
  minuteMax : Option Int := none
deriving DecidableEq, Repr

/-- A channel as the resume table saves it (R372). -/
structure SavedChan where
  num : Nat
  chan : Chan
  place : Nat
  sealPlace : Nat
deriving DecidableEq, Repr

/-- The resume table (R372): the TENANT block's register fields, keys and shares, the channels and the two numbers. -/
structure Resume where
  chans : List SavedChan := []
  fields : Sparse Word := []
  keys : List (Nat × List Byte) := []
  shares : List (Nat × Share) := []
  checkpoint : Nat := 0
  anchor : Nat := 0
deriving DecidableEq, Repr

/-- Start-up and reset (R364 to R379). -/
structure Boot where
  ran : Bool := false
  waiting : Bool := false
  floor : Word := Config.bootFloor
  raises : Nat := 0
  revoke : BitVec 2 := Config.bootRevoke
  resume : Option Resume := none
  scanDone : Bool := false
  scan : Option Scan := none
  pending : Option Nat := none
  lastSrc : Nat := 0
  /-- DMT of the last kick of the watchdog (R377) -/
  wdt : Nat := 0
  portEverOpen : Bool := false
  checkpoint : Nat := 0
  /-- places of the last seal of each channel, for the resume table -/
  sealPlaces : Sparse Nat := []
deriving DecidableEq, Repr

/-- Pins with no row of their own (R33, R263, R384, R393). -/
structure Pins where
  strap : Nat := 0
  testEn : Bool := false
  gpioIn : Byte := 0
  resetLow : Bool := false
  phy : Bool := false
deriving DecidableEq, Repr

/-- The state of the block. -/
structure State where
  /-- the commands that wait, first in first out -/
  pending : List Instr := []
  /-- register fields not at their reset values, by `Field.key` (R3) -/
  regs : Sparse Word := []
  /-- the word the last register read returned -/
  rdata : Word := 0
  /-- the number of the next free value: the model's own counter (log entry 3) -/
  freeCtr : Nat := 0
  /-- records formed so far: the model's own counter, which orders them -/
  formed : Nat := 0
  die : Die := .running
  time : Time := {}
  evr : Recorder := {}
  port : Port := {}
  queues : Sparse Queue := []
  cmds : List Cmd := []
  tenants : Sparse Tenant := []
  buf : List Host.Cell := []
  pages : List Page := []
  lastBank : Nat := 15
  stagings : List Staging := []
  nextToken : BitVec 16 := 0
  banks : Sparse Bank := []
  shed : Sparse Shed := []
  shedIn : Sparse Shed := []
  /-- admissions of the last second: channel, or 64 + channel for an intake, with DMT and grains (R113) -/
  admits : List (Nat × Dmt × Nat) := []
  critSeen : Bool := false
  chans : Sparse Chan := []
  fifoA : List Nat := []
  fifoB : List Nat := []
  bushels : Sparse Bushel := []
  due : List Due := []
  sys : Option SysCmd := none
  rwc : Sparse Rwc := []
  chain : Chain := {}
  tables : Tables := {}
  loops : Sparse Loop := []
  spl : SpinLoop := {}
  /-- loops still to swap and CLR_NOTCH (R185) -/
  swap : List Nat := []
  swapClear : Bool := false
  shock : Shock := {}
  spindle : Spindle := {}
  power : Power := {}
  dl : DieLink := {}
  ovr : Ovore := {}
  dict : Dict := {}
  harts : Sparse Hart := []
  /-- the compare value in effect of each core, all ones at reset: MTIMECMP acts at the write of its HI half (R303) -/
  mtimecmp : Sparse (BitVec 64) := []
  lmem0 : List Host.Cell := []
  lmem1 : List Host.Cell := []
  lmem2 : List Host.Cell := []
  lmem3 : List Host.Cell := []
  nor : List Host.Cell := []
  cache : Cache := {}
  ecc : Ecc := {}
  clk : Clock := {}
  tap : Tap := {}
  mon : Monitor := {}
  boot : Boot := {}
  pins : Pins := {}
deriving DecidableEq, Repr

/-- Reasons for a fault. The spec names no fault of this block: a core's access fault is a trap of that hart, a refused
command is a status (spec/02 R17, spec/03 R61). The one constructor is raised by no command; safe. -/
inductive Fault where
  /-- raised by nothing: no rule stops the block -/
  | none
deriving DecidableEq, Repr

/-- Reasons for a refusal. -/
inductive Refusal where
  /-- raised by Dispatch for a row that has no meaning yet, by its mnemonic; safe -/
  | notModelled (mnemonic : String)
deriving DecidableEq, Repr

/-- The block right after its first power-on reset (R288, R355, R364, R378): supplies good, XTAL_RDY 1, every register
at its reset value, the always-on domain without contents, the boot ROM not yet run, nothing waiting. The recorder's
intake holds the EVENTS_CLEARED that R355 gives. -/
def State.reset : State :=
  { evr := { intake := [{ code := 0x00, unit := 0x30 }] } }

end Sys2Proof.Machine
end

