-- ==== Sys2Proof/Machine/Operands.lean ====
section
/-! DEFINITION. Operand forms: tables by number, byte order (spec/00 R1), bit fields, sequence comparison (spec/02 R40),
and the layouts of the structures that commands, frames and records bring as bytes. -/

namespace Sys2Proof.Machine

/-! ## Tables by number -/

/-- The entry at `k`, or the table's default. -/
def sget {α : Type} (d : α) (k : Nat) : Sparse α → α
  | [] => d
  | (k', v) :: r => if k = k' then v else sget d k r

/-- Replaces every entry from key `a` to `a + n − 1` by the entries `new`. -/
def splice {α : Type} (a n : Nat) (new l : Sparse α) : Sparse α :=
  l.filter (fun e => decide (e.1 < a)) ++ new ++ l.filter (fun e => decide (a + n ≤ e.1))

/-- Sets the entry at `k`; an entry equal to the default is not listed. -/
def sput {α : Type} [DecidableEq α] (d : α) (k : Nat) (v : α) (l : Sparse α) : Sparse α :=
  splice k 1 (if v = d then [] else [(k, v)]) l

/-- The canonical form of a table: keys rise, and no entry equals the default. -/
def tableOk {α : Type} [DecidableEq α] (d : Nat → α) : Sparse α → Bool
  | [] => true
  | [(k, v)] => decide (v ≠ d k)
  | (k, v) :: (k', v') :: r => decide (v ≠ d k) && decide (k < k') && tableOk d ((k', v') :: r)

/-! ## Byte order (R1) -/

/-- The `n` bytes of `v`, least significant first. -/
def leBytes : Nat → Nat → List Byte
  | 0, _ => []
  | n + 1, v => BitVec.ofNat 8 v :: leBytes n (v / 256)

/-- The number whose bytes, least significant first, are these. -/
def leNat : List Byte → Nat
  | [] => 0
  | b :: r => b.toNat + 256 * leNat r

/-- The `n` bytes of `v`, most significant first (SHA-256 and ECDSA byte strings). -/
def beBytes (n v : Nat) : List Byte := (leBytes n v).reverse

/-- The number whose bytes, most significant first, are these. -/
def beNat (l : List Byte) : Nat := leNat l.reverse

/-- `n` bytes from `i`; bytes past the end read 0. -/
def slice (l : List Byte) (i n : Nat) : List Byte :=
  let t := (l.drop i).take n
  t ++ List.replicate (n - t.length) 0

/-- The little-endian number in `n` bytes from `i`. -/
def leAt (l : List Byte) (i n : Nat) : Nat := leNat (slice l i n)

/-- Byte `i`. -/
def byteAt (l : List Byte) (i : Nat) : Byte := l.getD i 0

/-- The bytes of 32-bit words in ascending byte number (R42). -/
def wordsBytes : List Word → List Byte
  | [] => []
  | w :: r => leBytes 4 w.toNat ++ wordsBytes r

/-- The 32-bit words of bytes, four at a time. -/
def bytesWords : Nat → List Byte → List Word
  | 0, _ => []
  | n + 1, l => BitVec.ofNat 32 (leNat (l.take 4)) :: bytesWords n (l.drop 4)

/-- `l` padded with zero bytes to `n`. -/
def padTo (n : Nat) (l : List Byte) : List Byte := l ++ List.replicate (n - l.length) 0

/-- `l` with the bytes `bs` laid over it from `i`. -/
def overlay (l : List Byte) (i : Nat) (bs : List Byte) : List Byte :=
  l.take i ++ bs ++ l.drop (i + bs.length)

/-! ## Bit fields -/

/-- Bits `[lo + w − 1 : lo]` of `v`. -/
def bitsOf (v lo w : Nat) : Nat := (v / 2 ^ lo) % 2 ^ w

/-- Bit `n` of `v`. -/
def bitOf (v n : Nat) : Bool := v / 2 ^ n % 2 == 1

/-- A bit as a number. -/
def b2n (b : Bool) : Nat := if b then 1 else 0

/-- `v` of `w` bits as a signed number. -/
def signed (w v : Nat) : Int :=
  if v % 2 ^ w < 2 ^ (w - 1) then (v % 2 ^ w : Nat) else (v % 2 ^ w : Nat) - (2 ^ w : Nat)

/-- A signed number in `w` bits. -/
def unsigned (w : Nat) (v : Int) : Nat := (v % (2 ^ w : Nat)).toNat

/-- `v` held between `lo` and `hi`. -/
def clampI (v lo hi : Int) : Int := if v < lo then lo else if hi < v then hi else v

/-- `v` saturating at the limits of `w` signed bits (spec/08 R174). -/
def satI (w : Nat) (v : Int) : Int := clampI v (-(2 ^ (w - 1) : Nat)) ((2 ^ (w - 1) : Nat) - 1)

/-- A product or sum divided by `2 ^ f`, rounded to nearest with ties away from zero (spec/08 R174). -/
def roundShift (v : Int) (f : Nat) : Int :=
  if f = 0 then v
  else if 0 ≤ v then (v + (2 ^ (f - 1) : Nat)) / (2 ^ f : Nat) else -((-v + (2 ^ (f - 1) : Nat)) / (2 ^ f : Nat))

/-- A count saturating at `2 ^ w − 1`. -/
def satN (w v : Nat) : Nat := min v (2 ^ w - 1)

/-- Ceiling of a quotient. -/
def ceilDiv (a b : Nat) : Nat := (a + b - 1) / b

/-! ## Sequence numbers (R40) -/

/-- `x` comes before `y` (R40): `(y − x) mod 2³²` lies in `1 … 2³¹ − 1`. -/
def seqLt (x y : Word) : Bool := decide (1 ≤ (y - x).toNat) && decide ((y - x).toNat < 2 ^ 31)

/-- `x` is `y` or comes before it. -/
def seqLe (x y : Word) : Bool := decide ((y - x).toNat < 2 ^ 31)

/-- The later of two sequence numbers. -/
def seqMax (x y : Word) : Word := if seqLt x y then y else x

/-- The earlier of two sequence numbers. -/
def seqMin (x y : Word) : Word := if seqLt x y then x else y

/-- `x` comes before `y` modulo 2⁴⁸ (R285). -/
def dmtLt (x y : Dmt) : Bool := decide (1 ≤ (y - x).toNat) && decide ((y - x).toNat < 2 ^ 47)

/-! ## Stream Port words (R34, R35) -/

/-- Header word 0 (R34). -/
def headerWord (ty tid chan resv len : Nat) : Word :=
  BitVec.ofNat 32 (ty % 8 * 2 ^ 29 + tid % 16 * 2 ^ 25 + chan % 64 * 2 ^ 19 + resv % 8 * 2 ^ 16 + len % 2 ^ 16)

/-- Status word 0 (R46). -/
def statusWord (ty tid chan count code : Nat) : Word :=
  BitVec.ofNat 32 (ty % 8 * 2 ^ 29 + tid % 16 * 2 ^ 25 + chan % 64 * 2 ^ 19 + count % 256 * 256 + code % 256)

/-! ## Descriptors (R59) -/

/-- OPCODE. -/
def dOp (d : List Byte) : Nat := (byteAt d 0).toNat
/-- FLAGS. -/
def dFlags (d : List Byte) : Nat := (byteAt d 1).toNat
/-- CMD_ID. -/
def dCmdId (d : List Byte) : Word := BitVec.ofNat 32 (leAt d 4 4)
/-- CHAN. -/
def dChan (d : List Byte) : Nat := (byteAt d 8).toNat % 64
/-- SEQ. -/
def dSeq (d : List Byte) : Word := BitVec.ofNat 32 (leAt d 12 4)
/-- COUNT. -/
def dCount (d : List Byte) : Nat := leAt d 16 4
/-- WIN. -/
def dWin (d : List Byte) : Nat := (byteAt d 20).toNat % 8
/-- OFF. -/
def dOff (d : List Byte) : Nat := leAt d 24 4
/-- `n` bytes of ARGS, numbered by descriptor byte as R65 numbers them. -/
def dArg (d : List Byte) (i n : Nat) : Nat := leAt d i n

end Sys2Proof.Machine
end

