-- ==== Sys2Proof/Machine/Crypto.lean ====
section
/-! DEFINITION. The codes and the cryptography the spec names: CRC-32C (spec/02 R42), CRC-16/CCITT-FALSE (spec/10 R224),
SHA-256 (spec/06 R120), HMAC-SHA-256 (spec/04 R79), and ECDSA over P-256 with SHA-256 and the k of RFC 6979 (spec/06 R128). -/

namespace Sys2Proof.Machine

/-! ## CRCs -/

/-- `n` shifts of the reflected CRC-32C register. -/
def crc32cShift : Nat → Word → Word
  | 0, c => c
  | n + 1, c => crc32cShift n (if c &&& 1 = 1 then (c >>> 1) ^^^ 0x82F63B78#32 else c >>> 1)

/-- CRC-32C (R42): polynomial 0x1EDC_6F41 reflected, initial value and final XOR 0xFFFF_FFFF. -/
def crc32c (l : List Byte) : Word :=
  (l.foldl (fun c b => crc32cShift 8 (c ^^^ b.setWidth 32)) 0xFFFFFFFF#32) ^^^ 0xFFFFFFFF#32

/-- `n` shifts of the CRC-16 register. -/
def crc16Shift : Nat → BitVec 16 → BitVec 16
  | 0, c => c
  | n + 1, c => crc16Shift n (if c &&& 0x8000 = 0x8000 then (c <<< 1) ^^^ 0x1021#16 else c <<< 1)

/-- CRC-16/CCITT-FALSE (R224). -/
def crc16 (l : List Byte) : BitVec 16 :=
  l.foldl (fun c b => crc16Shift 8 (c ^^^ (b.setWidth 16).shiftLeft 8)) 0xFFFF#16

/-! ## SHA-256 (FIPS 180-4) -/

/-- The round constants. -/
def shaK : List Word :=
  [0x428a2f98, 0x71374491, 0xb5c0fbcf, 0xe9b5dba5, 0x3956c25b, 0x59f111f1, 0x923f82a4, 0xab1c5ed5] ++
  [0xd807aa98, 0x12835b01, 0x243185be, 0x550c7dc3, 0x72be5d74, 0x80deb1fe, 0x9bdc06a7, 0xc19bf174] ++
  [0xe49b69c1, 0xefbe4786, 0x0fc19dc6, 0x240ca1cc, 0x2de92c6f, 0x4a7484aa, 0x5cb0a9dc, 0x76f988da] ++
  [0x983e5152, 0xa831c66d, 0xb00327c8, 0xbf597fc7, 0xc6e00bf3, 0xd5a79147, 0x06ca6351, 0x14292967] ++
  [0x27b70a85, 0x2e1b2138, 0x4d2c6dfc, 0x53380d13, 0x650a7354, 0x766a0abb, 0x81c2c92e, 0x92722c85] ++
  [0xa2bfe8a1, 0xa81a664b, 0xc24b8b70, 0xc76c51a3, 0xd192e819, 0xd6990624, 0xf40e3585, 0x106aa070] ++
  [0x19a4c116, 0x1e376c08, 0x2748774c, 0x34b0bcb5, 0x391c0cb3, 0x4ed8aa4a, 0x5b9cca4f, 0x682e6ff3] ++
  [0x748f82ee, 0x78a5636f, 0x84c87814, 0x8cc70208, 0x90befffa, 0xa4506ceb, 0xbef9a3f7, 0xc67178f2]

/-- The working variables a to h. -/
structure ShaState where
  a : Word
  b : Word
  c : Word
  d : Word
  e : Word
  f : Word
  g : Word
  h : Word
deriving DecidableEq, Repr

/-- The initial hash value. -/
def shaInit : ShaState :=
  ⟨0x6a09e667, 0xbb67ae85, 0x3c6ef372, 0xa54ff53a, 0x510e527f, 0x9b05688c, 0x1f83d9ab, 0x5be0cd19⟩

/-- One round. -/
def shaRound (s : ShaState) (kw : Word) : ShaState :=
  let s1 := s.e.rotateRight 6 ^^^ s.e.rotateRight 11 ^^^ s.e.rotateRight 25
  let ch := (s.e &&& s.f) ^^^ (~~~s.e &&& s.g)
  let t1 := s.h + s1 + ch + kw
  let s0 := s.a.rotateRight 2 ^^^ s.a.rotateRight 13 ^^^ s.a.rotateRight 22
  let mj := (s.a &&& s.b) ^^^ (s.a &&& s.c) ^^^ (s.b &&& s.c)
  ⟨t1 + (s0 + mj), s.a, s.b, s.c, s.d + t1, s.e, s.f, s.g⟩

/-- The 64 rounds over the message schedule `w`, a window of 16 words that moves on. -/
def shaRounds : List Word → List Word → ShaState → ShaState
  | [], _, s => s
  | k :: ks, w, s =>
    let w0 := w.getD 0 0
    let w1 := w.getD 1 0
    let w14 := w.getD 14 0
    let n := (w14.rotateRight 17 ^^^ w14.rotateRight 19 ^^^ w14 >>> 10) + w.getD 9 0 +
      (w1.rotateRight 7 ^^^ w1.rotateRight 18 ^^^ w1 >>> 3) + w0
    shaRounds ks (w.drop 1 ++ [n]) (shaRound s (k + w0))

/-- The big-endian words of a block. -/
def shaWords : Nat → List Byte → List Word
  | 0, _ => []
  | n + 1, l => BitVec.ofNat 32 (beNat (l.take 4)) :: shaWords n (l.drop 4)

/-- The blocks of the padded message. -/
def shaBlocks : Nat → List Byte → ShaState → ShaState
  | 0, _, s => s
  | n + 1, l, s =>
    let t := shaRounds shaK (shaWords 16 (l.take 64)) s
    shaBlocks n (l.drop 64) ⟨s.a + t.a, s.b + t.b, s.c + t.c, s.d + t.d, s.e + t.e, s.f + t.f, s.g + t.g, s.h + t.h⟩

/-- SHA-256. -/
def sha256 (m : List Byte) : List Byte :=
  let z := (119 - m.length % 64) % 64
  let p := m ++ [0x80] ++ List.replicate z 0 ++ beBytes 8 (8 * m.length)
  let s := shaBlocks (p.length / 64) p shaInit
  beBytes 4 s.a.toNat ++ beBytes 4 s.b.toNat ++ beBytes 4 s.c.toNat ++ beBytes 4 s.d.toNat ++
    beBytes 4 s.e.toNat ++ beBytes 4 s.f.toNat ++ beBytes 4 s.g.toNat ++ beBytes 4 s.h.toNat

/-- HMAC-SHA-256 (FIPS 198-1). -/
def hmac (key m : List Byte) : List Byte :=
  let k := padTo 64 (if 64 < key.length then sha256 key else key)
  sha256 (k.map (· ^^^ 0x5C) ++ sha256 (k.map (· ^^^ 0x36) ++ m))

/-! ## ECDSA over P-256 (FIPS 186-5) with RFC 6979 -/

/-- The field prime. -/
def p256P : Nat := 0xFFFFFFFF00000001000000000000000000000000FFFFFFFFFFFFFFFFFFFFFFFF
/-- The group order. -/
def p256N : Nat := 0xFFFFFFFF00000000FFFFFFFFFFFFFFFFBCE6FAADA7179E84F3B9CAC2FC632551
/-- The coefficient b. -/
def p256B : Nat := 0x5AC635D8AA3A93E7B3EBBD55769886BC651D06B0CC53B0F63BCE3C3E27D2604B
/-- The base point. -/
def p256G : Nat × Nat :=
  (0x6B17D1F2E12C4247F8BCE6E563A440F277037D812DEB33A0F4A13945D898C296,
   0x4FE342E2FE1A7F9B8EE7EB4A7C0F9E162BCE33576B315ECECBB6406837BF51F5)

/-- `a ^ e mod m`, `n` bits of the exponent. -/
def powMod : Nat → Nat → Nat → Nat → Nat
  | 0, _, _, m => 1 % m
  | n + 1, a, e, m =>
    let h := powMod n (a * a % m) (e / 2) m
    if e % 2 = 1 then a * h % m else h

/-- The inverse modulo a prime. -/
def invMod (a m : Nat) : Nat := powMod 256 (a % m) (m - 2) m

/-- `a − b` modulo p. -/
def subP (a b : Nat) : Nat := (a + (p256P - b % p256P)) % p256P

/-- Doubling in Jacobian coordinates; z = 0 is the point at infinity. -/
def jDouble : Nat × Nat × Nat → Nat × Nat × Nat
  | (x, y, z) =>
    let d := z * z % p256P
    let m := 3 * (subP x d) * (x + d) % p256P
    let y2 := y * y % p256P
    let s := 4 * x * y2 % p256P
    let x' := subP (m * m) (2 * s)
    (x', subP (m * subP s x') (8 * (y2 * y2 % p256P)), 2 * y * z % p256P)

/-- Addition in Jacobian coordinates. -/
def jAdd : Nat × Nat × Nat → Nat × Nat × Nat → Nat × Nat × Nat
  | (x1, y1, z1), (x2, y2, z2) =>
    if z1 = 0 then (x2, y2, z2) else if z2 = 0 then (x1, y1, z1)
    else
      let a := z1 * z1 % p256P
      let b := z2 * z2 % p256P
      let u1 := x1 * b % p256P
      let u2 := x2 * a % p256P
      let s1 := y1 * (b * z2 % p256P) % p256P
      let s2 := y2 * (a * z1 % p256P) % p256P
      let h := subP u2 u1
      let r := subP s2 s1
      if h = 0 then (if r = 0 then jDouble (x1, y1, z1) else (1, 1, 0))
      else
        let h2 := h * h % p256P
        let h3 := h * h2 % p256P
        let v := u1 * h2 % p256P
        let x3 := subP (subP (r * r) h3) (2 * v)
        (x3, subP (r * subP v x3) (s1 * h3), z1 * z2 % p256P * h % p256P)

/-- `k` times a point, `n` bits of `k`. -/
def jMul : Nat → Nat → Nat × Nat × Nat → Nat × Nat × Nat
  | 0, _, _ => (1, 1, 0)
  | n + 1, k, q =>
    let h := jMul n (k / 2) (jDouble q)
    if k % 2 = 1 then jAdd q h else h

/-- The affine point of Jacobian coordinates. -/
def jAffine : Nat × Nat × Nat → Nat × Nat
  | (x, y, z) =>
    let i := invMod z p256P
    (x * (i * i % p256P) % p256P, y * (i * i % p256P * i % p256P) % p256P)

/-- The `n`-th candidate k of RFC 6979 for private key `d` and digest `h1`, tried by `f`. -/
def rfc6979 {α : Type} (f : Nat → Option α) : Nat → List Byte → List Byte → Option α
  | 0, _, _ => none
  | n + 1, k, v =>
    let v := hmac k v
    let c := beNat v
    match (if 0 < c ∧ c < p256N then f c else none) with
    | some a => some a
    | none =>
      let k := hmac k (v ++ [0])
      rfc6979 f n k (hmac k v)

/-- The signature (r, s) of a message, 32 bytes each (R128). -/
def ecdsaSign (d : Nat) (msg : List Byte) : List Byte × List Byte :=
  let h1 := sha256 msg
  let e := beNat h1 % p256N
  let seed := beBytes 32 d ++ beBytes 32 e
  let v := List.replicate 32 (1 : Byte)
  let k := hmac (List.replicate 32 0) (v ++ [0] ++ seed)
  let v := hmac k v
  let k := hmac k (v ++ [1] ++ seed)
  let v := hmac k v
  let try1 (c : Nat) : Option (List Byte × List Byte) :=
    let r := (jAffine (jMul 256 c (p256G.1, p256G.2, 1))).1 % p256N
    let s := invMod c p256N * ((e + r * d) % p256N) % p256N
    if r = 0 ∨ s = 0 then none else some (beBytes 32 r, beBytes 32 s)
  (rfc6979 try1 8 k v).getD (List.replicate 32 0, List.replicate 32 0)

/-- Verification of a signature under the public key X ‖ Y (64 bytes). -/
def ecdsaVerify (key msg sigR sigS : List Byte) : Bool :=
  let x := beNat (key.take 32)
  let y := beNat ((key.drop 32).take 32)
  let r := beNat sigR
  let s := beNat sigS
  if x < p256P ∧ y < p256P ∧ 0 < r ∧ r < p256N ∧ 0 < s ∧ s < p256N ∧
      y * y % p256P = (x * x * x + (p256P - 3) * x + p256B) % p256P then
    let w := invMod s p256N
    let q := jAdd (jMul 256 (beNat (sha256 msg) % p256N * w % p256N) (p256G.1, p256G.2, 1))
      (jMul 256 (r * w % p256N) (x, y, 1))
    if q.2.2 = 0 then false else (jAffine q).1 % p256N = r
  else false

end Sys2Proof.Machine
end

