-- ==== Sys2Proof/Machine/RegMap.lean ====
section
/-! DEFINITION. The register map: one `Field` for each field of the register tables of the spec (block k of spec/14
R298 at 0x4000_0000 + 0x1_0000 k). Access codes are those of spec/00 R3; `ok` lists the defined encodings (R6). A field
marked `view` shows state held elsewhere: Machine/Registers.lean computes it when it is read. -/

namespace Sys2Proof.Machine

/-- Access codes (R3). -/
inductive Acc | ro | rw | rwk | w1c | wo | rc
deriving DecidableEq, Repr

/-- A register field, or an array of them: element `i` lies at `off + st * (i / m) + st2 * (i % m)` of block `blk`. -/
structure Field where
  blk : Nat
  off : Nat
  lo : Nat
  w : Nat
  acc : Acc
  rst : List Nat := []
  /-- the reset value of every element that `rst` does not list -/
  dflt : Nat := 0
  n : Nat := 1
  st : Nat := 0
  m : Nat := 1
  st2 : Nat := 0
  ok : List (Nat × Nat) := []
  view : Bool := false
deriving DecidableEq, Repr

namespace Reg

/-! ### Block 0, SYSCTL (R9, R313, R345, R379, R393) -/

/-- DEVICE_ID.PART. -/
def DEVICE_ID_PART : Field := { blk := 0, off := 0x0000, lo := 16, w := 16, acc := .ro, dflt := 0x6410 }

/-- DEVICE_ID.STEP_LETTER. -/
def DEVICE_ID_STEP_LETTER : Field := { blk := 0, off := 0x0000, lo := 8, w := 8, acc := .ro, dflt := 0x0B }

/-- DEVICE_ID.STEP_METAL. -/
def DEVICE_ID_STEP_METAL : Field := { blk := 0, off := 0x0000, lo := 0, w := 8, acc := .ro, dflt := 1 }

/-- GRADE.AUTO. -/
def GRADE_AUTO : Field := { blk := 0, off := 0x0004, lo := 0, w := 1, acc := .ro, view := true }

/-- CLK_PLL.EN. -/
def CLK_PLL_EN : Field := { blk := 0, off := 0x0100, lo := 0, w := 1, acc := .rwk }

/-- CLK_SRC.SRC. -/
def CLK_SRC_SRC : Field := { blk := 0, off := 0x0104, lo := 0, w := 5, acc := .rwk }

/-- CLK_STATUS.XTAL_RDY. -/
def CLK_STATUS_XTAL_RDY : Field := { blk := 0, off := 0x0108, lo := 0, w := 1, acc := .ro, dflt := 1 }

/-- CLK_STATUS.PLL_LOCK. -/
def CLK_STATUS_PLL_LOCK : Field := { blk := 0, off := 0x0108, lo := 1, w := 1, acc := .ro }

/-- CLK_STATUS.CUR. -/
def CLK_STATUS_CUR : Field := { blk := 0, off := 0x0108, lo := 8, w := 5, acc := .ro }

/-- CLK_STATUS.SWITCHING. -/
def CLK_STATUS_SWITCHING : Field := { blk := 0, off := 0x0108, lo := 16, w := 1, acc := .ro, view := true }

/-- CLK_EVENTS.SW_REJECT. -/
def CLK_EVENTS_SW_REJECT : Field := { blk := 0, off := 0x010C, lo := 0, w := 1, acc := .w1c }

/-- CLK_EVENTS.RUN_REJECT. -/
def CLK_EVENTS_RUN_REJECT : Field := { blk := 0, off := 0x010C, lo := 1, w := 1, acc := .w1c }

/-- CLK_EVENTS.PLL_REJECT. -/
def CLK_EVENTS_PLL_REJECT : Field := { blk := 0, off := 0x010C, lo := 2, w := 1, acc := .w1c }

/-- CLK_STOP.LAST. -/
def CLK_STOP_LAST : Field := { blk := 0, off := 0x0110, lo := 0, w := 2, acc := .rc, view := true }

/-- CLK_STOP_DMT_LO.DMT. -/
def CLK_STOP_DMT_LO_DMT : Field := { blk := 0, off := 0x0114, lo := 0, w := 32, acc := .ro, view := true }

/-- CLK_STOP_DMT_HI.DMT. -/
def CLK_STOP_DMT_HI_DMT : Field := { blk := 0, off := 0x0118, lo := 0, w := 16, acc := .ro, view := true }

/-- RST_CTRL.SYS_RST. -/
def RST_CTRL_SYS_RST : Field := { blk := 0, off := 0x0200, lo := 0, w := 1, acc := .wo }

/-- RST_STATUS.PENDING. -/
def RST_STATUS_PENDING : Field := { blk := 0, off := 0x0204, lo := 0, w := 1, acc := .ro, view := true }

/-- RST_STATUS.LAST_SRC. -/
def RST_STATUS_LAST_SRC : Field := { blk := 0, off := 0x0204, lo := 4, w := 3, acc := .ro, view := true }

/-- CORE_RUN.RUN. -/
def CORE_RUN_RUN : Field := { blk := 0, off := 0x0208, lo := 0, w := 4, acc := .rwk, dflt := 8 }

/-- WDT_CTRL.EN. -/
def WDT_CTRL_EN : Field := { blk := 0, off := 0x020C, lo := 0, w := 1, acc := .rwk }

/-- WDT_CTRL.TIMEOUT_MS. -/
def WDT_CTRL_TIMEOUT_MS : Field := { blk := 0, off := 0x020C, lo := 16, w := 16, acc := .rwk, dflt := 2000, ok := [(1, 65535)] }

/-- WDT_KICK.KICK. -/
def WDT_KICK_KICK : Field := { blk := 0, off := 0x0210, lo := 0, w := 32, acc := .wo }

/-- BOOT_STATUS.SLOT. -/
def BOOT_STATUS_SLOT : Field := { blk := 0, off := 0x0220, lo := 0, w := 2, acc := .ro }

/-- BOOT_STATUS.FAIL_A. -/
def BOOT_STATUS_FAIL_A : Field := { blk := 0, off := 0x0220, lo := 4, w := 4, acc := .ro }

/-- BOOT_STATUS.FAIL_B. -/
def BOOT_STATUS_FAIL_B : Field := { blk := 0, off := 0x0220, lo := 8, w := 4, acc := .ro }

/-- BOOT_VERSION.VERSION. -/
def BOOT_VERSION_VERSION : Field := { blk := 0, off := 0x0224, lo := 0, w := 32, acc := .ro }

/-- BOOT_FLOOR.FLOOR. -/
def BOOT_FLOOR_FLOOR : Field := { blk := 0, off := 0x0228, lo := 0, w := 32, acc := .rwk, view := true }

/-- BOOT_REVOKE.REVOKE. -/
def BOOT_REVOKE_REVOKE : Field := { blk := 0, off := 0x022C, lo := 0, w := 2, acc := .rwk, view := true }

/-- BOOT_ENTRY_n.ENTRY. -/
def BOOT_ENTRY_ENTRY : Field := { blk := 0, off := 0x0230, lo := 0, w := 32, acc := .ro, n := 4, st := 4 }

/-- RES_STATUS.VALID. -/
def RES_STATUS_VALID : Field := { blk := 0, off := 0x0240, lo := 0, w := 1, acc := .ro, view := true }

/-- RES_STATUS.APPLIED. -/
def RES_STATUS_APPLIED : Field := { blk := 0, off := 0x0240, lo := 1, w := 1, acc := .ro }

/-- RES_CMD.APPLY. -/
def RES_CMD_APPLY : Field := { blk := 0, off := 0x0244, lo := 0, w := 1, acc := .wo }

/-- RES_CMD.DISCARD. -/
def RES_CMD_DISCARD : Field := { blk := 0, off := 0x0244, lo := 1, w := 1, acc := .wo }

/-- STARTUP.SCAN. -/
def STARTUP_SCAN : Field := { blk := 0, off := 0x0248, lo := 0, w := 1, acc := .wo }

/-- STARTUP.SCAN_REJECT. -/
def STARTUP_SCAN_REJECT : Field := { blk := 0, off := 0x0248, lo := 1, w := 1, acc := .w1c }

/-- BOOT_KEYHASH_n.HASH. -/
def BOOT_KEYHASH_HASH : Field := { blk := 0, off := 0x0260, lo := 0, w := 32, acc := .ro, n := 16, st := 4, view := true }

/-- GPIO_OUT.OUT. -/
def GPIO_OUT_OUT : Field := { blk := 0, off := 0x0300, lo := 0, w := 8, acc := .rw }

/-- GPIO_OE.OE. -/
def GPIO_OE_OE : Field := { blk := 0, off := 0x0304, lo := 0, w := 8, acc := .rw }

/-- GPIO_IN.IN. -/
def GPIO_IN_IN : Field := { blk := 0, off := 0x0308, lo := 0, w := 8, acc := .ro, view := true }

/-- SHK_SPI.CMD. -/
def SHK_SPI_CMD : Field := { blk := 0, off := 0x0310, lo := 0, w := 8, acc := .rw, dflt := 0xA8 }

/-- CORE_IE_n.EN. -/
def CORE_IE_EN : Field := { blk := 0, off := 0x0400, lo := 0, w := 20, acc := .rwk, rst := [0xFF100, 0xD00, 0x3E0, 0x11F], n := 4, st := 32 }

/-- CORE_IP_n.PEND. -/
def CORE_IP_PEND : Field := { blk := 0, off := 0x0404, lo := 0, w := 20, acc := .ro, n := 4, st := 32, view := true }

/-- CORE_CLAIM_n.SRC. -/
def CORE_CLAIM_SRC : Field := { blk := 0, off := 0x0408, lo := 0, w := 5, acc := .ro, n := 4, st := 32, view := true }

/-- CORE_CLAIM_n.NONE. -/
def CORE_CLAIM_NONE : Field := { blk := 0, off := 0x0408, lo := 31, w := 1, acc := .ro, dflt := 1, n := 4, st := 32, view := true }

/-- MSIP_n.SET. -/
def MSIP_SET : Field := { blk := 0, off := 0x040C, lo := 0, w := 1, acc := .rwk, n := 4, st := 32 }

/-- MTIMECMP_LO_n.CMP. -/
def MTIMECMP_LO_CMP : Field := { blk := 0, off := 0x0410, lo := 0, w := 32, acc := .rwk, dflt := 0xFFFFFFFF, n := 4, st := 32 }

/-- MTIMECMP_HI_n.CMP. -/
def MTIMECMP_HI_CMP : Field := { blk := 0, off := 0x0414, lo := 0, w := 32, acc := .rwk, dflt := 0xFFFFFFFF, n := 4, st := 32 }

/-- IRQ_RAW.RAW. -/
def IRQ_RAW_RAW : Field := { blk := 0, off := 0x0480, lo := 0, w := 20, acc := .ro, view := true }

/-- CORE_EV.NMT_RESET. -/
def CORE_EV_NMT_RESET : Field := { blk := 0, off := 0x0484, lo := 0, w := 1, acc := .w1c }

/-- FWCQ_PEND_n.Q. -/
def FWCQ_PEND_Q : Field := { blk := 0, off := 0x04A0, lo := 0, w := 32, acc := .w1c, n := 8, st := 4 }


/-! ### Block 1, SP (R54) -/

/-- SP_CTRL.PORT_EN. -/
def SP_CTRL_PORT_EN : Field := { blk := 1, off := 0x0000, lo := 0, w := 1, acc := .rw }

/-- SP_CTRL.ADMIT_EN. -/
def SP_CTRL_ADMIT_EN : Field := { blk := 1, off := 0x0000, lo := 1, w := 1, acc := .rw }

/-- SP_CTRL.STALL_US. -/
def SP_CTRL_STALL_US : Field := { blk := 1, off := 0x0000, lo := 8, w := 8, acc := .rw, dflt := 0x0A, ok := [(1, 255)] }

/-- SP_STATUS.PORT_OPEN. -/
def SP_STATUS_PORT_OPEN : Field := { blk := 1, off := 0x0004, lo := 0, w := 1, acc := .ro, view := true }

/-- SP_STATUS.ADMIT_OPEN. -/
def SP_STATUS_ADMIT_OPEN : Field := { blk := 1, off := 0x0004, lo := 1, w := 1, acc := .ro, view := true }

/-- SP_STATUS.SEATED. -/
def SP_STATUS_SEATED : Field := { blk := 1, off := 0x0004, lo := 2, w := 1, acc := .ro, view := true }

/-- SP_STATUS.IN_FRAME. -/
def SP_STATUS_IN_FRAME : Field := { blk := 1, off := 0x0004, lo := 3, w := 1, acc := .ro, view := true }

/-- SP_STATUS.CLOSE_CAUSE. -/
def SP_STATUS_CLOSE_CAUSE : Field := { blk := 1, off := 0x0004, lo := 4, w := 4, acc := .ro, dflt := 4 }

/-- SP_EVENTS.ABORT. -/
def SP_EVENTS_ABORT : Field := { blk := 1, off := 0x0008, lo := 0, w := 1, acc := .w1c }

/-- SP_EVENTS.STALL. -/
def SP_EVENTS_STALL : Field := { blk := 1, off := 0x0008, lo := 1, w := 1, acc := .w1c }

/-- SP_EVENTS.STATUS_LOST. -/
def SP_EVENTS_STATUS_LOST : Field := { blk := 1, off := 0x0008, lo := 2, w := 1, acc := .w1c }

/-- SP_EVENTS.PROTOCOL. -/
def SP_EVENTS_PROTOCOL : Field := { blk := 1, off := 0x0008, lo := 3, w := 1, acc := .w1c }

/-- SP_EVENTS.DET_CHANGE. -/
def SP_EVENTS_DET_CHANGE : Field := { blk := 1, off := 0x0008, lo := 4, w := 1, acc := .w1c }

/-- SP_CNT_ACCEPT.COUNT. -/
def SP_CNT_ACCEPT_COUNT : Field := { blk := 1, off := 0x0010, lo := 0, w := 32, acc := .ro }

/-- SP_CNT_HOLD.COUNT. -/
def SP_CNT_HOLD_COUNT : Field := { blk := 1, off := 0x0014, lo := 0, w := 32, acc := .ro }

/-- SP_CNT_REFUSE.COUNT. -/
def SP_CNT_REFUSE_COUNT : Field := { blk := 1, off := 0x0018, lo := 0, w := 32, acc := .ro }

/-- SP_CNT_CRCBAD.COUNT. -/
def SP_CNT_CRCBAD_COUNT : Field := { blk := 1, off := 0x001C, lo := 0, w := 32, acc := .ro }

/-- SP_BSY_MAX.TIME. -/
def SP_BSY_MAX_TIME : Field := { blk := 1, off := 0x0020, lo := 0, w := 16, acc := .rc }

/-- SP_CHAN_n.FRAME_MAX. -/
def SP_CHAN_FRAME_MAX : Field := { blk := 1, off := 0x0100, lo := 0, w := 5, acc := .ro, n := 64, st := 4, view := true }

/-- SP_CHAN_n.READY. -/
def SP_CHAN_READY : Field := { blk := 1, off := 0x0100, lo := 8, w := 1, acc := .ro, n := 64, st := 4, view := true }

/-- SP_CHAN_n.ENERGY_OK. -/
def SP_CHAN_ENERGY_OK : Field := { blk := 1, off := 0x0100, lo := 9, w := 1, acc := .ro, n := 64, st := 4, view := true }

/-- SP_CHAN_n.WRITE_BUSY. -/
def SP_CHAN_WRITE_BUSY : Field := { blk := 1, off := 0x0100, lo := 10, w := 1, acc := .ro, n := 64, st := 4, view := true }


/-! ### Block 2, QUEUE (R75) -/

/-- QUEUE_CTRL.FETCH_EN. -/
def QUEUE_CTRL_FETCH_EN : Field := { blk := 2, off := 0x0000, lo := 0, w := 1, acc := .rw }

/-- QUEUE_STATUS.FETCH_OPEN. -/
def QUEUE_STATUS_FETCH_OPEN : Field := { blk := 2, off := 0x0004, lo := 0, w := 1, acc := .ro, view := true }

/-- QUEUE_STATUS.CFG_REJECT. -/
def QUEUE_STATUS_CFG_REJECT : Field := { blk := 2, off := 0x0004, lo := 1, w := 1, acc := .w1c }

/-- TAG_SPLIT.WRITE. -/
def TAG_SPLIT_WRITE : Field := { blk := 2, off := 0x0010, lo := 0, w := 11, acc := .rwk, dflt := 512, ok := [(64, 896)] }

/-- TAG_SPLIT.READ. -/
def TAG_SPLIT_READ : Field := { blk := 2, off := 0x0010, lo := 16, w := 11, acc := .rwk, dflt := 256, ok := [(64, 896)] }

/-- TAG_FREE.WRITE. -/
def TAG_FREE_WRITE : Field := { blk := 2, off := 0x0014, lo := 0, w := 11, acc := .ro, dflt := 512, view := true }

/-- TAG_FREE.READ. -/
def TAG_FREE_READ : Field := { blk := 2, off := 0x0014, lo := 16, w := 11, acc := .ro, dflt := 256, view := true }

/-- TAG_FREE_C.CONTROL. -/
def TAG_FREE_C_CONTROL : Field := { blk := 2, off := 0x0018, lo := 0, w := 11, acc := .ro, dflt := 256, view := true }

/-- POOL_PAGES.WRITE. -/
def POOL_PAGES_WRITE : Field := { blk := 2, off := 0x0020, lo := 0, w := 12, acc := .rwk, dflt := 2048, ok := [(256, 3072)] }

/-- POOL_PAGES.READ. -/
def POOL_PAGES_READ : Field := { blk := 2, off := 0x0020, lo := 16, w := 12, acc := .rwk, dflt := 512, ok := [(64, 1024)] }

/-- POOL_HOLD.HOLD. -/
def POOL_HOLD_HOLD : Field := { blk := 2, off := 0x0024, lo := 0, w := 12, acc := .rwk, dflt := 512 }

/-- POOL_SLOTS.A. -/
def POOL_SLOTS_A : Field := { blk := 2, off := 0x0028, lo := 0, w := 11, acc := .rwk, dflt := 512, ok := [(16, 1024)] }

/-- POOL_SLOTS.B. -/
def POOL_SLOTS_B : Field := { blk := 2, off := 0x0028, lo := 16, w := 11, acc := .rwk, dflt := 512, ok := [(16, 1024)] }

/-- POOL_FREE_PAGES.WRITE. -/
def POOL_FREE_PAGES_WRITE : Field := { blk := 2, off := 0x002C, lo := 0, w := 12, acc := .ro, dflt := 2048, view := true }

/-- POOL_FREE_PAGES.READ. -/
def POOL_FREE_PAGES_READ : Field := { blk := 2, off := 0x002C, lo := 16, w := 12, acc := .ro, dflt := 512, view := true }

/-- POOL_FREE_SLOTS.A. -/
def POOL_FREE_SLOTS_A : Field := { blk := 2, off := 0x0030, lo := 0, w := 11, acc := .ro, dflt := 512, view := true }

/-- POOL_FREE_SLOTS.B. -/
def POOL_FREE_SLOTS_B : Field := { blk := 2, off := 0x0030, lo := 16, w := 11, acc := .ro, dflt := 512, view := true }

/-- FWD_BASE.BASE. -/
def FWD_BASE_BASE : Field := { blk := 2, off := 0x0040, lo := 12, w := 20, acc := .rwk }

/-- FWD_CTRL.EN. -/
def FWD_CTRL_EN : Field := { blk := 2, off := 0x0044, lo := 0, w := 1, acc := .rwk }

/-- FWD_CTRL.HEAD. -/
def FWD_CTRL_HEAD : Field := { blk := 2, off := 0x0044, lo := 8, w := 6, acc := .rw }

/-- FWD_CTRL.TAIL. -/
def FWD_CTRL_TAIL : Field := { blk := 2, off := 0x0044, lo := 16, w := 6, acc := .ro }

/-- FWD_RES0.RES0. -/
def FWD_RES0_RES0 : Field := { blk := 2, off := 0x0050, lo := 0, w := 32, acc := .rw }

/-- FWD_RES1.RES1. -/
def FWD_RES1_RES1 : Field := { blk := 2, off := 0x0054, lo := 0, w := 32, acc := .rw }

/-- FWD_POST.TAG. -/
def FWD_POST_TAG : Field := { blk := 2, off := 0x0058, lo := 0, w := 10, acc := .wo }

/-- FWD_POST.CODE. -/
def FWD_POST_CODE : Field := { blk := 2, off := 0x0058, lo := 16, w := 8, acc := .wo }

/-- QDB.QUEUE. -/
def QDB_QUEUE : Field := { blk := 2, off := 0x0800, lo := 0, w := 8, acc := .wo }

/-- QDB.INDEX. -/
def QDB_INDEX : Field := { blk := 2, off := 0x0800, lo := 16, w := 12, acc := .wo }

/-- QCFG_n.EN. -/
def QCFG_EN : Field := { blk := 2, off := 0x1000, lo := 0, w := 1, acc := .rwk, n := 256, st := 16 }

/-- QCFG_n.DIR. -/
def QCFG_DIR : Field := { blk := 2, off := 0x1000, lo := 1, w := 1, acc := .rwk, n := 256, st := 16 }

/-- QCFG_n.LOG2_DEPTH. -/
def QCFG_LOG2_DEPTH : Field := { blk := 2, off := 0x1000, lo := 2, w := 4, acc := .rwk, dflt := 4, n := 256, st := 16, ok := [(4, 12)] }

/-- QCFG_n.PRIO. -/
def QCFG_PRIO : Field := { blk := 2, off := 0x1000, lo := 6, w := 2, acc := .rwk, n := 256, st := 16 }

/-- QCFG_n.CQ. -/
def QCFG_CQ : Field := { blk := 2, off := 0x1000, lo := 8, w := 8, acc := .rwk, n := 256, st := 16 }

/-- QCFG_n.OWNER. -/
def QCFG_OWNER : Field := { blk := 2, off := 0x1000, lo := 16, w := 4, acc := .rwk, n := 256, st := 16 }

/-- QCFG_n.FW. -/
def QCFG_FW : Field := { blk := 2, off := 0x1000, lo := 20, w := 1, acc := .rwk, n := 256, st := 16 }

/-- QCFG_n.WIN. -/
def QCFG_WIN : Field := { blk := 2, off := 0x1000, lo := 21, w := 3, acc := .rwk, n := 256, st := 16 }

/-- QBASE_n.BASE. -/
def QBASE_BASE : Field := { blk := 2, off := 0x1004, lo := 12, w := 20, acc := .rwk, n := 256, st := 16 }

/-- QIDX_n.HEAD. -/
def QIDX_HEAD : Field := { blk := 2, off := 0x1008, lo := 0, w := 12, acc := .ro, n := 256, st := 16 }

/-- QIDX_n.TAIL. -/
def QIDX_TAIL : Field := { blk := 2, off := 0x1008, lo := 16, w := 12, acc := .ro, n := 256, st := 16 }

/-- QERR_n.ERR_DB. -/
def QERR_ERR_DB : Field := { blk := 2, off := 0x100C, lo := 0, w := 1, acc := .w1c, n := 256, st := 16 }

/-- QERR_n.ERR_ECC. -/
def QERR_ERR_ECC : Field := { blk := 2, off := 0x100C, lo := 1, w := 1, acc := .w1c, n := 256, st := 16 }

/-- QERR_n.STOPPED. -/
def QERR_STOPPED : Field := { blk := 2, off := 0x100C, lo := 2, w := 1, acc := .ro, n := 256, st := 16, view := true }

/-- QERR_n.INFLIGHT. -/
def QERR_INFLIGHT : Field := { blk := 2, off := 0x100C, lo := 16, w := 11, acc := .ro, n := 256, st := 16, view := true }


/-! ### Block 3, TENANT (R95) -/

/-- TENANT_STATUS.CFG_REJECT. -/
def TENANT_STATUS_CFG_REJECT : Field := { blk := 3, off := 0x0000, lo := 0, w := 1, acc := .w1c }

/-- SESSIONS.OPEN. -/
def SESSIONS_OPEN : Field := { blk := 3, off := 0x0004, lo := 0, w := 16, acc := .ro, view := true }

/-- TCFG_n.EN. -/
def TCFG_EN : Field := { blk := 3, off := 0x0100, lo := 0, w := 1, acc := .rwk, rst := [1], n := 16, st := 128 }

/-- TCFG_n.IRQ_PIN. -/
def TCFG_IRQ_PIN : Field := { blk := 3, off := 0x0100, lo := 1, w := 2, acc := .rwk, n := 16, st := 128 }

/-- TCFG_n.KEY_SET. -/
def TCFG_KEY_SET : Field := { blk := 3, off := 0x0100, lo := 3, w := 1, acc := .ro, n := 16, st := 128, view := true }

/-- WIN_n.BASE. -/
def WIN_BASE : Field := { blk := 3, off := 0x0140, lo := 0, w := 12, acc := .rwk, n := 128, st := 128, m := 8, st2 := 8 }

/-- WIN_n.EN. -/
def WIN_EN : Field := { blk := 3, off := 0x0140, lo := 31, w := 1, acc := .rwk, n := 128, st := 128, m := 8, st2 := 8 }

/-- WPAGES_n.PAGES. -/
def WPAGES_PAGES : Field := { blk := 3, off := 0x0144, lo := 0, w := 13, acc := .rwk, dflt := 1, n := 128, st := 128, m := 8, st2 := 8, ok := [(1, 4096)] }

/-- KEY_n.KEY. -/
def KEY_KEY : Field := { blk := 3, off := 0x1000, lo := 0, w := 32, acc := .wo, n := 128, st := 32, m := 8, st2 := 4 }

/-- CHAN_RIGHTS_n.WRITER. -/
def CHAN_RIGHTS_WRITER : Field := { blk := 3, off := 0x2000, lo := 0, w := 4, acc := .rwk, n := 64, st := 4 }

/-- CHAN_RIGHTS_n.WRITER_EN. -/
def CHAN_RIGHTS_WRITER_EN : Field := { blk := 3, off := 0x2000, lo := 4, w := 1, acc := .rwk, n := 64, st := 4 }

/-- CHAN_RIGHTS_n.READERS. -/
def CHAN_RIGHTS_READERS : Field := { blk := 3, off := 0x2000, lo := 16, w := 16, acc := .rwk, n := 64, st := 4 }


/-! ### Block 4, ARB (R118) -/

/-- ARB_CTRL.DERATE. -/
def ARB_CTRL_DERATE : Field := { blk := 4, off := 0x0000, lo := 0, w := 8, acc := .rw, dflt := 192, ok := [(128, 255)] }

/-- ARB_CTRL.CNT_CLR. -/
def ARB_CTRL_CNT_CLR : Field := { blk := 4, off := 0x0000, lo := 8, w := 1, acc := .wo }

/-- ARB_STATUS.SHORTFALL. -/
def ARB_STATUS_SHORTFALL : Field := { blk := 4, off := 0x0004, lo := 0, w := 1, acc := .ro }

/-- ARB_STATUS.CRITICAL. -/
def ARB_STATUS_CRITICAL : Field := { blk := 4, off := 0x0004, lo := 1, w := 1, acc := .ro, view := true }

/-- ARB_STATUS.ACT_AVAIL. -/
def ARB_STATUS_ACT_AVAIL : Field := { blk := 4, off := 0x0004, lo := 2, w := 2, acc := .ro, view := true }

/-- ARB_STATUS.MARGIN. -/
def ARB_STATUS_MARGIN : Field := { blk := 4, off := 0x0004, lo := 4, w := 3, acc := .ro, dflt := 7 }

/-- MEDIA_FLOOR.RATE. -/
def MEDIA_FLOOR_RATE : Field := { blk := 4, off := 0x0008, lo := 0, w := 24, acc := .ro, view := true }

/-- MEDIA_NOW.RATE. -/
def MEDIA_NOW_RATE : Field := { blk := 4, off := 0x000C, lo := 0, w := 24, acc := .ro }

/-- RESV_SUM.RATE. -/
def RESV_SUM_RATE : Field := { blk := 4, off := 0x0010, lo := 0, w := 24, acc := .ro, view := true }

/-- ARB_MIRROR_RATE.RATE. -/
def ARB_MIRROR_RATE_RATE : Field := { blk := 4, off := 0x0014, lo := 0, w := 24, acc := .rwk }

/-- ZONE_SMIN.GRAINS. -/
def ZONE_SMIN_GRAINS : Field := { blk := 4, off := 0x0018, lo := 0, w := 16, acc := .ro }

/-- BUF_POOL_BASE.PAGE. -/
def BUF_POOL_BASE_PAGE : Field := { blk := 4, off := 0x0020, lo := 0, w := 12, acc := .rwk, dflt := 0x600 }

/-- BUF_WREG.LO. -/
def BUF_WREG_LO : Field := { blk := 4, off := 0x0024, lo := 0, w := 12, acc := .rwk, dflt := 0x100 }

/-- BUF_WREG.LAST. -/
def BUF_WREG_LAST : Field := { blk := 4, off := 0x0024, lo := 16, w := 12, acc := .rwk, dflt := 0x5FF }

/-- ARB_CFG_n.PRIO. -/
def ARB_CFG_PRIO : Field := { blk := 4, off := 0x0100, lo := 0, w := 3, acc := .rw, rst := [5, 3, 7, 7, 4, 4, 5, 4, 6, 2, 1, 3], n := 12, st := 16, ok := [(0, 6)] }

/-- ARB_CFG_n.BURST. -/
def ARB_CFG_BURST : Field := { blk := 4, off := 0x0100, lo := 8, w := 5, acc := .rw, rst := [8, 8, 4, 4, 4, 4, 8, 8, 2, 16, 16, 1], n := 12, st := 16, ok := [(1, 16)] }

/-- ARB_CFG_n.MASKED. -/
def ARB_CFG_MASKED : Field := { blk := 4, off := 0x0100, lo := 16, w := 1, acc := .ro, dflt := 1, n := 12, st := 16 }

/-- ARB_CFG_n.CUTOFF. -/
def ARB_CFG_CUTOFF : Field := { blk := 4, off := 0x0100, lo := 24, w := 8, acc := .rw, dflt := 64, n := 12, st := 16, ok := [(8, 255)] }

/-- ARB_GRANTS_n.COUNT. -/
def ARB_GRANTS_COUNT : Field := { blk := 4, off := 0x0104, lo := 0, w := 32, acc := .ro, n := 12, st := 16 }

/-- ARB_WAIT_n.CYCLES. -/
def ARB_WAIT_CYCLES : Field := { blk := 4, off := 0x0108, lo := 0, w := 32, acc := .ro, n := 12, st := 16 }

/-- ARB_STAT_n.LWAIT. -/
def ARB_STAT_LWAIT : Field := { blk := 4, off := 0x010C, lo := 0, w := 16, acc := .rc, n := 12, st := 16 }

/-- ARB_STAT_n.CUTS. -/
def ARB_STAT_CUTS : Field := { blk := 4, off := 0x010C, lo := 16, w := 16, acc := .ro, n := 12, st := 16 }

/-- SHED_CH_n.REDUCED. -/
def SHED_CH_REDUCED : Field := { blk := 4, off := 0x0200, lo := 0, w := 1, acc := .ro, n := 64, st := 4, view := true }

/-- SHED_CH_n.SHED. -/
def SHED_CH_SHED : Field := { blk := 4, off := 0x0200, lo := 1, w := 1, acc := .ro, n := 64, st := 4, view := true }

/-- SHED_CH_n.FACTOR. -/
def SHED_CH_FACTOR : Field := { blk := 4, off := 0x0200, lo := 16, w := 16, acc := .ro, dflt := 0x8000, n := 64, st := 4, view := true }

/-- SHED_BASIS_n.GRAINS. -/
def SHED_BASIS_GRAINS : Field := { blk := 4, off := 0x0300, lo := 0, w := 24, acc := .ro, n := 64, st := 4, view := true }


/-! ### Block 5, ECC (R329) -/

/-- ECC_CTRL.SCRUB_EN. -/
def ECC_CTRL_SCRUB_EN : Field := { blk := 5, off := 0x0000, lo := 0, w := 1, acc := .rw, dflt := 1 }

/-- ECC_CTRL.PERIOD. -/
def ECC_CTRL_PERIOD : Field := { blk := 5, off := 0x0000, lo := 16, w := 16, acc := .rw, dflt := 1000, ok := [(64, 65535)] }

/-- ECC_STATUS.SCRUB_PAGE. -/
def ECC_STATUS_SCRUB_PAGE : Field := { blk := 5, off := 0x0004, lo := 0, w := 12, acc := .ro }

/-- ECC_EVENTS.CE. -/
def ECC_EVENTS_CE : Field := { blk := 5, off := 0x0008, lo := 0, w := 1, acc := .w1c }

/-- ECC_EVENTS.UE. -/
def ECC_EVENTS_UE : Field := { blk := 5, off := 0x0008, lo := 1, w := 1, acc := .w1c }

/-- ECC_EVENTS.CE_OVF. -/
def ECC_EVENTS_CE_OVF : Field := { blk := 5, off := 0x0008, lo := 2, w := 1, acc := .w1c }

/-- ECC_EVENTS.UE_OVF. -/
def ECC_EVENTS_UE_OVF : Field := { blk := 5, off := 0x0008, lo := 3, w := 1, acc := .w1c }

/-- ECC_EVENTS.REPAIRED. -/
def ECC_EVENTS_REPAIRED : Field := { blk := 5, off := 0x0008, lo := 4, w := 1, acc := .w1c }

/-- ECC_EVENTS.HALT. -/
def ECC_EVENTS_HALT : Field := { blk := 5, off := 0x0008, lo := 5, w := 1, acc := .w1c }

/-- ECC_EVENTS.PASS_LATE. -/
def ECC_EVENTS_PASS_LATE : Field := { blk := 5, off := 0x0008, lo := 6, w := 1, acc := .w1c }

/-- ECC_PASSES.COUNT. -/
def ECC_PASSES_COUNT : Field := { blk := 5, off := 0x000C, lo := 0, w := 32, acc := .ro }

/-- CE_HEAD_ADDR.ENTRY. -/
def CE_HEAD_ADDR_ENTRY : Field := { blk := 5, off := 0x0010, lo := 0, w := 32, acc := .ro, view := true }

/-- CE_HEAD_INFO.ENTRY. -/
def CE_HEAD_INFO_ENTRY : Field := { blk := 5, off := 0x0014, lo := 0, w := 32, acc := .ro, view := true }

/-- CE_CTRL.POP. -/
def CE_CTRL_POP : Field := { blk := 5, off := 0x0018, lo := 0, w := 1, acc := .wo }

/-- CE_CTRL.LVL. -/
def CE_CTRL_LVL : Field := { blk := 5, off := 0x0018, lo := 16, w := 6, acc := .ro, view := true }

/-- UE_HEAD_ADDR.ENTRY. -/
def UE_HEAD_ADDR_ENTRY : Field := { blk := 5, off := 0x0020, lo := 0, w := 32, acc := .ro, view := true }

/-- UE_HEAD_INFO.ENTRY. -/
def UE_HEAD_INFO_ENTRY : Field := { blk := 5, off := 0x0024, lo := 0, w := 32, acc := .ro, view := true }

/-- UE_CTRL.POP. -/
def UE_CTRL_POP : Field := { blk := 5, off := 0x0028, lo := 0, w := 1, acc := .wo }

/-- UE_CTRL.LVL. -/
def UE_CTRL_LVL : Field := { blk := 5, off := 0x0028, lo := 16, w := 5, acc := .ro, view := true }

/-- ECC_CNT_n.CE. -/
def ECC_CNT_CE : Field := { blk := 5, off := 0x0040, lo := 0, w := 16, acc := .rc, n := 16, st := 4 }

/-- ECC_CNT_n.UE. -/
def ECC_CNT_UE : Field := { blk := 5, off := 0x0040, lo := 16, w := 16, acc := .rc, n := 16, st := 4 }

/-- ECC_HALT_CMD.CHAN. -/
def ECC_HALT_CMD_CHAN : Field := { blk := 5, off := 0x0080, lo := 0, w := 6, acc := .wo }

/-- ECC_HALT_CMD.OP. -/
def ECC_HALT_CMD_OP : Field := { blk := 5, off := 0x0080, lo := 8, w := 2, acc := .wo }

/-- ECC_HALT_CMD.SRC. -/
def ECC_HALT_CMD_SRC : Field := { blk := 5, off := 0x0080, lo := 16, w := 12, acc := .wo }

/-- ECC_HALT_RES.STATE. -/
def ECC_HALT_RES_STATE : Field := { blk := 5, off := 0x0084, lo := 0, w := 2, acc := .ro }

/-- ECC_HALT_RES.REASON. -/
def ECC_HALT_RES_REASON : Field := { blk := 5, off := 0x0084, lo := 4, w := 4, acc := .ro }

/-- ECC_HALT_SEQ_n.SEQ. -/
def ECC_HALT_SEQ_SEQ : Field := { blk := 5, off := 0x0100, lo := 0, w := 32, acc := .ro, n := 64, st := 4 }

/-- ECC_RETIRE_n.MAP. -/
def ECC_RETIRE_MAP : Field := { blk := 5, off := 0x0400, lo := 0, w := 32, acc := .rwk, n := 128, st := 4 }


/-! ### Block 6, CACHE (R314) -/

/-- CACHE_CTRL.EN. -/
def CACHE_CTRL_EN : Field := { blk := 6, off := 0x0000, lo := 0, w := 1, acc := .rwk }

/-- CACHE_NCBANK.NC. -/
def CACHE_NCBANK_NC : Field := { blk := 6, off := 0x0004, lo := 0, w := 16, acc := .rwk, dflt := 0xFFFE }

/-- CACHE_STATUS.BUSY. -/
def CACHE_STATUS_BUSY : Field := { blk := 6, off := 0x0008, lo := 0, w := 1, acc := .ro, view := true }

/-- CACHE_STATUS.DONE. -/
def CACHE_STATUS_DONE : Field := { blk := 6, off := 0x0008, lo := 1, w := 1, acc := .w1c }

/-- CACHE_STATUS.REJECT. -/
def CACHE_STATUS_REJECT : Field := { blk := 6, off := 0x0008, lo := 2, w := 1, acc := .w1c }

/-- CACHE_WAYMASK_n.MASK. -/
def CACHE_WAYMASK_MASK : Field := { blk := 6, off := 0x0010, lo := 0, w := 8, acc := .rwk, dflt := 0xFF, n := 4, st := 4, ok := [(1, 255)] }

/-- CRNG_BASE.ADDR. -/
def CRNG_BASE_ADDR : Field := { blk := 6, off := 0x0030, lo := 6, w := 26, acc := .rwk }

/-- CRNG_SIZE.BYTES. -/
def CRNG_SIZE_BYTES : Field := { blk := 6, off := 0x0034, lo := 0, w := 25, acc := .rwk }

/-- CRNG_CMD.OP. -/
def CRNG_CMD_OP : Field := { blk := 6, off := 0x0038, lo := 0, w := 3, acc := .wo }

/-- CRNG_POS.ADDR. -/
def CRNG_POS_ADDR : Field := { blk := 6, off := 0x003C, lo := 0, w := 32, acc := .ro }

/-- CACHE_CNT_HIT.COUNT. -/
def CACHE_CNT_HIT_COUNT : Field := { blk := 6, off := 0x0040, lo := 0, w := 32, acc := .ro }

/-- CACHE_CNT_MISS.COUNT. -/
def CACHE_CNT_MISS_COUNT : Field := { blk := 6, off := 0x0044, lo := 0, w := 32, acc := .ro }

/-- CACHE_CNT_WB.COUNT. -/
def CACHE_CNT_WB_COUNT : Field := { blk := 6, off := 0x0048, lo := 0, w := 32, acc := .ro }

/-- CACHE_CNT_VHIT.COUNT. -/
def CACHE_CNT_VHIT_COUNT : Field := { blk := 6, off := 0x004C, lo := 0, w := 32, acc := .ro }


/-! ### Block 7, LOOP (R192, R193) -/

/-- LOOP_CTRL.EN. -/
def LOOP_CTRL_EN : Field := { blk := 7, off := 0x0000, lo := 0, w := 3, acc := .rwk }

/-- LOOP_SWAP.MASK. -/
def LOOP_SWAP_MASK : Field := { blk := 7, off := 0x0004, lo := 0, w := 3, acc := .wo }

/-- LOOP_SWAP.CLR_NOTCH. -/
def LOOP_SWAP_CLR_NOTCH : Field := { blk := 7, off := 0x0004, lo := 3, w := 1, acc := .wo }

/-- LOOP_BANKS.ACTIVE. -/
def LOOP_BANKS_ACTIVE : Field := { blk := 7, off := 0x0008, lo := 0, w := 3, acc := .ro }

/-- LOOP_BANKS.SWAP_PEND. -/
def LOOP_BANKS_SWAP_PEND : Field := { blk := 7, off := 0x0008, lo := 3, w := 1, acc := .ro, view := true }

/-- LOOP_EVENTS.BANK_REJECT. -/
def LOOP_EVENTS_BANK_REJECT : Field := { blk := 7, off := 0x000C, lo := 0, w := 1, acc := .w1c }

/-- LOOP_EVENTS.SWAP_REJECT. -/
def LOOP_EVENTS_SWAP_REJECT : Field := { blk := 7, off := 0x000C, lo := 1, w := 1, acc := .w1c }

/-- LOOP_EVENTS.SEEK_REJECT. -/
def LOOP_EVENTS_SEEK_REJECT : Field := { blk := 7, off := 0x000C, lo := 2, w := 1, acc := .w1c }

/-- LOOP_EVENTS.SEEK_FAIL. -/
def LOOP_EVENTS_SEEK_FAIL : Field := { blk := 7, off := 0x000C, lo := 3, w := 1, acc := .w1c }

/-- LOOP_EVENTS.LOST. -/
def LOOP_EVENTS_LOST : Field := { blk := 7, off := 0x000C, lo := 4, w := 2, acc := .w1c }

/-- LOOP_EVENTS.SAT. -/
def LOOP_EVENTS_SAT : Field := { blk := 7, off := 0x000C, lo := 6, w := 2, acc := .w1c }

/-- SHK_CTRL.FF_EN. -/
def SHK_CTRL_FF_EN : Field := { blk := 7, off := 0x0010, lo := 0, w := 1, acc := .rw }

/-- SHK_CTRL.SHK_HOLD. -/
def SHK_CTRL_SHK_HOLD : Field := { blk := 7, off := 0x0010, lo := 8, w := 8, acc := .rw, dflt := 8 }

/-- SHK_CTRL.SHK_QUIET. -/
def SHK_CTRL_SHK_QUIET : Field := { blk := 7, off := 0x0010, lo := 16, w := 16, acc := .rw, dflt := 36 }

/-- SHK_LAST.PEAK. -/
def SHK_LAST_PEAK : Field := { blk := 7, off := 0x0014, lo := 0, w := 16, acc := .rc }

/-- SPD_CMD.CMD. -/
def SPD_CMD_CMD : Field := { blk := 7, off := 0x0018, lo := 0, w := 16, acc := .ro }

/-- SPD_ILIM.I_LIM_S. -/
def SPD_ILIM_I_LIM_S : Field := { blk := 7, off := 0x001C, lo := 0, w := 16, acc := .rwk, dflt := 10000 }

/-- ACT_CMD_n.CMD. -/
def ACT_CMD_CMD : Field := { blk := 7, off := 0x0100, lo := 0, w := 3, acc := .wo, n := 2, st := 256 }

/-- SEEK_TGT_n.TRACK. -/
def SEEK_TGT_TRACK : Field := { blk := 7, off := 0x0104, lo := 0, w := 20, acc := .rw, n := 2, st := 256 }

/-- SEEK_TGT_n.HEAD. -/
def SEEK_TGT_HEAD : Field := { blk := 7, off := 0x0104, lo := 20, w := 3, acc := .rw, n := 2, st := 256 }

/-- ACT_STATE_n.STATE. -/
def ACT_STATE_STATE : Field := { blk := 7, off := 0x0108, lo := 0, w := 3, acc := .ro, n := 2, st := 256 }

/-- ACT_STATE_n.MISS. -/
def ACT_STATE_MISS : Field := { blk := 7, off := 0x0108, lo := 4, w := 3, acc := .ro, n := 2, st := 256 }

/-- ACT_STATE_n.ON_TRK_RD. -/
def ACT_STATE_ON_TRK_RD : Field := { blk := 7, off := 0x0108, lo := 8, w := 1, acc := .ro, n := 2, st := 256 }

/-- ACT_STATE_n.ON_TRK_WR. -/
def ACT_STATE_ON_TRK_WR : Field := { blk := 7, off := 0x0108, lo := 9, w := 1, acc := .ro, n := 2, st := 256 }

/-- ACT_STATE_n.WINH. -/
def ACT_STATE_WINH : Field := { blk := 7, off := 0x0108, lo := 10, w := 1, acc := .ro, n := 2, st := 256 }

/-- ACT_STATE_n.SEEK_DONE. -/
def ACT_STATE_SEEK_DONE : Field := { blk := 7, off := 0x0108, lo := 11, w := 1, acc := .w1c, n := 2, st := 256 }

/-- ACT_STATE_n.LOADED. -/
def ACT_STATE_LOADED : Field := { blk := 7, off := 0x0108, lo := 12, w := 1, acc := .ro, n := 2, st := 256 }

/-- ACT_POS_n.P. -/
def ACT_POS_P : Field := { blk := 7, off := 0x010C, lo := 0, w := 32, acc := .ro, n := 2, st := 256 }

/-- ACT_PES_n.PES. -/
def ACT_PES_PES : Field := { blk := 7, off := 0x0110, lo := 0, w := 16, acc := .ro, n := 2, st := 256 }

/-- J_MAX_n.LIMIT. -/
def J_MAX_LIMIT : Field := { blk := 7, off := 0x0114, lo := 0, w := 32, acc := .rw, dflt := 262144000, n := 2, st := 256, ok := [(1, 4294967295)] }

/-- A_MAX_n.LIMIT. -/
def A_MAX_LIMIT : Field := { blk := 7, off := 0x0118, lo := 0, w := 32, acc := .rw, dflt := 52428800, n := 2, st := 256, ok := [(1, 4294967295)] }

/-- A_MAX_DUAL_n.LIMIT. -/
def A_MAX_DUAL_LIMIT : Field := { blk := 7, off := 0x011C, lo := 0, w := 32, acc := .rw, dflt := 26214400, n := 2, st := 256, ok := [(1, 4294967295)] }

/-- V_MAX_n.LIMIT. -/
def V_MAX_LIMIT : Field := { blk := 7, off := 0x0120, lo := 0, w := 32, acc := .rw, dflt := 26214400, n := 2, st := 256, ok := [(1, 4294967295)] }

/-- LIM_WR_n.WR_LIM. -/
def LIM_WR_WR_LIM : Field := { blk := 7, off := 0x0124, lo := 0, w := 12, acc := .rw, dflt := 410, n := 2, st := 256 }

/-- LIM_WR_n.WI_LIM. -/
def LIM_WR_WI_LIM : Field := { blk := 7, off := 0x0124, lo := 16, w := 12, acc := .rw, dflt := 614, n := 2, st := 256 }

/-- LIM_RD_n.RD_LIM. -/
def LIM_RD_RD_LIM : Field := { blk := 7, off := 0x0128, lo := 0, w := 12, acc := .rw, dflt := 819, n := 2, st := 256 }

/-- LIM_RD_n.SETTLE_LIM. -/
def LIM_RD_SETTLE_LIM : Field := { blk := 7, off := 0x0128, lo := 16, w := 12, acc := .rw, dflt := 410, n := 2, st := 256 }

/-- COUNTS_n.WR_N. -/
def COUNTS_WR_N : Field := { blk := 7, off := 0x012C, lo := 0, w := 4, acc := .rw, dflt := 4, n := 2, st := 256, ok := [(1, 15)] }

/-- COUNTS_n.SETTLE_N. -/
def COUNTS_SETTLE_N : Field := { blk := 7, off := 0x012C, lo := 4, w := 4, acc := .rw, dflt := 8, n := 2, st := 256, ok := [(1, 15)] }

/-- COUNTS_n.ACQ_N. -/
def COUNTS_ACQ_N : Field := { blk := 7, off := 0x012C, lo := 8, w := 4, acc := .rw, dflt := 8, n := 2, st := 256, ok := [(1, 15)] }

/-- COUNTS_n.SEEK_TMO. -/
def COUNTS_SEEK_TMO : Field := { blk := 7, off := 0x012C, lo := 16, w := 16, acc := .rw, dflt := 1800, n := 2, st := 256, ok := [(1, 65535)] }

/-- WINDOW_n.SV_WIN. -/
def WINDOW_SV_WIN : Field := { blk := 7, off := 0x0130, lo := 0, w := 5, acc := .rw, dflt := 4, n := 2, st := 256 }

/-- WINDOW_n.SV_WIN_LOST. -/
def WINDOW_SV_WIN_LOST : Field := { blk := 7, off := 0x0130, lo := 8, w := 5, acc := .rw, dflt := 16, n := 2, st := 256 }

/-- WINDOW_n.MISS_DEV. -/
def WINDOW_MISS_DEV : Field := { blk := 7, off := 0x0130, lo := 16, w := 16, acc := .rw, dflt := 32, n := 2, st := 256 }

/-- I_LIM_n.I_LIM. -/
def I_LIM_I_LIM : Field := { blk := 7, off := 0x0134, lo := 0, w := 15, acc := .rwk, dflt := 30000, n := 2, st := 256 }

/-- JOG_n.JOG. -/
def JOG_JOG : Field := { blk := 7, off := 0x0138, lo := 0, w := 12, acc := .rw, dflt := 328, n := 2, st := 256 }

/-- LOST_TMO_n.US. -/
def LOST_TMO_US : Field := { blk := 7, off := 0x013C, lo := 0, w := 16, acc := .rw, dflt := 20000, n := 2, st := 256 }

/-- CNT_MISS_n.COUNT. -/
def CNT_MISS_COUNT : Field := { blk := 7, off := 0x0140, lo := 0, w := 32, acc := .ro, n := 2, st := 256 }

/-- CNT_LOST_n.COUNT. -/
def CNT_LOST_COUNT : Field := { blk := 7, off := 0x0144, lo := 0, w := 32, acc := .ro, n := 2, st := 256 }

/-- CNT_SAT_n.COUNT. -/
def CNT_SAT_COUNT : Field := { blk := 7, off := 0x0148, lo := 0, w := 32, acc := .ro, n := 2, st := 256 }

/-- COEF_n.WORD. -/
def COEF_WORD : Field := { blk := 7, off := 0x1000, lo := 0, w := 32, acc := .rwk, n := 216, st := 512, m := 36, st2 := 4 }


/-! ### Block 8, SPINDLE (R212) -/

/-- SPN_CMD.CMD. -/
def SPN_CMD_CMD : Field := { blk := 8, off := 0x0000, lo := 0, w := 3, acc := .wo }

/-- SPN_CMD.DIR. -/
def SPN_CMD_DIR : Field := { blk := 8, off := 0x0000, lo := 4, w := 1, acc := .wo }

/-- SPN_CMD.AUTO_START. -/
def SPN_CMD_AUTO_START : Field := { blk := 8, off := 0x0000, lo := 5, w := 1, acc := .wo }

/-- SPN_STATE.STATE. -/
def SPN_STATE_STATE : Field := { blk := 8, off := 0x0004, lo := 0, w := 4, acc := .ro }

/-- SPN_STATE.AT_SPEED. -/
def SPN_STATE_AT_SPEED : Field := { blk := 8, off := 0x0004, lo := 4, w := 1, acc := .ro }

/-- SPN_STATE.HANDED. -/
def SPN_STATE_HANDED : Field := { blk := 8, off := 0x0004, lo := 5, w := 1, acc := .ro }

/-- SPN_STATE.HEATING. -/
def SPN_STATE_HEATING : Field := { blk := 8, off := 0x0004, lo := 6, w := 1, acc := .ro }

/-- SPN_STATE.DIR_NOW. -/
def SPN_STATE_DIR_NOW : Field := { blk := 8, off := 0x0004, lo := 7, w := 1, acc := .ro }

/-- SPN_STATE.DET. -/
def SPN_STATE_DET : Field := { blk := 8, off := 0x0004, lo := 8, w := 2, acc := .ro }

/-- SPN_STATE.TRY. -/
def SPN_STATE_TRY : Field := { blk := 8, off := 0x0004, lo := 12, w := 3, acc := .ro }

/-- SPN_NSET.RPM. -/
def SPN_NSET_RPM : Field := { blk := 8, off := 0x0008, lo := 0, w := 13, acc := .rwk, dflt := 5400, ok := [(3600, 7200)] }

/-- SPN_CAP.RPM. -/
def SPN_CAP_RPM : Field := { blk := 8, off := 0x000C, lo := 0, w := 13, acc := .ro, dflt := 7200 }

/-- SPN_EST.RPM8. -/
def SPN_EST_RPM8 : Field := { blk := 8, off := 0x0010, lo := 0, w := 16, acc := .ro }

/-- SPN_EVENTS.CMD_REJECT. -/
def SPN_EVENTS_CMD_REJECT : Field := { blk := 8, off := 0x0014, lo := 0, w := 1, acc := .w1c }

/-- SPN_EVENTS.REV_REJECT. -/
def SPN_EVENTS_REV_REJECT : Field := { blk := 8, off := 0x0014, lo := 1, w := 1, acc := .w1c }

/-- SPN_EVENTS.START_FAIL. -/
def SPN_EVENTS_START_FAIL : Field := { blk := 8, off := 0x0014, lo := 2, w := 1, acc := .w1c }

/-- SPN_EVENTS.REV_KICK. -/
def SPN_EVENTS_REV_KICK : Field := { blk := 8, off := 0x0014, lo := 3, w := 1, acc := .w1c }

/-- SPN_EVENTS.COMM_LOST. -/
def SPN_EVENTS_COMM_LOST : Field := { blk := 8, off := 0x0014, lo := 4, w := 1, acc := .w1c }

/-- SPN_EVENTS.CAUGHT. -/
def SPN_EVENTS_CAUGHT : Field := { blk := 8, off := 0x0014, lo := 5, w := 1, acc := .w1c }

/-- SPN_EVENTS.HEAT_TIMEOUT. -/
def SPN_EVENTS_HEAT_TIMEOUT : Field := { blk := 8, off := 0x0014, lo := 6, w := 1, acc := .w1c }

/-- SPN_EVENTS.AT_SPEED_UP. -/
def SPN_EVENTS_AT_SPEED_UP : Field := { blk := 8, off := 0x0014, lo := 7, w := 1, acc := .w1c }

/-- SPN_MOTOR.POLE_PAIRS. -/
def SPN_MOTOR_POLE_PAIRS : Field := { blk := 8, off := 0x0018, lo := 0, w := 4, acc := .rwk, dflt := 4, ok := [(1, 12)] }

/-- SPN_MOTOR.NARROW. -/
def SPN_MOTOR_NARROW : Field := { blk := 8, off := 0x0018, lo := 4, w := 1, acc := .rwk }

/-- SPN_MOTOR.SKIP_MAX. -/
def SPN_MOTOR_SKIP_MAX : Field := { blk := 8, off := 0x0018, lo := 8, w := 4, acc := .rwk, dflt := 6, ok := [(1, 15)] }

/-- SPN_MOTOR.ADV. -/
def SPN_MOTOR_ADV : Field := { blk := 8, off := 0x0018, lo := 16, w := 8, acc := .rwk }

/-- SPN_DET.DET_MS. -/
def SPN_DET_DET_MS : Field := { blk := 8, off := 0x001C, lo := 0, w := 8, acc := .rwk, dflt := 20 }

/-- SPN_DET.DET_MV. -/
def SPN_DET_DET_MV : Field := { blk := 8, off := 0x001C, lo := 8, w := 12, acc := .rwk, dflt := 30 }

/-- SPN_DET.CATCH_MIN. -/
def SPN_DET_CATCH_MIN : Field := { blk := 8, off := 0x001C, lo := 20, w := 12, acc := .rwk, dflt := 300 }

/-- SPN_THR.HANDOFF_RPM. -/
def SPN_THR_HANDOFF_RPM : Field := { blk := 8, off := 0x0020, lo := 0, w := 13, acc := .rwk, dflt := 1500 }

/-- SPN_THR.UNLOAD_RPM. -/
def SPN_THR_UNLOAD_RPM : Field := { blk := 8, off := 0x0020, lo := 16, w := 13, acc := .rwk, dflt := 2000 }

/-- SPN_THR2.REV_MAX_RPM. -/
def SPN_THR2_REV_MAX_RPM : Field := { blk := 8, off := 0x0024, lo := 0, w := 8, acc := .rwk, dflt := 30 }

/-- SPN_THR2.AT_N. -/
def SPN_THR2_AT_N : Field := { blk := 8, off := 0x0024, lo := 8, w := 16, acc := .rwk, dflt := 360 }

/-- SPN_IPD.IPD_I. -/
def SPN_IPD_IPD_I : Field := { blk := 8, off := 0x0028, lo := 0, w := 16, acc := .rwk, dflt := 4000 }

/-- SPN_IPD.IPD_TMAX. -/
def SPN_IPD_IPD_TMAX : Field := { blk := 8, off := 0x0028, lo := 16, w := 8, acc := .rwk, dflt := 40 }

/-- SPN_IPD.IPD_MARGIN. -/
def SPN_IPD_IPD_MARGIN : Field := { blk := 8, off := 0x0028, lo := 24, w := 8, acc := .rwk, dflt := 3 }

/-- SPN_IPD2.IPD_GAP. -/
def SPN_IPD2_IPD_GAP : Field := { blk := 8, off := 0x002C, lo := 0, w := 16, acc := .rwk, dflt := 200 }

/-- SPN_IRUN.RAMP_I. -/
def SPN_IRUN_RAMP_I : Field := { blk := 8, off := 0x0030, lo := 0, w := 16, acc := .rwk, dflt := 5000 }

/-- SPN_IRUN.SYNC_I. -/
def SPN_IRUN_SYNC_I : Field := { blk := 8, off := 0x0030, lo := 16, w := 16, acc := .rwk, dflt := 7500 }

/-- SPN_IBRK.BRAKE_I. -/
def SPN_IBRK_BRAKE_I : Field := { blk := 8, off := 0x0034, lo := 0, w := 16, acc := .rwk, dflt := 5000 }

/-- SPN_IBRK.STOP_I. -/
def SPN_IBRK_STOP_I : Field := { blk := 8, off := 0x0034, lo := 16, w := 16, acc := .rwk, dflt := 5000 }

/-- SPN_START.RAMP_T0. -/
def SPN_START_RAMP_T0 : Field := { blk := 8, off := 0x0038, lo := 0, w := 8, acc := .rwk, dflt := 20, ok := [(1, 255)] }

/-- SPN_START.SYNC_N. -/
def SPN_START_SYNC_N : Field := { blk := 8, off := 0x0038, lo := 8, w := 4, acc := .rwk, dflt := 12, ok := [(4, 15)] }

/-- SPN_START.START_TRIES. -/
def SPN_START_START_TRIES : Field := { blk := 8, off := 0x0038, lo := 12, w := 4, acc := .rwk, dflt := 3, ok := [(1, 7)] }

/-- SPN_START.START_TMO. -/
def SPN_START_START_TMO : Field := { blk := 8, off := 0x0038, lo := 16, w := 16, acc := .rwk, dflt := 2000, ok := [(1, 65535)] }

/-- SPN_START2.START_GAP. -/
def SPN_START2_START_GAP : Field := { blk := 8, off := 0x003C, lo := 0, w := 16, acc := .rwk, dflt := 500 }

/-- SPN_START2.KICK_BRAKE_MS. -/
def SPN_START2_KICK_BRAKE_MS : Field := { blk := 8, off := 0x003C, lo := 16, w := 8, acc := .rwk, dflt := 50 }

/-- SPN_START2.FAIL_PAUSE. -/
def SPN_START2_FAIL_PAUSE : Field := { blk := 8, off := 0x003C, lo := 24, w := 8, acc := .rwk, dflt := 10 }

/-- SPN_BRK.BRAKE_TMO. -/
def SPN_BRK_BRAKE_TMO : Field := { blk := 8, off := 0x0040, lo := 0, w := 16, acc := .rwk, dflt := 10000 }

/-- SPN_BEMF.BLANK. -/
def SPN_BEMF_BLANK : Field := { blk := 8, off := 0x0044, lo := 0, w := 8, acc := .rwk, dflt := 100 }

/-- SPN_BEMF.WMIN. -/
def SPN_BEMF_WMIN : Field := { blk := 8, off := 0x0044, lo := 8, w := 8, acc := .rwk, dflt := 60 }

/-- SPN_HEAT.HEAT_I. -/
def SPN_HEAT_HEAT_I : Field := { blk := 8, off := 0x0048, lo := 0, w := 16, acc := .rwk, dflt := 6000 }

/-- SPN_HEAT.HEAT_TGT. -/
def SPN_HEAT_HEAT_TGT : Field := { blk := 8, off := 0x0048, lo := 16, w := 8, acc := .rwk }

/-- SPN_HEAT.HOLD_END. -/
def SPN_HEAT_HOLD_END : Field := { blk := 8, off := 0x0048, lo := 24, w := 7, acc := .rwk, dflt := 75, ok := [(10, 100)] }

/-- SPN_HEAT2.HEAT_MAX. -/
def SPN_HEAT2_HEAT_MAX : Field := { blk := 8, off := 0x004C, lo := 0, w := 16, acc := .rwk, dflt := 120 }

/-- WIND_RREF.R. -/
def WIND_RREF_R : Field := { blk := 8, off := 0x0050, lo := 0, w := 16, acc := .rwk }

/-- WIND.R. -/
def WIND_R : Field := { blk := 8, off := 0x0054, lo := 0, w := 16, acc := .ro }

/-- WIND.T. -/
def WIND_T : Field := { blk := 8, off := 0x0054, lo := 16, w := 16, acc := .ro }

/-- CNT_START.COUNT. -/
def CNT_START_COUNT : Field := { blk := 8, off := 0x0060, lo := 0, w := 32, acc := .ro }

/-- CNT_RETRY.COUNT. -/
def CNT_RETRY_COUNT : Field := { blk := 8, off := 0x0064, lo := 0, w := 32, acc := .ro }

/-- CNT_SKIP.COUNT. -/
def CNT_SKIP_COUNT : Field := { blk := 8, off := 0x0068, lo := 0, w := 32, acc := .ro }

/-- CNT_DIST.COUNT. -/
def CNT_DIST_COUNT : Field := { blk := 8, off := 0x006C, lo := 0, w := 32, acc := .ro }

/-- CNT_COMM_LOST.COUNT. -/
def CNT_COMM_LOST_COUNT : Field := { blk := 8, off := 0x0070, lo := 0, w := 32, acc := .ro }


/-! ### Block 9, RWC (R168) -/

/-- RWC_CTRL_n.EN. -/
def RWC_CTRL_EN : Field := { blk := 9, off := 0x0000, lo := 0, w := 1, acc := .rwk, n := 2, st := 65536 }

/-- RWC_CTRL_n.WR_BATCH. -/
def RWC_CTRL_WR_BATCH : Field := { blk := 9, off := 0x0000, lo := 8, w := 8, acc := .rw, dflt := 64, n := 2, st := 65536, ok := [(1, 255)] }

/-- RWC_STATUS_n.ZONE. -/
def RWC_STATUS_ZONE : Field := { blk := 9, off := 0x0004, lo := 0, w := 5, acc := .ro, n := 2, st := 65536 }

/-- RWC_STATUS_n.HEAD. -/
def RWC_STATUS_HEAD : Field := { blk := 9, off := 0x0004, lo := 5, w := 3, acc := .ro, n := 2, st := 65536, view := true }

/-- RWC_STATUS_n.WG. -/
def RWC_STATUS_WG : Field := { blk := 9, off := 0x0004, lo := 8, w := 1, acc := .ro, n := 2, st := 65536, view := true }

/-- RWC_STATUS_n.RG. -/
def RWC_STATUS_RG : Field := { blk := 9, off := 0x0004, lo := 9, w := 1, acc := .ro, n := 2, st := 65536, view := true }

/-- RWC_STATUS_n.HOLD. -/
def RWC_STATUS_HOLD : Field := { blk := 9, off := 0x0004, lo := 10, w := 1, acc := .ro, n := 2, st := 65536, view := true }

/-- RWC_WAGE_n.US. -/
def RWC_WAGE_US : Field := { blk := 9, off := 0x0008, lo := 0, w := 32, acc := .rw, dflt := 20000, n := 2, st := 65536 }

/-- RWC_LADDER_n.STEP_EN. -/
def RWC_LADDER_STEP_EN : Field := { blk := 9, off := 0x000C, lo := 1, w := 6, acc := .rw, dflt := 63, n := 2, st := 65536 }

/-- RWC_LADDER_n.ITER_N. -/
def RWC_LADDER_ITER_N : Field := { blk := 9, off := 0x000C, lo := 8, w := 8, acc := .rw, dflt := 12, n := 2, st := 65536, ok := [(4, 64)] }

/-- RWC_LADDER_n.ITER_MAX. -/
def RWC_LADDER_ITER_MAX : Field := { blk := 9, off := 0x000C, lo := 16, w := 8, acc := .rw, dflt := 48, n := 2, st := 65536, ok := [(4, 64)] }

/-- RWC_EVENTS_n.TEAR. -/
def RWC_EVENTS_TEAR : Field := { blk := 9, off := 0x0010, lo := 0, w := 1, acc := .w1c, n := 2, st := 65536 }

/-- RWC_EVENTS_n.UNREADABLE. -/
def RWC_EVENTS_UNREADABLE : Field := { blk := 9, off := 0x0010, lo := 1, w := 1, acc := .w1c, n := 2, st := 65536 }

/-- RWC_EVENTS_n.PREAMP_FAULT. -/
def RWC_EVENTS_PREAMP_FAULT : Field := { blk := 9, off := 0x0010, lo := 2, w := 1, acc := .w1c, n := 2, st := 65536 }

/-- RWC_TEAR_LAST_n.CAUSE. -/
def RWC_TEAR_LAST_CAUSE : Field := { blk := 9, off := 0x0014, lo := 0, w := 3, acc := .ro, n := 2, st := 65536 }

/-- RWC_TEAR_LAST_n.PLACE_BUSHEL. -/
def RWC_TEAR_LAST_PLACE_BUSHEL : Field := { blk := 9, off := 0x0014, lo := 8, w := 24, acc := .ro, n := 2, st := 65536 }

/-- RWC_CNT_WR_n.COUNT. -/
def RWC_CNT_WR_COUNT : Field := { blk := 9, off := 0x0020, lo := 0, w := 32, acc := .ro, n := 2, st := 65536 }

/-- RWC_CNT_RD_n.COUNT. -/
def RWC_CNT_RD_COUNT : Field := { blk := 9, off := 0x0024, lo := 0, w := 32, acc := .ro, n := 2, st := 65536 }

/-- RWC_CNT_TEAR_n.COUNT. -/
def RWC_CNT_TEAR_COUNT : Field := { blk := 9, off := 0x0028, lo := 0, w := 32, acc := .ro, n := 2, st := 65536 }

/-- RWC_CNT_FAIL_n.COUNT. -/
def RWC_CNT_FAIL_COUNT : Field := { blk := 9, off := 0x002C, lo := 0, w := 32, acc := .ro, n := 2, st := 65536 }

/-- RWC_CNT_STEP_n.COUNT. -/
def RWC_CNT_STEP_COUNT : Field := { blk := 9, off := 0x0040, lo := 0, w := 32, acc := .ro, n := 14, st := 65536, m := 7, st2 := 4 }

/-- RWC_SR_LOC_n.HEAD. -/
def RWC_SR_LOC_HEAD : Field := { blk := 9, off := 0x0060, lo := 0, w := 3, acc := .rw, n := 2, st := 65536 }

/-- RWC_SR_LOC_n.TRACK. -/
def RWC_SR_LOC_TRACK : Field := { blk := 9, off := 0x0060, lo := 4, w := 20, acc := .rw, n := 2, st := 65536 }

/-- RWC_SR_SECT_n.SECTOR. -/
def RWC_SR_SECT_SECTOR : Field := { blk := 9, off := 0x0064, lo := 0, w := 10, acc := .rw, n := 2, st := 65536 }

/-- RWC_SR_DEST_n.OFFSET. -/
def RWC_SR_DEST_OFFSET : Field := { blk := 9, off := 0x0068, lo := 5, w := 19, acc := .rw, n := 2, st := 65536 }

/-- RWC_SR_CMD_n.GO. -/
def RWC_SR_CMD_GO : Field := { blk := 9, off := 0x006C, lo := 0, w := 1, acc := .wo, n := 2, st := 65536 }

/-- RWC_SR_STAT_n.BUSY. -/
def RWC_SR_STAT_BUSY : Field := { blk := 9, off := 0x0070, lo := 0, w := 1, acc := .ro, n := 2, st := 65536 }

/-- RWC_SR_STAT_n.DONE. -/
def RWC_SR_STAT_DONE : Field := { blk := 9, off := 0x0070, lo := 1, w := 1, acc := .w1c, n := 2, st := 65536 }

/-- RWC_SR_STAT_n.REJECT. -/
def RWC_SR_STAT_REJECT : Field := { blk := 9, off := 0x0070, lo := 2, w := 1, acc := .w1c, n := 2, st := 65536 }

/-- RWC_SR_STAT_n.CLASS. -/
def RWC_SR_STAT_CLASS : Field := { blk := 9, off := 0x0070, lo := 4, w := 2, acc := .ro, n := 2, st := 65536 }

/-- RWC_SR_STAT_n.STEP. -/
def RWC_SR_STAT_STEP : Field := { blk := 9, off := 0x0070, lo := 8, w := 3, acc := .ro, n := 2, st := 65536 }


/-! ### Block 11, CHAIN (R169) -/

/-- CHN_CTRL.EN. -/
def CHN_CTRL_EN : Field := { blk := 11, off := 0x0000, lo := 0, w := 1, acc := .rwk }

/-- CHN_STATUS.LOCK. -/
def CHN_STATUS_LOCK : Field := { blk := 11, off := 0x0004, lo := 0, w := 1, acc := .ro }

/-- CHN_STATUS.HOLDOVER. -/
def CHN_STATUS_HOLDOVER : Field := { blk := 11, off := 0x0004, lo := 1, w := 1, acc := .ro }

/-- CHN_ANGLE.MARK. -/
def CHN_ANGLE_MARK : Field := { blk := 11, off := 0x0008, lo := 0, w := 16, acc := .ro }

/-- CHN_ANGLE.REVS. -/
def CHN_ANGLE_REVS : Field := { blk := 11, off := 0x0008, lo := 16, w := 16, acc := .ro, view := true }

/-- CHN_FWD_LO.FWD. -/
def CHN_FWD_LO_FWD : Field := { blk := 11, off := 0x000C, lo := 0, w := 32, acc := .ro, view := true }

/-- CHN_FWD_HI.FWD. -/
def CHN_FWD_HI_FWD : Field := { blk := 11, off := 0x0010, lo := 0, w := 8, acc := .ro, view := true }

/-- CHN_RPM.RPM8. -/
def CHN_RPM_RPM8 : Field := { blk := 11, off := 0x0014, lo := 0, w := 16, acc := .ro }

/-- CHN_EVENTS.STALL. -/
def CHN_EVENTS_STALL : Field := { blk := 11, off := 0x0018, lo := 0, w := 1, acc := .w1c }

/-- CHN_EVENTS.REVERSAL. -/
def CHN_EVENTS_REVERSAL : Field := { blk := 11, off := 0x0018, lo := 1, w := 1, acc := .w1c }

/-- CHN_EVENTS.RELOCK. -/
def CHN_EVENTS_RELOCK : Field := { blk := 11, off := 0x0018, lo := 2, w := 1, acc := .w1c }

/-- CHN_EVENTS.ZT_REJECT. -/
def CHN_EVENTS_ZT_REJECT : Field := { blk := 11, off := 0x0018, lo := 3, w := 1, acc := .w1c }

/-- CHN_EVENTS.MAP_REJECT. -/
def CHN_EVENTS_MAP_REJECT : Field := { blk := 11, off := 0x0018, lo := 4, w := 1, acc := .w1c }

/-- CHN_EVENTS.AEV_CANCEL. -/
def CHN_EVENTS_AEV_CANCEL : Field := { blk := 11, off := 0x0018, lo := 5, w := 1, acc := .w1c }

/-- CHN_EVENTS.MISCOUNT. -/
def CHN_EVENTS_MISCOUNT : Field := { blk := 11, off := 0x0018, lo := 6, w := 1, acc := .w1c }

/-- SERVO_GEOM.N_W. -/
def SERVO_GEOM_N_W : Field := { blk := 11, off := 0x0020, lo := 0, w := 10, acc := .rwk, dflt := 400, ok := [(128, 512)] }

/-- SERVO_GEOM.W_LEN. -/
def SERVO_GEOM_W_LEN : Field := { blk := 11, off := 0x0020, lo := 16, w := 5, acc := .rwk, dflt := 12, ok := [(8, 31)] }

/-- SECT_FMT.PRE_16. -/
def SECT_FMT_PRE_16 : Field := { blk := 11, off := 0x0024, lo := 0, w := 4, acc := .rwk, dflt := 4, ok := [(0, 0), (2, 15)] }

/-- SECT_FMT.DRAM_16. -/
def SECT_FMT_DRAM_16 : Field := { blk := 11, off := 0x0024, lo := 4, w := 4, acc := .rwk, dflt := 2, ok := [(1, 8)] }

/-- SECT_FMT.SYNC_TOL. -/
def SECT_FMT_SYNC_TOL : Field := { blk := 11, off := 0x0024, lo := 8, w := 8, acc := .rwk, dflt := 8 }

/-- SECT_FMT.SYNC_TOL_W. -/
def SECT_FMT_SYNC_TOL_W : Field := { blk := 11, off := 0x0024, lo := 16, w := 8, acc := .rwk, dflt := 32 }

/-- SECT_FMT.RES_TOL. -/
def SECT_FMT_RES_TOL : Field := { blk := 11, off := 0x0024, lo := 24, w := 4, acc := .rwk, dflt := 4 }

/-- SECT_FMT.SYNC_ERR. -/
def SECT_FMT_SYNC_ERR : Field := { blk := 11, off := 0x0024, lo := 28, w := 3, acc := .rwk, dflt := 2, ok := [(0, 4)] }

/-- CHN_WMIN.RPM. -/
def CHN_WMIN_RPM : Field := { blk := 11, off := 0x0028, lo := 0, w := 13, acc := .rwk, dflt := 2400, ok := [(1800, 3600)] }

/-- TRACKS.COUNT. -/
def TRACKS_COUNT : Field := { blk := 11, off := 0x002C, lo := 0, w := 20, acc := .rwk }

/-- TABLE_APPLY.APPLY. -/
def TABLE_APPLY_APPLY : Field := { blk := 11, off := 0x0030, lo := 0, w := 1, acc := .wo }

/-- TABLE_STATUS.OK. -/
def TABLE_STATUS_OK : Field := { blk := 11, off := 0x0034, lo := 0, w := 1, acc := .ro }

/-- TABLE_STATUS.FAIL_CAUSE. -/
def TABLE_STATUS_FAIL_CAUSE : Field := { blk := 11, off := 0x0034, lo := 4, w := 4, acc := .ro }

/-- TABLE_STATUS.FAIL_ZONE. -/
def TABLE_STATUS_FAIL_ZONE : Field := { blk := 11, off := 0x0034, lo := 8, w := 5, acc := .ro }

/-- TABLE_STATUS.FAIL_CODE. -/
def TABLE_STATUS_FAIL_CODE : Field := { blk := 11, off := 0x0034, lo := 16, w := 2, acc := .ro }

/-- TABLE_STATUS.FAIL_BUSHEL. -/
def TABLE_STATUS_FAIL_BUSHEL : Field := { blk := 11, off := 0x0034, lo := 19, w := 13, acc := .ro }

/-- ZONE0_n.FIRST_TRACK. -/
def ZONE0_FIRST_TRACK : Field := { blk := 11, off := 0x1000, lo := 0, w := 20, acc := .rwk, n := 32, st := 16 }

/-- ZONE0_n.EN. -/
def ZONE0_EN : Field := { blk := 11, off := 0x1000, lo := 31, w := 1, acc := .rwk, n := 32, st := 16 }

/-- ZONE1_n.M. -/
def ZONE1_M : Field := { blk := 11, off := 0x1004, lo := 0, w := 9, acc := .rwk, n := 32, st := 16 }

/-- ZONE1_n.CODE. -/
def ZONE1_CODE : Field := { blk := 11, off := 0x1004, lo := 12, w := 2, acc := .rwk, n := 32, st := 16 }

/-- ZONE2_n.S. -/
def ZONE2_S : Field := { blk := 11, off := 0x1008, lo := 0, w := 10, acc := .rwk, n := 32, st := 16 }

/-- ZONE2_n.SKEW. -/
def ZONE2_SKEW : Field := { blk := 11, off := 0x1008, lo := 16, w := 10, acc := .rwk, n := 32, st := 16 }

/-- CODE_DESC_n.LOG2Z. -/
def CODE_DESC_LOG2Z : Field := { blk := 11, off := 0x1210, lo := 0, w := 2, acc := .rwk, n := 3, st := 16 }

/-- CODE_DESC_n.K_B. -/
def CODE_DESC_K_B : Field := { blk := 11, off := 0x1210, lo := 4, w := 10, acc := .rwk, n := 3, st := 16 }

/-- CODE_DESC_n.M_B. -/
def CODE_DESC_M_B : Field := { blk := 11, off := 0x1210, lo := 16, w := 5, acc := .rwk, n := 3, st := 16 }

/-- CODE_DESC_n.E. -/
def CODE_DESC_E : Field := { blk := 11, off := 0x1210, lo := 21, w := 11, acc := .rwk, n := 3, st := 16 }

/-- OFS_n.OFS. -/
def OFS_OFS : Field := { blk := 11, off := 0x2000, lo := 0, w := 24, acc := .rwk, n := 256, st := 4 }

/-- CODE_ENT_n.ROW. -/
def CODE_ENT_ROW : Field := { blk := 11, off := 0x4000, lo := 0, w := 5, acc := .rwk, n := 3072, st := 4096, m := 1024, st2 := 4 }

/-- CODE_ENT_n.COL. -/
def CODE_ENT_COL : Field := { blk := 11, off := 0x4000, lo := 5, w := 10, acc := .rwk, n := 3072, st := 4096, m := 1024, st2 := 4 }

/-- CODE_ENT_n.SHIFT. -/
def CODE_ENT_SHIFT : Field := { blk := 11, off := 0x4000, lo := 16, w := 9, acc := .rwk, n := 3072, st := 4096, m := 1024, st2 := 4 }

/-- AEV0_n.TARGET_LO. -/
def AEV0_TARGET_LO : Field := { blk := 11, off := 0x7000, lo := 0, w := 32, acc := .rw, n := 16, st := 16 }

/-- AEV1_n.TARGET_HI. -/
def AEV1_TARGET_HI : Field := { blk := 11, off := 0x7004, lo := 0, w := 8, acc := .rw, n := 16, st := 16 }

/-- AEV1_n.CORES. -/
def AEV1_CORES : Field := { blk := 11, off := 0x7004, lo := 8, w := 4, acc := .rw, n := 16, st := 16 }

/-- AEV1_n.ARM. -/
def AEV1_ARM : Field := { blk := 11, off := 0x7004, lo := 16, w := 1, acc := .rw, n := 16, st := 16 }

/-- AEV1_n.STATE. -/
def AEV1_STATE : Field := { blk := 11, off := 0x7004, lo := 17, w := 2, acc := .ro, n := 16, st := 16 }

/-- AEV1_n.LATE. -/
def AEV1_LATE : Field := { blk := 11, off := 0x7004, lo := 19, w := 1, acc := .ro, n := 16, st := 16 }

/-- AEV2_n.DMT_LO. -/
def AEV2_DMT_LO : Field := { blk := 11, off := 0x7008, lo := 0, w := 32, acc := .ro, n := 16, st := 16 }

/-- AEV3_n.DMT_HI. -/
def AEV3_DMT_HI : Field := { blk := 11, off := 0x700C, lo := 0, w := 16, acc := .ro, n := 16, st := 16 }

/-- BMAP_n.HEAD. -/
def BMAP_HEAD : Field := { blk := 11, off := 0x8000, lo := 0, w := 3, acc := .rwk, n := 8192, st := 4 }

/-- BMAP_n.ZONE. -/
def BMAP_ZONE : Field := { blk := 11, off := 0x8000, lo := 3, w := 5, acc := .rwk, n := 8192, st := 4 }

/-- BMAP_n.START_TRACK. -/
def BMAP_START_TRACK : Field := { blk := 11, off := 0x8000, lo := 8, w := 20, acc := .rwk, n := 8192, st := 4 }

/-- BMAP_n.VALID. -/
def BMAP_VALID : Field := { blk := 11, off := 0x8000, lo := 31, w := 1, acc := .rwk, n := 8192, st := 4 }


/-! ### Block 12, LEDGER (R142) -/

/-- LDG_CTRL.EN. -/
def LDG_CTRL_EN : Field := { blk := 12, off := 0x0000, lo := 0, w := 1, acc := .rwk }

/-- LDG_CTRL.TEAR_RSV. -/
def LDG_CTRL_TEAR_RSV : Field := { blk := 12, off := 0x0000, lo := 8, w := 5, acc := .rwk, dflt := 16, ok := [(1, 16)] }

/-- LDG_STATUS.KEY_READY. -/
def LDG_STATUS_KEY_READY : Field := { blk := 12, off := 0x0004, lo := 0, w := 1, acc := .ro, view := true }

/-- LDG_STATUS.SCAN_BUSY. -/
def LDG_STATUS_SCAN_BUSY : Field := { blk := 12, off := 0x0004, lo := 1, w := 1, acc := .ro, view := true }

/-- BFREE_PUSH.BUSHEL. -/
def BFREE_PUSH_BUSHEL : Field := { blk := 12, off := 0x0008, lo := 0, w := 32, acc := .wo }

/-- BFREE_LVL.A. -/
def BFREE_LVL_A : Field := { blk := 12, off := 0x000C, lo := 0, w := 5, acc := .ro, view := true }

/-- BFREE_LVL.B. -/
def BFREE_LVL_B : Field := { blk := 12, off := 0x000C, lo := 16, w := 5, acc := .ro, view := true }

/-- LDG_EVENTS.NO_BUSHEL. -/
def LDG_EVENTS_NO_BUSHEL : Field := { blk := 12, off := 0x0010, lo := 0, w := 1, acc := .w1c }

/-- LDG_EVENTS.CHAIN_BREAK. -/
def LDG_EVENTS_CHAIN_BREAK : Field := { blk := 12, off := 0x0010, lo := 1, w := 1, acc := .w1c }

/-- LDG_EVENTS.SREC_REJECT. -/
def LDG_EVENTS_SREC_REJECT : Field := { blk := 12, off := 0x0010, lo := 2, w := 1, acc := .w1c }

/-- LDG_PUBKEY_n.KEY. -/
def LDG_PUBKEY_KEY : Field := { blk := 12, off := 0x0020, lo := 0, w := 32, acc := .ro, n := 16, st := 4, view := true }

/-- LDG_SYS.BUSHEL. -/
def LDG_SYS_BUSHEL : Field := { blk := 12, off := 0x0060, lo := 0, w := 1, acc := .rwk }

/-- LDG_SYS.PLACE. -/
def LDG_SYS_PLACE : Field := { blk := 12, off := 0x0060, lo := 16, w := 14, acc := .rwk }

/-- LDG_SYS_GEN.GEN. -/
def LDG_SYS_GEN_GEN : Field := { blk := 12, off := 0x0064, lo := 0, w := 32, acc := .rwk }

/-- LDG_SREC_SRC.OFFSET. -/
def LDG_SREC_SRC_OFFSET : Field := { blk := 12, off := 0x0068, lo := 12, w := 12, acc := .rwk }

/-- LDG_SREC_SEQ.SEQ. -/
def LDG_SREC_SEQ_SEQ : Field := { blk := 12, off := 0x006C, lo := 0, w := 32, acc := .rwk }

/-- LDG_SREC_CMD.OP. -/
def LDG_SREC_CMD_OP : Field := { blk := 12, off := 0x0070, lo := 0, w := 2, acc := .wo }

/-- LDG_SREC_CMD.BUSHEL. -/
def LDG_SREC_CMD_BUSHEL : Field := { blk := 12, off := 0x0070, lo := 4, w := 1, acc := .wo }

/-- LDG_SREC_STAT.STATE. -/
def LDG_SREC_STAT_STATE : Field := { blk := 12, off := 0x0074, lo := 0, w := 2, acc := .ro }

/-- LDG_SREC_STAT.FORMED. -/
def LDG_SREC_STAT_FORMED : Field := { blk := 12, off := 0x0074, lo := 2, w := 1, acc := .ro }

/-- LDG_SREC_STAT.REASON. -/
def LDG_SREC_STAT_REASON : Field := { blk := 12, off := 0x0074, lo := 4, w := 4, acc := .ro }

/-- LDG_SREC_STAT.PLACE. -/
def LDG_SREC_STAT_PLACE : Field := { blk := 12, off := 0x0074, lo := 16, w := 14, acc := .ro }

/-- LDG_BUSHEL_n.BUSHEL. -/
def LDG_BUSHEL_BUSHEL : Field := { blk := 12, off := 0x0100, lo := 0, w := 32, acc := .ro, dflt := 0xFFFFFFFF, n := 64, st := 8, view := true }

/-- LDG_PLACE_n.PLACE. -/
def LDG_PLACE_PLACE : Field := { blk := 12, off := 0x0104, lo := 0, w := 14, acc := .ro, n := 64, st := 8, view := true }

/-- LDG_PLACE_n.OPENING. -/
def LDG_PLACE_OPENING : Field := { blk := 12, off := 0x0104, lo := 16, w := 16, acc := .ro, n := 64, st := 8, view := true }


/-! ### Block 13, OVORE (R259) -/

/-- OVR_CTRL.EN. -/
def OVR_CTRL_EN : Field := { blk := 13, off := 0x0000, lo := 0, w := 1, acc := .rwk }

/-- OVR_CTRL.AUTO_RESYNC. -/
def OVR_CTRL_AUTO_RESYNC : Field := { blk := 13, off := 0x0000, lo := 1, w := 1, acc := .rw, dflt := 1 }

/-- OVR_CTRL.ERR_LIM. -/
def OVR_CTRL_ERR_LIM : Field := { blk := 13, off := 0x0000, lo := 8, w := 8, acc := .rw, dflt := 16, ok := [(1, 255)] }

/-- OVR_CTRL.NOTE_US. -/
def OVR_CTRL_NOTE_US : Field := { blk := 13, off := 0x0000, lo := 16, w := 8, acc := .rw, dflt := 24, ok := [(1, 100)] }

/-- OVR_STATUS.UP. -/
def OVR_STATUS_UP : Field := { blk := 13, off := 0x0004, lo := 0, w := 1, acc := .ro }

/-- OVR_STATUS.TRAINED0. -/
def OVR_STATUS_TRAINED0 : Field := { blk := 13, off := 0x0004, lo := 1, w := 1, acc := .ro }

/-- OVR_STATUS.TRAINED1. -/
def OVR_STATUS_TRAINED1 : Field := { blk := 13, off := 0x0004, lo := 2, w := 1, acc := .ro }

/-- OVR_STATUS.LAST_CAUSE. -/
def OVR_STATUS_LAST_CAUSE : Field := { blk := 13, off := 0x0004, lo := 4, w := 3, acc := .ro }

/-- OVR_EVENTS.CFG_REJECT. -/
def OVR_EVENTS_CFG_REJECT : Field := { blk := 13, off := 0x0008, lo := 0, w := 1, acc := .w1c }

/-- OVR_EVENTS.OVERLAP. -/
def OVR_EVENTS_OVERLAP : Field := { blk := 13, off := 0x0008, lo := 1, w := 1, acc := .w1c }

/-- OVR_EVENTS.PROV_TIMEOUT. -/
def OVR_EVENTS_PROV_TIMEOUT : Field := { blk := 13, off := 0x0008, lo := 2, w := 1, acc := .w1c }

/-- OVR_EVENTS.TRUNC. -/
def OVR_EVENTS_TRUNC : Field := { blk := 13, off := 0x0008, lo := 3, w := 1, acc := .w1c }

/-- OVR_EVENTS.CHAIN_MISMATCH. -/
def OVR_EVENTS_CHAIN_MISMATCH : Field := { blk := 13, off := 0x0008, lo := 4, w := 1, acc := .w1c }

/-- OVR_EVENTS.INTAKE_REFUSED. -/
def OVR_EVENTS_INTAKE_REFUSED : Field := { blk := 13, off := 0x0008, lo := 5, w := 1, acc := .w1c }

/-- OVR_EVENTS.MIRROR_GAP. -/
def OVR_EVENTS_MIRROR_GAP : Field := { blk := 13, off := 0x0008, lo := 6, w := 1, acc := .w1c }

/-- OVR_PEER_UID_n.UID. -/
def OVR_PEER_UID_UID : Field := { blk := 13, off := 0x0010, lo := 0, w := 32, acc := .rwk, n := 2, st := 4 }

/-- OVR_OWN_n.MASK. -/
def OVR_OWN_MASK : Field := { blk := 13, off := 0x0018, lo := 0, w := 32, acc := .rwk, n := 2, st := 4 }

/-- OVR_PROV_TMO.US. -/
def OVR_PROV_TMO_US : Field := { blk := 13, off := 0x0020, lo := 0, w := 16, acc := .rw, dflt := 5000, ok := [(1000, 50000)] }

/-- OVR_GRANT.GRANT. -/
def OVR_GRANT_GRANT : Field := { blk := 13, off := 0x0024, lo := 0, w := 8, acc := .rwk, dflt := 32, ok := [(1, 128)] }

/-- OVR_GRANT.RESYNC_PAGES. -/
def OVR_GRANT_RESYNC_PAGES : Field := { blk := 13, off := 0x0024, lo := 16, w := 5, acc := .rwk, dflt := 8, ok := [(1, 16)] }

/-- OVR_CNT_TX.COUNT. -/
def OVR_CNT_TX_COUNT : Field := { blk := 13, off := 0x0030, lo := 0, w := 32, acc := .ro }

/-- OVR_CNT_RX.COUNT. -/
def OVR_CNT_RX_COUNT : Field := { blk := 13, off := 0x0034, lo := 0, w := 32, acc := .ro }

/-- OVR_CNT_BAD.COUNT. -/
def OVR_CNT_BAD_COUNT : Field := { blk := 13, off := 0x0038, lo := 0, w := 32, acc := .ro }

/-- OVR_CNT_GAP.COUNT. -/
def OVR_CNT_GAP_COUNT : Field := { blk := 13, off := 0x003C, lo := 0, w := 32, acc := .ro }

/-- OVR_PEER_KEY_n.KEY. -/
def OVR_PEER_KEY_KEY : Field := { blk := 13, off := 0x0040, lo := 0, w := 32, acc := .rwk, n := 16, st := 4 }

/-- OVR_CH_n.INTAKE. -/
def OVR_CH_INTAKE : Field := { blk := 13, off := 0x0100, lo := 0, w := 1, acc := .ro, n := 64, st := 4, view := true }

/-- OVR_CH_n.LAGGING. -/
def OVR_CH_LAGGING : Field := { blk := 13, off := 0x0100, lo := 1, w := 1, acc := .ro, n := 64, st := 4, view := true }

/-- OVR_CH_n.RESYNC. -/
def OVR_CH_RESYNC : Field := { blk := 13, off := 0x0100, lo := 2, w := 1, acc := .ro, n := 64, st := 4, view := true }

/-- OVR_CH_n.CREDIT. -/
def OVR_CH_CREDIT : Field := { blk := 13, off := 0x0100, lo := 8, w := 8, acc := .ro, n := 64, st := 4, view := true }


/-! ### Block 14, DICT (R283) -/

/-- DICT_CTRL.EN. -/
def DICT_CTRL_EN : Field := { blk := 14, off := 0x0000, lo := 0, w := 1, acc := .rwk }

/-- DICT_CTRL.AUTO_BOFF. -/
def DICT_CTRL_AUTO_BOFF : Field := { blk := 14, off := 0x0000, lo := 1, w := 1, acc := .rwk, dflt := 1 }

/-- DICT_STATUS.NMT. -/
def DICT_STATUS_NMT : Field := { blk := 14, off := 0x0004, lo := 0, w := 8, acc := .ro }

/-- DICT_STATUS.BUS. -/
def DICT_STATUS_BUS : Field := { blk := 14, off := 0x0004, lo := 8, w := 2, acc := .ro }

/-- DICT_STATUS.NODE_ID. -/
def DICT_STATUS_NODE_ID : Field := { blk := 14, off := 0x0004, lo := 16, w := 7, acc := .ro }

/-- CAN_ERR.TEC. -/
def CAN_ERR_TEC : Field := { blk := 14, off := 0x0008, lo := 0, w := 8, acc := .ro }

/-- CAN_ERR.REC. -/
def CAN_ERR_REC : Field := { blk := 14, off := 0x0008, lo := 8, w := 8, acc := .ro }

/-- DICT_EVENTS.BUS_OFF. -/
def DICT_EVENTS_BUS_OFF : Field := { blk := 14, off := 0x000C, lo := 0, w := 1, acc := .w1c }

/-- DICT_EVENTS.OVERRUN. -/
def DICT_EVENTS_OVERRUN : Field := { blk := 14, off := 0x000C, lo := 1, w := 1, acc := .w1c }

/-- DICT_EVENTS.FW_TIMEOUT. -/
def DICT_EVENTS_FW_TIMEOUT : Field := { blk := 14, off := 0x000C, lo := 2, w := 1, acc := .w1c }

/-- DICT_EVENTS.DENIED. -/
def DICT_EVENTS_DENIED : Field := { blk := 14, off := 0x000C, lo := 3, w := 1, acc := .w1c }

/-- DICT_EVENTS.MBX_OVERRUN. -/
def DICT_EVENTS_MBX_OVERRUN : Field := { blk := 14, off := 0x000C, lo := 4, w := 1, acc := .w1c }

/-- DICT_RIGHTS.CAN_WRITE_EN. -/
def DICT_RIGHTS_CAN_WRITE_EN : Field := { blk := 14, off := 0x0010, lo := 0, w := 1, acc := .rwk }

/-- CAN_READ_CH_n.MASK. -/
def CAN_READ_CH_MASK : Field := { blk := 14, off := 0x0018, lo := 0, w := 32, acc := .rwk, n := 2, st := 4 }

/-- DICT_FW_BASE.BASE. -/
def DICT_FW_BASE_BASE : Field := { blk := 14, off := 0x0020, lo := 12, w := 20, acc := .rwk }

/-- DICT_FW_REQ.INDEX. -/
def DICT_FW_REQ_INDEX : Field := { blk := 14, off := 0x0024, lo := 0, w := 16, acc := .ro }

/-- DICT_FW_REQ.SUB. -/
def DICT_FW_REQ_SUB : Field := { blk := 14, off := 0x0024, lo := 16, w := 8, acc := .ro }

/-- DICT_FW_REQ.WRITE. -/
def DICT_FW_REQ_WRITE : Field := { blk := 14, off := 0x0024, lo := 24, w := 1, acc := .ro }

/-- DICT_FW_REQ.PENDING. -/
def DICT_FW_REQ_PENDING : Field := { blk := 14, off := 0x0024, lo := 25, w := 1, acc := .ro }

/-- DICT_FW_SIZE.BYTES. -/
def DICT_FW_SIZE_BYTES : Field := { blk := 14, off := 0x0028, lo := 0, w := 16, acc := .ro }

/-- DICT_FW_RSIZE.BYTES. -/
def DICT_FW_RSIZE_BYTES : Field := { blk := 14, off := 0x002C, lo := 0, w := 16, acc := .rw }

/-- DICT_FW_POST.ABORT. -/
def DICT_FW_POST_ABORT : Field := { blk := 14, off := 0x0030, lo := 0, w := 32, acc := .wo }

/-- DMBX_n.EN. -/
def DMBX_EN : Field := { blk := 14, off := 0x0040, lo := 0, w := 1, acc := .rwk, n := 16, st := 4 }

/-- DMBX_n.WIN. -/
def DMBX_WIN : Field := { blk := 14, off := 0x0040, lo := 1, w := 3, acc := .rwk, n := 16, st := 4 }

/-- DMBX_n.PAGE. -/
def DMBX_PAGE : Field := { blk := 14, off := 0x0040, lo := 4, w := 12, acc := .rwk, n := 16, st := 4 }


/-! ### Block 15, TIME (R295) -/

/-- TIME_CTRL.START. -/
def TIME_CTRL_START : Field := { blk := 15, off := 0x0000, lo := 0, w := 1, acc := .wo }

/-- TIME_CTRL.FOLLOW. -/
def TIME_CTRL_FOLLOW : Field := { blk := 15, off := 0x0000, lo := 1, w := 1, acc := .rwk, dflt := 1 }

/-- TIME_CTRL.ANCHOR_S. -/
def TIME_CTRL_ANCHOR_S : Field := { blk := 15, off := 0x0000, lo := 8, w := 8, acc := .rw, dflt := 60, ok := [(1, 255)] }

/-- TIME_STATUS.DMT_VALID. -/
def TIME_STATUS_DMT_VALID : Field := { blk := 15, off := 0x0004, lo := 0, w := 1, acc := .ro, view := true }

/-- TIME_STATUS.RETAINED. -/
def TIME_STATUS_RETAINED : Field := { blk := 15, off := 0x0004, lo := 1, w := 1, acc := .ro, view := true }

/-- TIME_STATUS.MASTER. -/
def TIME_STATUS_MASTER : Field := { blk := 15, off := 0x0004, lo := 2, w := 1, acc := .ro, view := true }

/-- TIME_STATUS.SLEWING. -/
def TIME_STATUS_SLEWING : Field := { blk := 15, off := 0x0004, lo := 3, w := 1, acc := .ro, view := true }

/-- TIME_STATUS.LAST_CAUSE. -/
def TIME_STATUS_LAST_CAUSE : Field := { blk := 15, off := 0x0004, lo := 4, w := 4, acc := .ro, view := true }

/-- TIME_STATUS.WAITING. -/
def TIME_STATUS_WAITING : Field := { blk := 15, off := 0x0004, lo := 8, w := 4, acc := .ro, view := true }

/-- DMT_LO.DMT. -/
def DMT_LO_DMT : Field := { blk := 15, off := 0x0008, lo := 0, w := 32, acc := .ro, view := true }

/-- DMT_HI.DMT. -/
def DMT_HI_DMT : Field := { blk := 15, off := 0x000C, lo := 0, w := 16, acc := .ro, view := true }

/-- EPOCH.EPOCH. -/
def EPOCH_EPOCH : Field := { blk := 15, off := 0x0010, lo := 0, w := 16, acc := .ro, view := true }

/-- OFS_LO.OFS. -/
def OFS_LO_OFS : Field := { blk := 15, off := 0x0014, lo := 0, w := 32, acc := .ro, view := true }

/-- OFS_HI.OFS. -/
def OFS_HI_OFS : Field := { blk := 15, off := 0x0018, lo := 0, w := 32, acc := .ro, view := true }

/-- SLEW_PEND.P. -/
def SLEW_PEND_P : Field := { blk := 15, off := 0x001C, lo := 0, w := 32, acc := .ro, view := true }

/-- TIME_EVENTS.STEP_FWD. -/
def TIME_EVENTS_STEP_FWD : Field := { blk := 15, off := 0x0020, lo := 0, w := 1, acc := .w1c }

/-- TIME_EVENTS.STEP_BACK. -/
def TIME_EVENTS_STEP_BACK : Field := { blk := 15, off := 0x0020, lo := 1, w := 1, acc := .w1c }

/-- TIME_EVENTS.ROLL. -/
def TIME_EVENTS_ROLL : Field := { blk := 15, off := 0x0020, lo := 2, w := 1, acc := .w1c }

/-- TIME_EVENTS.ANCHOR_FULL. -/
def TIME_EVENTS_ANCHOR_FULL : Field := { blk := 15, off := 0x0020, lo := 3, w := 1, acc := .w1c }


/-! ### Block 16, MON (R362) -/

/-- MON_STATUS.READY. -/
def MON_STATUS_READY : Field := { blk := 16, off := 0x0004, lo := 0, w := 1, acc := .ro, view := true }

/-- MON_STATUS.COLD. -/
def MON_STATUS_COLD : Field := { blk := 16, off := 0x0004, lo := 1, w := 1, acc := .ro, view := true }

/-- MON_STATUS.DERATE. -/
def MON_STATUS_DERATE : Field := { blk := 16, off := 0x0004, lo := 2, w := 1, acc := .ro, view := true }

/-- MON_STATUS.PARK_A. -/
def MON_STATUS_PARK_A : Field := { blk := 16, off := 0x0004, lo := 3, w := 1, acc := .ro, view := true }

/-- MON_STATUS.PARK_B. -/
def MON_STATUS_PARK_B : Field := { blk := 16, off := 0x0004, lo := 4, w := 1, acc := .ro, view := true }

/-- MON_EVENTS.CROSS. -/
def MON_EVENTS_CROSS : Field := { blk := 16, off := 0x0008, lo := 0, w := 1, acc := .w1c }

/-- MON_EVENTS.CFG_REJECT. -/
def MON_EVENTS_CFG_REJECT : Field := { blk := 16, off := 0x0008, lo := 1, w := 1, acc := .w1c }

/-- MON_EVENTS.AGE_MARK. -/
def MON_EVENTS_AGE_MARK : Field := { blk := 16, off := 0x0008, lo := 2, w := 1, acc := .w1c }

/-- MON_ASSERTED.SLOT. -/
def MON_ASSERTED_SLOT : Field := { blk := 16, off := 0x000C, lo := 0, w := 32, acc := .ro, view := true }

/-- TS_n.READING. -/
def TS_READING : Field := { blk := 16, off := 0x0100, lo := 0, w := 16, acc := .ro, n := 6, st := 4 }

/-- VM_n.READING. -/
def VM_READING : Field := { blk := 16, off := 0x0120, lo := 0, w := 16, acc := .ro, n := 8, st := 4 }

/-- PM_n.READING. -/
def PM_READING : Field := { blk := 16, off := 0x0140, lo := 0, w := 16, acc := .ro, n := 4, st := 4 }

/-- THR0_n.SENSOR. -/
def THR0_SENSOR : Field := { blk := 16, off := 0x0200, lo := 0, w := 5, acc := .rwk, rst := [0, 2, 2, 0, 5], n := 32, st := 16, ok := [(0, 5), (8, 19)] }

/-- THR0_n.DIR. -/
def THR0_DIR : Field := { blk := 16, off := 0x0200, lo := 5, w := 1, acc := .rwk, rst := [0, 0, 0, 0, 1], n := 32, st := 16 }

/-- THR0_n.ACTION. -/
def THR0_ACTION : Field := { blk := 16, off := 0x0200, lo := 6, w := 3, acc := .rwk, rst := [0, 1, 2, 2, 3], n := 32, st := 16, ok := [(0, 3)] }

/-- THR0_n.EN. -/
def THR0_EN : Field := { blk := 16, off := 0x0200, lo := 15, w := 1, acc := .rwk, rst := [1, 1, 1, 1, 1], n := 32, st := 16 }

/-- THR0_n.LEVEL. -/
def THR0_LEVEL : Field := { blk := 16, off := 0x0200, lo := 16, w := 16, acc := .rwk, rst := [1680, 2000, 2240, 2000, 0], n := 32, st := 16 }

/-- THR1_n.HYST. -/
def THR1_HYST : Field := { blk := 16, off := 0x0204, lo := 0, w := 12, acc := .rwk, rst := [32, 32, 32, 32, 32], n := 32, st := 16 }

/-- THR1_n.DWELL. -/
def THR1_DWELL : Field := { blk := 16, off := 0x0204, lo := 16, w := 12, acc := .rwk, rst := [8, 8, 8, 8, 8], n := 32, st := 16, ok := [(1, 4095)] }

/-- THR2_n.ARG. -/
def THR2_ARG : Field := { blk := 16, off := 0x0208, lo := 0, w := 13, acc := .rwk, rst := [0, 3600, 3, 3, 0], n := 32, st := 16 }

/-- MON_LIFE_n.MINUTES. -/
def MON_LIFE_MINUTES : Field := { blk := 16, off := 0x0400, lo := 0, w := 32, acc := .rwk, n := 8, st := 4 }

/-- MON_AGE.AGE. -/
def MON_AGE_AGE : Field := { blk := 16, off := 0x0420, lo := 0, w := 32, acc := .rwk }


/-! ### Block 17, EVREC (R363) -/

/-- EVR_CLEAR.CLEAR. -/
def EVR_CLEAR_CLEAR : Field := { blk := 17, off := 0x0000, lo := 0, w := 1, acc := .wo }

/-- EVR_COUNT.FIRST. -/
def EVR_COUNT_FIRST : Field := { blk := 17, off := 0x0004, lo := 0, w := 9, acc := .ro, view := true }

/-- EVR_COUNT.LAST. -/
def EVR_COUNT_LAST : Field := { blk := 17, off := 0x0004, lo := 16, w := 11, acc := .ro, view := true }

/-- EVR_TOTAL.COUNT. -/
def EVR_TOTAL_COUNT : Field := { blk := 17, off := 0x0008, lo := 0, w := 32, acc := .ro, view := true }

/-- EVR_DROPPED.COUNT. -/
def EVR_DROPPED_COUNT : Field := { blk := 17, off := 0x000C, lo := 0, w := 16, acc := .ro, view := true }

/-- EVR_FIRST_n.ENTRY. -/
def EVR_FIRST_ENTRY : Field := { blk := 17, off := 0x1000, lo := 0, w := 32, acc := .ro, n := 1024, st := 4, view := true }

/-- EVR_LAST_n.ENTRY. -/
def EVR_LAST_ENTRY : Field := { blk := 17, off := 0x4000, lo := 0, w := 32, acc := .ro, n := 4096, st := 4, view := true }


/-! ### Block 18, ENERGY (R235) -/

/-- ENG_CTRL.EN. -/
def ENG_CTRL_EN : Field := { blk := 18, off := 0x0000, lo := 0, w := 1, acc := .rwk }

/-- ENG_STATUS.LEND_OK. -/
def ENG_STATUS_LEND_OK : Field := { blk := 18, off := 0x0004, lo := 0, w := 1, acc := .ro }

/-- ENG_STATUS.PL_ACTIVE. -/
def ENG_STATUS_PL_ACTIVE : Field := { blk := 18, off := 0x0004, lo := 1, w := 1, acc := .ro }

/-- ENG_STATUS.VIN_OK. -/
def ENG_STATUS_VIN_OK : Field := { blk := 18, off := 0x0004, lo := 2, w := 1, acc := .ro, view := true }

/-- ENG_STATUS.HARVEST. -/
def ENG_STATUS_HARVEST : Field := { blk := 18, off := 0x0004, lo := 3, w := 1, acc := .ro, view := true }

/-- ENG_STATUS.RETURN. -/
def ENG_STATUS_RETURN : Field := { blk := 18, off := 0x0004, lo := 4, w := 1, acc := .ro }

/-- ENG_STATUS.PL_DONE. -/
def ENG_STATUS_PL_DONE : Field := { blk := 18, off := 0x0004, lo := 5, w := 1, acc := .ro }

/-- ENG_STATUS.SPINUP_HELD. -/
def ENG_STATUS_SPINUP_HELD : Field := { blk := 18, off := 0x0004, lo := 6, w := 1, acc := .ro, view := true }

/-- ENG_STATUS.PL_STEP. -/
def ENG_STATUS_PL_STEP : Field := { blk := 18, off := 0x0004, lo := 8, w := 3, acc := .ro }

/-- ENG_EVENTS.CLOSE. -/
def ENG_EVENTS_CLOSE : Field := { blk := 18, off := 0x0008, lo := 0, w := 1, acc := .w1c }

/-- ENG_EVENTS.POWER_LOSS. -/
def ENG_EVENTS_POWER_LOSS : Field := { blk := 18, off := 0x0008, lo := 1, w := 1, acc := .w1c }

/-- ENG_EVENTS.DRAIN_ABANDONED. -/
def ENG_EVENTS_DRAIN_ABANDONED : Field := { blk := 18, off := 0x0008, lo := 2, w := 1, acc := .w1c }

/-- ENG_EVENTS.ACT_CLIP. -/
def ENG_EVENTS_ACT_CLIP : Field := { blk := 18, off := 0x0008, lo := 3, w := 1, acc := .w1c }

/-- ENG_EVENTS.RET_FLOOR. -/
def ENG_EVENTS_RET_FLOOR : Field := { blk := 18, off := 0x0008, lo := 4, w := 1, acc := .w1c }

/-- ENG_ECAP.E. -/
def ENG_ECAP_E : Field := { blk := 18, off := 0x0010, lo := 0, w := 24, acc := .ro }

/-- ENG_EKIN.E. -/
def ENG_EKIN_E : Field := { blk := 18, off := 0x0014, lo := 0, w := 24, acc := .ro }

/-- ENG_LEND.E. -/
def ENG_LEND_E : Field := { blk := 18, off := 0x0018, lo := 0, w := 24, acc := .ro }

/-- ENG_COMMIT.E. -/
def ENG_COMMIT_E : Field := { blk := 18, off := 0x001C, lo := 0, w := 24, acc := .ro, view := true }

/-- ENG_EARMARK.E. -/
def ENG_EARMARK_E : Field := { blk := 18, off := 0x0020, lo := 0, w := 24, acc := .ro, view := true }

/-- ENG_DEBIT.E. -/
def ENG_DEBIT_E : Field := { blk := 18, off := 0x0024, lo := 0, w := 24, acc := .ro, view := true }

/-- ENG_SEALRES.E. -/
def ENG_SEALRES_E : Field := { blk := 18, off := 0x0028, lo := 0, w := 24, acc := .ro, view := true }

/-- ENG_SPINUP.E. -/
def ENG_SPINUP_E : Field := { blk := 18, off := 0x002C, lo := 0, w := 24, acc := .rwk }

/-- ENG_KCAP.K. -/
def ENG_KCAP_K : Field := { blk := 18, off := 0x0030, lo := 0, w := 32, acc := .rwk }

/-- ENG_KKIN.K. -/
def ENG_KKIN_K : Field := { blk := 18, off := 0x0034, lo := 0, w := 32, acc := .rwk }

/-- ENG_VMIN.MV. -/
def ENG_VMIN_MV : Field := { blk := 18, off := 0x0038, lo := 0, w := 16, acc := .rwk, dflt := 6000, ok := [(5000, 10000)] }

/-- ENG_VOLT.VHOLD. -/
def ENG_VOLT_VHOLD : Field := { blk := 18, off := 0x003C, lo := 0, w := 16, acc := .ro }

/-- ENG_VOLT.VIN. -/
def ENG_VOLT_VIN : Field := { blk := 18, off := 0x003C, lo := 16, w := 16, acc := .ro }

/-- ENG_PL.PORT_US. -/
def ENG_PL_PORT_US : Field := { blk := 18, off := 0x0040, lo := 0, w := 10, acc := .rwk, dflt := 100, ok := [(1, 1000)] }

/-- ENG_PL.RETURN_MS. -/
def ENG_PL_RETURN_MS : Field := { blk := 18, off := 0x0040, lo := 16, w := 16, acc := .rwk, dflt := 10, ok := [(1, 65535)] }

/-- ENG_PL2.DRAIN_MAX. -/
def ENG_PL2_DRAIN_MAX : Field := { blk := 18, off := 0x0044, lo := 0, w := 16, acc := .rwk, dflt := 2000 }

/-- ENG_PL2.VIN_FAIL. -/
def ENG_PL2_VIN_FAIL : Field := { blk := 18, off := 0x0044, lo := 16, w := 12, acc := .rwk, dflt := 420, ok := [(380, 440)] }

/-- ENG_KEEP.MARGIN. -/
def ENG_KEEP_MARGIN : Field := { blk := 18, off := 0x0048, lo := 0, w := 12, acc := .rwk, dflt := 200, ok := [(100, 1000)] }

/-- ENG_CHG.CHG_I. -/
def ENG_CHG_CHG_I : Field := { blk := 18, off := 0x004C, lo := 0, w := 12, acc := .rwk, dflt := 1000, ok := [(200, 2000)] }

/-- ENG_BUDGET.E. -/
def ENG_BUDGET_E : Field := { blk := 18, off := 0x0050, lo := 0, w := 24, acc := .rwk }

/-- ENG_REOPEN.E. -/
def ENG_REOPEN_E : Field := { blk := 18, off := 0x0054, lo := 0, w := 24, acc := .rwk, dflt := 1000 }

/-- ENG_ACT.SUM_MAX. -/
def ENG_ACT_SUM_MAX : Field := { blk := 18, off := 0x0060, lo := 0, w := 16, acc := .rwk, dflt := 48000 }

/-- ENG_ACT.CNT_CLIP. -/
def ENG_ACT_CNT_CLIP : Field := { blk := 18, off := 0x0060, lo := 16, w := 16, acc := .ro }

/-- ENG_RET.RET_V. -/
def ENG_RET_RET_V : Field := { blk := 18, off := 0x0064, lo := 0, w := 16, acc := .rwk, dflt := 900 }

/-- ENG_RET.RET_MS. -/
def ENG_RET_RET_MS : Field := { blk := 18, off := 0x0064, lo := 16, w := 8, acc := .rwk, dflt := 60 }

/-- COST_n.SCRUPLES. -/
def COST_SCRUPLES : Field := { blk := 18, off := 0x0100, lo := 0, w := 16, acc := .rwk, dflt := 65535, n := 32, st := 4, ok := [(1, 65535)] }

/-- ENG_TEN_n.E. -/
def ENG_TEN_E : Field := { blk := 18, off := 0x0200, lo := 0, w := 24, acc := .ro, n := 16, st := 4, view := true }


/-! ### Block 19, DIELINK (R236) -/

/-- DL_STATUS.UP. -/
def DL_STATUS_UP : Field := { blk := 19, off := 0x0000, lo := 0, w := 1, acc := .ro }

/-- DL_STATUS.DOWN. -/
def DL_STATUS_DOWN : Field := { blk := 19, off := 0x0000, lo := 1, w := 1, acc := .ro }

/-- DL_STATUS.AUTO_RETRACT. -/
def DL_STATUS_AUTO_RETRACT : Field := { blk := 19, off := 0x0000, lo := 2, w := 1, acc := .ro }

/-- DL_CNT_CRC.COUNT. -/
def DL_CNT_CRC_COUNT : Field := { blk := 19, off := 0x0004, lo := 0, w := 32, acc := .ro }

/-- DL_CNT_GAP.COUNT. -/
def DL_CNT_GAP_COUNT : Field := { blk := 19, off := 0x0008, lo := 0, w := 32, acc := .ro }

/-- DL_GAP_MAX.NS10. -/
def DL_GAP_MAX_NS10 : Field := { blk := 19, off := 0x000C, lo := 0, w := 16, acc := .rc }


/-- The fields of block `k`. -/
def block (k : Nat) : List Field :=
  match k with
  | 0 =>
    [DEVICE_ID_PART, DEVICE_ID_STEP_LETTER, DEVICE_ID_STEP_METAL, GRADE_AUTO, CLK_PLL_EN, CLK_SRC_SRC,
     CLK_STATUS_XTAL_RDY, CLK_STATUS_PLL_LOCK, CLK_STATUS_CUR, CLK_STATUS_SWITCHING, CLK_EVENTS_SW_REJECT, CLK_EVENTS_RUN_REJECT,
     CLK_EVENTS_PLL_REJECT, CLK_STOP_LAST, CLK_STOP_DMT_LO_DMT, CLK_STOP_DMT_HI_DMT, RST_CTRL_SYS_RST, RST_STATUS_PENDING,
     RST_STATUS_LAST_SRC, CORE_RUN_RUN, WDT_CTRL_EN, WDT_CTRL_TIMEOUT_MS, WDT_KICK_KICK, BOOT_STATUS_SLOT,
     BOOT_STATUS_FAIL_A, BOOT_STATUS_FAIL_B, BOOT_VERSION_VERSION, BOOT_FLOOR_FLOOR, BOOT_REVOKE_REVOKE, BOOT_ENTRY_ENTRY,
     RES_STATUS_VALID, RES_STATUS_APPLIED, RES_CMD_APPLY, RES_CMD_DISCARD, STARTUP_SCAN, STARTUP_SCAN_REJECT,
     BOOT_KEYHASH_HASH, GPIO_OUT_OUT, GPIO_OE_OE, GPIO_IN_IN, SHK_SPI_CMD, CORE_IE_EN,
     CORE_IP_PEND, CORE_CLAIM_SRC, CORE_CLAIM_NONE, MSIP_SET, MTIMECMP_LO_CMP, MTIMECMP_HI_CMP,
     IRQ_RAW_RAW, CORE_EV_NMT_RESET, FWCQ_PEND_Q]
  | 1 =>
    [SP_CTRL_PORT_EN, SP_CTRL_ADMIT_EN, SP_CTRL_STALL_US, SP_STATUS_PORT_OPEN, SP_STATUS_ADMIT_OPEN, SP_STATUS_SEATED,
     SP_STATUS_IN_FRAME, SP_STATUS_CLOSE_CAUSE, SP_EVENTS_ABORT, SP_EVENTS_STALL, SP_EVENTS_STATUS_LOST, SP_EVENTS_PROTOCOL,
     SP_EVENTS_DET_CHANGE, SP_CNT_ACCEPT_COUNT, SP_CNT_HOLD_COUNT, SP_CNT_REFUSE_COUNT, SP_CNT_CRCBAD_COUNT, SP_BSY_MAX_TIME,
     SP_CHAN_FRAME_MAX, SP_CHAN_READY, SP_CHAN_ENERGY_OK, SP_CHAN_WRITE_BUSY]
  | 2 =>
    [QUEUE_CTRL_FETCH_EN, QUEUE_STATUS_FETCH_OPEN, QUEUE_STATUS_CFG_REJECT, TAG_SPLIT_WRITE, TAG_SPLIT_READ, TAG_FREE_WRITE,
     TAG_FREE_READ, TAG_FREE_C_CONTROL, POOL_PAGES_WRITE, POOL_PAGES_READ, POOL_HOLD_HOLD, POOL_SLOTS_A,
     POOL_SLOTS_B, POOL_FREE_PAGES_WRITE, POOL_FREE_PAGES_READ, POOL_FREE_SLOTS_A, POOL_FREE_SLOTS_B, FWD_BASE_BASE,
     FWD_CTRL_EN, FWD_CTRL_HEAD, FWD_CTRL_TAIL, FWD_RES0_RES0, FWD_RES1_RES1, FWD_POST_TAG,
     FWD_POST_CODE, QDB_QUEUE, QDB_INDEX, QCFG_EN, QCFG_DIR, QCFG_LOG2_DEPTH,
     QCFG_PRIO, QCFG_CQ, QCFG_OWNER, QCFG_FW, QCFG_WIN, QBASE_BASE,
     QIDX_HEAD, QIDX_TAIL, QERR_ERR_DB, QERR_ERR_ECC, QERR_STOPPED, QERR_INFLIGHT]
  | 3 =>
    [TENANT_STATUS_CFG_REJECT, SESSIONS_OPEN, TCFG_EN, TCFG_IRQ_PIN, TCFG_KEY_SET, WIN_BASE,
     WIN_EN, WPAGES_PAGES, KEY_KEY, CHAN_RIGHTS_WRITER, CHAN_RIGHTS_WRITER_EN, CHAN_RIGHTS_READERS]
  | 4 =>
    [ARB_CTRL_DERATE, ARB_CTRL_CNT_CLR, ARB_STATUS_SHORTFALL, ARB_STATUS_CRITICAL, ARB_STATUS_ACT_AVAIL, ARB_STATUS_MARGIN,
     MEDIA_FLOOR_RATE, MEDIA_NOW_RATE, RESV_SUM_RATE, ARB_MIRROR_RATE_RATE, ZONE_SMIN_GRAINS, BUF_POOL_BASE_PAGE,
     BUF_WREG_LO, BUF_WREG_LAST, ARB_CFG_PRIO, ARB_CFG_BURST, ARB_CFG_MASKED, ARB_CFG_CUTOFF,
     ARB_GRANTS_COUNT, ARB_WAIT_CYCLES, ARB_STAT_LWAIT, ARB_STAT_CUTS, SHED_CH_REDUCED, SHED_CH_SHED,
     SHED_CH_FACTOR, SHED_BASIS_GRAINS]
  | 5 =>
    [ECC_CTRL_SCRUB_EN, ECC_CTRL_PERIOD, ECC_STATUS_SCRUB_PAGE, ECC_EVENTS_CE, ECC_EVENTS_UE, ECC_EVENTS_CE_OVF,
     ECC_EVENTS_UE_OVF, ECC_EVENTS_REPAIRED, ECC_EVENTS_HALT, ECC_EVENTS_PASS_LATE, ECC_PASSES_COUNT, CE_HEAD_ADDR_ENTRY,
     CE_HEAD_INFO_ENTRY, CE_CTRL_POP, CE_CTRL_LVL, UE_HEAD_ADDR_ENTRY, UE_HEAD_INFO_ENTRY, UE_CTRL_POP,
     UE_CTRL_LVL, ECC_CNT_CE, ECC_CNT_UE, ECC_HALT_CMD_CHAN, ECC_HALT_CMD_OP, ECC_HALT_CMD_SRC,
     ECC_HALT_RES_STATE, ECC_HALT_RES_REASON, ECC_HALT_SEQ_SEQ, ECC_RETIRE_MAP]
  | 6 =>
    [CACHE_CTRL_EN, CACHE_NCBANK_NC, CACHE_STATUS_BUSY, CACHE_STATUS_DONE, CACHE_STATUS_REJECT, CACHE_WAYMASK_MASK,
     CRNG_BASE_ADDR, CRNG_SIZE_BYTES, CRNG_CMD_OP, CRNG_POS_ADDR, CACHE_CNT_HIT_COUNT, CACHE_CNT_MISS_COUNT,
     CACHE_CNT_WB_COUNT, CACHE_CNT_VHIT_COUNT]
  | 7 =>
    [LOOP_CTRL_EN, LOOP_SWAP_MASK, LOOP_SWAP_CLR_NOTCH, LOOP_BANKS_ACTIVE, LOOP_BANKS_SWAP_PEND, LOOP_EVENTS_BANK_REJECT,
     LOOP_EVENTS_SWAP_REJECT, LOOP_EVENTS_SEEK_REJECT, LOOP_EVENTS_SEEK_FAIL, LOOP_EVENTS_LOST, LOOP_EVENTS_SAT, SHK_CTRL_FF_EN,
     SHK_CTRL_SHK_HOLD, SHK_CTRL_SHK_QUIET, SHK_LAST_PEAK, SPD_CMD_CMD, SPD_ILIM_I_LIM_S, ACT_CMD_CMD,
     SEEK_TGT_TRACK, SEEK_TGT_HEAD, ACT_STATE_STATE, ACT_STATE_MISS, ACT_STATE_ON_TRK_RD, ACT_STATE_ON_TRK_WR,
     ACT_STATE_WINH, ACT_STATE_SEEK_DONE, ACT_STATE_LOADED, ACT_POS_P, ACT_PES_PES, J_MAX_LIMIT,
     A_MAX_LIMIT, A_MAX_DUAL_LIMIT, V_MAX_LIMIT, LIM_WR_WR_LIM, LIM_WR_WI_LIM, LIM_RD_RD_LIM,
     LIM_RD_SETTLE_LIM, COUNTS_WR_N, COUNTS_SETTLE_N, COUNTS_ACQ_N, COUNTS_SEEK_TMO, WINDOW_SV_WIN,
     WINDOW_SV_WIN_LOST, WINDOW_MISS_DEV, I_LIM_I_LIM, JOG_JOG, LOST_TMO_US, CNT_MISS_COUNT,
     CNT_LOST_COUNT, CNT_SAT_COUNT, COEF_WORD]
  | 8 =>
    [SPN_CMD_CMD, SPN_CMD_DIR, SPN_CMD_AUTO_START, SPN_STATE_STATE, SPN_STATE_AT_SPEED, SPN_STATE_HANDED,
     SPN_STATE_HEATING, SPN_STATE_DIR_NOW, SPN_STATE_DET, SPN_STATE_TRY, SPN_NSET_RPM, SPN_CAP_RPM,
     SPN_EST_RPM8, SPN_EVENTS_CMD_REJECT, SPN_EVENTS_REV_REJECT, SPN_EVENTS_START_FAIL, SPN_EVENTS_REV_KICK, SPN_EVENTS_COMM_LOST,
     SPN_EVENTS_CAUGHT, SPN_EVENTS_HEAT_TIMEOUT, SPN_EVENTS_AT_SPEED_UP, SPN_MOTOR_POLE_PAIRS, SPN_MOTOR_NARROW, SPN_MOTOR_SKIP_MAX,
     SPN_MOTOR_ADV, SPN_DET_DET_MS, SPN_DET_DET_MV, SPN_DET_CATCH_MIN, SPN_THR_HANDOFF_RPM, SPN_THR_UNLOAD_RPM,
     SPN_THR2_REV_MAX_RPM, SPN_THR2_AT_N, SPN_IPD_IPD_I, SPN_IPD_IPD_TMAX, SPN_IPD_IPD_MARGIN, SPN_IPD2_IPD_GAP,
     SPN_IRUN_RAMP_I, SPN_IRUN_SYNC_I, SPN_IBRK_BRAKE_I, SPN_IBRK_STOP_I, SPN_START_RAMP_T0, SPN_START_SYNC_N,
     SPN_START_START_TRIES, SPN_START_START_TMO, SPN_START2_START_GAP, SPN_START2_KICK_BRAKE_MS, SPN_START2_FAIL_PAUSE, SPN_BRK_BRAKE_TMO,
     SPN_BEMF_BLANK, SPN_BEMF_WMIN, SPN_HEAT_HEAT_I, SPN_HEAT_HEAT_TGT, SPN_HEAT_HOLD_END, SPN_HEAT2_HEAT_MAX,
     WIND_RREF_R, WIND_R, WIND_T, CNT_START_COUNT, CNT_RETRY_COUNT, CNT_SKIP_COUNT,
     CNT_DIST_COUNT, CNT_COMM_LOST_COUNT]
  | 9 | 10 =>
    [RWC_CTRL_EN, RWC_CTRL_WR_BATCH, RWC_STATUS_ZONE, RWC_STATUS_HEAD, RWC_STATUS_WG, RWC_STATUS_RG,
     RWC_STATUS_HOLD, RWC_WAGE_US, RWC_LADDER_STEP_EN, RWC_LADDER_ITER_N, RWC_LADDER_ITER_MAX, RWC_EVENTS_TEAR,
     RWC_EVENTS_UNREADABLE, RWC_EVENTS_PREAMP_FAULT, RWC_TEAR_LAST_CAUSE, RWC_TEAR_LAST_PLACE_BUSHEL, RWC_CNT_WR_COUNT, RWC_CNT_RD_COUNT,
     RWC_CNT_TEAR_COUNT, RWC_CNT_FAIL_COUNT, RWC_CNT_STEP_COUNT, RWC_SR_LOC_HEAD, RWC_SR_LOC_TRACK, RWC_SR_SECT_SECTOR,
     RWC_SR_DEST_OFFSET, RWC_SR_CMD_GO, RWC_SR_STAT_BUSY, RWC_SR_STAT_DONE, RWC_SR_STAT_REJECT, RWC_SR_STAT_CLASS,
     RWC_SR_STAT_STEP]
  | 11 =>
    [CHN_CTRL_EN, CHN_STATUS_LOCK, CHN_STATUS_HOLDOVER, CHN_ANGLE_MARK, CHN_ANGLE_REVS, CHN_FWD_LO_FWD,
     CHN_FWD_HI_FWD, CHN_RPM_RPM8, CHN_EVENTS_STALL, CHN_EVENTS_REVERSAL, CHN_EVENTS_RELOCK, CHN_EVENTS_ZT_REJECT,
     CHN_EVENTS_MAP_REJECT, CHN_EVENTS_AEV_CANCEL, CHN_EVENTS_MISCOUNT, SERVO_GEOM_N_W, SERVO_GEOM_W_LEN, SECT_FMT_PRE_16,
     SECT_FMT_DRAM_16, SECT_FMT_SYNC_TOL, SECT_FMT_SYNC_TOL_W, SECT_FMT_RES_TOL, SECT_FMT_SYNC_ERR, CHN_WMIN_RPM,
     TRACKS_COUNT, TABLE_APPLY_APPLY, TABLE_STATUS_OK, TABLE_STATUS_FAIL_CAUSE, TABLE_STATUS_FAIL_ZONE, TABLE_STATUS_FAIL_CODE,
     TABLE_STATUS_FAIL_BUSHEL, ZONE0_FIRST_TRACK, ZONE0_EN, ZONE1_M, ZONE1_CODE, ZONE2_S,
     ZONE2_SKEW, CODE_DESC_LOG2Z, CODE_DESC_K_B, CODE_DESC_M_B, CODE_DESC_E, OFS_OFS,
     CODE_ENT_ROW, CODE_ENT_COL, CODE_ENT_SHIFT, AEV0_TARGET_LO, AEV1_TARGET_HI, AEV1_CORES,
     AEV1_ARM, AEV1_STATE, AEV1_LATE, AEV2_DMT_LO, AEV3_DMT_HI, BMAP_HEAD,
     BMAP_ZONE, BMAP_START_TRACK, BMAP_VALID]
  | 12 =>
    [LDG_CTRL_EN, LDG_CTRL_TEAR_RSV, LDG_STATUS_KEY_READY, LDG_STATUS_SCAN_BUSY, BFREE_PUSH_BUSHEL, BFREE_LVL_A,
     BFREE_LVL_B, LDG_EVENTS_NO_BUSHEL, LDG_EVENTS_CHAIN_BREAK, LDG_EVENTS_SREC_REJECT, LDG_PUBKEY_KEY, LDG_SYS_BUSHEL,
     LDG_SYS_PLACE, LDG_SYS_GEN_GEN, LDG_SREC_SRC_OFFSET, LDG_SREC_SEQ_SEQ, LDG_SREC_CMD_OP, LDG_SREC_CMD_BUSHEL,
     LDG_SREC_STAT_STATE, LDG_SREC_STAT_FORMED, LDG_SREC_STAT_REASON, LDG_SREC_STAT_PLACE, LDG_BUSHEL_BUSHEL, LDG_PLACE_PLACE,
     LDG_PLACE_OPENING]
  | 13 =>
    [OVR_CTRL_EN, OVR_CTRL_AUTO_RESYNC, OVR_CTRL_ERR_LIM, OVR_CTRL_NOTE_US, OVR_STATUS_UP, OVR_STATUS_TRAINED0,
     OVR_STATUS_TRAINED1, OVR_STATUS_LAST_CAUSE, OVR_EVENTS_CFG_REJECT, OVR_EVENTS_OVERLAP, OVR_EVENTS_PROV_TIMEOUT, OVR_EVENTS_TRUNC,
     OVR_EVENTS_CHAIN_MISMATCH, OVR_EVENTS_INTAKE_REFUSED, OVR_EVENTS_MIRROR_GAP, OVR_PEER_UID_UID, OVR_OWN_MASK, OVR_PROV_TMO_US,
     OVR_GRANT_GRANT, OVR_GRANT_RESYNC_PAGES, OVR_CNT_TX_COUNT, OVR_CNT_RX_COUNT, OVR_CNT_BAD_COUNT, OVR_CNT_GAP_COUNT,
     OVR_PEER_KEY_KEY, OVR_CH_INTAKE, OVR_CH_LAGGING, OVR_CH_RESYNC, OVR_CH_CREDIT]
  | 14 =>
    [DICT_CTRL_EN, DICT_CTRL_AUTO_BOFF, DICT_STATUS_NMT, DICT_STATUS_BUS, DICT_STATUS_NODE_ID, CAN_ERR_TEC,
     CAN_ERR_REC, DICT_EVENTS_BUS_OFF, DICT_EVENTS_OVERRUN, DICT_EVENTS_FW_TIMEOUT, DICT_EVENTS_DENIED, DICT_EVENTS_MBX_OVERRUN,
     DICT_RIGHTS_CAN_WRITE_EN, CAN_READ_CH_MASK, DICT_FW_BASE_BASE, DICT_FW_REQ_INDEX, DICT_FW_REQ_SUB, DICT_FW_REQ_WRITE,
     DICT_FW_REQ_PENDING, DICT_FW_SIZE_BYTES, DICT_FW_RSIZE_BYTES, DICT_FW_POST_ABORT, DMBX_EN, DMBX_WIN,
     DMBX_PAGE]
  | 15 =>
    [TIME_CTRL_START, TIME_CTRL_FOLLOW, TIME_CTRL_ANCHOR_S, TIME_STATUS_DMT_VALID, TIME_STATUS_RETAINED, TIME_STATUS_MASTER,
     TIME_STATUS_SLEWING, TIME_STATUS_LAST_CAUSE, TIME_STATUS_WAITING, DMT_LO_DMT, DMT_HI_DMT, EPOCH_EPOCH,
     OFS_LO_OFS, OFS_HI_OFS, SLEW_PEND_P, TIME_EVENTS_STEP_FWD, TIME_EVENTS_STEP_BACK, TIME_EVENTS_ROLL,
     TIME_EVENTS_ANCHOR_FULL]
  | 16 =>
    [MON_STATUS_READY, MON_STATUS_COLD, MON_STATUS_DERATE, MON_STATUS_PARK_A, MON_STATUS_PARK_B, MON_EVENTS_CROSS,
     MON_EVENTS_CFG_REJECT, MON_EVENTS_AGE_MARK, MON_ASSERTED_SLOT, TS_READING, VM_READING, PM_READING,
     THR0_SENSOR, THR0_DIR, THR0_ACTION, THR0_EN, THR0_LEVEL, THR1_HYST,
     THR1_DWELL, THR2_ARG, MON_LIFE_MINUTES, MON_AGE_AGE]
  | 17 =>
    [EVR_CLEAR_CLEAR, EVR_COUNT_FIRST, EVR_COUNT_LAST, EVR_TOTAL_COUNT, EVR_DROPPED_COUNT, EVR_FIRST_ENTRY,
     EVR_LAST_ENTRY]
  | 18 =>
    [ENG_CTRL_EN, ENG_STATUS_LEND_OK, ENG_STATUS_PL_ACTIVE, ENG_STATUS_VIN_OK, ENG_STATUS_HARVEST, ENG_STATUS_RETURN,
     ENG_STATUS_PL_DONE, ENG_STATUS_SPINUP_HELD, ENG_STATUS_PL_STEP, ENG_EVENTS_CLOSE, ENG_EVENTS_POWER_LOSS, ENG_EVENTS_DRAIN_ABANDONED,
     ENG_EVENTS_ACT_CLIP, ENG_EVENTS_RET_FLOOR, ENG_ECAP_E, ENG_EKIN_E, ENG_LEND_E, ENG_COMMIT_E,
     ENG_EARMARK_E, ENG_DEBIT_E, ENG_SEALRES_E, ENG_SPINUP_E, ENG_KCAP_K, ENG_KKIN_K,
     ENG_VMIN_MV, ENG_VOLT_VHOLD, ENG_VOLT_VIN, ENG_PL_PORT_US, ENG_PL_RETURN_MS, ENG_PL2_DRAIN_MAX,
     ENG_PL2_VIN_FAIL, ENG_KEEP_MARGIN, ENG_CHG_CHG_I, ENG_BUDGET_E, ENG_REOPEN_E, ENG_ACT_SUM_MAX,
     ENG_ACT_CNT_CLIP, ENG_RET_RET_V, ENG_RET_RET_MS, COST_SCRUPLES, ENG_TEN_E]
  | 19 =>
    [DL_STATUS_UP, DL_STATUS_DOWN, DL_STATUS_AUTO_RETRACT, DL_CNT_CRC_COUNT, DL_CNT_GAP_COUNT, DL_GAP_MAX_NS10]
  | _ => []

end Reg

end Sys2Proof.Machine
end

