-- ==== Sys2Proof/Machine/Flags.lean ====
section
/-! DEFINITION. Reading and writing register fields (spec/00 R2 to R6): the one operation by which every field of the
register store is read, set, raised, cleared or counted. -/

namespace Sys2Proof.Machine

/-- The address of element `i` of a field's register. -/
def Field.addr (f : Field) (i : Nat) : Nat :=
  0x40000000 + 0x10000 * f.blk + f.off + f.st * (i / f.m) + f.st2 * (i % f.m)

/-- The key of element `i` in the register store. -/
def Field.key (f : Field) (i : Nat) : Nat := 32 * f.addr i + f.lo

/-- The value of element `i` at reset. -/
def Field.reset (f : Field) (i : Nat) : Word := BitVec.ofNat 32 (f.rst.getD i f.dflt)

/-- The value of a field. -/
def State.getF (s : State) (f : Field) (i : Nat := 0) : Nat := (sget (f.reset i) (f.key i) s.regs).toNat

/-- Sets a field to `v`, cut to its width. -/
def State.setF (s : State) (f : Field) (i v : Nat) : State :=
  { s with regs := sput (f.reset i) (f.key i) (BitVec.ofNat 32 (v % 2 ^ f.w)) s.regs }

/-- A one-bit field. -/
def State.flag (s : State) (f : Field) (i : Nat := 0) : Bool := s.getF f i != 0

/-- Sets a one-bit field to 1. -/
def State.raise (s : State) (f : Field) (i : Nat := 0) : State := s.setF f i 1

/-- Sets a field to 0. -/
def State.lower (s : State) (f : Field) (i : Nat := 0) : State := s.setF f i 0

/-- Sets a one-bit field. -/
def State.setBit (s : State) (f : Field) (i : Nat) (b : Bool) : State := s.setF f i (b2n b)

/-- Adds to a counter that wraps. -/
def State.bump (s : State) (f : Field) (i : Nat := 0) (by' : Nat := 1) : State := s.setF f i (s.getF f i + by')

/-- Adds to a counter that saturates. -/
def State.bumpSat (s : State) (f : Field) (i : Nat := 0) (by' : Nat := 1) : State :=
  s.setF f i (satN f.w (s.getF f i + by'))

/-- Returns a field to its value at reset. -/
def State.resetF (s : State) (f : Field) (i : Nat := 0) : State := s.setF f i (f.reset i).toNat

/-- A field as a signed number. -/
def State.getI (s : State) (f : Field) (i : Nat := 0) : Int := signed f.w (s.getF f i)

/-- A defined encoding of the field (R6). -/
def Field.legal (f : Field) (v : Nat) : Bool :=
  f.ok.isEmpty || f.ok.any (fun r => decide (r.1 ≤ v) && decide (v ≤ r.2))

end Sys2Proof.Machine
end

