-- ==== Sys2Proof/Machine/Ops.lean ====
section
/-! DEFINITION. The named operations over memory, tables, events, interrupts, tenants, credit pools and the energy
account that the meanings share. -/

namespace Sys2Proof.Machine

/-! ## Memory -/

/-- The `n` bytes from `a` of a canonical byte list whose entries all lie at or after `a`. -/
def fillBytes (d : Byte) : Nat → Nat → List Host.Cell → List Byte
  | 0, _, _ => []
  | n + 1, _, [] => d :: fillBytes d n 0 []
  | n + 1, a, (k, v) :: r => if k = a then v :: fillBytes d n (a + 1) r else d :: fillBytes d n (a + 1) ((k, v) :: r)

/-- The `n` bytes from `a`; an unlisted byte reads `d`. -/
def readBytes (d : Byte) (a n : Nat) (m : List Host.Cell) : List Byte :=
  fillBytes d n a (m.filter (fun e => decide (a ≤ e.1) && decide (e.1 < a + n)))

/-- The entries that list the bytes `bs` from `a`. -/
def cellsOf (d : Byte) : Nat → List Byte → List Host.Cell
  | _, [] => []
  | a, b :: r => if b = d then cellsOf d (a + 1) r else (a, b) :: cellsOf d (a + 1) r

/-- The byte list with `bs` stored from `a`. -/
def writeBytes (d : Byte) (a : Nat) (bs : List Byte) (m : List Host.Cell) : List Host.Cell :=
  splice a bs.length (cellsOf d a bs) m

/-- The canonical form of a memory whose unlisted bytes read `d`. -/
def Memory.wf (d : Byte) (m : List Host.Cell) : Bool := tableOk (fun _ => d) m

/-- Bytes of the buffer (spec/05 R96); a byte nothing has written reads 0 (log entry 8). -/
def State.bufRead (s : State) (a n : Nat) : List Byte := readBytes 0 a n s.buf

/-- One byte of the buffer. -/
def State.bufByte (s : State) (a : Nat) : Byte := sget 0 a s.buf

/-- The error of a word of memory `mem`, if it holds one (spec/15 R316). -/
def State.badWord (s : State) (mem word : Nat) : Option BadWord := s.ecc.bad.find? (fun b => b.mem == mem && b.word == word)

/-- Words of buffer bytes `a` to `a + n − 1` that hold an uncorrectable error. -/
def State.ueWords (s : State) (mem a n : Nat) : List Nat :=
  (s.ecc.bad.filter (fun b => b.mem == mem && b.double && decide (b.word < a + n) && decide (a < b.word + 8))).map (·.word)

/-- What a write of `n` bytes from `a` leaves in error (R317): a word it covers whole, or one it merges into after
correction, gets a fresh code; a word with an uncorrectable error that it covers in part stays as it is. -/
def Ecc.written (e : Ecc) (a n : Nat) : Ecc :=
  { e with bad := e.bad.filter (fun b => b.mem != 0 || decide (a + n ≤ b.word) || decide (b.word + 8 ≤ a) ||
      (b.double && (decide (b.word < a) || decide (a + n < b.word + 8)))) }

/-- The bytes that a write leaves in place of `bs`: those of a word that R317 does not write keep what they hold. -/
def State.kept (s : State) (a : Nat) (bs : List Byte) : List Byte :=
  let stay := (s.ueWords 0 a bs.length).filter (fun w => decide (w < a) || decide (a + bs.length < w + 8))
  if stay.isEmpty then bs
  else
    let old := s.bufRead a bs.length
    (List.range bs.length).map (fun i => if stay.contains ((a + i) / 8 * 8) then byteAt old i else byteAt bs i)

/-- Bank `b` is uncacheable: its bit of CACHE_NCBANK is 1, or the cache is disabled (spec/14 R304, R307). -/
def State.uncached (s : State) (b : Nat) : Bool := !s.flag Reg.CACHE_CTRL_EN || bitOf (s.getF Reg.CACHE_NCBANK_NC) b

/-- A hart's reservation of a block that a write of `n` bytes at address `a` touches is broken (spec/14 R299). -/
def Hart.broken (x : Hart) (a n : Nat) : Hart :=
  match x.reservation with
  | some r => if r < a + n ∧ a < r + 64 then { x with reservation := none } else x
  | none => x

/-- A write of `n` bytes at address `a` breaks the reservations of the harts in `l`. -/
def State.breakRes (s : State) (l : List Nat) (a n : Nat) : State :=
  if s.harts.any (fun e => e.2.reservation.isSome) then
    { s with harts := l.foldl (fun (t : Sparse Hart) h => sput {} h ((sget {} h t).broken a n) t) s.harts }
  else s

/-- Stores bytes in the buffer (R317); bytes past its end go nowhere. A write in an uncacheable bank breaks reservations. -/
def State.bufWrite (s : State) (a : Nat) (bs : List Byte) : State :=
  let bs := bs.take (0x1000000 - a)
  let s := if s.uncached (a / 0x100000) then s.breakRes [0, 1, 2, 3] (0x10000000 + a) bs.length else s
  if s.ecc.bad.isEmpty then { s with buf := writeBytes 0 a bs s.buf }
  else { s with buf := writeBytes 0 a (s.kept a bs) s.buf, ecc := s.ecc.written a bs.length }

/-- A 32-bit word of the buffer. -/
def State.bufWord (s : State) (a : Nat) : Nat := leNat (s.bufRead a 4)

/-! ## Tables of the state -/

/-- Channel `n`. -/
def State.chan (s : State) (n : Nat) : Chan := sget {} n s.chans
/-- Sets channel `n`. -/
def State.setChan (s : State) (n : Nat) (c : Chan) : State := { s with chans := sput {} n c s.chans }
/-- Tenant `t`. -/
def State.ten (s : State) (t : Nat) : Tenant := sget {} t s.tenants
/-- Sets tenant `t`. -/
def State.setTen (s : State) (t : Nat) (x : Tenant) : State := { s with tenants := sput {} t x s.tenants }
/-- Queue `q` beside its registers. -/
def State.queue (s : State) (q : Nat) : Queue := sget {} q s.queues
/-- Sets queue `q`. -/
def State.setQueue (s : State) (q : Nat) (x : Queue) : State := { s with queues := sput {} q x s.queues }
/-- The read/write channel of actuator `a`. -/
def State.rw (s : State) (a : Nat) : Rwc := sget {} a s.rwc
/-- Sets a read/write channel. -/
def State.setRw (s : State) (a : Nat) (x : Rwc) : State := { s with rwc := sput {} a x s.rwc }
/-- The loop of actuator `a`. -/
def State.loop (s : State) (a : Nat) : Loop := sget {} a s.loops
/-- Sets a loop. -/
def State.setLoop (s : State) (a : Nat) (x : Loop) : State := { s with loops := sput {} a x s.loops }
/-- A bushel that the device has not met: bushels 0 and 1 are SYSTEM (R136), any other is taken as FREE (log entry 10). -/
def unmet (b : Nat) : Bushel := if b < 2 then { state := .system } else {}

/-- Bushel `b`. -/
def State.bushel (s : State) (b : Nat) : Bushel := sget (unmet b) b s.bushels
/-- Sets bushel `b`. -/
def State.setBushel (s : State) (b : Nat) (x : Bushel) : State := { s with bushels := sput (unmet b) b x s.bushels }
/-- The intake of channel `n`. -/
def State.intake (s : State) (n : Nat) : Intake := sget {} n s.ovr.intakes
/-- Sets an intake. -/
def State.setIntake (s : State) (n : Nat) (x : Intake) : State :=
  { s with ovr := { s.ovr with intakes := sput {} n x s.ovr.intakes } }
/-- What the owner keeps of mirrored channel `n`. -/
def State.own (s : State) (n : Nat) : OvrOwn := sget {} n s.ovr.own
/-- Sets it. -/
def State.setOwn (s : State) (n : Nat) (x : OvrOwn) : State :=
  { s with ovr := { s.ovr with own := sput {} n x s.ovr.own } }
/-- Hart `h`. -/
def State.hart (s : State) (h : Nat) : Hart := sget {} h s.harts
/-- Sets hart `h`. -/
def State.setHart (s : State) (h : Nat) (x : Hart) : State := { s with harts := sput {} h x s.harts }

/-- The tenants' numbers. -/
def tids : List Nat := List.range 16
/-- The channels' numbers. -/
def chanNums : List Nat := List.range 64

/-- Applies `f` for each number of a list, in order. -/
def State.each (s : State) (l : List Nat) (f : State → Nat → State) : State := l.foldl f s

/-! ## The logic die runs (log entry 1) -/

/-- The logic die runs: not held in a reset, its rails up, its root clock running and not stopped (R335, R364, R377). -/
def State.live (s : State) : Bool := decide (s.die = .running) && !s.clk.stopped && !s.clk.xtalStopped

/-- A command of the logic die: it arises only while the logic die runs. -/
def State.whenLive (s : State) (f : State → State) : State := if s.live then f s else s

/-- A command that arises only where `p` holds. -/
def State.when' (s : State) (p : Bool) (f : State → State) : State := if p then f s else s

/-! ## Stamps and events (spec/13 R286, spec/17 R356, R359) -/

/-- The pair every stamp is taken as (R286). -/
def State.stamp (s : State) : Stamp := { dmt := s.time.dmt, epoch := s.time.epoch }

/-- An event enters the intake, or is dropped when the intake is full (R356). -/
def State.intakeEvent (s : State) (e : Event) : State :=
  if s.evr.intake.length < 32 then { s with evr := { s.evr with intake := s.evr.intake ++ [e] } }
  else { s with evr := { s.evr with dropped := s.evr.dropped + 1
                                    droppedTotal := BitVec.ofNat 16 (satN 16 (s.evr.droppedTotal.toNat + 1)) } }

/-- Records an event, stamped as it arises; none enters while the logic die does not run (R356, R395). -/
def State.event (s : State) (code : Nat) (unit aux detail : Nat) : State :=
  if s.live then
    s.intakeEvent ({ stamp := s.stamp, code := BitVec.ofNat 8 code, unit := BitVec.ofNat 8 unit,
                     aux := BitVec.ofNat 16 aux, detail := BitVec.ofNat 32 detail } : Event)
  else s

/-- Counts an event in the window of its pair. -/
def countWindow (e : Event) (l : List Window) : List Window :=
  l.map (fun (w : Window) => if w.code = e.code ∧ w.unit = e.unit then { w with count := w.count + 1, last := e } else w)

/-- Records an event of a coalescing code (R359). -/
def State.eventC (s : State) (code : Nat) (unit detail : Nat) : State :=
  if s.live then
    let e : Event := { stamp := s.stamp, code := BitVec.ofNat 8 code, unit := BitVec.ofNat 8 unit, aux := 1,
                       detail := BitVec.ofNat 32 detail }
    if s.evr.windows.any (fun w => w.code = e.code ∧ w.unit = e.unit) then
      { s with evr := { s.evr with windows := countWindow e s.evr.windows } }
    else if s.evr.windows.length < 16 then
      State.intakeEvent { s with evr := { s.evr with windows := s.evr.windows ++ [{ code := e.code, unit := e.unit, last := e }] } } e
    else s.intakeEvent e
  else s

/-- DETAIL of a refused register write (R357, path 0). -/
def regDetail (addr : Nat) : Nat := (addr - 0x40000000) % 2 ^ 21
/-- DETAIL of a refused dictionary write (R357, path 1). -/
def dictDetail (index sub : Nat) : Nat := 2 ^ 30 + index * 256 + sub
/-- DETAIL of a reserved Stream Port header (R357, path 2). -/
def headerDetail (w : Word) : Nat := 2 * 2 ^ 30 + w.toNat / 2 ^ 16
/-- DETAIL of a reserved queue code or note kind (R357, path 3). -/
def noteDetail (k : Nat) : Nat := 3 * 2 ^ 30 + k % 256

/-- WRITE_DENIED (R3). -/
def State.denied (s : State) (src detail : Nat) : State := s.eventC 0x02 src detail
/-- WRITE_RESERVED (R6). -/
def State.reserved (s : State) (src detail : Nat) : State := s.eventC 0x03 src detail

/-! ## Enables that need a clock (spec/16 R334) -/

/-- A domain of CLK_SRC: 0 SYS, 1 BUF, 2 LOOP, 3 LINK, 4 PERI. It runs from source 1. -/
def State.onPll (s : State) (d : Nat) : Bool := bitOf (s.getF Reg.CLK_STATUS_CUR) d

/-- An enable is refused because its domain does not run from source 1: RUN_REJECT and WRITE_DENIED (R334). -/
def State.runReject (s : State) (src addr : Nat) : State := (s.raise Reg.CLK_EVENTS_RUN_REJECT).denied src (regDetail addr)

/-! ## Emergencies (spec/12 R267) -/

/-- The NMT state is Pre-operational or Operational (R265 to R270). -/
def State.nmtUp (s : State) : Bool := s.getF Reg.DICT_STATUS_NMT == 0x05 || s.getF Reg.DICT_STATUS_NMT == 0x7F

/-- The codes of conditions that last (R267). -/
def lastingCodes : List Nat := [0x3100, 0x4200, 0x8120, 0xFF01, 0xFF02, 0xFF03, 0xFF04, 0xFF05, 0xFF06]

/-- A condition of R267 has arisen: its EMCY falls due; none is sent outside Pre-operational and Operational (`up`). One that
lasts is active from now on, whether its EMCY is sent or not. -/
def Dict.emcy (d : Dict) (up : Bool) (e : Emcy) : Dict :=
  { d with
    active := if lastingCodes.contains e.code then e.code :: d.active.filter (· != e.code) else d.active
    emcyDue := if up then d.emcyDue ++ [e] else d.emcyDue }

/-- A condition of R267 has arisen. -/
def State.emcy (s : State) (code : Nat) (b3 : Byte) (detail : Nat) : State :=
  { s with dict := s.dict.emcy s.nmtUp { code := code, b3 := b3, detail := BitVec.ofNat 32 detail } }

/-! ## Rights, sessions and interrupt causes (spec/04) -/

/-- The writer may write an RWK field: the keeper's system window, or a hart in machine mode (R3, R77). -/
def privileged (src : Nat) : Bool := decide (src = 0) || (decide (0x10 ≤ src) && decide (src ≤ 0x13))

/-- The writer is firmware in machine mode. -/
def machineMode (src : Nat) : Bool := decide (0x10 ≤ src) && decide (src ≤ 0x13)

/-- Tenant `t` has an open session. -/
def State.sessionOpen (s : State) (t : Nat) : Bool := (s.ten t).sess == 2

/-- The tenant with the write right to channel `n` (R83). -/
def State.writer (s : State) (n : Nat) : Option Nat :=
  if s.flag Reg.CHAN_RIGHTS_WRITER_EN n then some (s.getF Reg.CHAN_RIGHTS_WRITER n) else none

/-- Tenant `t` has the write right to channel `n`. -/
def State.mayWrite (s : State) (t n : Nat) : Bool := s.writer n == some t

/-- Channel `n` is assigned to tenant `t` (R83). -/
def State.assigned (s : State) (t n : Nat) : Bool := s.mayWrite t n || bitOf (s.getF Reg.CHAN_RIGHTS_READERS n) t

/-- Raises cause `bit` for tenant `t` (R91): 0 COMPLETION, 1 QUEUE_ERROR, 2 CHANNEL_HALTED, 3 SHED, 4 LINK, 5 ENERGY,
6 SESSION_CLOSED. -/
def State.cause (s : State) (t bit : Nat) : State :=
  s.setTen t { s.ten t with cause := (s.ten t).cause ||| BitVec.ofNat 7 (2 ^ bit) }

/-- Raises a cause for the tenant with the write right to channel `n`. -/
def State.causeWriter (s : State) (n bit : Nat) : State :=
  match s.writer n with
  | some t => s.cause t bit
  | none => s

/-- Raises a cause for every tenant with an open session. -/
def State.causeOpen (s : State) (bit : Nat) : State :=
  s.each tids (fun s t => if s.sessionOpen t then s.cause t bit else s)

/-- Raises a cause for every tenant that exists. -/
def State.causeAll (s : State) (bit : Nat) : State :=
  s.each tids (fun s t => if s.flag Reg.TCFG_EN t then s.cause t bit else s)

/-- SP_IRQ_N pin `k` is driven low (R52, R91). -/
def State.irqLow (s : State) (k : Nat) : Bool :=
  tids.any (fun t => s.getF Reg.TCFG_IRQ_PIN t == k && (s.ten t).cause &&& (s.ten t).mask != 0)

/-- A session closes (R81); SESSION_CLOSED unless it is the tenant's own CLOSE (R91). A lock stands (R80). -/
def State.closeSession (s : State) (t : Nat) (own : Bool) : State :=
  let x := s.ten t
  let was := x.sess == 2
  let s := s.setTen t { x with sess := if x.sess = 3 then 3 else 0, nonce := none }
  if was && !own then s.cause t 6 else s

/-! ## Commands in flight and tags (spec/03 R69) -/

/-- The tag pool of an opcode: 0 write, 1 read, 2 control. -/
def opPool (op : Nat) : Nat :=
  if op = 0x10 then 0 else if op = 0x01 ∨ op = 0x07 ∨ op = 0x0A then 1 else 2

/-- The tag pool of a Stream Port frame. -/
def typePool (ty : Nat) : Nat := if ty = 0 then 0 else if ty = 2 then 2 else 1

/-- The size of a tag pool. -/
def State.tagSize (s : State) (pool : Nat) : Nat :=
  match pool with
  | 0 => s.getF Reg.TAG_SPLIT_WRITE
  | 1 => s.getF Reg.TAG_SPLIT_READ
  | _ => 1024 - s.getF Reg.TAG_SPLIT_WRITE - s.getF Reg.TAG_SPLIT_READ

/-- The frame on the port, as a list. -/
def State.frames (s : State) : List Frame := s.port.frame.toList

/-- Tags of a pool in use, by the owners that `p` takes. -/
def State.tagUse (s : State) (pool : Nat) (p : Option Nat → Bool) : Nat :=
  (s.frames.filter (fun f => f.tagged && typePool f.ty == pool && p (some f.tid))).length +
    (s.cmds.filter (fun c => opPool c.op == pool && p c.owner)).length

/-- Free tags of a pool (TAG_FREE). -/
def State.tagFree (s : State) (pool : Nat) : Nat := s.tagSize pool - s.tagUse pool (fun _ => true)

/-- A tenant's share of a tag pool. -/
def Share.tags (x : Share) (pool : Nat) : Nat :=
  match pool with
  | 0 => x.tagsW
  | 1 => x.tagsR
  | _ => x.tagsC

/-- The sum of a share over the tenants. -/
def State.shareSum (s : State) (f : Share → Nat) : Nat := (tids.map (fun t => f (s.ten t).share)).sum

/-- What an owner may hold of a pool of `size` (R92): a tenant its share, firmware what no tenant's share reserves. -/
def State.limit (s : State) (owner : Option Nat) (size : Nat) (f : Share → Nat) : Nat :=
  match owner with
  | some t => f (s.ten t).share
  | none => size - s.shareSum f

/-- A tag of the pool is available to the owner. -/
def State.tagOk (s : State) (pool : Nat) (owner : Option Nat) : Bool :=
  decide (0 < s.tagFree pool) &&
    decide (s.tagUse pool (· == owner) < s.limit owner (s.tagSize pool) (Share.tags · pool))

/-- The lowest-numbered tag not in use (log entry 13). -/
def State.newTag (s : State) : Nat :=
  ((List.range 1024).find? (fun n => !(s.frames.any (fun f => f.tagged && f.tag == n)) && !(s.cmds.any (·.tag == n)))).getD 0

/-! ## Bushels, zones, costs -/

/-- The actuator of a bushel: heads 0 to 3 are A's, 4 to 7 B's (spec/06 R119). -/
def State.actOf (s : State) (b : Nat) : Nat := if s.getF Reg.BMAP_HEAD b < 4 then 0 else 1

/-- The cost of a record in a bushel: the cost-table entry of its zone (spec/10 R221). -/
def State.costOf (s : State) (b : Nat) : Nat := s.getF Reg.COST_SCRUPLES (s.getF Reg.BMAP_ZONE b)

/-- A frame of `len` grains would roll the channel's bushel over (spec/06 R134). -/
def State.willRoll (s : State) (n len : Nat) : Bool :=
  decide (16384 < (s.chan n).promised + len + 2 + s.getF Reg.LDG_CTRL_TEAR_RSV)

/-! ## The media queues -/

/-- The records of a channel's media write queue, the one under an open gate first. -/
def Rwc.records (x : Rwc) : List Rec := x.gate.toList ++ x.wq

/-- Every record not yet WRITTEN. -/
def State.records (s : State) : List Rec := (s.rw 0).records ++ (s.rw 1).records

/-- The owners that hold the seal credits, intake credits and the anchor credit: the open channels and intakes. -/
def State.openChans (s : State) : List (Nat × Chan) := s.chans

/-- Media slots of an actuator in use by the owners that `p` takes (spec/03 R25, R70): a frame's or a queued write's
grains before the commit edge, records with a slot of their own, seal credits, intake credits, the anchor credit. -/
def State.slotUse (s : State) (act : Nat) (p : Option Nat → Bool) : Nat :=
  ((s.frames.filter (fun f => f.phase == .writing && f.act == act && p (some f.tid))).map (·.pages.length)).sum +
  ((s.cmds.filter (fun c => c.op == 0x10 && c.act == act && p c.owner)).map (·.pages.length)).sum +
  ((s.rw act).records.filter (fun r => !r.onCredit && p r.tid)).length +
  (s.openChans.filter (fun e => match e.2.credit with | some k => k.act == act && p k.tid | none => false)).length +
  (if p none then
    (s.ovr.intakes.map (fun e => (if e.2.act == act then e.2.outstanding.length else 0) +
      (match e.2.credit with | some k => b2n (k.act == act) | none => 0))).sum +
    (s.ovr.prov.filter (fun g => (s.intake g.chan).act == act)).length +
    (match s.time.credit with | some (_, a, _) => b2n (a == act) | none => 0)
  else 0)

/-- The media slots of an actuator. -/
def State.slotSize (s : State) (act : Nat) : Nat := if act = 0 then s.getF Reg.POOL_SLOTS_A else s.getF Reg.POOL_SLOTS_B

/-- A tenant's share of an actuator's slots. -/
def Share.slots (x : Share) (act : Nat) : Nat := if act = 0 then x.slotsA else x.slotsB

/-- `n` slots of an actuator are available to the owner. -/
def State.slotsOk (s : State) (act n : Nat) (owner : Option Nat) : Bool :=
  decide (s.slotUse act (fun _ => true) + n ≤ s.slotSize act) &&
    decide (s.slotUse act (· == owner) + n ≤ s.limit owner (s.slotSize act) (Share.slots · act))

/-! ## Pages (spec/05 R97, R98, R99) -/

/-- Page `p` is retired (spec/15 R322). -/
def State.retired (s : State) (p : Nat) : Bool := bitOf (s.getF Reg.ECC_RETIRE_MAP (p / 32)) (p % 32)

/-- Page `p` is free: in the pool region, usable, not allocated. -/
def State.pageFree (s : State) (p : Nat) : Bool :=
  decide (s.getF Reg.BUF_POOL_BASE_PAGE ≤ p) && decide (p < 4096) && !s.retired p && !(s.pages.any (·.num == p))

/-- The page that the allocator takes (R98): the first bank after that of the previous allocation that holds a free
page, and its lowest-numbered one. -/
def State.nextPage (s : State) : Option Nat :=
  ((List.range 16).map (fun i => (s.lastBank + 1 + i) % 16)).findSome?
    (fun b => ((List.range 256).map (fun i => 256 * b + i)).find? s.pageFree)

/-- Pages of a pool in use by the owners that `p` takes. -/
def State.pageUse (s : State) (pool : Pool) (p : Option Nat → Bool) : Nat :=
  (s.pages.filter (fun g => g.pool == pool && p g.tid)).length

/-- The cap of a page pool (POOL_PAGES). -/
def State.poolCap (s : State) (pool : Pool) : Nat :=
  match pool with
  | .write => s.getF Reg.POOL_PAGES_WRITE
  | .read => s.getF Reg.POOL_PAGES_READ

/-- The drive is being heated (spec/09 R209). -/
def State.heating (s : State) : Bool := s.flag Reg.SPN_STATE_HEATING

/-- Usable pages of the pool region that are not allocated. -/
def State.freePages (s : State) : Nat :=
  let base := s.getF Reg.BUF_POOL_BASE_PAGE
  let dead := ((List.range 128).map (fun i =>
    let w := s.getF Reg.ECC_RETIRE_MAP i
    if w = 0 then 0 else ((List.range 32).filter (fun b => bitOf w b && decide (base ≤ 32 * i + b))).length)).sum
  4096 - base - dead - (s.pages.filter (fun g => decide (base ≤ g.num) && !s.retired g.num)).length

/-- `n` write pages are available to the owner; while the drive is heated they come from the held reserve (R70, R92). -/
def State.writePagesOk (s : State) (n : Nat) (owner : Option Nat) : Bool :=
  decide (n ≤ s.freePages) &&
  decide (s.pageUse .write (fun _ => true) + n ≤ s.poolCap .write) &&
  decide (s.pageUse .write (· == owner) + n ≤ s.limit owner (s.poolCap .write) Share.pages) &&
  (!s.heating || decide ((s.pages.filter (·.held)).length + n ≤ s.getF Reg.POOL_HOLD_HOLD))

/-- `n` read pages are available. -/
def State.readPagesOk (s : State) (n : Nat) : Bool :=
  decide (n ≤ s.freePages) && decide (s.pageUse .read (fun _ => true) + n ≤ s.poolCap .read)

/-- Allocates `n` pages, the template `g` giving what they are for; answers their numbers too. -/
def State.allocPages (s : State) (g : Page) : Nat → State × List Nat
  | 0 => (s, [])
  | n + 1 =>
    match s.nextPage with
    | none => (s, [])
    | some p =>
      let r := State.allocPages { s with pages := s.pages ++ [{ g with num := p }], lastBank := p / 256 } g n
      (r.1, p :: r.2)

/-- Returns to their pool the pages whose return point is reached and that nothing reads (R25, R99). -/
def State.sweepPages (s : State) : State :=
  { s with pages := s.pages.filter (fun g => !(g.freed && !g.mirror && g.readers == 0)) }

/-- Changes an allocated page. -/
def State.modPage (s : State) (p : Nat) (f : Page → Page) : State :=
  { s with pages := s.pages.map (fun g => if g.num == p then f g else g) }

/-- A page reaches its return point. -/
def State.freePage (s : State) (p : Nat) : State := (s.modPage p (fun g => { g with freed := true })).sweepPages

/-- Pages return to their pool at once: credits of a frame that holds no grain. -/
def State.dropPages (s : State) (ps : List Nat) : State :=
  State.sweepPages { s with pages := s.pages.map (fun (g : Page) => if ps.contains g.num then { g with freed := true } else g) }

/-! ## The energy account (spec/10 R215 to R222) -/

/-- Earmarks: frames and queued writes before their commit edge. -/
def State.earmarks (s : State) (p : Option Nat → Bool) : Nat :=
  ((s.frames.filter (fun f => f.phase == .writing && p (some f.tid))).map (·.earmark)).sum +
    ((s.cmds.filter (fun c => p c.owner)).map (·.earmark)).sum

/-- Debits and record debits: of the records not yet WRITTEN, and what a halt took (R218, R325). -/
def State.debits (s : State) (p : Option Nat → Bool) : Nat :=
  ((s.records.filter (fun r => (r.account == .debit || r.account == .record) && p r.tid)).map (·.cost)).sum +
    (s.openChans.map (fun e => if p (s.writer e.1) then e.2.haltCost else 0)).sum

/-- Seal credits. -/
def State.sealRes (s : State) (p : Option Nat → Bool) : Nat :=
  (s.openChans.map (fun e => match e.2.credit with | some k => if p k.tid then k.cost else 0 | none => 0)).sum +
    (if p none then
      (s.ovr.intakes.map (fun e => match e.2.credit with | some k => k.cost | none => 0)).sum
    else 0)

/-- Intake: mirror credits granted and partner's grains not yet WRITTEN here. -/
def State.intakeEnergy (s : State) : Nat :=
  (s.ovr.intakes.map (fun e => (e.2.outstanding.map (·.1)).sum)).sum + (s.ovr.prov.map (·.cost)).sum +
    ((s.records.filter (fun r => r.account == .intake)).map (·.cost)).sum

/-- ENG_COMMIT (R218). -/
def State.commit (s : State) : Nat :=
  s.earmarks (fun _ => true) + s.debits (fun _ => true) + s.sealRes (fun _ => true) + s.intakeEnergy +
    s.power.spinup.getD 0

/-- ENG_TEN_t: the committed energy of tenant `t` (R219). -/
def State.tenEnergy (s : State) (t : Nat) : Nat :=
  s.earmarks (· == some t) + s.debits (· == some t) + s.sealRes (· == some t)

/-- ENG_LEND; 0 while ENG_CTRL.EN is 0 (R217, R235). -/
def State.lend (s : State) : Nat := if s.flag Reg.ENG_CTRL_EN then s.getF Reg.ENG_LEND_E else 0

/-- A record debit is permitted by R27 (spec/06 R131). -/
def State.debitOk (s : State) (cost : Nat) : Bool := decide (s.commit + cost ≤ s.lend)

/-- The spindle is at speed. -/
def State.atSpeed (s : State) : Bool := s.flag Reg.SPN_STATE_AT_SPEED

/-- An admission must also afford the spin-up charge (R222). -/
def State.needSpinup (s : State) : Bool := !s.atSpeed && s.power.spinup.isNone

/-- What an admission of `len` grains to channel `n` earmarks (R218). -/
def State.earmarkOf (s : State) (n len : Nat) : Nat :=
  let z := s.costOf (s.chan n).bushel
  len * z + (if s.willRoll n len then 2 * z else 0)

/-- Admission is closed under R27 exactly while LEND_OK is 0 (R220). -/
def State.lendOk (s : State) : Bool := s.flag Reg.ENG_STATUS_LEND_OK

/-- The energy credit for `len` grains of channel `n` is there (R219). -/
def State.energyOk (s : State) (n len : Nat) : Bool :=
  let a := s.earmarkOf n len + (if s.needSpinup then s.getF Reg.ENG_SPINUP_E else 0)
  decide (s.commit + a ≤ s.lend) &&
  (match s.writer n with
   | some t => decide (s.tenEnergy t + a ≤ (s.ten t).share.energy)
   | none => true) &&
  s.lendOk && !(s.needSpinup && s.getF Reg.ENG_SPINUP_E == 0)

/-- Checks the account after a change (R220): admission closes once ENG_COMMIT exceeds ENG_LEND. -/
def State.checkEnergy (s : State) : State :=
  if s.lendOk && decide (s.lend < s.commit) then
    let c := s.commit
    ((((s.lower Reg.ENG_STATUS_LEND_OK).raise Reg.ENG_EVENTS_CLOSE).event 0x32 0 0 c).causeOpen 5).emcy 0xFF01 0xFF s.lend
  else s

/-! ## Power loss (spec/10 R228, R230) -/

/-- The sequence of R230 runs, or has run, as a power loss: PL_ACTIVE. In that of a deferred reset it is 0 (spec/18 R377). -/
def State.inLoss (s : State) : Bool := s.flag Reg.ENG_STATUS_PL_ACTIVE

/-- The power die has detected a loss and has not restarted the charger since (R214, R396). -/
def State.lossStands (s : State) : Bool := s.power.loss.isSome && !s.power.charger

/-! ## Admission (spec/02 R38, R49; spec/01 R20) -/

/-- The port is open: PORT_EN set, seated, no power loss past step 3, running (R49). -/
def State.portOpen (s : State) : Bool := s.live && s.flag Reg.SP_CTRL_PORT_EN && s.port.seated

/-- Write admission is open for class `cls` (R49). -/
def State.admitOpen (s : State) (cls : Nat) : Bool :=
  s.flag Reg.SP_CTRL_ADMIT_EN && s.lendOk && !s.power.admClosed && !(s.heating && cls != 0)

/-- SP_STATUS.ADMIT_OPEN: write admission is open for some class. -/
def State.admitAny (s : State) : Bool := s.admitOpen 0

/-- The shedding state of channel `n`. -/
def State.shedOf (s : State) (n : Nat) : Shed := sget {} n s.shed

/-- Channel `n` is under reduction (spec/05 R115). -/
def State.reduced (s : State) (n : Nat) : Bool := s.flag Reg.ARB_STATUS_SHORTFALL && decide ((s.shedOf n).factor < 32768)

/-- Channel `n` is being shed (R115). -/
def State.beingShed (s : State) (n : Nat) : Bool :=
  s.reduced n && ((s.shedOf n).factor == 0 || decide ((s.shedOf n).quota < (s.chan n).frameMax))

/-- A write to channel `n` is in flight, from admission to status (R41). -/
def State.writeBusy (s : State) (n : Nat) : Bool :=
  s.frames.any (fun f => f.ty == 0 && f.chan == n) || s.cmds.any (fun c => c.op == 0x10 && dChan c.desc == n)

/-- The two free FIFOs are empty. -/
def State.noBushel (s : State) : Bool := s.fifoA.isEmpty && s.fifoB.isEmpty

/-- Pages, tag and slots for a frame of `len` grains of channel `n` are there for the owner (R38 step 10). A roll-over
in prospect with no free bushel counts as a slot shortfall (R134). -/
def State.poolsOk (s : State) (n len : Nat) (owner : Option Nat) : Bool :=
  s.writePagesOk len owner && s.tagOk 0 owner && s.slotsOk (s.chan n).act len owner &&
    !(s.willRoll n len && s.noBushel)

/-- READY of channel `n` (R38). -/
def State.ready (s : State) (n : Nat) : Bool :=
  let c := s.chan n
  c.isOpen && s.energyOk n c.frameMax && s.poolsOk n c.frameMax (s.writer n)

/-- The channel has a grain as a resident (R39): DURABLE with its page held, or staged and checked. -/
def State.residentRec (s : State) (n : Nat) (g : Word) : Option Rec :=
  s.records.find? (fun r => r.kind == .grain && !r.intake && r.chan == n && r.seq == g)

/-- The staging that makes a grain resident (R100). -/
def State.residentStage (s : State) (n : Nat) (g : Word) : Option Staging :=
  s.stagings.find? (fun t => t.chan == n && t.seq == g && t.checked && !t.revoked)

/-- Takes one free value (log entry 3). -/
def State.fresh (s : State) : State × Word := ({ s with freeCtr := s.freeCtr + 1 }, Config.freeWord s.freeCtr)

end Sys2Proof.Machine
end

