-- ==== Sys2Proof/Machine/Energy.lean ====
section
/-! DEFINITION. The measured terms of the energy account (spec/10 R215 to R217), the media rates (spec/05 R110 to R116)
and what follows a change of either. -/

namespace Sys2Proof.Machine

/-! ## The lendable amount -/

/-- E_CAP (R215): V is the lowest of the last four measurements. -/
def State.ecap (s : State) : Nat :=
  let m := s.getF Reg.ENG_VMIN_MV
  match s.power.vholds.min? with
  | none => 0
  | some v => if v < m then 0 else satN 24 (s.getF Reg.ENG_KCAP_K * (v * v - m * m) / (65536 * 1000000))

/-- The measured speed that E_KIN uses, in 1/8 rpm (R216): CHN_RPM while LOCK is 1, else SPN_EST, and 0 in every spindle
state other than SYNC, RUN and HARVEST. -/
def State.speed8 (s : State) : Nat :=
  let st := s.getF Reg.SPN_STATE_STATE
  if st = 6 ∨ st = 7 ∨ st = 9 then
    (if s.flag Reg.CHN_STATUS_LOCK then s.getF Reg.CHN_RPM_RPM8 else s.getF Reg.SPN_EST_RPM8)
  else 0

/-- N_L in rpm (R216). -/
def State.nL (s : State) : Nat := s.getF Reg.CHN_WMIN_RPM + s.getF Reg.ENG_KEEP_MARGIN

/-- E_KIN (R216). -/
def State.ekin (s : State) : Nat :=
  let n := s.speed8
  let l := 8 * s.nL
  if n ≤ l then 0 else satN 24 (s.getF Reg.ENG_KKIN_K * (n * n - l * l) / (64 * 2 ^ 32))

/-- ENG_LEND is recomputed (R217) and the account checked (R220). -/
def State.relend (s : State) : State :=
  let e := s.getF Reg.ENG_ECAP_E + s.getF Reg.ENG_EKIN_E
  (s.setF Reg.ENG_LEND_E 0 (if s.flag Reg.ENG_CTRL_EN then satN 24 (e - 1600) else 0)).checkEnergy

/-- E_CAP, then ENG_LEND. -/
def State.recap (s : State) : State := (s.setF Reg.ENG_ECAP_E 0 s.ecap).relend

/-- E_KIN, then ENG_LEND. -/
def State.rekin (s : State) : State := (s.setF Reg.ENG_EKIN_E 0 s.ekin).relend

/-! ## Media rates -/

/-- N_SET (spec/09 R195). -/
def State.nSet (s : State) : Nat := min (s.getF Reg.SPN_NSET_RPM) (s.getF Reg.SPN_CAP_RPM)

/-- MEDIA_FLOOR (R110). -/
def State.mediaFloor (s : State) : Nat :=
  satN 24 (2 * (s.getF Reg.ZONE_SMIN_GRAINS * s.nSet * s.getF Reg.ARB_CTRL_DERATE / (60 * 256)))

/-- The state of an actuator loop (spec/08 R177). -/
def State.actState (s : State) (a : Nat) : Nat := s.getF Reg.ACT_STATE_STATE a

/-- Actuator `a` is available (R112, R177): TRACK, SEEK or SETTLE. -/
def State.available (s : State) (a : Nat) : Bool := decide (3 ≤ s.actState a) && decide (s.actState a ≤ 5)

/-- MEDIA_NOW as its terms stand (R112). -/
def State.mediaNow (s : State) : Nat :=
  let n := min (8 * s.nSet) (s.getF Reg.CHN_RPM_RPM8)
  let one := s.getF Reg.ZONE_SMIN_GRAINS * n * s.getF Reg.ARB_CTRL_DERATE / (8 * 60 * 256)
  satN 24 (one * (b2n (s.available 0) + b2n (s.available 1)))

/-- RESV_SUM (R111, R118). -/
def State.resvSum (s : State) : Nat := s.shareSum Share.rate + s.getF Reg.ARB_MIRROR_RATE_RATE

/-! ## Shortfall and shedding (R112 to R116) -/

/-- The class of channel `n`. -/
def State.clsOf (s : State) (n : Nat) : Nat := (s.chan n).cls

/-- Sets the shedding state of a channel. -/
def State.setShed (s : State) (n : Nat) (x : Shed) : State := { s with shed := sput {} n x s.shed }
/-- The shedding state of an intake. -/
def State.shedInOf (s : State) (n : Nat) : Shed := sget {} n s.shedIn
/-- Sets the shedding state of an intake. -/
def State.setShedIn (s : State) (n : Nat) (x : Shed) : State := { s with shedIn := sput {} n x s.shedIn }

/-- Open channels of class `c`. DEDUCED (log entry 68): one that closes during a shortfall no longer counts in the sum. -/
def State.classChans (s : State) (c : Nat) : List Nat := chanNums.filter (fun n => (s.chan n).isOpen && (s.chan n).cls == c)
/-- Open intakes of class `c`. -/
def State.classIntakes (s : State) (c : Nat) : List Nat :=
  chanNums.filter (fun n => (s.intake n).isOpen && (s.intake n).cls == c)

/-- The bases of class `c`. -/
def State.basisSum (s : State) (c : Nat) : Nat :=
  ((s.classChans c).map (fun n => (s.shedOf n).basis)).sum + ((s.classIntakes c).map (fun n => (s.shedInOf n).basis)).sum

/-- The FACTOR of each class from `c` upward, given the capacity left; after the margin every class gets 0 (R114). -/
def State.factors (s : State) : Nat → Nat → Nat → List Nat
  | 0, _, _ => []
  | fuel + 1, c, cap =>
    let b := s.basisSum c
    if b ≤ cap then 32768 :: State.factors s fuel (c + 1) (cap - b)
    else cap * 32768 / b :: List.replicate fuel 0

/-- SHED for the writer of every channel that begins or ends being shed under `f` (R91). -/
def State.shedding (s : State) (f : State → State) : State :=
  let t := f s
  t.each chanNums (fun u n => if s.beingShed n != t.beingShed n then u.causeWriter n 3 else u)

/-- FACTORs are fitted anew (R114): MARGIN, CRITICAL, and its event when CRITICAL first becomes 1. -/
def State.refit (s : State) : State :=
  let fs := s.factors 4 0 (s.getF Reg.MEDIA_NOW_RATE)
  let fac (c : Nat) : Nat := fs.getD c 0
  let s := s.each chanNums (fun s n =>
    let s := if (s.chan n).isOpen then s.setShed n { s.shedOf n with factor := fac (s.chan n).cls } else s
    if (s.intake n).isOpen then s.setShedIn n { s.shedInOf n with factor := fac (s.intake n).cls } else s)
  let s := s.setF Reg.ARB_STATUS_MARGIN 0 (((List.range 4).find? (fun c => fac c != 32768)).getD 7)
  if fac 0 != 32768 && !s.critSeen then
    let s := (State.event { s with critSeen := true } 0x14 0 0 (fac 0)).emcy 0xFF02 0xFF (s.getF Reg.MEDIA_NOW_RATE)
    s.each (s.classChans 0) (fun s n => s.causeWriter n 3)
  else s

/-- A quota at a shed-frame boundary, under reduction; what is left of the last, up to FRAME_MAX − 1, is carried over (R115). -/
def Shed.next (x : Shed) (fm : Nat) : Shed :=
  { x with quota := (if x.factor < 32768 then x.basis * x.factor / 327680 else 0) + min x.quota (fm - 1) }

/-- The quotas of a shed frame (R115). -/
def State.newQuotas (s : State) : State :=
  s.each chanNums (fun s n =>
    let s := if (s.chan n).isOpen then s.setShed n ((s.shedOf n).next (s.chan n).frameMax) else s
    if (s.intake n).isOpen then s.setShedIn n ((s.shedInOf n).next (s.intake n).frameMax) else s)

/-- Grains admitted in the last second for the owner `k` (a channel, or 64 + channel for an intake). -/
def State.lastSecond (s : State) (k : Nat) : Nat :=
  ((s.admits.filter (fun e => e.1 == k && decide ((s.time.dmt - e.2.1).toNat ≤ 1000000))).map (fun e => e.2.2)).sum

/-- A shortfall begins (R112, R113): bases are latched. -/
def State.shortfallStart (s : State) : State :=
  let s := (s.raise Reg.ARB_STATUS_SHORTFALL).event 0x12 0 0 (s.getF Reg.MEDIA_NOW_RATE)
  let s := { s with critSeen := false }
  let s := s.each chanNums (fun s n =>
    let s := if (s.chan n).isOpen then s.setShed n { basis := s.lastSecond n } else s
    if (s.intake n).isOpen then s.setShedIn n { basis := s.lastSecond (64 + n) } else s)
  s.refit.newQuotas

/-- A shortfall ends (R115): quotas and bases are dropped and no channel is being shed. -/
def State.shortfallEnd (s : State) : State :=
  let s := (s.lower Reg.ARB_STATUS_SHORTFALL).event 0x13 0 0 (s.getF Reg.MEDIA_NOW_RATE)
  State.setF { s with shed := [], shedIn := [], critSeen := false } Reg.ARB_STATUS_MARGIN 0 7

/-- MEDIA_NOW is recomputed and what depends on it re-evaluated (R112 to R114). -/
def State.media (s : State) : State :=
  let s := s.setF Reg.MEDIA_NOW_RATE 0 s.mediaNow
  let short := decide (s.getF Reg.MEDIA_NOW_RATE < s.resvSum)
  match s.flag Reg.ARB_STATUS_SHORTFALL, short with
  | false, true => s.shedding State.shortfallStart
  | true, false => s.shedding State.shortfallEnd
  | true, true => s.shedding State.refit
  | false, false => s

/-- An admission of `len` grains is counted for the bases and taken from the quota (R113, R115). `k` as in `admits`. -/
def State.admitted (s : State) (k len : Nat) : State :=
  let s := { s with admits := s.admits.filter (fun (e : Nat × Dmt × Nat) => decide ((s.time.dmt - e.2.1).toNat ≤ 1000000)) ++
                      [(k, s.time.dmt, len)] }
  if s.flag Reg.ARB_STATUS_SHORTFALL then
    if k < 64 then
      s.shedding (fun s => s.setShed k { s.shedOf k with quota := (s.shedOf k).quota - len })
    else s.setShedIn (k - 64) { s.shedInOf (k - 64) with quota := (s.shedInOf (k - 64)).quota - len }
  else s

/-- The intake of channel `n` is being shed (R116). -/
def State.intakeShed (s : State) (n : Nat) : Bool :=
  let x := s.shedInOf n
  s.flag Reg.ARB_STATUS_SHORTFALL && decide (x.factor < 32768) && (x.factor == 0 || decide (x.quota < (s.intake n).frameMax))

/-! ## Commands -/

/-- VHOLD stands at `vhold` mV: the power die arms the test of R229 when it first reaches 15.0 V after the charger has
started. -/
def State.arm (s : State) (vhold : Nat) : State :=
  { s with power := { s.power with vhold := vhold, armed := s.power.armed || (s.power.charger && decide (15000 ≤ vhold)) } }

/-- ENERGY_MEASURE (R215, R217, R220, R229): a measurement of VHOLD in mV; the lowest of the last four counts. -/
def execEnergyMeasure (vhold : Nat) (s : State) : Host.Outcome State Fault Refusal :=
  .next (s.whenLive (fun s =>
    let s := s.arm vhold
    State.recap { s with power := { s.power with vholds := (vhold :: s.power.vholds).take 4 } }))

/-- ENERGY_REOPEN (R220): the margin of ENG_REOPEN has been held for 1 ms. -/
def execEnergyReopen (s : State) : Host.Outcome State Fault Refusal :=
  .next (s.whenLive (fun s => s.when'
    (!s.lendOk && s.flag Reg.ENG_CTRL_EN && decide (s.commit + s.getF Reg.ENG_REOPEN_E ≤ s.lend)) (fun s =>
      ((s.raise Reg.ENG_STATUS_LEND_OK).event 0x33 0 0 (s.lend - s.commit)).causeOpen 5)))

/-- MEDIA_NOW_RECOMPUTE (R112 to R114). -/
def execMediaNowRecompute (s : State) : Host.Outcome State Fault Refusal := .next (s.whenLive State.media)

/-- SHED_FRAME_BOUNDARY (R115): 100 ms of shed frame have passed; MEDIA_NOW is recomputed first (R112). -/
def execShedFrameBoundary (s : State) : Host.Outcome State Fault Refusal :=
  .next (s.whenLive (fun s => s.when' (s.flag Reg.ARB_STATUS_SHORTFALL) (fun s =>
    let s := s.media
    if s.flag Reg.ARB_STATUS_SHORTFALL then s.shedding State.newQuotas else s)))

end Sys2Proof.Machine
end

