-- ==== Sys2Proof/Machine/Lanes.lean ====
section
/-! DEFINITION. The characters of the Ovore lanes (spec/11 R240, R241): the 8b/10b code of IEEE 802.3 clause 36, and a
frame laid on the two lanes. -/

namespace Sys2Proof.Machine

/-- A character before coding: a control character or a data byte. -/
structure Character where
  control : Bool
  byte : Byte
deriving DecidableEq, Repr

/-- K28.5, which each lane sends between frames. -/
def kIdle : Character := { control := true, byte := 0xBC }
/-- K27.7, with which a frame begins on both lanes. -/
def kStart : Character := { control := true, byte := 0xFB }

/-- The ones in the lowest `n` bits. -/
def onesIn (n v : Nat) : Nat := ((List.range n).filter (bitOf v)).length

/-- The six-bit groups abcdei of D.0 to D.31 under negative running disparity. -/
def sixes : List Nat :=
  [0b100111, 0b011101, 0b101101, 0b110001, 0b110101, 0b101001, 0b011001, 0b111000, 0b111001, 0b100101, 0b010101, 0b110100,
   0b001101, 0b101100, 0b011100, 0b010111, 0b011011, 0b100011, 0b010011, 0b110010, 0b001011, 0b101010, 0b011010, 0b111010,
   0b110011, 0b100110, 0b010110, 0b110110, 0b001110, 0b101110, 0b011110, 0b101011]

/-- The four-bit groups fghj of D.x.0 to D.x.7 under negative running disparity. -/
def fours : List Nat := [0b1011, 0b1001, 0b0101, 0b1100, 0b1101, 0b1010, 0b0110, 0b1110]

/-- The four-bit groups of K.x.0 to K.x.7 under negative running disparity. -/
def kFours : List Nat := [0b1011, 0b0110, 0b1010, 0b1100, 0b1101, 0b0101, 0b1001, 0b0111]

/-- The running disparity after a group of `n` bits. -/
def disparity (n v : Nat) (rd : Bool) : Bool :=
  if n < 2 * onesIn n v then true else if 2 * onesIn n v < n then false else rd

/-- The six-bit group of a character; `rd`: the running disparity is positive. -/
def sixOf (c : Character) (rd : Bool) : Nat :=
  let x := c.byte.toNat % 32
  let v := if c.control && x == 28 then 0b001111 else sixes.getD x 0
  if rd && (onesIn 6 v != 3 || x == 7) then 63 - v else v

/-- The four-bit group of a character under the running disparity after its six-bit group. -/
def fourOf (c : Character) (rd : Bool) : Nat :=
  let x := c.byte.toNat % 32
  let y := c.byte.toNat / 32
  if c.control then (if rd then 15 - kFours.getD y 0 else kFours.getD y 0)
  else if y = 7 ∧ (if rd then x = 11 ∨ x = 13 ∨ x = 14 else x = 17 ∨ x = 18 ∨ x = 20) then (if rd then 0b1000 else 0b0111)
  else
    let v := fours.getD y 0
    if rd && (onesIn 4 v != 2 || y == 3) then 15 - v else v

/-- The ten bits abcdeifghj of a character, and the running disparity after it. -/
def code10 (c : Character) (rd : Bool) : BitVec 10 × Bool :=
  let a := sixOf c rd
  let r := disparity 6 a rd
  let b := fourOf c r
  (BitVec.ofNat 10 (16 * a + b), disparity 4 b r)

/-- Characters coded one after another. -/
def codeAll : Bool → List Character → List (BitVec 10) × Bool
  | rd, [] => ([], rd)
  | rd, c :: l =>
    let x := code10 c rd
    let t := codeAll x.2 l
    (x.1 :: t.1, t.2)

/-- The characters of a lane for a frame (R241): K27.7, then the even-numbered bytes on lane 0 and the others on lane 1. -/
def laneChars (lane : Nat) (frame : List Byte) : List Character :=
  kStart :: (((List.range frame.length).filter (fun i => i % 2 == lane)).map (fun i => { control := false, byte := byteAt frame i }))

end Sys2Proof.Machine
end

