-- ==== Sys2Proof/Machine/Ledger.lean ====
section
/-! DEFINITION. Ledger records (spec/06 R119 to R136): headers, the hash chain, seals, divergence records, bushel headers,
roll-over, system records and the records that are due; with the owner's side of the Ovore link that they feed
(spec/11 R243 to R248). -/

namespace Sys2Proof.Machine

/-! ## Bytes of records -/

/-- DEVICE_UID (R87). -/
def uid : List Byte := List.ofFn Config.deviceUid
/-- The device's public key, X then Y (R128). -/
def pubKey : List Byte := List.ofFn Config.publicKey

/-- KIND (R121). -/
def Kind.code : Kind → Nat
  | .grain => 1
  | .seal => 2
  | .divergence => 3
  | .directory => 4
  | .header => 5

/-- Header bytes 0–27 (R120), BODY_TAG from the 4096-byte body. -/
def hdr28 (k : Kind) (cc : Nat) (seq : Word) (st : Stamp) (flags tidpos : Nat) (opening : BitVec 16)
    (body : List Byte) : List Byte :=
  leBytes 2 0x51D7 ++ leBytes 1 k.code ++ leBytes 1 cc ++ leBytes 4 seq.toNat ++ leBytes 6 st.dmt.toNat ++
    leBytes 2 st.epoch.toNat ++ leBytes 1 flags ++ leBytes 1 tidpos ++ leBytes 2 opening.toNat ++ (sha256 body).take 8

/-- The 32-byte header of a record in a bushel of generation `gen`: HDR_CRC over GEN and bytes 0–27 (R120). -/
def fullHdr (gen : Word) (h : List Byte) : List Byte :=
  h ++ leBytes 4 (crc32c (leBytes 4 gen.toNat ++ h)).toNat

/-- The page of a grain that is WRITTEN: it holds the grain until it is returned (R39). -/
def State.holdGrain (s : State) (r : Rec) : State :=
  s.modPage r.page (fun g => { g with holds := some { chan := r.chan, intake := r.intake, opening := r.opening, seq := r.seq
                                                      hdr := fullHdr r.gen r.hdr } })

/-- C₀ (R124). -/
def chainZero (owner : List Byte) (chan : Nat) (opening : BitVec 16) (first : Word) : List Byte :=
  sha256 ([0x4C, 0x5A, 0x51, 0x43] ++ owner ++ leBytes 1 chan ++ leBytes 2 opening.toNat ++ leBytes 4 first.toNat)

/-- The chain after one more member (R124). -/
def chainFold (c hdr body : List Byte) : List Byte := sha256 (c ++ hdr.take 20 ++ sha256 body)

/-- The body of a bushel header record (R132). -/
def headerBody (bushel : Nat) (gen : Word) (cc fm flags : Nat) (opening : BitVec 16) (first : Word) (every prev : Nat)
    (chainIn owner key : List Byte) : List Byte :=
  padTo 4096 (leBytes 4 bushel ++ leBytes 4 gen.toNat ++ leBytes 1 cc ++ leBytes 1 fm ++ leBytes 2 flags ++
    leBytes 4 opening.toNat ++ leBytes 4 first.toNat ++ leBytes 4 every ++ leBytes 4 prev ++ padTo 32 chainIn ++
    owner ++ [0x04] ++ key)

/-- CHAN_CLASS (R120). -/
def chanClass (n cls : Nat) : Nat := n + 64 * cls

/-! ## The link as the owner sees it (spec/11) -/

/-- The link is up. -/
def State.linkUp (s : State) : Bool := s.flag Reg.OVR_STATUS_UP

/-- This cartridge owns channel `n` (R237, R238). -/
def State.owns (s : State) (n : Nat) : Bool :=
  !s.flag Reg.OVR_CTRL_EN || bitOf (s.getF Reg.OVR_OWN_MASK (n / 32)) (n % 32)

/-- The credit available for channel `n` (R246). -/
def State.ovrCredit (s : State) (n : Nat) : Nat := ((s.own n).granted - (s.own n).sent).toNat

/-- A note of a HEARTBEAT (R244). -/
def noteBytes (kind chan b2 : Nat) (seq : Word) (arg : List Byte) : List Byte :=
  padTo 16 (leBytes 1 kind ++ leBytes 1 chan ++ leBytes 2 b2 ++ leBytes 4 seq.toNat ++ arg)

/-- Queues an OPEN or CLOSE note of a paired cartridge, whether the link is up or not (R248). -/
def State.noteAlways (s : State) (b : List Byte) : State :=
  if s.flag Reg.OVR_CTRL_EN then { s with ovr := { s.ovr with notes := s.ovr.notes ++ [b] } } else s

/-- Queues any other note, while the link is up (R245, R253). -/
def State.note (s : State) (b : List Byte) : State :=
  if s.linkUp then { s with ovr := { s.ovr with notes := s.ovr.notes ++ [b] } } else s

/-- Channel `n` becomes lagging (R247, R250, R253): its catch-up starts after MIRRORED_HEAD. -/
def State.lag (s : State) (n : Nat) : State :=
  s.setOwn n { s.own n with lagging := true, pos := (s.chan n).mirrored, posX := 0 }

/-- A whole frame: the 16-byte header, the body, CRC-32C over all before it (R241, R242). -/
def ovrBytes (ty fseq flags : Nat) (body : List Byte) : List Byte :=
  let b := leBytes 1 ty ++ leBytes 1 fseq ++ leBytes 1 flags ++ [0] ++ uid ++ List.replicate 4 0 ++ body
  b ++ leBytes 4 (crc32c b).toNat

/-- A frame's bytes go out on the two lanes (R241). -/
def State.onLanes (s : State) (bytes : List Byte) : State :=
  let a := codeAll s.ovr.rd0 (laneChars 0 bytes)
  let b := codeAll s.ovr.rd1 (laneChars 1 bytes)
  { s with ovr := { s.ovr with out := bytes, lane0 := a.1, rd0 := a.2, lane1 := b.1, rd1 := b.2, fseqTx := s.ovr.fseqTx + 1 } }

/-- The frame `f` starts on the lanes; a frame with a page carries that page's bytes after its header (R242, R243). -/
def State.startOvr (s : State) (f : OvrFrame) : State :=
  let body := match f.ty, f.page with
    | 3, _ => leBytes 1 f.chan ++ leBytes 1 f.count ++ leBytes 2 f.opening.toNat ++ leBytes 4 f.seq.toNat ++ List.replicate 8 0
    | _, some p => f.body ++ s.bufRead (4096 * p) 4096
    | _, none => f.body
  State.onLanes { s with ovr := { s.ovr with sending := some f } } (ovrBytes f.ty s.ovr.fseqTx.toNat (b2n f.committed) body)

/-- The lanes carry nothing. -/
def State.lanesIdle (s : State) : Bool := s.ovr.sending.isNone && !s.ovr.beating

/-- Queues a frame of channel `n`, which leaves at once when the lanes are idle; the credit it takes is counted here
(R245, R246). -/
def State.queueOvr (s : State) (f : OvrFrame) : State :=
  let s := if f.ty = 3 then s else s.setOwn f.chan { s.own f.chan with sent := (s.own f.chan).sent + 1 }
  let s := match f.page with
    | some p => s.modPage p (fun g => { g with mirror := true })
    | none => s
  if s.lanesIdle && s.ovr.txq.isEmpty then s.startOvr f else { s with ovr := { s.ovr with txq := s.ovr.txq ++ [f] } }

/-- A frame may be queued live for channel `n`: mirrored, link up, not lagging, and not past step 3 of the power-loss
sequence (R247, R258). -/
def State.liveMirror (s : State) (n : Nat) : Bool :=
  s.linkUp && (s.chan n).mirror && !(s.own n).lagging && decide (s.getF Reg.ENG_STATUS_PL_STEP < 3)

/-- A live MIRROR frame of a grain: header bytes 8–15 and 28–31 are 0 (R243, R247). Without credit the channel lags. -/
def State.mirrorGrain (s : State) (n : Nat) (seq : Word) (page : Nat) (hdr : List Byte) : State :=
  if s.liveMirror n then
    if s.ovrCredit n = 0 then s.lag n
    else s.queueOvr { ty := 1, chan := n, seq := seq, page := some page, opening := (s.chan n).opening
                      body := overlay (padTo 32 hdr) 8 (List.replicate 8 0) }
  else s

/-- A seal or divergence record of a mirrored channel (R248): sent at once when the channel is mirrored live, and kept
for the catch-up (R257). `bytes` is the 32-byte header with bytes 28–31 zero and the body as the frame carries it. -/
def State.mirrorRec (s : State) (n ty : Nat) (seq : Word) (bytes : List Byte) : State :=
  if (s.chan n).mirror then
    let o := s.own n
    let s := s.setOwn n { o with extras := o.extras ++ [((s.chan n).durable, ty, bytes)] }
    -- a SEAL_NOTE may still be queued after step 3 (R258)
    if s.liveMirror n || (ty == 2 && s.linkUp && !(s.own n).lagging) then
      if s.ovrCredit n = 0 then s.lag n
      else s.queueOvr { ty := ty, chan := n, seq := seq, committed := ty == 1, opening := (s.chan n).opening, body := bytes }
    else s
  else s

/-- A live MIRROR frame of grain `g` of channel `n` is dropped unsent: of the write in flight no grain from it on counts as
mirrored, so that a CANCEL names only grains whose frames were sent (R247). -/
def State.unmirror (s : State) (n : Nat) (g : Word) : State :=
  let s : State := { s with
    port := { s.port with frame := s.port.frame.map (fun (f : Frame) =>
      if f.ty = 0 ∧ f.chan = n ∧ seqLe f.word1 g then { f with mirrored := min f.mirrored (g - f.word1).toNat } else f) } }
  { s with cmds := s.cmds.map (fun (c : Cmd) =>
      if c.op = 0x10 ∧ dChan c.desc = n ∧ seqLe (dSeq c.desc) g then { c with done := min c.done (g - dSeq c.desc).toNat } else c) }

/-- The queued frames that `p` takes are dropped; their pages and credits are theirs no longer. -/
def State.dropOvr (s : State) (p : OvrFrame → Bool) : State :=
  let gone := s.ovr.txq.filter p
  let s := { s with ovr := { s.ovr with txq := s.ovr.txq.filter (fun f => !p f) } }
  gone.foldl (fun s f =>
    let s := if f.ty = 3 then s else s.setOwn f.chan { s.own f.chan with sent := (s.own f.chan).sent - 1 }
    let s := if f.ty = 1 ∧ f.committed = false then s.unmirror f.chan f.seq else s
    match f.page with
    | some g => (s.modPage g (fun (x : Page) => { x with mirror := false })).sweepPages
    | none => s) s

/-- At the commit edge the live MIRROR frames of the frame's grains that are not yet sent are dropped (R247). Answers how
many of the `count` queued were sent. -/
def State.dropLive (s : State) (n : Nat) (first : Word) (count : Nat) : State × Nat :=
  let mine (f : OvrFrame) : Bool := f.ty == 1 && !f.committed && f.chan == n && decide ((f.seq - first).toNat < count)
  (s.dropOvr mine, count - (s.ovr.txq.filter mine).length)

/-- A discarded or refused frame (R247): a CANCEL names the grains whose frames were sent. -/
def State.cancelMirror (s : State) (n : Nat) (first : Word) (count : Nat) : State :=
  match s.dropLive n first count with
  | (s, 0) => s
  | (s, k + 1) => s.queueOvr { ty := 3, chan := n, seq := first, count := k + 1, opening := (s.chan n).opening }

/-! ## Queuing records -/

/-- A record joins the media write queue of its actuator (R159). -/
def State.queueRec (s : State) (r : Rec) : State :=
  let x := s.rw r.act
  State.setRw { s with formed := s.formed + 1 } r.act { x with wq := x.wq ++ [{ r with since := s.time.dmt, form := s.formed }] }

/-- No record of channel `n` stands on its seal credit (R131: one record at a time). -/
def State.creditFree (s : State) (n : Nat) : Bool :=
  !(s.records.any (fun r => r.onCredit && !r.intake && !r.system && r.chan == n))

/-- The earliest formed of some records. -/
def earliest : List Rec → Option Rec
  | [] => none
  | r :: l => match earliest l with
    | some x => if x.form < r.form then some x else some r
    | none => some r

/-- The record whose turn it is with the credit page `p` (R131: one at a time, in order of formation). -/
def State.creditTurn (s : State) (p : Nat) : Option Rec := earliest (s.records.filter (fun r => r.onCredit && r.page == p))

/-- Lays the body of the record whose turn it is in the credit page `p`. -/
def State.layPage (s : State) (p : Nat) : State :=
  match s.creditTurn p with
  | some r => if r.body.isEmpty then s else s.bufWrite (4096 * p) r.body
  | none => s

/-! ## Seals and divergence records (R126 to R131) -/

/-- Body bytes 0–99 of a seal (R127). -/
def sealHead (c : Chan) (reason next : Nat) : List Byte :=
  leBytes 4 (c.ordinal + 1) ++ leBytes 4 reason ++ leBytes 4 c.firstSeq.toNat ++ leBytes 4 c.covers.toNat ++
    leBytes 4 c.mirrored.toNat ++ leBytes 4 c.bushel ++ leBytes 4 next ++ padTo 32 c.sealChain ++ padTo 32 c.chain ++ uid

/-- The 4096-byte body of a seal, signed over header bytes 0–19 and body bytes 0–99 (R127, R128). -/
def sealBody (h20 head : List Byte) : List Byte :=
  let g := ecdsaSign Config.privateKey (h20 ++ head)
  padTo 4096 (head ++ g.1 ++ g.2)

/-- Forms a seal covering DURABLE_HEAD (R126), queues it in the open bushel and, on a mirrored channel, its SEAL_NOTE. -/
def State.formSeal (s : State) (n reason : Nat) (acc : Account) (cost : Nat) (next : Nat := 0xFFFFFFFF) : State :=
  let c := s.chan n
  match c.credit with
  | none => s
  | some k =>
    let cc := chanClass n c.cls
    let head := sealHead c reason next
    let h20 := (hdr28 .seal cc c.durable s.stamp 0 0 c.opening []).take 20
    let body := sealBody h20 head
    let h := h20 ++ (sha256 body).take 8
    let r : Rec := { kind := .seal, chan := n, seq := c.durable, opening := c.opening, hdr := h, page := k.page
                     onCredit := true, act := c.act, bushel := c.bushel, gen := c.gen, cost := cost, account := acc
                     tid := k.tid, ordinal := c.ordinal + 1, reason := reason, body := body }
    let s := s.setChan n { c with
      ordinal := c.ordinal + 1, covers := c.durable, sealChain := c.chain, promised := c.promised + 1
      seals := c.seals ++ [{ ordinal := c.ordinal + 1, covers := c.durable, chain := c.chain }] }
    ((s.queueRec r).layPage k.page).mirrorRec n 2 c.durable (padTo 32 h ++ body.take 164)

/-- Forms a divergence record (R130), a chain member. -/
def State.formDivergence (s : State) (n event cause : Nat) (st : Stamp) (cost : Nat) : State :=
  let c := s.chan n
  match c.credit with
  | none => s
  | some k =>
    let body := padTo 4096 (leBytes 1 event ++ leBytes 3 cause ++ leBytes 6 st.dmt.toNat ++ leBytes 2 st.epoch.toNat ++
      leBytes 4 c.mirrored.toNat)
    let h := hdr28 .divergence (chanClass n c.cls) c.durable s.stamp 0 0 c.opening body
    let r : Rec := { kind := .divergence, chan := n, seq := c.durable, opening := c.opening, hdr := h, page := k.page
                     onCredit := true, act := c.act, bushel := c.bushel, gen := c.gen, cost := cost, account := .record
                     tid := k.tid, body := body, chainIn := c.chain }
    let s := s.setChan n { c with chain := chainFold c.chain h body, promised := c.promised + 1 }
    ((s.queueRec r).layPage k.page).mirrorRec n 1 c.durable (padTo 32 h ++ body)

/-- The channel a due record belongs to. -/
def Due.chan : Due → Nat
  | .seal n _ _ => n
  | .divergence n _ _ _ _ => n

/-- The write that `behind` names is still in flight on channel `n`. -/
def State.isBehind (s : State) (n : Nat) (behind : Option Word) : Bool :=
  match behind with
  | none => false
  | some q => s.frames.any (fun f => f.phase == .writing && f.ty == 0 && f.chan == n && f.word1 == q) ||
      s.cmds.any (fun c => c.op == 0x10 && dChan c.desc == n && dSeq c.desc == q)

/-- Forms a due record if it may now be formed (R131): the credit is free, and R27 permits the debit of a periodic or
command seal or a divergence record; a close or power-loss seal carries the credit's own energy. -/
def State.formDue (s : State) (d : Due) : Option State :=
  let n := d.chan
  let cost := s.costOf (s.chan n).bushel
  if s.creditFree n && s.time.valid then
    match d with
    | .seal _ reason _ =>
      if reason = 3 ∨ reason = 5 then some (s.formSeal n reason .credit cost)
      else if s.debitOk cost then some (s.formSeal n reason .record cost) else none
    | .divergence _ ev cause st behind =>
      if s.debitOk cost && !s.isBehind n behind then some (s.formDivergence n ev cause st cost) else none
  else none

/-- Forms the due records of channel `n` that may be formed now, the earliest first: one that waits for energy does not
hold back a close seal, which carries its own. -/
def State.tryDue (s : State) (n : Nat) : Nat → State
  | 0 => s
  | fuel + 1 =>
    match s.due.findSome? (fun d => if d.chan == n then (s.formDue d).map (fun t => (d, t)) else none) with
    | none => s
    | some (d, t) => State.tryDue { t with due := t.due.erase d } n fuel

/-- Every due record of channel `n`. -/
def State.dueNow (s : State) (n : Nat) : State := s.tryDue n s.due.length

/-- A record becomes due, and is formed at once where that is permitted. -/
def State.makeDue (s : State) (d : Due) : State := State.dueNow { s with due := s.due ++ [d] } d.chan

/-- A seal of channel `n` is due (it waits in the list above). -/
def State.sealDue (s : State) (n : Nat) : Bool := s.due.any (fun d => match d with | .seal m _ _ => m == n | _ => false)

/-- The periodic seal of R126: due once DURABLE_HEAD stands SEAL_EVERY beyond the last formed seal. -/
def State.periodic (s : State) (n : Nat) : State :=
  let c := s.chan n
  if decide (c.sealEvery ≤ (c.durable - c.covers).toNat) && !s.sealDue n then s.makeDue (.seal n 1 none) else s

/-- The identity of the first seal of the opening that covers `q`, formed or WRITTEN (R129). -/
def Chan.sealFor (c : Chan) (q : Word) : Option SealId := c.seals.find? (fun k => seqLe q k.covers)

/-! ## Bushels (R132 to R134) -/

/-- Takes a bushel from the FIFO of actuator `act`, or from the other when that one is empty (R133). -/
def State.takeBushel (s : State) (act : Nat) : Option (Nat × State) :=
  let a := fun (_ : Unit) => match s.fifoA with | b :: r => some (b, { s with fifoA := r }) | [] => none
  let b := fun (_ : Unit) => match s.fifoB with | b :: r => some (b, { s with fifoB := r }) | [] => none
  if act = 0 then (a ()).orElse b else (b ()).orElse a

/-- A bushel becomes OPEN under GEN + 1 (R133). -/
def State.openBushel (s : State) (b n : Nat) (intake : Bool) (opening : BitVec 16) : State :=
  s.setBushel b { s.bushel b with state := .opened, gen := (s.bushel b).gen + 1, chan := n, intake := intake
                                  opening := opening, lastSeq := 0, next := 0 }

/-- A bushel becomes CLOSED. -/
def State.closeBushel (s : State) (b : Nat) : State :=
  if (s.bushel b).state = .opened then s.setBushel b { s.bushel b with state := .closed } else s

/-- A bushel becomes CLOSED with grain `g` the last of those placed in it or still queued for it. -/
def State.closeAt (s : State) (b : Nat) (g : Word) : State :=
  if (s.bushel b).state = .opened then s.setBushel b { s.bushel b with state := .closed, lastSeq := g } else s

/-- Forms the header record of the channel's open bushel (R132), on the seal credit. -/
def State.formHeader (s : State) (n : Nat) (acc : Account) (cost : Nat) : State :=
  let c := s.chan n
  match c.credit with
  | none => s
  | some k =>
    let cc := chanClass n c.cls
    let body := headerBody c.bushel c.gen cc c.frameMax (b2n c.mirror) c.opening c.firstSeq c.sealEvery c.prevBushel
      c.chain uid pubKey
    let r : Rec := { kind := .header, chan := n, seq := c.durable + 1, opening := c.opening
                     hdr := hdr28 .header cc (c.durable + 1) s.stamp 0 0 c.opening body, page := k.page, onCredit := true
                     act := c.act, bushel := c.bushel, gen := c.gen, cost := cost, account := acc, tid := k.tid
                     body := body }
    ((s.setChan n { c with promised := c.promised + 1 }).queueRec r).layPage k.page

/-- The channel moves to bushel `b`, just taken; the seal credit's slot moves with it. -/
def State.moveTo (s : State) (n b : Nat) : State :=
  let c := s.chan n
  let s := s.openBushel b n false c.opening
  let act := s.actOf b
  s.setChan n { c with bushel := b, gen := (s.bushel b).gen, act := act, prevBushel := c.bushel, promised := 0
                       credit := c.credit.map (fun k => { k with act := act }) }

/-- Roll-over (R134): the roll-over seal in the closing bushel, then the header of the next one. `z` is the cost of one
record as it was earmarked. With no free bushel the channel stays where it is and NO_BUSHEL is set. -/
def State.rollOver (s : State) (n z : Nat) : State :=
  match s.takeBushel (s.chan n).act with
  | none => s.raise Reg.LDG_EVENTS_NO_BUSHEL
  | some (b, s) =>
    let old := (s.chan n).bushel
    let s := s.formSeal n 4 .debit z b
    ((s.closeAt old (s.chan n).durable).moveTo n b).formHeader n .debit z

/-! ## The commit edge (R12, R43, R123, R124) -/

/-- The header of grain `k` of a frame of `len` grains. -/
def grainHdr (c : Chan) (n : Nat) (seq : Word) (st : Stamp) (held : Bool) (tid k len : Nat) (body : List Byte) : List Byte :=
  hdr28 .grain (chanClass n c.cls) seq st (b2n (seq == c.firstSeq) + 2 * b2n held + 4 * b2n (k + 1 == len))
    (tid % 16 + 16 * (k % 16)) c.opening body

/-- The grains of the frame from position `k` on become records of the open bushel (R123, R124). -/
def State.commitFrom (s : State) (n tid len z : Nat) (owner : Option Nat) (held : Bool) : Nat → List Nat → State
  | _, [] => s
  | k, p :: ps =>
    let c := s.chan n
    let seq := c.durable + 1
    let body := s.bufRead (4096 * p) 4096
    let h := grainHdr c n seq s.stamp held tid k len body
    let r : Rec := { kind := .grain, chan := n, seq := seq, opening := c.opening, hdr := h, page := p, act := c.act
                     bushel := c.bushel, gen := c.gen, cost := z, account := .debit, tid := owner
                     digest := sha256 body, chainIn := c.chain }
    let s := s.setChan n { c with durable := seq, chain := chainFold c.chain h body, promised := c.promised + 1 }
    State.commitFrom (s.queueRec r) n tid len z owner held (k + 1) ps

/-- The DURABLE outcome (R12, R43): roll-over first where it is due, then the grains, the stamp of the commit edge, the
COMMIT note (R247) and the periodic seal. A roll-over that admission did not foresee waits for a frame whose debit R27
permits (log entry 25). -/
def State.commitGrains (s : State) (n tid earmark : Nat) (owner : Option Nat) (roll held : Bool) (pages : List Nat)
    (mirrored : Nat) : State :=
  let len := pages.length
  let z := earmark / (len + if roll then 2 else 0)
  let s := if s.willRoll n len && (roll || (!s.noBushel && s.debitOk (2 * z))) then s.rollOver n z else s
  let first := (s.chan n).durable + 1
  let s := s.commitFrom n tid len z owner held 0 pages
  let s := s.setChan n { s.chan n with lastCommit := s.stamp }
  let s := if 0 < mirrored || s.liveMirror n then
      s.note (noteBytes 3 n len first (leBytes 6 s.time.dmt.toNat ++ leBytes 2 s.time.epoch.toNat))
    else s
  s.periodic n

/-! ## System records (R138) -/

/-- The system bushel in use. -/
def State.sysBushel (s : State) : Nat := s.getF Reg.LDG_SYS_BUSHEL

/-- A system record joins the write queue at the place `p` of bushel `b`. -/
def State.queueSys (s : State) (anchor : Bool) (h body : List Byte) (page : Nat) (onCredit : Bool) (b : Nat) (gen : Word)
    (p cost : Nat) : State :=
  let s := s.bufWrite (4096 * page) body
  s.queueRec { kind := .directory, system := true, anchor := anchor, seq := BitVec.ofNat 32 (leAt h 4 4), hdr := h
               page := page, onCredit := onCredit, act := s.actOf b, bushel := b, gen := gen, cost := cost
               account := .record, place := p, body := body }

/-- The header and body of a part of a system record command. -/
def State.sysBytes (s : State) (c : SysCmd) : SysPart → List Byte × List Byte
  | .append =>
    let body := s.bufRead c.src 4096
    (hdr28 .directory 0 c.seq s.stamp 0 0 0 body, body)
  | .header =>
    let body := headerBody c.bushel c.gen 0 0 4 0 0 0 0 [] uid pubKey
    (hdr28 .header 0 0 s.stamp 0 0 0 body, body)
  | .anchorCopy a => (a.head ++ (sha256 a.body).take 8, a.body)

/-- Forms the next part of the system record command in flight when a page and a slot that no share reserves are free
and R27 permits its debit (R138). -/
def State.pumpSys (s : State) : State :=
  match s.sys with
  | some c =>
    match c.parts with
    | part :: rest =>
      let act := s.actOf c.bushel
      let cost := s.costOf c.bushel
      if !c.formed && s.time.valid && s.writePagesOk 1 none && s.slotsOk act 1 none && s.debitOk cost then
        let hb := s.sysBytes c part
        match s.allocPages { num := 0, pool := .write } 1 with
        | (s, [p]) =>
          let s := s.queueSys false hb.1 hb.2 p false c.bushel c.gen c.place cost
          let c' := { c with parts := rest, formed := true, place := c.place + 1 }
          match part with
          | .append =>
            let parts := leAt hb.2 10 2
            let s := { s with sys := some c', time := { s.time with midCheckpoint := decide (leAt hb.2 8 2 + 1 < parts) } }
            (s.raise Reg.LDG_SREC_STAT_FORMED).setF Reg.LDG_SYS_PLACE 0 (c.place + 1)
          | _ => { s with sys := some c' }
        | (s, _) => s
      else s
    | [] => s
  | none => s

/-- The anchor credit is taken: a page, a slot on the system bushel's actuator, one record's cost (R294). -/
def State.takeAnchorCredit (s : State) : State :=
  let b := s.sysBushel
  match s.time.credit with
  | some _ => s
  | none =>
    if s.writePagesOk 1 none && s.slotsOk (s.actOf b) 1 none then
      match s.allocPages { num := 0, pool := .write } 1 with
      | (s, [p]) => { s with time := { s.time with credit := some (p, s.actOf b, s.costOf b) } }
      | (s, _) => s
    else s

/-- Writes the oldest waiting anchor through the anchor credit (R294): one at a time, never between two parts of a
checkpoint, its energy debited once R27 permits; `free` at step 3 of the power-loss sequence, where it carries the
credit's own energy. -/
def State.pumpAnchor (s : State) (free : Bool) : State :=
  match s.time.waiting, s.takeAnchorCredit with
  | a :: rest, s =>
    match s.time.credit with
    | some (p, _, _) =>
      let b := s.sysBushel
      let cost := s.costOf b
      if s.flag Reg.LDG_CTRL_EN && s.time.valid && (free || (s.sys.isNone && !s.time.midCheckpoint)) &&
          !(s.records.any (·.anchor)) && (free || s.debitOk cost) && decide (s.getF Reg.LDG_SYS_PLACE < 16384) then
        let pl := s.getF Reg.LDG_SYS_PLACE
        let s := s.queueSys true (a.head ++ (sha256 a.body).take 8) a.body p true b
          (BitVec.ofNat 32 (s.getF Reg.LDG_SYS_GEN_GEN)) pl (if free then 0 else cost)
        State.setF { s with time := { s.time with waiting := rest } } Reg.LDG_SYS_PLACE 0 (pl + 1)
      else s
    | none => s
  | [], _ => s

/-- DEFERRED_RECORD_FORM (R131, R248, R294): a record that waits for its credit or for energy is formed once it has
them: the due records of the channel, and the anchor or system record that waits. -/
def execDeferredRecordForm (chan : Nat) (s : State) : Host.Outcome State Fault Refusal :=
  .next (s.whenLive (fun s => ((s.dueNow chan).pumpSys).pumpAnchor false))

/-- SYSTEM_RECORD_FORMED (R138): the system record that waits for a page, a slot or energy is formed. -/
def execSystemRecordFormed (s : State) : Host.Outcome State Fault Refusal := .next (s.whenLive State.pumpSys)

/-- Refuses a system record command (R138). -/
def State.srecRefuse (s : State) (reason : Nat) : State :=
  (s.setF Reg.LDG_SREC_STAT_STATE 0 3).setF Reg.LDG_SREC_STAT_REASON 0 reason

/-- A system record is in flight: firmware's, or an anchor, which takes the same path (R138). -/
def State.sysBusy (s : State) : Bool := s.sys.isSome || s.records.any (fun r => r.system)

/-- Starts a system record command. -/
def State.srecStart (s : State) (c : SysCmd) : State :=
  let s := (s.setF Reg.LDG_SREC_STAT_STATE 0 1).lower Reg.LDG_SREC_STAT_FORMED
  State.pumpSys { (s.setF Reg.LDG_SREC_STAT_REASON 0 0) with sys := some c }

/-- SREC_APPEND (R138): OP 1 of LDG_SREC_CMD. Its field is WO, so any writer's write acts. -/
def execSrecAppend (_src : Nat) (s : State) : Host.Outcome State Fault Refusal :=
  .next (s.whenLive (fun s =>
    let pl := s.getF Reg.LDG_SYS_PLACE
    if s.sysBusy then s.srecRefuse 1
    else if 16384 - pl < s.getF Reg.LDG_CTRL_TEAR_RSV + 1 then s.srecRefuse 2
    else if !s.flag Reg.LDG_CTRL_EN then s.srecRefuse 4
    else s.srecStart { parts := [.append], bushel := s.sysBushel, place := pl
                       gen := BitVec.ofNat 32 (s.getF Reg.LDG_SYS_GEN_GEN)
                       src := 4096 * s.getF Reg.LDG_SREC_SRC_OFFSET, seq := BitVec.ofNat 32 (s.getF Reg.LDG_SREC_SEQ_SEQ) }))

/-- SREC_BEGIN (R138, R294): OP 2 of LDG_SREC_CMD; the header at place 0, then the copies of the anchor store. -/
def execSrecBegin (_src bushel : Nat) (s : State) : Host.Outcome State Fault Refusal :=
  .next (s.whenLive (fun s =>
    if s.sysBusy then s.srecRefuse 1
    else if bushel = s.sysBushel ∨ !s.flag Reg.BMAP_VALID bushel then s.srecRefuse 3
    else if !s.flag Reg.LDG_CTRL_EN then s.srecRefuse 4
    else
      let gen := (s.bushel bushel).gen + 1
      let s := s.setBushel bushel { s.bushel bushel with state := .system, gen := gen, next := 0 }
      s.srecStart { parts := .header :: s.time.store.reverse.map .anchorCopy, begin := some bushel, bushel := bushel
                    gen := gen, place := 0 }))

/-- A halted channel that holds no spare bushel takes the first one pushed (spec/15 R325). -/
def State.feedSpare (s : State) (act : Nat) : State :=
  match s.chans.find? (fun e => e.2.lost.isSome && e.2.spare.isNone) with
  | some (n, c) =>
    match s.takeBushel act with
    | some (b, s) => s.setChan n { c with spare := some b }
    | none => s
  | none => s

/-- BFREE_PUSH (R133, R142, R158): a bushel joins the free FIFO of its actuator; an entry that is not VALID sets
MAP_REJECT, a full FIFO records WRITE_RESERVED. -/
def execBfreePush (src : Nat) (v : Word) (s : State) : Host.Outcome State Fault Refusal :=
  .next (s.whenLive (fun s =>
    let b := v.toNat
    if 8192 ≤ b ∨ !s.flag Reg.BMAP_VALID b then s.raise Reg.CHN_EVENTS_MAP_REJECT
    else if s.actOf b = 0 then
      (if s.fifoA.length < 16 then State.feedSpare { s with fifoA := s.fifoA ++ [b] } 0 else s.reserved src (regDetail 0x400C0008))
    else if s.fifoB.length < 16 then State.feedSpare { s with fifoB := s.fifoB ++ [b] } 1
    else s.reserved src (regDetail 0x400C0008)))

/-- LDG_SYS_WRITE (R138): LDG_SYS, or LDG_SYS_GEN, RWK; ignored with SREC_REJECT while a system record is in flight. -/
def execLdgSysWrite (src : Nat) (gen : Bool) (v : Word) (s : State) : Host.Outcome State Fault Refusal :=
  .next (s.whenLive (fun s =>
    let addr := if gen then 0x400C0064 else 0x400C0060
    if !privileged src then s.denied src (regDetail addr)
    else if s.sysBusy then s.raise Reg.LDG_EVENTS_SREC_REJECT
    else if gen then
      (s.setBushel s.sysBushel { s.bushel s.sysBushel with state := .system, gen := v }).setF Reg.LDG_SYS_GEN_GEN 0 v.toNat
    else
      let b := bitsOf v.toNat 0 1
      let pl := bitsOf v.toNat 16 14
      (s.setBushel b { s.bushel b with next := pl }).setF Reg.LDG_SYS_BUSHEL 0 b |>.setF Reg.LDG_SYS_PLACE 0 pl))

end Sys2Proof.Machine
end

