-- ==== Sys2Proof/Machine/Time.lean ====
section
/-! DEFINITION. Evidence time (spec/13): DMT and its wrap, epochs, START, the following of master time, anchors; and the
tick that an empty queue gives the block (log entry 14). -/

namespace Sys2Proof.Machine

/-- The epoch after `e`; 0 is never used (R287). -/
def nextEpoch (e : Epoch) : Epoch := if e + 1 = 0 then 1 else e + 1

/-! ## Anchors (R293, R294) -/

/-- An anchor of the present epoch: header bytes 0–19 and body (R293). -/
def State.anchorOf (s : State) (cause : Nat) (dmt : Dmt) (prev : Epoch) (master : Nat) (est : Int) : Anchor :=
  let no := s.time.anchorNo + 1
  let head := (hdr28 .directory 0 0 s.stamp 0 0 0 []).take 20
  let b0 := leBytes 8 no ++ leBytes 4 0 ++ leBytes 2 cause ++ leBytes 2 s.time.epoch.toNat ++ leBytes 6 dmt.toNat ++
    leBytes 2 prev.toNat ++ leBytes 8 master ++ leBytes 8 (unsigned 64 est) ++ leBytes 8 0
  let g := ecdsaSign Config.privateKey (head ++ b0 ++ uid)
  { number := no, cause := cause, epoch := s.time.epoch, head := head, body := padTo 4096 (b0 ++ uid ++ g.1 ++ g.2) }

/-- The first of the waiting anchors of a cause is discarded. -/
def dropCause (c : Nat) : List Anchor → List Anchor
  | [] => []
  | a :: r => if a.cause = c then r else a :: dropCause c r

/-- A formed anchor joins the waiting anchors (R294). With no free place, one of CAUSE 1 or 6 displaces the oldest of
CAUSE 5, or else of CAUSE 1, and ANCHOR_FULL is set. -/
def State.addAnchor (s : State) (a : Anchor) : State :=
  let t := s.time
  let t := { t with anchorNo := a.number, anchorEpoch := a.epoch, lastCause := a.cause, lastAnchorDmt := t.dmt }
  if t.waiting.length < 10 then { s with time := { t with waiting := t.waiting ++ [a] } }
  else
    let w := if t.waiting.any (·.cause == 5) then dropCause 5 t.waiting else dropCause 1 t.waiting
    State.raise { s with time := { t with waiting := if w.length < 10 then w ++ [a] else w } } Reg.TIME_EVENTS_ANCHOR_FULL

/-- Forms an anchor. -/
def State.anchor (s : State) (cause : Nat) (dmt : Dmt) (prev : Epoch) (master : Nat) (est : Int) : State :=
  s.addAnchor (s.anchorOf cause dmt prev master est)

/-- Puts an anchor among others in falling order of their numbers. -/
def insertAnchor (a : Anchor) : List Anchor → List Anchor
  | [] => [a]
  | b :: l => if b.number ≤ a.number then a :: b :: l else b :: insertAnchor a l

/-- The anchor store keeps the latest anchor of each of the last 16 epochs (R294). -/
def State.storeAnchor (s : State) (a : Anchor) : State :=
  let newer := s.time.store.any (fun b => b.epoch == a.epoch && decide (a.number < b.number))
  if newer then s
  else
    let l := insertAnchor a (s.time.store.filter (fun b => b.epoch != a.epoch))
    { s with time := { s.time with store := l.take 16 } }

/-! ## The wrap of DMT (R285, R287, R395) -/

/-- TIME_ROLL is recorded with the new epoch, stamped with the first DMT value after the wrap (R395). -/
def State.timeRoll (s : State) (dmt : Dmt) (e : Epoch) : State :=
  State.raise (s.intakeEvent { stamp := { dmt := dmt, epoch := e }, code := 0x47, aux := e }) Reg.TIME_EVENTS_ROLL

/-- DMT wraps to `v`: the epoch opens anew; while the logic die runs and DMT_VALID is 1 the cause-6 anchor is formed,
otherwise the wrap is latched for the next START (R395). -/
def State.dmtWrap (s : State) (v : Dmt) : State :=
  let old := s.time.epoch
  let new := nextEpoch old
  let s := { s with time := { s.time with dmt := v, epoch := new } }
  if s.live && s.time.valid then
    let s := State.timeRoll { s with time := { s.time with master := false } } v new
    s.anchor 6 v old 0 0
  else
    let s := { s with time := { s.time with wrap := some { dmt := v, oldEpoch := old, newEpoch := new, told := s.live } } }
    if s.live then s.timeRoll v new else s

/-- DMT_WRAP (R285, R395): DMT passes its maximum. -/
def execDmtWrap (s : State) : Host.Outcome State Fault Refusal := .next (s.dmtWrap 0)

/-! ## The tick (log entry 14) -/

/-- OFS falls by 200 µs a second, and rises by 500 µs a second while the pending slew lasts (R291). -/
def Time.drift (t : Time) : Time :=
  let t := if t.ofsAcc + 200 < 1000000 then { t with ofsAcc := t.ofsAcc + 200 }
    else { t with ofsAcc := t.ofsAcc + 200 - 1000000, ofs := t.ofs - 1 }
  if t.slew = 0 then t
  else if t.slewAcc + 500 < 1000000 then { t with slewAcc := t.slewAcc + 500 }
  else { t with slewAcc := t.slewAcc + 500 - 1000000, ofs := t.ofs + 1, slew := t.slew - 1 }

/-- DMT advances by `n` microseconds. -/
def State.advance (s : State) (n : Nat) : State :=
  let v := s.time.dmt.toNat + n
  if v < 2 ^ 48 then { s with time := { s.time with dmt := BitVec.ofNat 48 v } } else s.dmtWrap (BitVec.ofNat 48 v)

/-- SYS cycles in a microsecond (spec/16 R332): SYS runs from XTAL at 40 MHz or from the PLL at 600 MHz. -/
def State.sysMHz (s : State) : Nat := if bitOf (s.getF Reg.CLK_STATUS_CUR) 0 then 600 else 40

/-- A microsecond of TICK: mcycle of each hart that is released counts its SYS cycles (spec/14 R297), and the watchdog
counts while it is enabled (spec/18 R377). -/
def State.counters (s : State) : State :=
  let n := BitVec.ofNat 64 s.sysMHz
  let s := s.each ([0, 1, 2, 3].filter (bitOf (s.getF Reg.CORE_RUN_RUN))) (fun s h =>
    s.setHart h { s.hart h with cycles := (s.hart h).cycles + n })
  if s.flag Reg.WDT_CTRL_EN then { s with boot := { s.boot with wdt := s.boot.wdt + 1 } } else s

/-- What passes on an empty queue: one microsecond of XTAL while the logic die runs, else one tick of the RC oscillator,
30.517 578 µs with its fraction carried (R284); nothing while VAON is out of regulation. -/
def tick (s : State) : State :=
  if s.live then State.advance { s.counters with time := s.time.drift } 1
  else if s.power.vaon then
    let f := s.time.frac + 30517578
    State.advance { s with time := { s.time with frac := f % 1000000 } } (f / 1000000)
  else s

/-! ## START (R290) -/

/-- TIME_START (R287, R290, R293 to R295, R395): once after each reset of the logic die. -/
def State.timeStart (s : State) : State :=
  if s.time.started then s
  else
    let s := { s with time := { s.time with started := true } }
    -- a wrap latched since the last START: its cause-6 anchor first, under the epoch the wrap opened
    let s := match s.time.wrap with
      | some w => State.anchor { s with time := { s.time with wrap := none } } 6 w.dmt w.oldEpoch 0 0
      | none => s
    let prev := s.time.epoch
    let e := if s.time.retained then nextEpoch prev
      else if s.time.anchorNo = 0 then 1 else nextEpoch s.time.anchorEpoch
    let prev := if s.time.retained then prev else if s.time.anchorNo = 0 then 0 else s.time.anchorEpoch
    let s := { s with time := { s.time with epoch := e, valid := true, master := false } }
    let s := s.anchor 1 s.time.dmt prev 0 0
    (s.takeAnchorCredit).pumpAnchor false

/-- TIME_START: TIME_CTRL.START is WO, so any writer's write acts. -/
def execTimeStart (_src : Nat) (s : State) : Host.Outcome State Fault Refusal := .next (s.whenLive State.timeStart)

/-! ## Following master time (R291, R292) -/

/-- The wall estimate W. -/
def State.wall (s : State) : Int := (s.time.dmt.toNat : Int) + s.time.ofs

/-- A step: a new epoch, OFS = M − t, and TIME_STEP with d in ms, signed and saturating (R291, R358). -/
def State.timeStep (s : State) (cause m : Nat) (d : Int) : State :=
  let old := s.time.epoch
  let est := if s.time.master then s.wall else 0
  let dir := if cause = 3 then 1 else 2
  let s := s.event 0x46 dir old.toNat (unsigned 32 (satI 32 (if 0 ≤ d then d / 1000 else -((-d) / 1000))))
  let s := s.raise (if cause = 3 then Reg.TIME_EVENTS_STEP_FWD else Reg.TIME_EVENTS_STEP_BACK)
  let s := { s with time := { s.time with epoch := nextEpoch old, ofs := (m : Int) - s.time.dmt.toNat, slew := 0
                                          ofsAcc := 0, slewAcc := 0, master := true } }
  s.anchor cause s.time.dmt old m est

/-- A TIME frame whose row would form an anchor is ignored whole while 8 or more anchors wait (R294). -/
def State.anchorRoom (s : State) (f : State → State) : State :=
  if s.time.waiting.length < 8 then f s else s.raise Reg.TIME_EVENTS_ANCHOR_FULL

/-- An accepted TIME frame of master time `m`, stamped with the present DMT (R291, R292). -/
def State.timeFrame (s : State) (m : Nat) : State :=
  if !s.time.valid || decide (1 ≤ s.getF Reg.ENG_STATUS_PL_STEP) then s
  else
    let w := s.wall
    let d := (m : Int) - w
    let due := decide (s.getF Reg.TIME_CTRL_ANCHOR_S * 1000000 ≤ (s.time.dmt - s.time.lastAnchorDmt).toNat)
    let est := if s.time.master then w else 0
    let other (cause : Nat) (s : State) : State := s.anchor cause s.time.dmt s.time.epoch m est
    let slew (s : State) : State := { s with time := { s.time with slew := d.toNat, slewAcc := 0 } }
    if !s.time.master then
      s.anchorRoom (fun s => other 2 { s with time := { s.time with
        ofs := (m : Int) - s.time.dmt.toNat, ofsAcc := 0, slew := 0, slewAcc := 0, master := true } })
    else if (m : Int) + 1000 ≤ w then s.anchorRoom (·.timeStep 4 m d)
    else if 1000000 ≤ d then s.anchorRoom (·.timeStep 3 m d)
    else if 1000 ≤ d then
      if s.time.slew < 1000 then s.anchorRoom (fun s => other 7 (slew s))
      else if due then s.anchorRoom (fun s => other 5 (slew s)) else slew s
    else if due then s.anchorRoom (fun s => other 5 (if 0 < d then slew s else s))
    else if 0 < d then slew s else s

end Sys2Proof.Machine
end

