-- ==== Sys2Proof/Machine/PortOps.lean ====
section
/-! DEFINITION. What the Stream Port, the queues and their commands share: windows and rings (spec/04 R85, R86; spec/03
R55, R56), completion entries (R60, R64), the discard of a frame and the closing of the port (spec/02 R48, R49), stagings
(spec/05 R100, R101) and the return of read credits. -/

namespace Sys2Proof.Machine

/-! ## Windows and rings -/

/-- First byte of window `w` of tenant `t`. -/
def State.winBase (s : State) (t w : Nat) : Nat := 4096 * s.getF Reg.WIN_BASE (8 * t + w)

/-- Bytes of window `w` of tenant `t`; 0 while it is disabled. -/
def State.winSize (s : State) (t w : Nat) : Nat :=
  if s.flag Reg.WIN_EN (8 * t + w) then 4096 * s.getF Reg.WPAGES_PAGES (8 * t + w) else 0

/-- The window check of R86. -/
def State.winOk (s : State) (t w off ext : Nat) : Bool := decide (off + ext ≤ s.winSize t w) && s.flag Reg.WIN_EN (8 * t + w)

/-- Page `p` lies in the window region (spec/05 R97). -/
def State.windowPage (s : State) (p : Nat) : Bool :=
  decide (s.getF Reg.BUF_WREG_LO ≤ p) && decide (p ≤ s.getF Reg.BUF_WREG_LAST)

/-- Page `p` lies in the pool region. -/
def State.poolPage (s : State) (p : Nat) : Bool := decide (s.getF Reg.BUF_POOL_BASE_PAGE ≤ p)

/-- Page `p` lies in the firmware region. -/
def State.fwPage (s : State) (p : Nat) : Bool := decide (p < 4096) && !s.windowPage p && !s.poolPage p

/-- Every page of `n` bytes from `a` satisfies `p`; no page for an empty extent. -/
def pagesAll (p : Nat → Bool) (a n : Nat) : Bool :=
  n == 0 || ((List.range ((a + n - 1) / 4096 - a / 4096 + 1)).map (· + a / 4096)).all p

/-- The owner of queue `q`: none for firmware. -/
def State.qOwner (s : State) (q : Nat) : Option Nat :=
  if s.flag Reg.QCFG_FW q then none else some (s.getF Reg.QCFG_OWNER q)

/-- Entries of queue `q`'s ring. -/
def State.qDepth (s : State) (q : Nat) : Nat := 2 ^ s.getF Reg.QCFG_LOG2_DEPTH q

/-- The buffer offset of queue `q`'s ring (R56, R57). -/
def State.qRing (s : State) (q : Nat) : Nat :=
  4096 * s.getF Reg.QBASE_BASE q +
    (match s.qOwner q with | some t => s.winBase t (s.getF Reg.QCFG_WIN q) | none => 0)

/-- Commands in flight from queue `q`. -/
def State.inflight (s : State) (q : Nat) : Nat := (s.cmds.filter (fun c => c.sq == q)).length

/-- The buffer offset that WIN and OFF of a command name (R57, R86). -/
def State.cmdAddr (s : State) (c : Cmd) : Nat :=
  match c.owner with
  | some t => s.winBase t (dWin c.desc) + dOff c.desc
  | none => dOff c.desc

/-! ## Completions (R60, R61, R64) -/

/-- The 16 bytes of a completion entry. -/
def entryBytes (e : Completion) (sq head : Nat) (replay phase : Bool) : List Byte :=
  leBytes 4 e.cmdId.toNat ++ leBytes 4 e.res0.toNat ++ leBytes 4 e.res1.toNat ++ leBytes 1 sq ++ leBytes 1 e.code ++
    leBytes 2 (head % 4096 + 4096 * b2n replay + 8192 * b2n e.fwd + 32768 * b2n phase)

/-- Queue `cq`, a completion queue, has received an entry with FLAGS.IRQ: COMPLETION and the queue's pending bit (R87, R91). -/
def State.cqPending (s : State) (cq : Nat) : State :=
  match s.qOwner cq with
  | some t =>
    let s := s.cause t 0
    s.setTen t { s.ten t with cqPend := if (s.ten t).cqPend.contains cq then (s.ten t).cqPend else cq :: (s.ten t).cqPend }
  | none => s.setF Reg.FWCQ_PEND_Q (cq / 32) ((BitVec.ofNat 32 (s.getF Reg.FWCQ_PEND_Q (cq / 32)) |||
      BitVec.ofNat 32 (2 ^ (cq % 32))).toNat)

/-- Queue `q`'s ring lies in its owner's window as the windows stand (R56, R86). -/
def State.ringHeld (s : State) (q : Nat) : Bool :=
  match s.qOwner q with
  | some t => s.winOk t (s.getF Reg.QCFG_WIN q) (4096 * s.getF Reg.QBASE_BASE q)
      (s.qDepth q * if s.flag Reg.QCFG_DIR q then 16 else 64)
  | none => true

/-- Writes an entry at the tail of completion queue `cq` in one buffer write; PHASE inverts on each wrap. An entry whose
ring no longer lies in its tenant's window is not written (R86; log entry 28). -/
def State.postEntry (s : State) (sq cq : Nat) (e : Completion) (head : Nat) (replay : Bool) : State :=
  let tail := s.getF Reg.QIDX_TAIL cq
  let x := s.queue cq
  let s := if s.ringHeld cq then s.bufWrite (s.qRing cq + 16 * tail) (entryBytes e sq head replay x.phase) else s
  let next := (tail + 1) % s.qDepth cq
  let s := (s.setF Reg.QIDX_TAIL cq next).setQueue cq { s.queue cq with phase := if next = 0 then !x.phase else x.phase }
  if e.irq then s.cqPending cq else s

/-- The completion of the commands of an SQ that passed step 6, kept in the order posted, the last 64 (R64). -/
def State.keepReplay (s : State) (sq : Nat) (e : Completion) : State :=
  if e.cmdId = 0 then s
  else
    let l := (s.queue sq).replay ++ [e]
    s.setQueue sq { s.queue sq with replay := l.drop (l.length - 64) }

/-- Posts the completion of a command in flight and returns its tag. -/
def State.post (s : State) (c : Cmd) (code : Nat) (res0 res1 : Word) (fwd : Bool := false) : State :=
  let e : Completion := { cmdId := c.cmdId, res0 := res0, res1 := res1, code := code, irq := c.irq, fwd := fwd }
  let s := { s with cmds := s.cmds.filter (fun d => d.tag != c.tag) }
  (s.keepReplay c.sq e).postEntry c.sq c.cq e c.sqHead false

/-- Replaces a command in flight, by its tag. -/
def State.setCmd (s : State) (c : Cmd) : State :=
  { s with cmds := s.cmds.map (fun (d : Cmd) => if d.tag == c.tag then c else d) }

/-- The oldest command of opcode `op` from `sq` whose effect has not begun. -/
def State.fetched (s : State) (sq op : Nat) : Option Cmd :=
  s.cmds.find? (fun c => c.sq == sq && c.op == op && !c.running)

/-- The oldest command of opcode `op` from `sq` whose effect is under way. -/
def State.underWay (s : State) (sq op : Nat) : Option Cmd :=
  s.cmds.find? (fun c => c.sq == sq && c.op == op && c.running)

/-! ## Stagings (R100, R101) -/

/-- Removes a staging and returns its page (R99). -/
def State.endStaging (s : State) (t : Staging) : State :=
  State.freePage { s with stagings := s.stagings.filter (fun x => x.token != t.token) } t.page

/-- Cancels the stagings that `p` takes: the token is revoked, and a page the hash engine still reads is returned when
its check ends (R101). -/
def State.revoke (s : State) (p : Staging → Bool) : State :=
  let l := s.stagings.filter p
  let s := { s with stagings := s.stagings.map (fun t => if p t then { t with revoked := true } else t) }
  (l.filter (·.checked)).foldl State.endStaging s

/-! ## Frames -/

/-- The pages of a reading frame are read no longer (R99); a staged grain that was sent is consumed (R101). -/
def State.endReaders (s : State) (ps : List Nat) : State :=
  (ps.foldl (fun s p => s.modPage p (fun g => { g with readers := g.readers - 1 })) s).sweepPages

/-- The frame on the port ends without a trace (R19, R48): its credits return and a CANCEL goes out for the MIRROR frames
already sent (R247). -/
def State.discardFrame (s : State) : State :=
  match s.port.frame with
  | none => s
  | some f =>
    let s := { s with port := { s.port with frame := none, rdy0 := false, rdy1 := false, bsyN := true } }
    if f.phase = .writing then
      (if f.ty = 0 then ((s.cancelMirror f.chan f.word1 f.mirrored).dropPages f.pages).dueNow f.chan else s)
    else s.endReaders f.pages

/-- Every session closes (R81). -/
def State.closeSessions (s : State) : State := s.each tids (fun s t => s.closeSession t false)

/-- The port closes (R49): the frame not yet at its commit edge is discarded, every session closes, and a closure by
SP_DET_N or power loss clears PORT_EN. -/
def State.closePort (s : State) (cause : Nat) : State :=
  let s := s.discardFrame.closeSessions
  let s := s.setF Reg.SP_STATUS_CLOSE_CAUSE 0 cause
  if cause = 2 ∨ cause = 3 ∨ cause = 4 then s.lower Reg.SP_CTRL_PORT_EN else s

/-- Discards the queued writes that have not reached their commit edge (R73, R19). -/
def State.discardWrites (s : State) : State :=
  let ws := s.cmds.filter (fun c => c.op == 0x10)
  let s := { s with cmds := s.cmds.filter (fun c => c.op != 0x10) }
  ws.foldl (fun s c => ((s.cancelMirror (dChan c.desc) (dSeq c.desc) c.done).dropPages c.pages).dueNow (dChan c.desc)) s

/-- Abandons every command in flight but the writes (R73, R230 step 1), the reads that serve them, and a system record
command not yet formed (R138). -/
def State.abandon (s : State) : State :=
  let gone := s.cmds.filter (fun c => c.op != 0x10)
  let s := { s with cmds := s.cmds.filter (fun c => c.op == 0x10)
                    due := s.due.map (fun d => match d with | Due.seal n r _ => Due.seal n r none | e => e) }
  let s := gone.foldl (fun s c => s.dropPages c.pages) s
  let keep (r : Read) : Bool := r.what == .port
  let s := s.each [0, 1] (fun s a =>
    let x := s.rw a
    s.setRw a { x with reads := x.reads.filter keep, reading := x.reading.filter keep, rgate := x.rgate.filter keep })
  match s.sys with
  | some c =>
    if c.formed && c.parts.isEmpty then s
    else State.srecRefuse { s with sys := none, time := { s.time with midCheckpoint := false } } 5
  | none => s

/-! ## Admission of a write, on either path (R24, R25, R222) -/

/-- The spin-up charge is taken by the first admission made while the spindle is not at speed (R222). -/
def State.takeSpinup (s : State) : State :=
  if s.needSpinup then { s with power := { s.power with spinup := some (s.getF Reg.ENG_SPINUP_E) } } else s

/-- The pages of `len` grains are taken; while the drive is heated they are the held reserve's (R28, R70). -/
def State.takePages (s : State) (len : Nat) (owner : Option Nat) : State × List Nat :=
  s.allocPages { num := 0, pool := .write, tid := owner, held := s.heating } len

end Sys2Proof.Machine
end

