-- ==== Sys2Proof/Machine/Written.lean ====
section
/-! DEFINITION. A record reaches WRITTEN, or is torn (spec/06 R129, R131, R138; spec/07 R155, R159, R160; spec/11 R251),
and what that completes: heads, seals, closes, flushes, system records, intakes. -/

namespace Sys2Proof.Machine

/-- The channel admits frames and commands: open, and no CLOSE_CHANNEL has taken effect (R53). -/
def Chan.accepts (c : Chan) : Bool := c.isOpen && !c.closing

/-- The head below the first grain of channel `n` (or of its intake) that is not WRITTEN; `top` when there is none. -/
def State.belowUnwritten (s : State) (n : Nat) (intake : Bool) (top : Word) : Word :=
  let op := if intake then (s.intake n).opening else (s.chan n).opening
  (s.records.filter (fun r => r.kind == .grain && r.chan == n && r.intake == intake && r.opening == op)).foldl
    (fun h r => seqMin h (r.seq - 1)) top

/-- `h`, or the head before the grain `g` that is never WRITTEN. -/
def stopBefore (g : Option Word) (h : Word) : Word :=
  match g with
  | some g => seqMin h (g - 1)
  | none => h

/-- WRITTEN_HEAD follows the grains written (R14, R15); it never passes a lost grain, nor one whose record was abandoned. -/
def State.headWritten (s : State) (n : Nat) : State :=
  let c := s.chan n
  s.setChan n { c with written := seqMax c.written (stopBefore c.gap (stopBefore c.lost (s.belowUnwritten n false c.durable))) }

/-- The earlier of a grain's sequence number and one that may be there. -/
def earlier (g : Option Word) (q : Word) : Option Word := some (match g with | some x => seqMin x q | none => q)

/-- The record of a grain is abandoned: no head of its opening passes it (R14). -/
def State.noteGap (s : State) (r : Rec) : State :=
  if r.kind != .grain then s
  else if r.intake then
    let i := s.intake r.chan
    if r.opening == i.opening then s.setIntake r.chan { i with gap := earlier i.gap r.seq } else s
  else
    let c := s.chan r.chan
    if r.opening == c.opening then s.setChan r.chan { c with gap := earlier c.gap r.seq } else s

/-- Records that are abandoned: their pages, and with them slots and energy, return (R230 step 6, R327). -/
def State.abandoned (s : State) (l : List Rec) : State :=
  (l.foldl State.noteGap s).dropPages ((l.filter (fun r => !r.onCredit)).map (·.page))

/-- A closed channel gives back its seal credit; its bushel becomes CLOSED, its stagings are cancelled and its CLOSE note
is queued (R65, R101, R133, R248). -/
def State.closeDone (s : State) (n : Nat) : State :=
  let c := s.chan n
  let s := s.noteAlways (noteBytes 2 n 0 c.sealed (leBytes 2 c.opening.toNat))
  let s := match c.credit with | some k => s.dropPages [k.page] | none => s
  let s := s.closeBushel c.bushel
  let s := s.setChan n { c with isOpen := false, closing := false, credit := none, halted := false, lost := none
                                haltCost := 0, resumed := false }
  let s := { s with due := s.due.filter (fun d => d.chan != n), shed := sput {} n {} s.shed }
  (s.setOwn n {}).revoke (fun t => t.chan == n)

/-- Posts the running commands whose condition has come about: SEAL and CLOSE_CHANNEL when their seal is WRITTEN, FLUSH
when WRITTEN_HEAD has reached every head it waits for, MIRROR_RESYNC when MIRRORED_HEAD has (R65, R129). -/
def State.settleCmd (s : State) (c : Cmd) : State :=
  let n := dChan c.desc
  let h := s.chan n
  match c.op with
  | 0x03 =>
    match h.sealFor c.target with
    | some k => if k.written then s.post c 0 (BitVec.ofNat 32 k.ordinal) k.covers else s
    | none => s
  | 0x05 =>
    match h.closing && !s.sealDue n, h.seals.getLast? with
    | true, some k => if k.written then (s.closeDone n).post c 0 (BitVec.ofNat 32 k.ordinal) k.covers else s
    | _, _ => s
  | 0x08 =>
    if c.waits.all (fun w => seqLe w.2 (s.chan w.1).written) then
      s.post c 0 (match c.waits with | [w] => w.2 | _ => c.target) 0
    else s
  | 0x09 =>
    if seqLe c.target h.mirrored then
      (s.setOwn n { s.own n with resync := s.cmds.any (fun d => d.tag != c.tag && d.op == 0x09 && d.running && dChan d.desc == n) }).post
        c 0 h.mirrored 0
    else s
  | _ => s

/-- Every running command, in the order fetched. -/
def State.settleCmds (s : State) : State := (s.cmds.filter (·.running)).foldl State.settleCmd s

/-! ## Intakes (R251, R252) -/

/-- An intake whose CLOSE note has come closes once its last copy is WRITTEN; its seal credit returns. -/
def State.closeIntakeDone (s : State) (n : Nat) : State :=
  let i := s.intake n
  let s := match i.credit with | some k => s.dropPages [k.page] | none => s
  let s := s.dropPages (i.outstanding.map (·.2))
  let s := s.closeBushel i.bushel
  s.setIntake n { i with isOpen := false, closing := false, credit := none, outstanding := [] }

/-- An intake that is closing closes when nothing of it is left to write. -/
def State.settleIntake (s : State) (n : Nat) : State :=
  if (s.intake n).closing && !(s.records.any (fun r => r.intake && r.chan == n && r.opening == (s.intake n).opening)) then s.closeIntakeDone n else s

/-! ## System records (R138, R294) -/

/-- A system record is WRITTEN: the next part is formed, or the command is done and a bushel that BEGIN opened becomes the
one in use. -/
def State.sysWritten (s : State) (r : Rec) : State :=
  if r.anchor then
    let a : Anchor := { number := leAt r.body 0 8, cause := leAt r.body 12 2, epoch := BitVec.ofNat 16 (leAt r.body 14 2)
                        head := r.hdr.take 20, body := r.body }
    (s.storeAnchor a).pumpAnchor false
  else
    let s := s.freePage r.page
    match s.sys with
    | none => s
    | some c =>
      if c.parts.isEmpty then
        let s := (s.setF Reg.LDG_SREC_STAT_STATE 0 2).setF Reg.LDG_SREC_STAT_PLACE 0 r.place
        let s := match c.begin with
          | some b => ((s.setF Reg.LDG_SYS_BUSHEL 0 b).setF Reg.LDG_SYS_PLACE 0 (max c.place (s.bushel b).next)).setF Reg.LDG_SYS_GEN_GEN 0 c.gen.toNat
          | none => s
        State.pumpAnchor { s with sys := none } false
      else State.pumpSys { s with sys := some { c with formed := false } }

/-! ## WRITTEN -/

/-- What a record of a channel completes. -/
def State.chanWritten (s : State) (r : Rec) : State :=
  let n := r.chan
  match r.kind with
  | .grain => ((s.holdGrain r).freePage r.page).headWritten n
  | .seal =>
    let c := s.chan n
    let s := if r.opening != c.opening then s else s.setChan n { c with
      sealed := seqMax c.sealed (stopBefore c.gap r.seq)
      seals := c.seals.map (fun k => if k.ordinal == r.ordinal then { k with written := true } else k)
      credit := if r.reason = 5 then c.credit.map (fun k => { k with cost := 0 }) else c.credit }
    let b := s.bushel r.bushel
    let s := s.setBushel r.bushel { b with lastSeq := if b.state = .opened then r.seq else b.lastSeq }
    { s with boot := { s.boot with sealPlaces := sput 0 n r.place s.boot.sealPlaces } }
  | _ => s

/-- What a copy in an intake completes (R251, R252). -/
def State.intakeWritten (s : State) (r : Rec) : State :=
  let n := r.chan
  let i := s.intake n
  let s := if r.kind = .header then s.layPage r.page else if r.kind = .grain then (s.holdGrain r).freePage r.page else s.freePage r.page
  if r.opening != i.opening then s
  else match r.kind with
  | .grain => s.setIntake n { i with written := seqMax i.written (stopBefore i.gap (s.belowUnwritten n true i.confirmed)) }
  | .seal =>
    let b := s.bushel r.bushel
    (s.setIntake n { i with sealed := seqMax i.sealed (stopBefore i.gap r.seq) }).setBushel r.bushel
      { b with lastSeq := if b.state = .opened then r.seq else b.lastSeq }
  | _ => s

/-- A record reaches WRITTEN (R10, R25, R155): its page and slot return, its energy leaves the account, heads advance,
and whatever waited for it goes on. -/
def State.recordWritten (s : State) (r : Rec) : State :=
  let s := s.bump Reg.RWC_CNT_WR_COUNT r.act
  if r.system then s.sysWritten r
  else if r.intake then (s.intakeWritten r).settleIntake r.chan
  else
    let s := (s.chanWritten r).layPage r.page
    (s.settleCmds).dueNow r.chan

/-! ## Tears (R160) -/

/-- A record is torn: it returns to the head of the queue with its page, slot and debit. -/
def State.tear (s : State) (ch cause : Nat) (r : Rec) : State :=
  let x := s.rw ch
  let s := s.setRw ch { x with wq := { r with torn := true } :: x.wq }
  let s := (s.raise Reg.RWC_EVENTS_TEAR ch).bump Reg.RWC_CNT_TEAR_COUNT ch
  let s := (s.setF Reg.RWC_TEAR_LAST_CAUSE ch cause).setF Reg.RWC_TEAR_LAST_PLACE_BUSHEL ch
    (r.place % 2 ^ 14 + 2 ^ 14 * (r.bushel % 2 ^ 10))
  s.event 0x22 cause r.place r.bushel

/-- The write gate closes; a batch ends when no record of its bushel is queued (R159). -/
def Rwc.closed (x : Rwc) : Rwc :=
  { x with gate := none, sector := []
           batchLeft := if x.wq.any (fun r => x.batchBushel == some r.bushel) then x.batchLeft else 0 }

/-- The write gate of channel `ch` is forced off (R155, R160): before the dram's first bit the record is torn, at or
after it the sector is complete. -/
def State.forceOff (s : State) (ch cause : Nat) (torn : Bool) : State :=
  let x := s.rw ch
  match x.gate with
  | none => s
  | some r =>
    if torn then (s.setRw ch { x with gate := none, sector := [] }).tear ch cause r else (s.setRw ch x.closed).recordWritten r

/-- RECORD_WRITTEN (R10, R155, R159): the write gate of channel `ch` closes untorn after the dram's last bit. -/
def execRecordWritten (ch : Nat) (s : State) : Host.Outcome State Fault Refusal :=
  .next (s.whenLive (fun s =>
    match (s.rw ch).gate with
    | none => s
    | some r => (s.setRw ch (s.rw ch).closed).recordWritten r))

end Sys2Proof.Machine
end

