-- ==== Sys2Proof/Machine/Ecc.lean ====
section
/-! DEFINITION. Stored data protection (spec/15): errors and their logs, the scrubber and the walkers, the repair of a
grain, the halt of a channel and its recovery. -/

namespace Sys2Proof.Machine

/-! ## Errors and logs (R316, R321) -/

/-- An error joins its log: a further error at the newest entry's word counts there; a full log sets its overflow. -/
def addEntry (cap : Nat) (l : List EccEntry) (e : EccEntry) : List EccEntry × Bool :=
  match l.getLast? with
  | some x =>
    if x.mem = e.mem ∧ x.word = e.word then (l.dropLast ++ [{ x with repeats := min 255 (x.repeats + 1) }], false)
    else if l.length < cap then (l ++ [e], false) else (l, true)
  | none => ([e], false)

/-- A correctable error is logged, counted and reported. -/
def State.logCe (s : State) (mem word reader : Nat) (synd : Byte) : State :=
  let r := addEntry 32 s.ecc.ce { word := word, mem := mem, reader := reader, synd := synd }
  let s := { s with ecc := { s.ecc with ce := r.1 } }
  let s := if r.2 then s.raise Reg.ECC_EVENTS_CE_OVF else s
  let s := if mem = 0 then s.bumpSat Reg.ECC_CNT_CE (word / 0x100000) else s
  (s.raise Reg.ECC_EVENTS_CE).eventC 0x51 mem word

/-- An uncorrectable error is logged, counted and reported (BUF_UE). -/
def State.logUe (s : State) (mem word reader : Nat) (synd : Byte) : State :=
  let r := addEntry 16 s.ecc.ue { word := word, mem := mem, reader := reader, synd := synd }
  let s := { s with ecc := { s.ecc with ue := r.1 } }
  let s := if r.2 then s.raise Reg.ECC_EVENTS_UE_OVF else s
  let s := if mem = 0 then s.bumpSat Reg.ECC_CNT_UE (word / 0x100000) else s
  (s.raise Reg.ECC_EVENTS_UE).event 0x50 mem reader word

/-- A particle strikes a word: a second single error makes it uncorrectable. -/
def State.upset (s : State) (mem word : Nat) (double : Bool) (synd : Byte) : State :=
  let two := double || (s.badWord mem word).isSome
  let rest := s.ecc.bad.filter (fun b => !(b.mem == mem && b.word == word))
  { s with ecc := { s.ecc with bad := { mem := mem, word := word, double := two, synd := synd } :: rest } }

/-! ## The halt of a channel (R324, R325) -/

/-- Record `r` was formed after grain `g` of its channel. -/
def Rec.after (r : Rec) (g : Word) : Bool :=
  match r.kind with
  | .header => seqLt g r.seq
  | _ => !seqLt r.seq g

/-- The page of record `r` is under repair (R324): it is not written yet. -/
def State.inRepair (s : State) (r : Rec) : Bool := r.kind == .grain && s.ecc.repairs.any (·.page == r.page)

/-- The write channels pass over a record: its channel is halted at a grain that it comes at or after (R325), or waits
for the scan to confirm it (R373). -/
def State.passOver (s : State) (r : Rec) : Bool :=
  !r.system &&
    (if r.intake then (s.intake r.chan).halted else
      match (s.chan r.chan).lost with
      | some g => r.opening == (s.chan r.chan).opening && r.after g
      | none => (s.chan r.chan).resumed)

/-- The channel halts at grain `g` (R325), which is lost, or at which the scan has cut the channel off (R141). -/
def State.haltAt (s : State) (n : Nat) (g : Word) (cut : Bool) : State :=
  let c := s.chan n
  let t := match s.takeBushel c.act with | some (b, t) => (some b, t) | none => (none, s)
  let s := t.2.setChan n { c with halted := true, lost := some g, cut := cut, haltCost := 2 * s.costOf c.bushel, spare := t.1 }
  let s := (s.setF Reg.ECC_HALT_SEQ_SEQ n g.toNat).raise Reg.ECC_EVENTS_HALT
  let s := (s.event 0x15 n c.opening.toNat g.toNat).causeWriter n 2
  ((s.emcy 0xFF03 (BitVec.ofNat 8 n) c.durable.toNat).headWritten n).checkEnergy

/-- The grain of a failed page is lost. On the partner's copy the intake halts instead (R323, R251). -/
def State.loseGrain (s : State) (r : Repair) : State :=
  let s := { s with ecc := { s.ecc with repairs := s.ecc.repairs.filter (fun x => x.page != r.page) } }
  if r.intake then s.setIntake r.chan { s.intake r.chan with halted := true }
  else if (s.chan r.chan).lost.isSome then s
  else s.haltAt r.chan r.seq false

/-- A reader has met an uncorrectable error in page `p`: if it holds a grain not yet WRITTEN, R324 begins for it. An open
gate on it falls before the dram; a page with more than one such word cannot be repaired. -/
def State.pageUe (s : State) (p : Nat) : State :=
  match s.records.find? (fun r => r.kind == .grain && r.page == p) with
  | none => s
  | some r =>
    if s.ecc.repairs.any (·.page == p) || (!r.intake && (s.chan r.chan).lost == some r.seq) then s
    else
      let x := s.rw r.act
      let s := match x.gate with
        | some g => if g.page = p then s.setRw r.act { x with gate := none, sector := [], wq := { g with torn := true } :: x.wq } else s
        | none => s
      let rep : Repair := { chan := r.chan, intake := r.intake, seq := r.seq, page := p }
      if (s.ueWords 0 (4096 * p) 4096).length = 1 then { s with ecc := { s.ecc with repairs := s.ecc.repairs ++ [rep] } }
      else s.loseGrain rep

/-- A requester reads `n` bytes of the buffer from `a`: errors are logged, and R324 begins where it must (R316, R323).
Answers whether an uncorrectable error was met. -/
def State.bufCheck (s : State) (a n reader : Nat) : State × Bool :=
  if s.ecc.bad.isEmpty then (s, false)
  else
    let l := s.ecc.bad.filter (fun b => b.mem == 0 && decide (b.word < a + n) && decide (a < b.word + 8))
    l.foldl (fun (sb : State × Bool) b =>
      if b.double then ((sb.1.logUe 0 b.word reader b.synd).pageUe (b.word / 4096), true)
      else (sb.1.logCe 0 b.word reader b.synd, sb.2)) (s, false)

/-! ## Scrubber and walkers (R318 to R320) -/

/-- The scrubber and the walkers run. -/
def State.scrubOn (s : State) : Bool := s.flag Reg.ECC_CTRL_SCRUB_EN && s.getF Reg.ENG_STATUS_PL_STEP == 0

/-- The first page from `p` that is not retired. -/
def State.nextUsable (s : State) (p : Nat) : Option Nat :=
  ((List.range (4096 - p)).map (· + p)).find? (fun q => !s.retired q)

/-- A pass is complete (R318); one that took longer than PERIOD sets PASS_LATE. -/
def State.passDone (s : State) : State :=
  let late := match s.ecc.passAt with
    | some t => decide (1000 * s.getF Reg.ECC_CTRL_PERIOD < (s.time.dmt - t).toNat)
    | none => false
  let s := State.bump { s with ecc := { s.ecc with scrubAt := 0, passAt := none } } Reg.ECC_PASSES_COUNT
  if late then s.raise Reg.ECC_EVENTS_PASS_LATE else s

/-- SCRUB_STEP (R316, R318, R320): `upsets` are the words that errors have struck since the last step (buffer offset, two
bits or one, syndrome); then one request of the scrubber, requester 9. -/
def execScrubStep (upsets : List (Nat × Bool × Byte)) (s : State) : Host.Outcome State Fault Refusal :=
  .next (s.whenLive (fun s =>
    let s := upsets.foldl (fun s u => s.upset 0 (u.1 / 8 * 8 % 0x1000000) u.2.1 u.2.2) s
    s.when' s.scrubOn (fun s =>
      let at_ := s.ecc.scrubAt
      match s.nextUsable (at_ / 4096) with
      | none =>
        -- past the last usable page
        s.passDone
      | some p =>
        let a := if p = at_ / 4096 then at_ else 4096 * p
        let n := min (32 * s.getF Reg.ARB_CFG_BURST 9) (4096 * (p + 1) - a)
        let s := s.setF Reg.ECC_STATUS_SCRUB_PAGE 0 p
        let r := s.bufCheck a n 9
        let s := r.1
        let fixed := s.ecc.bad.filter (fun b => b.mem != 0 || b.double || decide (b.word < a) || decide (a + n ≤ b.word))
        let s := { s with ecc := { s.ecc with bad := fixed, scrubAt := a + n, passAt := some (s.ecc.passAt.getD s.time.dmt) } }
        match (if a + n < 0x1000000 then s.nextUsable ((a + n) / 4096) else none) with
        | some _ => s
        | none => s.passDone)))

/-- WALKER_STEP (R316, R319, R320): an error may strike `word` of a core's local memory or the record store (`upset`), and
that memory's walker then reads it. The cache array is not walked. -/
def execWalkerStep (mem word : Nat) (upset double : Bool) (synd : Byte) (s : State) : Host.Outcome State Fault Refusal :=
  .next (s.whenLive (fun s =>
    let s := if upset then s.upset mem word double synd else s
    s.when' (s.scrubOn && mem != 5 && mem != 0) (fun s =>
      match s.badWord mem word with
      | none => s
      | some b =>
        if b.double then s.logUe mem word 14 b.synd
        else
          let s := s.logCe mem word 14 b.synd
          { s with ecc := { s.ecc with bad := s.ecc.bad.filter (fun x => !(x.mem == mem && x.word == word)) } })))

/-- CE_LOG_POP (R321): CE_CTRL.POP, a WO field of any writer. -/
def execCeLogPop (_src : Nat) (s : State) : Host.Outcome State Fault Refusal :=
  .next (s.whenLive (fun s => { s with ecc := { s.ecc with ce := s.ecc.ce.drop 1 } }))

/-- UE_LOG_POP (R321): UE_CTRL.POP, a WO field of any writer. -/
def execUeLogPop (_src : Nat) (s : State) : Host.Outcome State Fault Refusal :=
  .next (s.whenLive (fun s => { s with ecc := { s.ecc with ue := s.ecc.ue.drop 1 } }))

/-- RETIRE_MAP_WRITE (R98, R322): ECC_RETIRE_i, RWK. -/
def execRetireMapWrite (src i : Nat) (v : Word) (s : State) : Host.Outcome State Fault Refusal :=
  .next (s.whenLive (fun s =>
    if privileged src then s.setF Reg.ECC_RETIRE_MAP i v.toNat else s.denied src (regDetail (0x40050400 + 4 * i))))

/-! ## Repair (R324) -/

/-- GRAIN_REPAIR_DONE (R324, R325): the digest search of the oldest repair ends. `body` is the one candidate whose hash
was to be compared, empty when none or more than one matched. -/
def execGrainRepairDone (body : List Byte) (s : State) : Host.Outcome State Fault Refusal :=
  .next (s.whenLive (fun s =>
    match s.ecc.repairs with
    | [] => s
    | r :: rest =>
      match s.records.find? (fun x => x.kind == .grain && x.page == r.page) with
      | none => { s with ecc := { s.ecc with repairs := rest } }
      | some g =>
        if body.length = 4096 && sha256 body == g.digest then
          let s := State.bufWrite { s with ecc := { s.ecc with repairs := rest } } (4096 * r.page) body
          (s.raise Reg.ECC_EVENTS_REPAIRED).event 0x16 r.chan g.opening.toNat r.seq.toNat
        else s.loseGrain r))

/-! ## Recovery of a halted channel (R326, R327) -/

/-- The outcome of ECC_HALT_CMD. -/
def State.haltRes (s : State) (st reason : Nat) : State :=
  (s.setF Reg.ECC_HALT_RES_STATE 0 st).setF Reg.ECC_HALT_RES_REASON 0 reason

/-- A bushel that was taken as a spare goes back to its FIFO. -/
def State.giveBack (s : State) (b : Nat) : State :=
  if s.actOf b = 0 then { s with fifoA := b :: s.fifoA } else { s with fifoB := b :: s.fifoB }

/-- Replaces every record of the media queues by `f` of it. -/
def State.mapRecs (s : State) (f : Rec → Rec) : State :=
  s.each [0, 1] (fun s a =>
    let x := s.rw a
    s.setRw a { x with gate := x.gate.map f, wq := x.wq.map f })

/-- HALT_REPAIR (R316, R326): OP 1 of ECC_HALT_CMD; `page` is SRC, read by the hash engine. ECC_HALT_CMD is WO, so any
writer's write acts. -/
def execHaltRepair (_src chan page : Nat) (s : State) : Host.Outcome State Fault Refusal :=
  .next (s.whenLive (fun s =>
    let c := s.chan chan
    match c.lost with
    | none => s.haltRes 3 1
    | some g =>
      match s.residentRec chan g with
      | none => s.haltRes 3 2
      | some r =>
        let e := s.bufCheck (4096 * page) 4096 7
        let s := e.1
        let body := s.bufRead (4096 * page) 4096
        if c.cut || e.2 || !s.fwPage page || sha256 body != r.digest then s.haltRes 3 2
        else
          let t := s.allocPages { num := 0, pool := .write, tid := r.tid } 1
          let new := t.2.headD r.page
          let s := t.1.bufWrite (4096 * new) body
          let s := s.mapRecs (fun x => if x.kind == .grain && x.page == r.page then { x with page := new } else x)
          let s := if new = r.page then s else s.freePage r.page
          let s := match c.spare with | some b => s.giveBack b | none => s
          let s := s.setChan chan { s.chan chan with halted := false, lost := none, haltCost := 0, spare := none }
          (s.setF Reg.ECC_HALT_SEQ_SEQ chan 0).haltRes 2 0))

/-- Re-forms a record in the channel's new opening (R327 steps 3 and 4). -/
def State.reform (s : State) (n : Nat) (r : Rec) : State :=
  let c := s.chan n
  let base : Rec := { r with opening := c.opening, act := c.act, bushel := c.bushel, gen := c.gen, torn := false }
  match r.kind with
  | .seal =>
    let head := sealHead { c with durable := r.seq } (if r.reason = 4 then 1 else r.reason) 0xFFFFFFFF
    let h20 := overlay (r.hdr.take 20) 18 (leBytes 2 c.opening.toNat)
    let body := sealBody h20 head
    let h := h20 ++ (sha256 body).take 8
    let s := s.setChan n { c with ordinal := c.ordinal + 1, covers := r.seq, sealChain := c.chain
                                  promised := c.promised + 1
                                  seals := c.seals ++ [{ ordinal := c.ordinal + 1, covers := r.seq, chain := c.chain }] }
    s.queueRec { base with hdr := h, body := body, ordinal := c.ordinal + 1 }
  | .header => s
  | _ =>
    let flags := (byteAt r.hdr 16).toNat / 2 * 2 + b2n (r.kind == .grain && r.seq == c.firstSeq)
    let h := overlay (overlay r.hdr 16 (leBytes 1 flags)) 18 (leBytes 2 c.opening.toNat)
    let dig := if r.kind = .grain then r.digest else sha256 r.body
    let s := s.setChan n { c with chain := sha256 (c.chain ++ h.take 20 ++ dig), promised := c.promised + 1 }
    let s := s.queueRec { base with hdr := h, chainIn := c.chain }
    if r.kind = .divergence then s.mirrorRec n 1 r.seq (padTo 32 h ++ r.body) else s

/-- The records of channel `n` formed after `g` leave the queues; answers them in their order. -/
def State.takeAfter (s : State) (n : Nat) (g : Word) : State × List Rec :=
  let p (r : Rec) : Bool := !r.intake && !r.system && r.chan == n && r.opening == (s.chan n).opening && r.after g
  let l := (s.records.filter p)
  (s.each [0, 1] (fun s a => let x := s.rw a; s.setRw a { x with wq := x.wq.filter (fun r => !p r) }), l)

/-- The insertion of a record by formation: records keep the order of their covered or own sequence, grains before the
records that follow them. -/
def insertRec (r : Rec) : List Rec → List Rec
  | [] => [r]
  | x :: l => if seqLt r.seq x.seq then r :: x :: l else x :: insertRec r l

/-- Steps 2 to 6 of SPLIT (R327): channel `n`, as it stood as `c`, goes on in a new opening after `g` in bushel `b`, and the
records `taken` are carried into it. `z` is the cost of one record; `told`: grain `g` is lost, which GRAIN_LOST tells. -/
def State.splitInto (s : State) (c : Chan) (taken : List Rec) (n : Nat) (g : Word) (b : Nat) (z : Nat) (told : Bool) : State :=
  let s := s.closeBushel c.bushel
  -- 2: the new opening in the spare bushel
  let op := c.nextOpening
  let s := s.openBushel b n false op
  let act := s.actOf b
  let zero := chainZero uid n op (g + 1)
  let s := s.setChan n { c with
    opening := op, nextOpening := op + 1, firstSeq := g + 1, bushel := b, gen := (s.bushel b).gen, act := act
    prevBushel := 0xFFFFFFFF, promised := 0, chain := zero, sealChain := zero, ordinal := 0, covers := g, seals := [], sealsFrom := none
    durable := g, written := g, sealed := g, mirrored := g, lost := none, cut := false, halted := false, haltCost := 0, spare := none
    gap := none, credit := c.credit.map (fun k => { k with act := act, cost := z }) }
  let s := s.formHeader n .debit z
  -- 3 and 4: the later members and the seals not yet WRITTEN, in their order
  let later := (taken.filter (fun r => !(r.kind == .grain && r.seq == g))).foldl (fun l r => insertRec r l) []
  let s := later.foldl (fun s r => s.reform n r) s
  -- 5 and 6
  let s := s.setChan n { s.chan n with durable := c.durable }
  let s := match taken.find? (fun r => r.kind == .grain && r.seq == g) with
    | some r => s.freePage r.page
    | none => s
  let s := s.setOwn n { s.own n with lagging := c.mirror, pos := g, granted := 0, sent := 0 }
  let s := s.setF Reg.ECC_HALT_SEQ_SEQ n 0
  let s := if told then s.event 0x17 n c.opening.toNat g.toNat else s
  let s := if c.mirror then s.noteAlways (noteBytes 1 n 0 (g + 1) (leBytes 2 op.toNat ++ leBytes 1 c.frameMax ++ leBytes 1 c.cls ++
      leBytes 4 c.sealEvery)) else s
  s.settleCmds

/-- SPLIT (R327): the old opening ends at g − 1, and every later member is carried into a new opening in the spare bushel
`b`. Of a channel that the scan cut off no grain is lost, and the new opening starts at g itself. -/
def State.split (s : State) (n : Nat) (g : Word) (b : Nat) (z : Nat) : State :=
  let c := s.chan n
  let chainAt := ((s.residentRec n g).map (·.chainIn)).getD c.chain
  let taken := s.takeAfter n g
  let s := taken.1
  -- 1: the old opening is closed by a seal covering g − 1, paid by the old seal credit's energy
  let before := c.seals.filter (fun k => seqLt k.covers g)
  let last := before.getLast?
  let c1 := { c with durable := g - 1, chain := chainAt, ordinal := (last.map (·.ordinal)).getD 0
                     covers := (last.map (·.covers)).getD (c.firstSeq - 1), seals := before
                     sealChain := (last.map (·.chain)).getD (chainZero uid n c.opening c.firstSeq) }
  let s := (s.setChan n c1).formSeal n 3 .debit ((c.credit.map (·.cost)).getD 0)
  s.splitInto c taken.2 n (if c.cut then g - 1 else g) b z (!c.cut)

/-- SPLIT of a halted channel that holds a spare bushel. -/
def State.splitHalted (s : State) (n : Nat) : State :=
  match (s.chan n).lost, (s.chan n).spare with
  | some g, some b => s.split n g b ((s.chan n).haltCost / 2)
  | _, _ => s

/-- At step 1 of the power-loss sequence (R327): SPLIT where a spare is held; else the records formed after g are
abandoned. -/
def State.autoSplit (s : State) (n : Nat) : State :=
  match (s.chan n).lost, (s.chan n).spare with
  | some _, some _ => s.splitHalted n
  | some g, none =>
    let t := s.takeAfter n g
    (t.1.abandoned t.2).event 0x36 n 0 t.2.length
  | none, _ => s

/-- HALT_SPLIT (R326, R327): OP 2 of ECC_HALT_CMD. -/
def execHaltSplit (_src chan : Nat) (s : State) : Host.Outcome State Fault Refusal :=
  .next (s.whenLive (fun s =>
    match (s.chan chan).lost, (s.chan chan).spare with
    | none, _ => s.haltRes 3 1
    | some _, none => s.haltRes 3 3
    | some _, some _ => (s.splitHalted chan).haltRes 2 0))

end Sys2Proof.Machine
end

