-- ==== Sys2Proof/Machine/RegOps.lean ====
section
/-! DEFINITION. A register access by address (spec/00 R2 to R6): which fields lie at an address, the write of a word to
them by their access codes, and the word they read as. -/

namespace Sys2Proof.Machine

/-- The number of the element of `f` at `addr`, if one lies there. -/
def Field.index (f : Field) (addr : Nat) : Option Nat :=
  let base := 0x40000000 + 0x10000 * f.blk + f.off
  if addr < base then none
  else
    let d := addr - base
    let i := if f.n = 1 then (if d = 0 then 0 else f.n)
      else if f.m = 1 then (if d % f.st = 0 then d / f.st else f.n)
      else if d % f.st % f.st2 = 0 ∧ d % f.st / f.st2 < f.m then d / f.st * f.m + d % f.st / f.st2 else f.n
    if i < f.n then some i else none

/-- The block number that an address lies in; block 10 holds the second read/write channel, an element of block 9's fields. -/
def regBlock (addr : Nat) : Nat :=
  let k := (addr - 0x40000000) / 0x10000
  if k = 10 then 9 else k

/-- The fields of the register at `addr`, each with its element number (R2: none where no register is named). -/
def regFields (addr : Nat) : List (Field × Nat) :=
  if addr < 0x40000000 ∨ addr % 4 ≠ 0 then []
  else (Reg.block (regBlock addr)).filterMap (fun f => (f.index addr).map (fun i => (f, i)))

/-- The field takes the writer's value by its access code (R3). -/
def Field.takes (f : Field) (src : Nat) : Bool :=
  match f.acc with
  | .rw => true
  | .rwk => privileged src
  | _ => false

/-- A write of `x` to one field (R3, R6). -/
def State.writeField (s : State) (src : Nat) (f : Field) (i x : Nat) : State :=
  match f.acc with
  | .w1c => s.setF f i (s.getF f i - (BitVec.ofNat 32 (s.getF f i) &&& BitVec.ofNat 32 x).toNat)
  | _ => if f.takes src && f.legal x then s.setF f i x else s

/-- A write of a word to the fields `fs` of the register at `addr` by their access codes: fields that take the value, W1C bits
cleared, one WRITE_DENIED where an RWK field meets a writer without the right, one WRITE_RESERVED where a value is a
reserved encoding (R3, R5, R6). -/
def State.writeFields (s : State) (src addr : Nat) (v : Word) (fs : List (Field × Nat)) : State :=
  let s := fs.foldl (fun s fi => s.writeField src fi.1 fi.2 (bitsOf v.toNat fi.1.lo fi.1.w)) s
  let s := if fs.any (fun fi => fi.1.acc == .rwk) && !privileged src then s.denied src (regDetail addr) else s
  if fs.any (fun fi => fi.1.takes src && !fi.1.legal (bitsOf v.toNat fi.1.lo fi.1.w)) then s.reserved src (regDetail addr)
  else s

/-- A write of a word to the register at `addr` by its fields' access codes. -/
def State.genericWrite (s : State) (src addr : Nat) (v : Word) : State := s.writeFields src addr v (regFields addr)

/-- The value a field would have after the write of word `v` by `src`: `v`'s bits where the field takes them. -/
def State.afterWrite (s : State) (src : Nat) (v : Word) (f : Field) (i : Nat := 0) : Nat :=
  let x := bitsOf v.toNat f.lo f.w
  if f.takes src && f.legal x then x else s.getF f i

end Sys2Proof.Machine
end

