-- ==== Sys2Proof/Machine/Spindle.lean ====
section
/-! DEFINITION. Loop states that other engines change (spec/08 R177, R178, R190) and the spindle's commutation sequencer
(spec/09). -/

namespace Sys2Proof.Machine

/-! ## Loop states -/

/-- Actuator `a` is IDLE or PARKED. -/
def State.atRest (s : State) (a : Nat) : Bool := decide (s.actState a ≤ 1)

/-- Both actuators are IDLE or PARKED. -/
def State.bothAtRest (s : State) : Bool := s.atRest 0 && s.atRest 1

/-- The sector-read port of channel `ch` ends with `cls` (R166). -/
def State.portDone (s : State) (ch cls step : Nat) : State :=
  (((s.lower Reg.RWC_SR_STAT_BUSY ch).raise Reg.RWC_SR_STAT_DONE ch).setF Reg.RWC_SR_STAT_CLASS ch cls).setF
    Reg.RWC_SR_STAT_STEP ch step

/-- The actuator retracts before the port's read is served: it ends with CLASS 3 (R166). -/
def State.portFail (s : State) (a : Nat) : State :=
  if s.flag Reg.RWC_SR_STAT_BUSY a then
    let x := s.rw a
    let keep (r : Read) : Bool := r.what != .port
    (s.setRw a { x with reads := x.reads.filter keep, reading := x.reading.filter keep, rgate := x.rgate.filter keep }).portDone
      a 3 0
  else s

/-- A loop changes state (R177): MEDIA_NOW follows its availability (R112); a retract ends the port's read; leaving TRACK
drops both on-track flags, ends a read, which is done again, and asserts write inhibit at once, which forces an open write gate off (R178) with the tear cause
`cause` of R160. IDLE, PARKED and RETRACT have no output. -/
def State.setActFor (s : State) (a st cause : Nat) (torn : Bool) : State :=
  let was := s.actState a
  let avail := s.available a
  let s := s.setF Reg.ACT_STATE_STATE a st
  let s := if s.available a == avail then s else s.media
  let s := if st = 7 then s.portFail a else s
  let s := if st = 7 ∨ st ≤ 1 then s.setLoop a { s.loop a with uPrev := 0 } else s
  if was = 3 && st ≠ 3 then
    let s := s.setRw a { s.rw a with rgate := none }
    (((s.lower Reg.ACT_STATE_ON_TRK_RD a).lower Reg.ACT_STATE_ON_TRK_WR a).raise Reg.ACT_STATE_WINH a).forceOff a cause torn
  else s

/-- A loop changes state; a gate that this forces off is torn by write inhibit, cause 4. -/
def State.setAct (s : State) (a st : Nat) (torn : Bool) : State := s.setActFor a st 4 torn

/-- The loop enters RETRACT and drops its target (R190); `cause` is the tear cause of R160. -/
def State.retractLoopFor (s : State) (a cause : Nat) (torn : Bool) : State :=
  let s := s.setLoop a { s.loop a with retReq := true, loadReq := false, profile := [], held := none, replan := none, jog := 0, want := 0 }
  s.setActFor a 7 cause torn

/-- The power die is asked to retract actuator `a` (R190). -/
def State.retractLoop (s : State) (a : Nat) (torn : Bool) : State := s.retractLoopFor a 4 torn

/-! ## Sequencer states (R196) -/

/-- The state of the sequencer. -/
def State.spn (s : State) : Nat := s.getF Reg.SPN_STATE_STATE

/-- Changes what the sequencer keeps beside its registers. -/
def State.modSpn (s : State) (f : Spindle → Spindle) : State := { s with spindle := f s.spindle }

/-- The measured speed of R207, in 1/8 rpm. -/
def State.measured8 (s : State) : Nat :=
  if s.flag Reg.CHN_STATUS_LOCK then s.getF Reg.CHN_RPM_RPM8 else s.getF Reg.SPN_EST_RPM8

/-- Whenever the measured speed is below UNLOAD_RPM, every actuator that is neither IDLE nor PARKED is to be retracted
(R207). -/
def State.unloadCheck (s : State) (tornA tornB : Bool) : State :=
  if s.measured8 < 8 * s.getF Reg.SPN_THR_UNLOAD_RPM then
    s.each [0, 1] (fun s a => if s.atRest a || s.actState a == 7 then s else s.retractLoop a (if a = 0 then tornA else tornB))
  else s

/-- SPN_EST takes a value (R194, R197); a gate that the retract of R207 forces off then falls before the dram (log entry 41). -/
def State.setEst (s : State) (rpm8 : Nat) : State := (s.setF Reg.SPN_EST_RPM8 0 (satN 16 rpm8)).unloadCheck true true

/-- No zero crossing is found: there is no rotation in progress (R197). -/
def State.noRotation (s : State) : State := (s.modSpn (fun p => { p with crossings := [] })).setEst 0

/-- The sequencer enters a state; the drive is no longer being heated once it is in OFF, STOP or FAIL (R209), and only RUN
is handed to the speed loop. In OFF and FAIL, whose bridge is off, SPN_EST reads 0 until a crossing is found (R197, log
entry 42). -/
def State.enterSpn (s : State) (st : Nat) : State :=
  let s := s.setF Reg.SPN_STATE_STATE 0 st
  let s := if st = 0 ∨ st = 8 ∨ st = 10 then s.lower Reg.SPN_STATE_HEATING else s
  let s := if st = 7 then s else s.lower Reg.SPN_STATE_HANDED
  let s := if st = 10 then s else s.modSpn (fun p => { p with failed := false })
  if st = 0 ∨ st = 10 then s.noRotation else s

/-- DETECT. -/
def State.enterDetect (s : State) : State :=
  (s.modSpn (fun p => { p with waitPark := false, gapWait := false, crossings := [], predicted := 0 })).enterSpn 1

/-- BRAKE, and what it leads to (R200, R203, R204). -/
def State.enterBrake (s : State) (b : BrakeFor) : State :=
  (s.modSpn (fun p => { p with brake := b, gapWait := false, heated := false })).enterSpn 2

/-- RAMP from the vector `v` (R202): the first step lasts RAMP_T0; RAMP_I rises by one eighth for each further attempt, up
to I_LIM_S (R204). -/
def State.enterRamp (s : State) (v : Nat) : State :=
  let i := s.getF Reg.SPN_IRUN_RAMP_I
  let i := min (i + i / 8 * (s.getF Reg.SPN_STATE_TRY - 1)) (s.getF Reg.SPD_ILIM_I_LIM_S)
  (s.modSpn (fun p => { p with vector := v % 6, guess := v % 6, heated := false, waitPark := false
                               stepUs := 1000 * s.getF Reg.SPN_START_RAMP_T0, good := 0, early := 0
                               rampI := i, crossings := [], predicted := 0, starting := true })).enterSpn 5

/-- The vector two steps ahead of `v` in the direction of the start (R202). -/
def State.ahead (s : State) (v : Nat) : Nat := if s.spindle.dir then v + 4 else v + 2

/-- SENSE, or after heating RAMP two steps ahead of the heater vector, which is numbered 0 (R209), once both actuators are
IDLE or PARKED; until then the start waits in DETECT (R203). -/
def State.enterSense (s : State) : State :=
  if s.bothAtRest then
    let s := s.modSpn (fun p => { p with waitPark := false, kicks := 0 })
    if s.spindle.heated then s.enterRamp (s.ahead 0) else s.enterSpn 4
  else s.modSpn (fun p => { p with waitPark := true })

/-- An actuator has come to rest: a start that waits for it goes on. -/
def State.restReached (s : State) : State := if s.spn = 1 && s.spindle.waitPark then s.enterSense else s

/-- SYNC. -/
def State.enterSync (s : State) : State := (s.modSpn (fun p => { p with predicted := 0, heated := false })).enterSpn 6

/-- The state FAIL. -/
def State.enterFail (s : State) : State := s.enterSpn 10

/-- A new set of attempts begins from DETECT (R204). -/
def State.newSet (s : State) (dir : Bool) : State :=
  ((s.modSpn (fun p => { p with dir := dir, forHeat := false, heated := false, starting := true, kicks := 0, spent := false })).setF
    Reg.SPN_STATE_TRY 0 1).enterDetect

/-- VIN is valid again in HARVEST (R211): DETECT, which serves a start forward and neither a HEAT command nor a start
backward that came before the loss. -/
def State.catchHarvest (s : State) : State :=
  (s.modSpn (fun p => { p with dir := false, forHeat := false, heated := false, starting := false, spent := false })).enterDetect

/-- No further attempt follows on the reserve: FAIL (R233). -/
def State.noMoreTries (s : State) : State :=
  ((s.raise Reg.SPN_EVENTS_START_FAIL).modSpn (fun p => { p with failed := true })).enterFail

/-- An attempt fails (R204): brake, START_GAP and a new attempt, or FAIL after START_TRIES; under power loss there is one
attempt only (R233). -/
def State.failAttempt (s : State) : State :=
  let t := s.getF Reg.SPN_STATE_TRY
  let s := s.modSpn (fun p => { p with starting := true })
  if s.inLoss then s.noMoreTries
  else if s.getF Reg.SPN_START_START_TRIES ≤ t then
    (((s.event 0x2C 0 0 (s.getF Reg.CNT_RETRY_COUNT))).emcy 0xFF05 0xFF (s.getF Reg.CNT_RETRY_COUNT)).noMoreTries
  else (s.setF Reg.SPN_STATE_TRY 0 (t + 1)).enterBrake .gap

/-! ## The heater (R208, R209) -/

/-- Heating ends: HEAT_END names the cause; the spindle starts in RAMP two steps ahead of the heater vector where `start`
holds (in DETECT, until both actuators are IDLE or PARKED: R203), else the sequencer enters OFF. -/
def State.heatEnd (s : State) (cause : Nat) (start : Bool) : State :=
  let s := s.event 0x2E cause 0 (s.getF Reg.WIND_T)
  let s := if cause = 3 then s.raise Reg.SPN_EVENTS_HEAT_TIMEOUT else s
  let s := s.modSpn (fun p => { p with forHeat := false })
  if start then
    let s := (s.setF Reg.SPN_STATE_TRY 0 1).modSpn (fun p => { p with heated := true })
    (if s.bothAtRest then s else s.enterDetect).enterSense
  else s.enterSpn 0

/-- The held reserve's pages in use. -/
def State.heldPages (s : State) : Nat := (s.pages.filter (·.held)).length

/-- Heating ends by hold fill (cause 2) once they reach HOLD_END percent of POOL_HOLD. -/
def State.heatFill (s : State) : State :=
  if s.spn = 3 && decide (s.getF Reg.SPN_HEAT_HOLD_END * s.getF Reg.POOL_HOLD_HOLD ≤ 100 * s.heldPages) then
    s.heatEnd 2 s.spindle.autoStart
  else s

/-! ## Commands (R197) -/

/-- The rotation in progress is against `dir` (R197). -/
def State.isReversal (s : State) (dir : Bool) : Bool :=
  s.getF Reg.SPN_EST_RPM8 != 0 && s.flag Reg.SPN_STATE_DIR_NOW != dir

/-- The media write queues are empty. -/
def State.queuesEmpty (s : State) : Bool := s.records.isEmpty

/-- SPINDLE_START (R197, R199, R209). SPN_CMD is WO, so any writer's write acts. Under power loss the device alone decides
its one attempt (R233): the command is rejected (log entry 42). -/
def execSpindleStart (_src : Nat) (dir : Bool) (s : State) : Host.Outcome State Fault Refusal :=
  .next (s.whenLive (fun s =>
    if s.isReversal dir && (decide (8 * s.getF Reg.SPN_THR2_REV_MAX_RPM < s.getF Reg.SPN_EST_RPM8) || !s.bothAtRest) then
      s.raise Reg.SPN_EVENTS_REV_REJECT
    else if s.inLoss && (s.spn == 0 || s.spn == 10) then s.raise Reg.SPN_EVENTS_CMD_REJECT
    else
      match s.spn with
      | 0 => (s.bump Reg.CNT_START_COUNT).newSet dir
      | 10 => (s.bump Reg.CNT_START_COUNT).newSet dir
      | 3 => ((s.bump Reg.CNT_START_COUNT).modSpn (fun p => { p with dir := dir })).heatEnd 4 true
      | 8 => s.raise Reg.SPN_EVENTS_CMD_REJECT
      | 9 => s.raise Reg.SPN_EVENTS_CMD_REJECT
      | _ => s))

/-- SPINDLE_STOP (R197, R200, R208). -/
def execSpindleStop (_src : Nat) (s : State) : Host.Outcome State Fault Refusal :=
  .next (s.whenLive (fun s =>
    let st := s.spn
    if (decide (3 ≤ st ∧ st ≤ 7) || st == 10) && s.queuesEmpty && s.bothAtRest then
      let s := s.modSpn (fun p => { p with starting := false })
      if st = 7 then (s.modSpn (fun p => { p with brake := .stopped, stopBrake := false })).enterSpn 8
      else if st = 3 then s.heatEnd 4 false
      else s.enterBrake .off
    else s.raise Reg.SPN_EVENTS_CMD_REJECT))

/-- SPINDLE_HEAT (R197, R208, R209): accepted in OFF, and disabled while WIND_RREF is 0; the heater never draws on the
reserve. -/
def execSpindleHeat (_src : Nat) (auto : Bool) (s : State) : Host.Outcome State Fault Refusal :=
  .next (s.whenLive (fun s =>
    if s.spn = 0 && s.getF Reg.WIND_RREF_R != 0 && !s.inLoss then
      let s := s.modSpn (fun p => { p with dir := false, forHeat := true, heated := false, autoStart := auto, starting := true })
      ((s.raise Reg.SPN_STATE_HEATING).setF Reg.SPN_STATE_TRY 0 1).enterDetect
    else s.raise Reg.SPN_EVENTS_CMD_REJECT))

/-! ## Detection and braking (R199, R200) -/

/-- DETECT_DONE (R199): DET_MS has passed. `turning` tells whether zero crossings were found, `backward` and `rpm8` the
rotation. -/
def execDetectDone (turning backward : Bool) (rpm8 : Nat) (s : State) : Host.Outcome State Fault Refusal :=
  .next (s.whenLive (fun s => s.when' (s.spn == 1) (fun s =>
    let s := if turning then (s.setBit Reg.SPN_STATE_DIR_NOW 0 backward).setEst rpm8 else s.noRotation
    let p := s.spindle
    if !turning then
      let s := s.setF Reg.SPN_STATE_DET 0 0
      if p.forHeat then (s.enterSpn 3).heatFill
      else if s.inLoss && p.spent then s.noMoreTries
      else s.enterSense
    else if backward == p.dir && decide (8 * s.getF Reg.SPN_DET_CATCH_MIN ≤ s.getF Reg.SPN_EST_RPM8) then
      let s := s.setF Reg.SPN_STATE_DET 0 1
      if p.forHeat then s.enterBrake .detect
      else ((s.raise Reg.SPN_EVENTS_CAUGHT).event 0x2A 0 0 (s.getF Reg.SPN_EST_RPM8)).enterSync
    else (s.setF Reg.SPN_STATE_DET 0 (if backward == p.dir then 2 else 3)).enterBrake .detect)))

/-- A new attempt begins from DETECT (R204). -/
def State.newAttempt (s : State) : State :=
  ((s.bump Reg.CNT_RETRY_COUNT).modSpn (fun p => { p with kicks := 0 })).enterDetect

/-- BRAKE_END (R200; under power loss START_GAP no longer applies, R233): the back-EMF has stayed below DET_MV for 50 ms, in
BRAKE or in the short brake that ends STOP. -/
def execBrakeEnd (s : State) : Host.Outcome State Fault Refusal :=
  .next (s.whenLive (fun s =>
    let s' := s.noRotation
    if s.spn = 8 then s'.enterSpn 0
    else if s.spn = 2 then
      match s.spindle.brake with
      | .gap =>
        if s.spindle.gapWait then s
        else if s.inLoss then s'.newAttempt
        else s'.modSpn (fun p => { p with gapWait := true })
      | .kick => s
      | .detect => s'.enterDetect
      | _ => s'.enterSpn 0
    else s))

/-- BRAKE_TIMEOUT (R200): BRAKE, or the short brake of STOP, has not ended within BRAKE_TMO. No set of attempts has failed,
so none follows after FAIL_PAUSE (R204). -/
def execBrakeTimeout (s : State) : Host.Outcome State Fault Refusal :=
  .next (s.whenLive (fun s => s.when' (s.spn == 8 || (s.spn == 2 && !s.spindle.gapWait && s.spindle.brake != .kick))
    (fun s => (s.modSpn (fun p => { p with starting := false })).enterFail)))

/-! ## The start (R201 to R204) -/

/-- The position of the smallest of some rise times. -/
def argMin : Nat → Nat → Nat → List Nat → Nat
  | _, best, _, [] => best
  | i, best, v, x :: r => if x < v then argMin (i + 1) i x r else argMin (i + 1) best v r

/-- SENSE_DONE (R201, R202): the rise times of the six step vectors; RAMP begins two steps ahead of the shortest. -/
def execSenseDone (times : List Nat) (s : State) : Host.Outcome State Fault Refusal :=
  .next (s.whenLive (fun s => s.when' (s.spn == 4) (fun s =>
    let v := match times.take 6 with | [] => 0 | x :: r => argMin 1 0 x r
    s.enterRamp (s.ahead v))))

/-- RAMP_STEP (R202): one forced step; `crossing` tells that its zero crossing fell within ±25 % of the expected instant. -/
def execRampStep (crossing : Bool) (s : State) : Host.Outcome State Fault Refusal :=
  .next (s.whenLive (fun s => s.when' (s.spn == 5) (fun s =>
    let s := s.modSpn (fun p => { p with vector := (p.vector + if p.dir then 5 else 1) % 6
                                         stepUs := max 1000 (p.stepUs * 15 / 16)
                                         good := if crossing then p.good + 1 else 0 })
    if s.getF Reg.SPN_START_SYNC_N ≤ s.spindle.good then s.enterSync else s)))

/-- Commutation is lost (R206). -/
def State.commLost (s : State) : State :=
  let s := (s.raise Reg.SPN_EVENTS_COMM_LOST).bump Reg.CNT_COMM_LOST_COUNT
  let s := s.event 0x2D 0 0 (s.getF Reg.SPN_EST_RPM8)
  (s.modSpn (fun p => { p with forHeat := false, starting := false, spent := p.spent || s.inLoss })).enterDetect

/-- The rotor has kicked backward (R203): brake and restart from the opposite vector, once in an attempt. -/
def State.kicked (s : State) : State :=
  if s.spindle.kicks = 0 then
    let s := (s.raise Reg.SPN_EVENTS_REV_KICK).event 0x2B 0 0 (s.getF Reg.SPN_STATE_TRY)
    (s.modSpn (fun p => { p with kicks := 1 })).enterBrake .kick
  else s.failAttempt

/-- Word `w` of the bank in use of loop `l`, signed (R184, R193): 0 G, 1 L_P, 2 L_V, 3 L_B, 4 KP, 5 KI, 6 KD, 7 I_CLAMP, 8 KA,
9 KX, 10 KSHK, 11 KB, 12 KFF, 16 + 5j the notch j. -/
def State.coef (s : State) (l w : Nat) : Int :=
  s.getI Reg.COEF_WORD (36 * (2 * l + b2n (bitOf (s.getF Reg.LOOP_BANKS_ACTIVE) l)) + w)

/-- I_CLAMP of loop `l`: 16 bits signed, in output units. -/
def State.iClamp (s : State) (l : Nat) : Int := signed 16 (unsigned 32 (s.coef l 7))

/-- KFF · N_SET, with 36 fraction bits (R176). -/
def State.feedFwd (s : State) : Int := s.coef 2 12 * (s.nSet : Int) * 65536

/-- The speed loop takes the spindle (R207): the integrator is preset under R176 to the sequencer's last current
command less KFF·N_SET. -/
def State.handOff (s : State) : State :=
  let u : Int := s.getF Reg.SPN_IRUN_SYNC_I
  let s : State := { s with spl := { i := u * 65536 - roundShift s.feedFwd 20, u := u } }
  ((s.modSpn (fun p => { p with starting := false })).enterSpn 7).raise Reg.SPN_STATE_HANDED

/-- A crossing is found or predicted: SPN_EST and DIR_NOW follow (R194). -/
def State.zeroCrossing (s : State) (interval : Nat) (backward : Bool) : State :=
  let l := (interval :: s.spindle.crossings).take 6
  let d := s.getF Reg.SPN_MOTOR_POLE_PAIRS * l.sum
  -- 60 s over 6 · POLE_PAIRS steps of the mean interval, in 1/8 rpm
  let est := if d = 0 then 65535 else 80000000000 * l.length / d
  ((s.modSpn (fun p => { p with crossings := l })).setBit Reg.SPN_STATE_DIR_NOW 0 backward).setEst est

/-- The window of a PWM period of on-time `onTime` (units of 10 ns) is shorter than WMIN (R205). -/
def State.narrow (s : State) (onTime : Nat) : Bool :=
  decide (onTime < s.getF Reg.SPN_BEMF_BLANK + s.getF Reg.SPN_BEMF_WMIN)

/-- The commutation that follows a crossing in SYNC and RUN (R205): the next vector, 30 electrical degrees less ADV/256 of a
step after the crossing. -/
def State.commutate (s : State) : State :=
  s.modSpn (fun p =>
    let t : Int := (p.crossings.headD 0 : Nat)
    { p with vector := (p.vector + if p.dir then 5 else 1) % 6, delay := t / 2 - t * s.getF Reg.SPN_MOTOR_ADV / 256 })

/-- A crossing in RAMP (R203): the first two of an attempt against DIR are a kick. -/
def State.rampCrossing (s : State) (interval : Nat) (backward : Bool) : State :=
  let s := s.zeroCrossing interval backward
  let early := if backward != s.spindle.dir then s.spindle.early + 1 else 9
  let s := s.modSpn (fun p => { p with early := if p.early < 9 then early else p.early })
  if s.spindle.early = 2 then s.kicked else s

/-- A crossing in SYNC or RUN (R205 to R207); `n` predicted ones in a row so far, this one included. -/
def State.runCrossing (s : State) (interval : Nat) (backward : Bool) (n : Nat) : State :=
  let s := ((s.zeroCrossing interval backward).modSpn (fun p => { p with predicted := n })).commutate
  if s.getF Reg.SPN_MOTOR_SKIP_MAX ≤ n then s.commLost
  else if s.spn = 6 && !s.spindle.dir && decide (8 * s.getF Reg.SPN_THR_HANDOFF_RPM ≤ s.getF Reg.SPN_EST_RPM8) then s.handOff
  else s

/-- BEMF_ZERO_CROSSING (R194, R198, R203, R205 to R207): `interval` in nanoseconds since the crossing before, `onTime` the PWM
on-time of the period it falls in, `flyback` that the floating phase's flyback has not ended: the sample is discarded. A
crossing that falls in a narrow window is predicted from the last step interval, or used as found, as NARROW says. In the other states a crossing of the turning rotor is measured only (R197, R199, R210,
R216); in STOP the negative torque gives way to the short brake once the rotor is slower than CATCH_MIN (log entry 42). -/
def execBemfZeroCrossing (interval onTime : Nat) (flyback backward : Bool) (s : State) : Host.Outcome State Fault Refusal :=
  .next (s.whenLive (fun s =>
    match s.spn with
    | 5 => s.rampCrossing interval backward
    | 6 | 7 =>
      if flyback then s
      else if !s.narrow onTime then s.runCrossing interval backward 0
      else if s.flag Reg.SPN_MOTOR_NARROW then (s.bump Reg.CNT_DIST_COUNT).runCrossing interval backward 0
      else
        match s.spindle.crossings with
        | [] => s
        | t :: _ => (s.bump Reg.CNT_SKIP_COUNT).runCrossing t (s.flag Reg.SPN_STATE_DIR_NOW) (s.spindle.predicted + 1)
    | 8 =>
      let s := s.zeroCrossing interval backward
      if s.getF Reg.SPN_EST_RPM8 < 8 * s.getF Reg.SPN_DET_CATCH_MIN then s.modSpn (fun p => { p with stopBrake := true }) else s
    | _ => s.zeroCrossing interval backward))

/-- KICK_BRAKE_END (R203): KICK_BRAKE_MS has passed; RAMP restarts from the vector opposite to the first guess. -/
def execKickBrakeEnd (s : State) : Host.Outcome State Fault Refusal :=
  .next (s.whenLive (fun s => s.when' (s.spn == 2 && s.spindle.brake == .kick) (fun s => s.enterRamp (s.spindle.guess + 3))))

/-- COMMUTATION_LOST (R206): a crossing was not found within ±50 % of its expected instant. -/
def execCommutationLost (s : State) : Host.Outcome State Fault Refusal :=
  .next (s.whenLive (fun s => s.when' (s.spn == 6 || s.spn == 7) State.commLost))

/-- START_TIMEOUT (R204, R233): SYNC was not reached within START_TMO of the entry to SENSE. -/
def execStartTimeout (s : State) : Host.Outcome State Fault Refusal :=
  .next (s.whenLive (fun s => s.when' (s.spn == 4 || s.spn == 5 || (s.spn == 2 && s.spindle.brake == .kick))
    State.failAttempt))

/-- START_GAP_END (R204): a new attempt begins from DETECT. -/
def execStartGapEnd (s : State) : Host.Outcome State Fault Refusal :=
  .next (s.whenLive (fun s => s.when' (s.spn == 2 && s.spindle.brake == .gap && s.spindle.gapWait) State.newAttempt))

/-- FAIL_PAUSE_END (R204): a new set of attempts, for as long as VIN is valid. -/
def execFailPauseEnd (s : State) : Host.Outcome State Fault Refusal :=
  .next (s.whenLive (fun s => s.when' (s.spn == 10 && s.spindle.starting && s.power.vinValid) (fun s =>
    (s.bump Reg.CNT_RETRY_COUNT).newSet s.spindle.dir)))

/-! ## Heating -/

/-- HEATER_MEASURE (R208): the winding path resistance in mΩ; WIND.T in 1/16 °C, and the target test on the exact value.
With WIND_RREF at 0 the spec states no temperature: a free value stands there (log entry 3). -/
def execHeaterMeasure (r : Nat) (s : State) : Host.Outcome State Fault Refusal :=
  .next (s.whenLive (fun s => s.when' (s.spn == 3) (fun s =>
    let r := satN 16 r
    let ref := s.getF Reg.WIND_RREF_R
    let s := s.setF Reg.WIND_R 0 r
    if ref = 0 then
      let f := s.fresh
      let s := f.1.setF Reg.WIND_T 0 f.2.toNat
      if 16 * s.getI Reg.SPN_HEAT_HEAT_TGT ≤ s.getI Reg.WIND_T then s.heatEnd 1 s.spindle.autoStart else s
    else
      let num : Int := ((r : Int) - ref) * 100000
      let s := s.setF Reg.WIND_T 0 (unsigned 16 (satI 16 (400 + 16 * num / (393 * (ref : Int)))))
      -- 25 + num / (393 ref) ≥ HEAT_TGT
      if (s.getI Reg.SPN_HEAT_HEAT_TGT - 25) * (393 * ref) ≤ num then s.heatEnd 1 s.spindle.autoStart else s)))

/-- HEAT_TIMEOUT (R208): HEAT_MAX has passed since HEAT was entered. -/
def execHeatTimeout (s : State) : Host.Outcome State Fault Refusal :=
  .next (s.whenLive (fun s => s.when' (s.spn == 3) (fun s => s.heatEnd 3 s.spindle.autoStart)))

end Sys2Proof.Machine
end

