-- ==== Sys2Proof/Machine/StreamPort.lean ====
section
/-! DEFINITION. The Stream Port (spec/02): headers and their checks, write and read frames, the commit edge, doorbells,
aborts, removal and seating. Management frames are in Machine/Management.lean. -/

namespace Sys2Proof.Machine

/-! ## Outcomes of a header (R37, R46) -/

/-- Changes the port. -/
def State.modPort (s : State) (f : Port → Port) : State := { s with port := f s.port }

/-- HOLD (R37): SP_BSY_N stays high in H1; nothing is taken and nothing changes but the count. -/
def State.hold (s : State) (r0 : Bool) : State :=
  (s.modPort (fun p => { p with rdy0 := r0, rdy1 := false, bsy1 := true, bsyN := true, out := [] })).bump Reg.SP_CNT_HOLD_COUNT

/-- Refusal (R37, R46): SP_BSY_N is low in H1 and high again when the two status words follow; S1 is `head`. -/
def State.refuse (s : State) (r0 : Bool) (ty tid chan code : Nat) (head : Word) : State :=
  (s.modPort (fun p => { p with rdy0 := r0, rdy1 := false, bsy1 := false, bsyN := true
                                out := [statusWord ty tid chan 0 code, head] })).bump Reg.SP_CNT_REFUSE_COUNT

/-- Admitted (R37). -/
def State.takeHeader (s : State) : State :=
  (s.modPort (fun p => { p with rdy0 := true, rdy1 := true, bsy1 := true, bsyN := true, out := [] })).bump Reg.SP_CNT_ACCEPT_COUNT

/-- A header while the port is closed meets HOLD, whatever its TYPE (R38 step 1); a logic die that does not run gives no
SP_RDY and counts nothing. One that arrives while a frame is between H0 and TA is out of turn (R36). -/
def State.header (s : State) (f : State → State) : State :=
  if !s.live then s.modPort (fun p => { p with rdy0 := false, rdy1 := false, out := [] })
  else if s.port.frame.isSome then s.raise Reg.SP_EVENTS_PROTOCOL
  else if !s.portOpen then s.hold false
  else f s

/-- A reserved header (R38 step 2): TENANT_FAULT and WRITE_RESERVED from the tenant it names. -/
def State.reservedHeader (s : State) (w0 w1 : Word) : State :=
  let ty := bitsOf w0.toNat 29 3
  let tid := bitsOf w0.toNat 25 4
  (s.refuse false ty tid (bitsOf w0.toNat 19 6) 6 (if ty ≤ 1 then 0 else w1)).reserved tid (headerDetail w0)

/-! ## WRITE_GRAINS (R38, R39, R42) -/

/-- Steps 7 to 10 of R38 and R39 for a write of `owner`, decided before anything is taken: none when it is admitted, else
SP_RDY of H0 with the code of the refusal, or no code for HOLD. -/
def State.writeChecks (s : State) (owner : Option Nat) (n len : Nat) (seq : Word) : Option (Bool × Option Nat) :=
  let c := s.chan n
  let d := (seq - (c.durable + 1)).toNat
  if !c.accepts then some (false, some 5)
  else if c.halted then some (false, some 7)
  else if !s.admitOpen c.cls || !s.energyOk n c.frameMax then some (false, some 4)
  else if !s.poolsOk n c.frameMax owner || s.beingShed n || s.writeBusy n then some (false, none)
  else if len = 0 ∨ c.frameMax < len then some (true, some 6)
  else if d = 0 then none
  else if d < 2 ^ 31 then some (true, some 2)
  else some (true, some 1)

/-- H0 and H1 of a write on the Stream Port. -/
def State.writeCheck (s : State) (tid n len : Nat) (seq : Word) : Option (Bool × Option Nat) :=
  if !s.sessionOpen tid || !s.mayWrite tid n then some (false, some 6) else s.writeChecks (some tid) n len seq

/-- NO_BUSHEL is set by a frame that would roll over while both free FIFOs are empty (R134). -/
def State.noBushelCheck (s : State) (n : Nat) : State :=
  let c := s.chan n
  if c.accepts && s.willRoll n c.frameMax && s.noBushel then s.raise Reg.LDG_EVENTS_NO_BUSHEL else s

/-- Writes the payload of a frame into its grain pages. -/
def State.fillPages (s : State) : List Nat → List Byte → State
  | [], _ => s
  | p :: ps, bs => State.fillPages (s.bufWrite (4096 * p) (bs.take 4096)) ps (bs.drop 4096)

/-- The credits of an admitted write are taken (R24, R25, R38): pages, tag, slots, earmark and, where R222 requires it, the
spin-up charge. The frame then waits for its commit edge. -/
def State.acceptWrite (s : State) (tid n len : Nat) (seq : Word) (data : List Word) (trailer : Word) : State :=
  let w0 := headerWord 0 tid n 0 len
  let tag := s.newTag
  let bytes := wordsBytes data
  let earmark := s.earmarkOf n len
  let roll := s.willRoll n len
  let s := s.takeSpinup
  let r := s.takePages len (some tid)
  let s := r.1.fillPages r.2 bytes
  let f : Frame := { phase := .writing, word0 := w0, word1 := seq, ty := 0, tid := tid, chan := n, len := len, tag := tag
                     pages := r.2, earmark := earmark, roll := roll, act := (s.chan n).act, held := s.heating
                     crc := crc32c (leBytes 4 w0.toNat ++ leBytes 4 seq.toNat ++ bytes), trailer := trailer }
  (((s.modPort (fun p => { p with frame := some f, bsyN := false })).admitted n len).heatFill).checkEnergy

/-- SP_WRITE_GRAINS (R37 to R42, R48): the header, the data phase and the trailer. Fewer than 1024 × LEN data words leave the
frame in its host-driven phase, where R48 ends it; more are an SP_FRM out of its frame: it is aborted (log entry 22). -/
def execSpWriteGrains (tid chan len : Nat) (seq : Word) (data : List Word) (trailer : Word) (s : State) :
    Host.Outcome State Fault Refusal :=
  .next (s.header (fun s =>
    match s.writeCheck tid chan len seq with
    | some (r0, some code) =>
      s.refuse r0 0 tid chan code (if code = 6 ∨ code = 5 then 0 else (s.chan chan).durable)
    | some (r0, none) => (s.noBushelCheck chan).hold r0
    | none =>
      let s := s.takeHeader.acceptWrite tid chan len seq data trailer
      if data.length = 1024 * len then s
      else if data.length < 1024 * len then
        s.modPort (fun p => { p with bsyN := true, frame := p.frame.map (fun f => { f with driven := false }) })
      else s.discardFrame.raise Reg.SP_EVENTS_ABORT))

/-! ## The commit edge (R12, R13, R43, R66) -/

/-- The outcome of a write at its commit edge (R43): CRC_BAD, CHANNEL_HALTED or DURABLE. Answers the code. -/
def State.commitEdge (s : State) (n tid earmark : Nat) (owner : Option Nat) (first : Word) (roll held good : Bool)
    (pages : List Nat) (mirrored : Nat) : State × Nat :=
  if !good then (((s.cancelMirror n first mirrored).dropPages pages), 3)
  else if (s.chan n).halted || !(s.chan n).isOpen then (((s.cancelMirror n first mirrored).dropPages pages), 7)
  else
    let d := s.dropLive n first mirrored
    (d.1.commitGrains n tid earmark owner roll held pages d.2, 0)

/-- The commit edge of the frame on the port: the outcome, SP_BSY_MAX, the status words and the tag (R43, R46). -/
def State.frameCommit (s : State) (f : Frame) (bsy : Nat) : State :=
  let s := s.modPort (fun p => { p with frame := none, bsyN := true })
  let s := if s.getF Reg.SP_BSY_MAX_TIME < bsy then s.setF Reg.SP_BSY_MAX_TIME 0 (satN 16 bsy) else s
  let r := s.commitEdge f.chan f.tid f.earmark (some f.tid) f.word1 f.roll f.held (f.crc == f.trailer) f.pages f.mirrored
  let s := if r.2 = 3 then r.1.bump Reg.SP_CNT_CRCBAD_COUNT else r.1
  let s := if f.statusLost then s.raise Reg.SP_EVENTS_STATUS_LOST
    else s.modPort (fun p => { p with
      out := [statusWord 0 f.tid f.chan (if r.2 = 0 then f.len else 0) r.2, (s.chan f.chan).durable] })
  (s.dueNow f.chan).checkEnergy

/-- The commit edge of a queued write (R66): CRC_BAD means that the CRC of the payload differs from the CRC field. -/
def State.queuedCommit (s : State) (c : Cmd) : State :=
  let n := dChan c.desc
  let r := s.commitEdge n (c.owner.getD 0) c.earmark c.owner (dSeq c.desc) c.roll c.held
    (c.crc == BitVec.ofNat 32 (dArg c.desc 28 4) && c.ends.isNone) c.pages c.done
  let s := if r.2 = 3 then r.1.bump Reg.SP_CNT_CRCBAD_COUNT else r.1
  ((s.post c r.2 (s.chan n).durable (BitVec.ofNat 32 (if r.2 = 0 then dCount c.desc else 0))).dueNow n).checkEnergy

/-- COMMIT_EDGE (R12, R13, R43, R66): the busy phase of the frame on the port ends after `bsy` units of 10 ns, or, with
`queued`, the copy of a queued write of `sq` ends. -/
def execCommitEdge (queued : Bool) (sq bsy : Nat) (s : State) : Host.Outcome State Fault Refusal :=
  .next (s.whenLive (fun s =>
    if queued then
      match s.underWay sq 0x10 with
      | some c => s.queuedCommit c
      | none => s
    else
      match s.port.frame with
      | some f => if f.phase = .writing && f.ty == 0 && f.driven then s.frameCommit f bsy else s
      | none => s))

/-! ## READ_STREAM (R38, R39, R44) -/

/-- A page not yet released that holds grain `g` of channel `n`, or of its intake, after WRITTEN (R39). -/
def State.heldPage (s : State) (n : Nat) (g : Word) (intake : Bool) (opening : BitVec 16) : Option (Nat × List Byte) :=
  s.pages.findSome? (fun p => match p.holds with
    | some h => if h.chan == n && h.intake == intake && h.opening == opening && h.seq == g then some (p.num, h.hdr) else none
    | none => none)

/-- A confirmed grain of an intake that is not yet WRITTEN. -/
def State.intakeRec (s : State) (n : Nat) (g : Word) : Option Rec :=
  s.records.find? (fun r => r.kind == .grain && r.intake && r.chan == n && r.opening == (s.intake n).opening && r.seq == g)

/-- The page that makes grain `g` of channel `n` a resident (R39), with its 32-byte header: the page of a DURABLE grain not
yet WRITTEN, one not yet released after that, a checked staging; and the same of a confirmed grain of an intake. -/
def State.resident (s : State) (n : Nat) (g : Word) : Option (Nat × List Byte) :=
  ((s.residentRec n g).map (fun r => (r.page, fullHdr r.gen r.hdr))).orElse (fun _ =>
  (s.heldPage n g false (s.chan n).opening).orElse (fun _ =>
  ((s.residentStage n g).map (fun t => (t.page, t.hdr))).orElse (fun _ =>
  ((s.intakeRec n g).map (fun r => (r.page, fullHdr r.gen r.hdr))).orElse (fun _ =>
  s.heldPage n g true (s.intake n).opening))))

/-- The DURABLE_HEAD that a reader of channel `n` sees: on the partner of an intake, the confirmed head (R252). -/
def State.readHead (s : State) (n : Nat) : Word :=
  if !(s.chan n).isOpen && (s.intake n).isOpen then (s.intake n).confirmed else (s.chan n).durable

/-- Channel `n` may be read: open, or an intake (R252). -/
def State.readable (s : State) (n : Nat) : Bool := (s.chan n).accepts || (s.intake n).isOpen

/-- The grains of a read frame. -/
def readSeqs (seq : Word) (len : Nat) : List Word := (List.range len).map (fun k => seq + BitVec.ofNat 32 k)

/-- H0 and H1 of a READ_STREAM, as `writeCheck`. -/
def State.readCheck (s : State) (tid n len : Nat) (seq : Word) : Option (Bool × Option Nat) :=
  if !s.sessionOpen tid || !s.assigned tid n then some (false, some 6)
  else if !s.readable n then some (false, some 5)
  else if !s.tagOk 1 (some tid) then some (false, none)
  else if len = 0 ∨ 16 < len then some (true, some 6)
  else if !(readSeqs seq len).all (fun g => seqLe g (s.readHead n)) then some (true, some 2)
  else if !(readSeqs seq len).all (fun g => (s.resident n g).isSome) then some (true, none)
  else none

/-- SP_READ_STREAM (R38, R39, R44): the pages of the range are read until its last beat is sent (R99). -/
def execSpReadStream (tid chan len : Nat) (seq : Word) (s : State) : Host.Outcome State Fault Refusal :=
  .next (s.header (fun s =>
    match s.readCheck tid chan len seq with
    | some (r0, some code) => s.refuse r0 1 tid chan code (if code = 6 ∨ code = 5 then 0 else s.readHead chan)
    | some (r0, none) => s.hold r0
    | none =>
      let rs := (readSeqs seq len).filterMap (s.resident chan)
      let ps := rs.map (·.1)
      let f : Frame := { phase := .reading, word0 := headerWord 1 tid chan 0 len, word1 := seq, ty := 1, tid := tid
                         chan := chan, len := len, tag := s.newTag, pages := ps, hdrs := rs.map (·.2) }
      let s := ps.foldl (fun s p => s.modPage p (fun g => { g with readers := g.readers + 1 })) s.takeHeader
      s.modPort (fun p => { p with frame := some f, bsyN := false })))

/-! ## DOORBELL, NOP, reserved types (R38, R39, R45, R58) -/

/-- A doorbell value is applied to queue `q`, or ignored with ERR_DB and QUEUE_ERROR (R58), as is one of a queue that is
not enabled (log entry 28). -/
def State.ring (s : State) (q ix : Nat) : State :=
  let d := s.qDepth q
  let h := s.getF Reg.QIDX_HEAD q
  let t := s.getF Reg.QIDX_TAIL q
  let have_ := (t + d - h) % d
  let bad := !s.flag Reg.QCFG_EN q || decide (d ≤ ix) || (if s.flag Reg.QCFG_DIR q then decide (have_ < (ix + d - h) % d)
    else decide ((ix + d - h) % d < have_))
  if bad then
    let s := s.raise Reg.QERR_ERR_DB q
    match s.qOwner q with | some t => s.cause t 1 | none => s
  else if s.flag Reg.QCFG_DIR q then s.setF Reg.QIDX_HEAD q ix
  else s.setF Reg.QIDX_TAIL q ix

/-- SP_DOORBELL (R38, R39, R45, R58): a queue that is not enabled is no condition of R39, and meets the queue's error path. -/
def execSpDoorbell (tid chan len : Nat) (word1 : Word) (s : State) : Host.Outcome State Fault Refusal :=
  .next (s.header (fun s =>
    let q := bitsOf word1.toNat 0 8
    let ix := bitsOf word1.toNat 16 12
    let resv := bitsOf word1.toNat 8 8 != 0 || bitsOf word1.toNat 28 4 != 0
    if chan ≠ 0 then s.refuse false 4 tid chan 6 word1
    else if !s.sessionOpen tid then s.refuse false 4 tid chan 6 word1
    else if s.qOwner q != some tid || decide (s.qDepth q ≤ ix) || resv || len != 0 then
      s.refuse true 4 tid chan 6 word1
    else s.takeHeader.ring q ix))

/-- SP_NOP (R38, R45): SP_RDY high means that the port is open. -/
def execSpNop (_tid _chan _len : Nat) (_word1 : Word) (s : State) : Host.Outcome State Fault Refusal :=
  .next (s.header State.takeHeader)

/-- SP_RESERVED_TYPE_HEADER (R38 step 2): TYPE 6 or 7, or bits [18:16] of word 0 not 0. -/
def execSpReservedTypeHeader (word0 word1 : Word) (s : State) : Host.Outcome State Fault Refusal :=
  .next (s.header (fun s =>
    if decide (6 ≤ bitsOf word0.toNat 29 3) || bitsOf word0.toNat 16 3 != 0 then s.reservedHeader word0 word1 else s))

/-! ## Aborts, stalls, removal, seating (R36, R48 to R51) -/

/-- SP_FRAME_ABORT (R48): SP_FRM falls before the last host-driven word. -/
def execSpFrameAbort (s : State) : Host.Outcome State Fault Refusal :=
  .next (s.whenLive (fun s =>
    match s.port.frame with
    | some f => if f.phase = .writing then s.discardFrame.raise Reg.SP_EVENTS_ABORT else s
    | none => s))

/-- SP_STALL_TIMEOUT (R48): SP_CLK shows no edge for STALL_US during a host-driven phase. -/
def execSpStallTimeout (s : State) : Host.Outcome State Fault Refusal :=
  .next (s.whenLive (fun s =>
    match s.port.frame with
    | some f => if f.phase = .writing then s.discardFrame.raise Reg.SP_EVENTS_STALL else s
    | none => s))

/-- SP_STATUS_LOST (R48): SP_CLK stops while a status or read word is pending. The pending words are dropped and the tag
returned; the outcome of a commit edge stands. On a write whose commit edge is still to come, its status will be lost. -/
def execSpStatusLost (s : State) : Host.Outcome State Fault Refusal :=
  .next (s.whenLive (fun s =>
    match s.port.frame with
    | some f =>
      if f.phase = .writing then (if f.driven then s.modPort (fun p => { p with frame := some { f with statusLost := true } }) else s)
      else (s.discardFrame.modPort (fun p => { p with out := [] })).raise Reg.SP_EVENTS_STATUS_LOST
    | none =>
      if s.port.out.isEmpty then s else (s.modPort (fun p => { p with out := [] })).raise Reg.SP_EVENTS_STATUS_LOST))

/-- SP_FRM_OUT_OF_TURN (R36): SP_FRM high while a status or read is pending is ignored and sets PROTOCOL. -/
def execSpFrmOutOfTurn (s : State) : Host.Outcome State Fault Refusal :=
  .next (s.whenLive (·.raise Reg.SP_EVENTS_PROTOCOL))

/-- CARTRIDGE_REMOVAL (R49 to R51, R81, R386): SP_DET_N has been high for tDETR. The port closes with cause 2. -/
def execCartridgeRemoval (s : State) : Host.Outcome State Fault Refusal :=
  .next (let s := s.modPort (fun p => { p with seated := false })
    s.whenLive (·.closePort 2))

/-- CARTRIDGE_SEATED (R50): SP_DET_N has been low for tDETS after a removal. -/
def execCartridgeSeated (s : State) : Host.Outcome State Fault Refusal :=
  .next (if s.port.seated then s else
    let s := s.modPort (fun p => { p with seated := true })
    s.whenLive (·.raise Reg.SP_EVENTS_DET_CHANGE))

end Sys2Proof.Machine
end

