-- ==== Sys2Proof/Machine/Queues.lean ====
section
/-! DEFINITION. Queues (spec/03 R55 to R64, R68 to R71, R73): their configuration, firmware's doorbell, the fetch of a
descriptor and its examination, and firmware's completion of a forwarded command. -/

namespace Sys2Proof.Machine

/-! ## Doorbells and configuration (R56 to R58, R71, R86, R97) -/

/-- QDB_WRITE (R58): firmware's doorbell, for queues with FW = 1 only. A doorbell to a queue that is not enabled is ignored
as one that its ring cannot take. -/
def execQdbWrite (src : Nat) (v : Word) (s : State) : Host.Outcome State Fault Refusal :=
  .next (s.whenLive (fun s =>
    let q := bitsOf v.toNat 0 8
    if !s.flag Reg.QCFG_FW q then s.denied src (regDetail 0x40020800)
    else s.ring q (bitsOf v.toNat 16 12)))

/-- QUEUE_STATUS.CFG_REJECT. -/
def State.queueReject (s : State) : State := s.raise Reg.QUEUE_STATUS_CFG_REJECT

/-- The fields of word 0 of a queue other than EN. -/
def qcfgRest : List Field :=
  [Reg.QCFG_DIR, Reg.QCFG_LOG2_DEPTH, Reg.QCFG_PRIO, Reg.QCFG_CQ, Reg.QCFG_OWNER, Reg.QCFG_FW, Reg.QCFG_WIN]

/-- A ring of the configuration lies where it may (R56, R57, R86). `val` gives the fields of word 0. -/
def State.ringOk (s : State) (val : Field → Nat) (base : Nat) : Bool :=
  let size := 2 ^ val Reg.QCFG_LOG2_DEPTH * (if val Reg.QCFG_DIR = 0 then 64 else 16)
  if val Reg.QCFG_FW = 1 then val Reg.QCFG_WIN == 0 && pagesAll s.fwPage (4096 * base) size
  else s.winOk (val Reg.QCFG_OWNER) (val Reg.QCFG_WIN) (4096 * base) size

/-- An SQ's CQ is enabled and has the same owner (R56). -/
def State.cqOk (s : State) (val : Field → Nat) : Bool :=
  let c := val Reg.QCFG_CQ
  s.flag Reg.QCFG_EN c && s.flag Reg.QCFG_DIR c && s.getF Reg.QCFG_FW c == val Reg.QCFG_FW &&
    (val Reg.QCFG_FW == 1 || s.getF Reg.QCFG_OWNER c == val Reg.QCFG_OWNER)

/-- A CQ is in use: an enabled SQ names it, or a command bound for it is in flight. -/
def State.cqBusy (s : State) (q : Nat) : Bool :=
  (List.range 256).any (fun n => s.flag Reg.QCFG_EN n && !s.flag Reg.QCFG_DIR n && s.getF Reg.QCFG_CQ n == q) ||
    s.cmds.any (·.cq == q)

/-- A queue is enabled: its ring is empty, PHASE is 1 and the replay window empty (R60, R64). -/
def State.enableQueue (s : State) (q : Nat) : State :=
  ((s.setF Reg.QIDX_HEAD q 0).setF Reg.QIDX_TAIL q 0).setQueue q {}

/-- A write to QCFG_n by the keeper or firmware in machine mode. -/
def State.qcfgWrite (s : State) (src q : Nat) (v : Word) : State :=
  let val (f : Field) : Nat := s.afterWrite src v f q
  let en := val Reg.QCFG_EN
  let ok :=
    if s.flag Reg.QCFG_EN q then
      qcfgRest.all (fun f => val f == s.getF f q) && !(en == 0 && s.flag Reg.QCFG_DIR q && s.cqBusy q)
    else if en = 1 then
      s.ringOk val (s.getF Reg.QBASE_BASE q) && (val Reg.QCFG_DIR == 1 || s.cqOk val)
    else !(val Reg.QCFG_FW == 1 && val Reg.QCFG_WIN != 0)
  if !ok then s.queueReject
  else
    let was := s.flag Reg.QCFG_EN q
    let s := s.genericWrite src (0x40021000 + 16 * q) v
    if !was && en == 1 then s.enableQueue q else s

/-- QUEUE_CONFIG_WRITE (R55 to R57, R86): QCFG_n or QBASE_n at `addr`. -/
def execQueueConfigWrite (src addr : Nat) (v : Word) (s : State) : Host.Outcome State Fault Refusal :=
  .next (s.whenLive (fun s =>
    let q := (addr - 0x40021000) / 16
    if addr < 0x40021000 ∨ 256 ≤ q then s
    else if !privileged src then s.denied src (regDetail addr)
    else if addr % 16 = 0 then s.qcfgWrite src q v
    else if addr % 16 = 4 then
      (if s.flag Reg.QCFG_EN q && bitsOf v.toNat 12 20 != s.getF Reg.QBASE_BASE q then s.queueReject
       else s.genericWrite src addr v)
    else s))

/-- Usable pages of the pool region from page `base` (R97). -/
def State.usablePages (s : State) (base : Nat) : Nat := ((List.range (4096 - base)).filter (fun i => !s.retired (base + i))).length

/-- Pools, tags and slots may be configured: no admission, no fetching and nothing in flight (R71). -/
def State.poolsIdle (s : State) : Bool :=
  !s.admitAny && !s.flag Reg.QUEUE_CTRL_FETCH_EN && s.cmds.isEmpty && s.frames.isEmpty

/-- A write of TAG_SPLIT (R6, R70): READ has a limit of its own, that the control pool keeps 64 tags, so a READ beyond it is a
reserved encoding and WRITE is taken; a WRITE that leaves the control pool short with the READ that stands is one too (log
entry 29). -/
def State.tagSplitWrite (s : State) (src : Nat) (v : Word) : State :=
  let w := s.afterWrite src v Reg.TAG_SPLIT_WRITE
  let fits (w r : Nat) : Bool := decide (w + r + 64 ≤ 1024)
  if fits w (s.afterWrite src v Reg.TAG_SPLIT_READ) then s.genericWrite src 0x40020010 v
  else
    (s.writeFields src 0x40020010 v (if fits w (s.getF Reg.TAG_SPLIT_READ) then [(Reg.TAG_SPLIT_WRITE, 0)] else [])).reserved src
      (regDetail 0x40020010)

/-- POOL_CONFIG_WRITE (R70, R71, R97): TAG_SPLIT, POOL_PAGES, POOL_HOLD or POOL_SLOTS at `addr`. A value outside its
limits is a reserved encoding. -/
def execPoolConfigWrite (src addr : Nat) (v : Word) (s : State) : Host.Outcome State Fault Refusal :=
  .next (s.whenLive (fun s =>
    if !privileged src then s.denied src (regDetail addr)
    else if !s.poolsIdle then s.queueReject
    else if addr = 0x40020010 then s.tagSplitWrite src v
    else if addr = 0x40020020 ∧ s.usablePages (s.getF Reg.BUF_POOL_BASE_PAGE) <
        s.afterWrite src v Reg.POOL_PAGES_WRITE + s.afterWrite src v Reg.POOL_PAGES_READ then s.queueReject
    else if addr = 0x40020024 ∧ s.poolCap .write < s.afterWrite src v Reg.POOL_HOLD_HOLD then s.reserved src (regDetail addr)
    else if addr = 0x40020020 ∨ addr = 0x40020024 ∨ addr = 0x40020028 then s.genericWrite src addr v
    else s))

/-! ## The examination of a descriptor (R59, R63, R65) -/

/-- The bits of a descriptor that opcode `op` uses, by byte; every other bit is reserved. -/
def usedBits (op : Nat) : List Nat :=
  let z (n : Nat) : List Nat := List.replicate n 0
  let f (n : Nat) : List Nat := List.replicate n 255
  let head : List Nat := [255, 3, 0, 0] ++ f 4
  let chan : List Nat := [63, 0, 0, 0]
  let win : List Nat := [7, 0, 0, 0] ++ f 4
  let body : List Nat :=
    match op with
    | 0x01 => chan ++ f 8 ++ win ++ [3]
    | 0x02 => chan ++ z 8 ++ win
    | 0x03 => chan ++ f 4
    | 0x04 => chan ++ f 4 ++ z 12 ++ [255, 255, 1, 0] ++ f 4
    | 0x05 => chan
    | 0x06 => z 20 ++ f 4
    | 0x07 => chan ++ f 8
    | 0x08 => chan ++ z 16 ++ [1]
    | 0x09 => chan
    | 0x0A => z 8 ++ f 4 ++ win ++ [255, 0, 0, 0, 255, 255]
    | 0x0B => z 20 ++ [15, 7]
    | 0x0C => z 20 ++ [15, 0, 0, 0] ++ f 19
    | 0x10 => chan ++ f 8 ++ win ++ f 4
    | _ => f 56
  head ++ body ++ z (56 - body.length)

/-- A reserved bit of the descriptor is 1. -/
def reservedBits (d : List Byte) : Bool :=
  (d.zip (usedBits (dOp d))).any (fun e => (e.1 &&& ~~~BitVec.ofNat 8 e.2) != 0)

/-- OPCODE is forwarded to firmware. -/
def forwarded (op : Nat) : Bool := decide (0x80 ≤ op) && decide (op < 0xC0)

/-- OPCODE is defined (R65). -/
def opDefined (op : Nat) : Bool := (decide (1 ≤ op) && decide (op ≤ 0x0C)) || op == 0x10 || forwarded op

/-- The keeper-only opcodes. -/
def keeperOnly (op : Nat) : Bool := op == 0x06 || op == 0x0B || op == 0x0C

/-- Opcodes that name a channel, and those of them that need the write right (R83). -/
def usesChan (op : Nat) : Bool := [0x01, 0x02, 0x03, 0x04, 0x05, 0x07, 0x08, 0x09, 0x10].contains op
/-- The opcodes that need the write right. -/
def needsWriter (op : Nat) : Bool := [0x03, 0x04, 0x05, 0x08, 0x09, 0x10].contains op

/-- READ_GRAINS with STAGE = 1. -/
def staged (d : List Byte) : Bool := dOp d == 0x01 && bitOf (dArg d 28 1) 1

/-- The opcodes with the fields WIN and OFF. -/
def namesWin (op : Nat) : Bool := [0x01, 0x02, 0x0A, 0x10].contains op

/-- The command reads or writes window WIN of its submitter. -/
def usesWin (d : List Byte) : Bool := namesWin (dOp d) && !staged d

/-- Bytes per grain of a READ_GRAINS. -/
def grainSize (d : List Byte) : Nat := if bitOf (dArg d 28 1) 0 then 4128 else 4096

/-- The extent of the window a command touches. -/
def extent (d : List Byte) : Nat :=
  match dOp d with
  | 0x01 => dCount d * grainSize d
  | 0x02 => 32
  | 0x0A => 16 * dCount d
  | 0x10 => 4096 * dCount d
  | _ => 0

/-- Step 5 of R63: the owner holds the channel and the window; WIN of firmware's descriptors is 0 (R57). FLUSH with ALL names
no channel. -/
def State.holds (s : State) (owner : Option Nat) (d : List Byte) : Bool :=
  let op := dOp d
  let all := op == 0x08 && bitOf (dArg d 28 1) 0
  (match owner with
   | some t => !usesChan op || all || (if needsWriter op then s.mayWrite t (dChan d) else s.assigned t (dChan d))
   | none => true) &&
  (match owner with
   | some t => !usesWin d || s.winOk t (dWin d) (dOff d) (extent d)
   | none => !namesWin op || (dWin d == 0 && (!usesWin d || pagesAll (fun p => !s.poolPage p) (dOff d) (extent d))))

/-- Step 6 of R63: every defined field is in its range. -/
def inRange (d : List Byte) : Bool :=
  let n := dCount d
  match dOp d with
  | 0x01 =>
    decide (1 ≤ n) && decide (n ≤ 4096) &&
      (if staged d then dWin d == 0 && dOff d == 0 && decide (n ≤ 64)
       else dOff d % (if grainSize d = 4128 then 32 else 4096) == 0)
  | 0x02 => dOff d % 32 == 0
  | 0x04 =>
    let fm := dArg d 28 1
    let se := dArg d 32 4
    decide (1 ≤ fm) && decide (fm ≤ 16) && decide (dArg d 29 1 ≤ 3) &&
      (se == 0 || (decide (16 ≤ se) && decide (se ≤ 65536)))
  | 0x06 => decide (dArg d 28 4 < 8192)
  | 0x07 => decide (1 ≤ n) && decide (n ≤ 2 ^ 24)
  | 0x08 => !(bitOf (dArg d 28 1) 0) || dChan d == 0
  | 0x0A =>
    decide (1 ≤ n) && decide (n ≤ 1024) && dOff d % 16 == 0 && decide (dArg d 28 1 ≤ 1) &&
      decide (dArg d 32 2 + n ≤ if dArg d 28 1 = 0 then 256 else 1024)
  | 0x10 => dOff d % 4096 == 0
  | _ => true

/-- Steps 2 to 6 of R63: the code of the first that applies, none where the command goes on to its own checks. -/
def State.examine (s : State) (owner : Option Nat) (d : List Byte) : Option Nat :=
  let op := dOp d
  if !opDefined op then some 0x20
  else if reservedBits d then some 0x21
  else if keeperOnly op && owner != none && owner != some 0 then some 0x23
  else if !s.holds owner d then some 0x06
  else if !inRange d then some 0x22
  else none

/-! ## The fetch (R62, R64, R66, R69) -/

/-- Free slots of a CQ beyond those promised to commands in flight. -/
def State.cqFree (s : State) (cq : Nat) : Nat :=
  let d := s.qDepth cq
  d - 1 - (s.getF Reg.QIDX_TAIL cq + d - s.getF Reg.QIDX_HEAD cq) % d - (s.cmds.filter (fun c => c.cq == cq)).length

/-- The conditions of R62 that do not depend on the descriptor; a tenant's rings must lie in their windows (R86). -/
def State.canFetch (s : State) (sq : Nat) : Bool :=
  s.flag Reg.QUEUE_CTRL_FETCH_EN && !s.power.admClosed && s.flag Reg.QCFG_EN sq && !s.flag Reg.QCFG_DIR sq &&
    !s.flag Reg.QERR_ERR_ECC sq &&
    (match s.qOwner sq with | some t => s.sessionOpen t | none => true) &&
    s.ringHeld sq && s.ringHeld (s.getF Reg.QCFG_CQ sq) &&
    s.getF Reg.QIDX_HEAD sq != s.getF Reg.QIDX_TAIL sq && decide (1 ≤ s.cqFree (s.getF Reg.QCFG_CQ sq)) &&
    !s.cmds.any (fun c => c.sq == sq && c.fence)

/-- The forward ring has a free entry for one more command (R62, R68): it is full at 63, as every ring of R55. -/
def State.fwdFree (s : State) : Bool :=
  s.flag Reg.FWD_CTRL_EN &&
    decide ((s.getF Reg.FWD_CTRL_TAIL + 64 - s.getF Reg.FWD_CTRL_HEAD) % 64 +
      (s.cmds.filter (fun c => forwarded c.op && !c.running)).length < 63)

/-- The read pages a command of the read pool begins with: at most 16 at a time (R70). -/
def readPagesOf (d : List Byte) : Nat := if dOp d = 0x01 ∨ dOp d = 0x07 then min 16 (dCount d) else 0

/-- The conditions of R62 that depend on the descriptor at the head, whatever its examination will give. -/
def State.fetchReady (s : State) (owner : Option Nat) (d : List Byte) : Bool :=
  let op := dOp d
  if op = 0x10 then
    !s.writeBusy (dChan d) && (match s.writeChecks owner (dChan d) (dCount d) (dSeq d) with | some (_, none) => false | _ => true)
  else if opPool op = 1 then s.tagOk 1 owner && s.readPagesOk (readPagesOf d)
  else if forwarded op then s.fwdFree
  else true

/-- The completion in the replay window of `sq` that the descriptor's CMD_ID names (R64): the last posted. -/
def State.storedFor (s : State) (sq : Nat) (d : List Byte) : Option Completion :=
  if dCmdId d = 0 then none else (s.queue sq).replay.reverse.find? (fun e => e.cmdId == dCmdId d)

/-- The CMD_ID is that of a command from the same SQ still in flight (R64). -/
def State.held (s : State) (sq : Nat) (d : List Byte) : Bool :=
  dCmdId d != 0 && (s.storedFor sq d).isNone && s.cmds.any (fun c => c.sq == sq && c.cmdId == dCmdId d)

/-- A descriptor leaves the ring (R62, R64, R69): its own conditions hold, no command of its CMD_ID is in flight, and the
tag it takes is there: its pool's, or a control tag to post an outcome of steps 2 to 6; a repeated completion takes none. -/
def State.fetchable (s : State) (sq : Nat) (d : List Byte) : Bool :=
  let owner := s.qOwner sq
  s.fetchReady owner d && !s.held sq d &&
    ((s.storedFor sq d).isSome || s.tagOk (if (s.examine owner d).isSome then 2 else opPool (dOp d)) owner)

/-- The descriptor at the head of `sq`. -/
def State.headDesc (s : State) (sq : Nat) : List Byte := s.bufRead (s.qRing sq + 64 * s.getF Reg.QIDX_HEAD sq) 64

/-- An SQ that is able to fetch (R62). -/
def State.able (s : State) (sq : Nat) : Bool :=
  s.canFetch sq && (!(s.ueWords 0 (s.qRing sq + 64 * s.getF Reg.QIDX_HEAD sq) 64).isEmpty || s.fetchable sq (s.headDesc sq))

/-- Another SQ able to fetch goes before `sq`: one of higher PRIO, or of the same PRIO and a lower number (R7, R62). -/
def State.outranked (s : State) (sq : Nat) : Bool :=
  let p := s.getF Reg.QCFG_PRIO sq
  (List.range 256).any (fun q => s.flag Reg.QCFG_EN q && (decide (p < s.getF Reg.QCFG_PRIO q) ||
    (s.getF Reg.QCFG_PRIO q == p && decide (q < sq))) && s.able q)

/-- The command that a fetched descriptor becomes. -/
def State.cmdOf (s : State) (sq : Nat) (d : List Byte) : Cmd :=
  { tag := s.newTag, sq := sq, owner := s.qOwner sq, desc := d, op := dOp d, cmdId := dCmdId d
    irq := bitOf (dFlags d) 0, fence := bitOf (dFlags d) 1, sqHead := s.getF Reg.QIDX_HEAD sq, cq := s.getF Reg.QCFG_CQ sq }

/-- The head of an SQ advances (R55). -/
def State.advanceHead (s : State) (sq : Nat) : State :=
  s.setF Reg.QIDX_HEAD sq ((s.getF Reg.QIDX_HEAD sq + 1) % s.qDepth sq)

/-- Posts a completion without a command in flight: an outcome of steps 2 to 6, whose results the spec leaves open, is
not kept in the replay window (R63). -/
def State.postFail (s : State) (c : Cmd) (code : Nat) : State :=
  let a := s.fresh
  let b := a.1.fresh
  b.1.postEntry c.sq c.cq { cmdId := c.cmdId, res0 := a.2, res1 := b.2, code := code, irq := c.irq } c.sqHead false

/-- A queued write that R38 or R39 refuses posts the code with DURABLE_HEAD; one that they let pass is ACCEPTED: it takes
its credits (R24, R25, R66). -/
def State.fetchWrite (s : State) (c : Cmd) : State :=
  let n := dChan c.desc
  match s.writeChecks c.owner n (dCount c.desc) (dSeq c.desc) with
  | some (_, some code) => State.post { s with cmds := s.cmds ++ [c] } c code (s.chan n).durable 0
  | some (_, none) => s
  | none =>
    let len := dCount c.desc
    let c := { c with earmark := s.earmarkOf n len, roll := s.willRoll n len, act := (s.chan n).act, held := s.heating }
    let s := s.takeSpinup
    let r := s.takePages len c.owner
    let s := { r.1 with cmds := r.1.cmds ++ [{ c with pages := r.2 }] }
    ((s.admitted n len).heatFill).checkEnergy

/-- A queued write that stays in its ring because it would roll over while both free FIFOs are empty (R62, R134). -/
def State.queuedNoBushel (s : State) (owner : Option Nat) (d : List Byte) : State :=
  match s.writeChecks owner (dChan d) (dCount d) (dSeq d) with
  | some (_, none) => s.noBushelCheck (dChan d)
  | _ => s

/-- What a command takes note of as it is fetched (R65): FLUSH and MIRROR_RESYNC go by DURABLE_HEAD as at fetch, FLUSH with
ALL on every open channel of the owner. -/
def State.noteFetch (s : State) (c : Cmd) : Cmd :=
  let n := dChan c.desc
  let at_ (m : Nat) : Nat × Word := (m, (s.chan m).durable)
  if c.op = 0x08 then
    { c with waits := if bitOf (dArg c.desc 28 1) 0 then
        (chanNums.filter (fun m => (s.chan m).isOpen && (c.owner.isNone || s.writer m == c.owner))).map at_
      else [at_ n] }
  else if c.op = 0x09 then { c with target := (s.chan n).durable }
  else c

/-- A descriptor is fetched and examined (R62, R63). -/
def State.fetch (s : State) (sq : Nat) (d : List Byte) : State :=
  let owner := s.qOwner sq
  if !s.fetchable sq d then
    if dOp d = 0x10 && (s.examine owner d).isNone && !s.held sq d then s.queuedNoBushel owner d else s
  else
    let s := s.advanceHead sq
    match s.storedFor sq d, s.examine owner d with
    | some e, _ => s.postEntry sq (s.getF Reg.QCFG_CQ sq) e (s.getF Reg.QIDX_HEAD sq) true
    | none, some code => s.postFail (s.cmdOf sq d) code
    | none, none =>
      let c := s.cmdOf sq d
      if c.op = 0x10 then s.fetchWrite c
      else
        let r := s.allocPages { num := 0, pool := .read, tid := owner } (readPagesOf d)
        { r.1 with cmds := r.1.cmds ++ [{ s.noteFetch c with pages := r.2 }] }

/-- DESCRIPTOR_FETCH (R62 to R64, R73): the descriptor at the head of `sq`, unless another SQ able to fetch goes before it. An
uncorrectable error in the descriptor stops the SQ. -/
def execDescriptorFetch (sq : Nat) (s : State) : Host.Outcome State Fault Refusal :=
  .next (s.whenLive (fun s => s.when' (s.canFetch sq && !s.outranked sq) (fun s =>
    let a := s.qRing sq + 64 * s.getF Reg.QIDX_HEAD sq
    let r := s.bufCheck a 64 10
    if r.2 then
      let s := r.1.raise Reg.QERR_ERR_ECC sq
      match s.qOwner sq with | some t => s.cause t 1 | none => s
    else r.1.fetch sq (r.1.bufRead a 64))))

/-! ## Forwarded opcodes (R68) -/

/-- FORWARDED_OPCODE (R68): the descriptor is copied into the next entry of the forward ring. -/
def execForwardedOpcode (sq : Nat) (s : State) : Host.Outcome State Fault Refusal :=
  .next (s.whenLive (fun s =>
    match s.cmds.find? (fun c => c.sq == sq && forwarded c.op && !c.running) with
    | none => s
    | some c =>
      let t := s.getF Reg.FWD_CTRL_TAIL
      let who := match c.owner with | some t => t | none => 0xFF
      let e := padTo 128 (c.desc ++ leBytes 2 c.tag ++ leBytes 1 who ++ leBytes 1 c.sq)
      let s := s.bufWrite (4096 * s.getF Reg.FWD_BASE_BASE + 128 * t) e
      (s.setF Reg.FWD_CTRL_TAIL 0 ((t + 1) % 64)).setCmd { c with running := true }))

/-- A code that firmware may post (R61, R68). -/
def codeDefined (code : Nat) : Bool := decide (code ≤ 7) || (decide (0x20 ≤ code) && decide (code ≤ 0x29)) || decide (0x80 ≤ code)

/-- FWD_POST (R60, R61, R68): a WO register of any writer. -/
def execFwdPost (src : Nat) (v : Word) (s : State) : Host.Outcome State Fault Refusal :=
  .next (s.whenLive (fun s =>
    let tag := bitsOf v.toNat 0 10
    let code := bitsOf v.toNat 16 8
    match s.cmds.find? (fun c => c.tag == tag && forwarded c.op) with
    | some c =>
      if codeDefined code then
        s.post c code (BitVec.ofNat 32 (s.getF Reg.FWD_RES0_RES0)) (BitVec.ofNat 32 (s.getF Reg.FWD_RES1_RES1)) true
      else s.reserved src (noteDetail code)
    | none => s.reserved src (noteDetail code)))

end Sys2Proof.Machine
end

