-- ==== Sys2Proof/Machine/Commands.lean ====
section
/-! DEFINITION. The opcodes (spec/03 R65 to R67, R72): each command's own checks (step 7 of R63), its effect and its
completion. A command is the oldest fetched one of its opcode from `sq`. -/

namespace Sys2Proof.Machine

/-! ## Shared parts -/

/-- Posts a code whose results the spec leaves open; RESULT1 of the commands whose second result is 0 is 0. -/
def State.postOpen (s : State) (c : Cmd) (code : Nat) (one : Bool) : State :=
  let a := s.fresh
  let b := if one then a.1.fresh else (a.1, 0)
  b.1.post c code a.2 b.2

/-- The window a command names, by tenant: its submitter's, or for ZERO_WINDOW the one it zeroes (R72, R85). -/
def Cmd.window (c : Cmd) : Option (Nat × Nat) :=
  if c.op = 0x0B then some (dArg c.desc 28 1, dArg c.desc 29 1)
  else match c.owner with
    | some t => if usesWin c.desc then some (t, dWin c.desc) else none
    | none => none

/-- The buffer bytes that a command reads or writes: first byte and length. -/
def State.span (s : State) (c : Cmd) : Nat × Nat :=
  if c.op = 0x0B then
    (s.winBase (dArg c.desc 28 1) (dArg c.desc 29 1), 4096 * s.getF Reg.WPAGES_PAGES (8 * dArg c.desc 28 1 + dArg c.desc 29 1))
  else if usesWin c.desc then (s.cmdAddr c, extent c.desc)
  else (0, 0)

/-- Two spans share a byte. -/
def spansMeet (x y : Nat × Nat) : Bool :=
  decide (0 < x.2) && decide (0 < y.2) && decide (x.1 < y.1 + y.2) && decide (y.1 < x.1 + x.2)

/-- A command fetched before `c` holds it back: one of the two is a ZERO_WINDOW of the window both name, or, where the
other is firmware's and names no window, of a window that it reads or writes (R57, R72). -/
def State.blocked (s : State) (c : Cmd) : Bool :=
  (s.cmds.takeWhile (fun d => d.tag != c.tag)).any (fun d =>
    (d.op == 0x0B || c.op == 0x0B) && ((d.window.isSome && d.window == c.window) ||
      ((d.window.isNone || c.window.isNone) && spansMeet (s.span d) (s.span c))))

/-- Acts on the oldest fetched command of opcode `op` from `sq`, unless an earlier one holds its window back. -/
def State.onFetched (s : State) (sq op : Nat) (f : State → Cmd → State) : State :=
  match s.fetched sq op with
  | some c => if s.blocked c then s else f s c
  | none => s

/-- Acts on the oldest running command of opcode `op` from `sq`. -/
def State.onRunning (s : State) (sq op : Nat) (f : State → Cmd → State) : State :=
  match s.underWay sq op with
  | some c => f s c
  | none => s

/-- Starts a command: its own checks have passed. -/
def State.start (s : State) (c : Cmd) : State := s.setCmd { c with running := true }

/-- The four heads of channel `n` as its readers see them: durable, written, mirrored, sealed (R14, R252). -/
def State.heads (s : State) (n : Nat) : Word × Word × Word × Word :=
  let c := s.chan n
  let i := s.intake n
  if !c.isOpen && i.isOpen then (i.confirmed, i.written, i.firstSeq - 1, i.sealed)
  else (c.durable, c.written, c.mirrored, c.sealed)

/-- Channel `n` has, or has had, an opening. -/
def State.hasOpening (s : State) (n : Nat) : Bool := (s.chan n).everOpened || (s.intake n).isOpen

/-! ## Reads of grains (R65, R100, R122, R323) -/

/-- Channel `n` is read through its intake: the partner's channel, with none of this cartridge's own open (R252). -/
def State.readsIntake (s : State) (n : Nat) : Bool := !(s.chan n).isOpen && (s.intake n).isOpen

/-- The bushel that holds grain `g` of channel `n`, as far as the device knows: the closed one of the channel, or of its
intake where that is read, whose last grain is the first at or after `g`, else the open one. -/
def State.bushelFor (s : State) (n : Nat) (g : Word) : Nat :=
  let l := s.bushels.filter (fun e => e.2.chan == n && e.2.intake == s.readsIntake n && seqLe g e.2.lastSeq &&
    (e.2.state == .closed || e.2.state == .released))
  match l with
  | e :: r => (r.foldl (fun (a : Nat × Bushel) b => if seqLt b.2.lastSeq a.2.lastSeq then b else a) e).1
  | [] => if (s.chan n).isOpen then (s.chan n).bushel else (s.intake n).bushel

/-- The grain lies in a released bushel, or in one whose release was fetched before command `tag` (R72). -/
def State.releasedFor (s : State) (n : Nat) (g : Word) (tag : Nat) : Bool :=
  let b := s.bushelFor n g
  (s.bushel b).state == .released ||
    (s.cmds.takeWhile (fun d => d.tag != tag)).any (fun d => d.op == 0x06 && dArg d.desc 28 4 == b)

/-- A 16-bit token that names no staging and no page not yet returned (R101). -/
def State.newToken (s : State) : BitVec 16 :=
  (((List.range 65536).map (fun i => s.nextToken + BitVec.ofNat 16 i)).find?
    (fun t => !s.stagings.any (·.token == t) && !s.pages.any (·.token == some t))).getD s.nextToken

/-- A staging command holds a page for the next grain, at most 16 at a time (R70): one that has none takes one. -/
def State.stagePage (s : State) (c : Cmd) : State × Cmd :=
  if staged c.desc && c.pages.isEmpty && s.readPagesOk 1 then
    let r := s.allocPages { num := 0, pool := .read, tid := c.owner } 1
    (r.1, { c with pages := r.2 })
  else (s, c)

/-- Grain `k` of a READ_GRAINS has been read from bushel `b`: its page is filled and, without STAGE, it is copied into the
window; with STAGE it becomes a staging that the hash engine checks (R100). -/
def State.deliver (s : State) (c : Cmd) (k b : Nat) (hdr body : List Byte) : State :=
  match s.stagePage c with
  | (s, c) =>
  match c.pages with
  | [] => s
  | p :: _ =>
    if staged c.desc then
      let s := s.bufWrite (4096 * p) body
      let t : Staging := { token := s.newToken, page := p, chan := dChan c.desc, seq := dSeq c.desc + BitVec.ofNat 32 k
                           tid := c.owner, bushel := b, tag := c.tag, hdr := hdr }
      let s := s.modPage p (fun (g : Page) => { g with token := some t.token })
      State.setCmd { s with stagings := s.stagings ++ [t], nextToken := t.token + 1 } { c with pages := c.pages.erase p }
    else
      let q := c.pages.getD (k % c.pages.length) p
      let s := s.bufWrite (4096 * q) body
      s.bufWrite (s.cmdAddr c + k * grainSize c.desc) (if grainSize c.desc = 4128 then hdr ++ body else body)

/-- The reads of a command that are still to come. -/
def readsOf (tag : Nat) (x : Rwc) : List Read :=
  (x.reading.toList ++ x.reads).filter (fun r => r.what == .command tag)

/-- Drops the reads of command `tag` from grain `g` on. -/
def dropReads (tag : Nat) (g : Word) (x : Rwc) : Rwc :=
  let keep (r : Read) : Bool := r.what != .command tag || seqLt r.seq g
  { x with reads := x.reads.filter keep, reading := x.reading.filter keep, rgate := x.rgate.filter keep }

/-- Grain `g` of a read cannot be delivered: it and the grains after it are not (R65). -/
def State.readFail (s : State) (tag code : Nat) (g : Word) : State :=
  match s.cmds.find? (·.tag == tag) with
  | none => s
  | some c =>
    let s := s.each [0, 1] (fun s a => s.setRw a (dropReads tag g (s.rw a)))
    match c.ends with
    | some (_, h) => if seqLt g h then s.setCmd { c with ends := some (code, g) } else s
    | none => s.setCmd { c with ends := some (code, g) }

/-- A sector of command `tag`'s grain `g` has been read, from bushel `b`. -/
def State.readDone (s : State) (tag : Nat) (g : Word) (b : Nat) (hdr body : List Byte) : State :=
  match s.cmds.find? (·.tag == tag) with
  | none => s
  | some c => s.deliver c (g - dSeq c.desc).toNat b hdr body

/-- A read of a command can take the grain: a staging command has a page for it, or the read pool has one (R70). -/
def State.roomFor (s : State) (tag : Nat) : Bool :=
  match s.cmds.find? (fun (c : Cmd) => c.tag == tag) with
  | some c => !staged c.desc || !c.pages.isEmpty || s.readPagesOk 1
  | none => true

/-- Grain `g` of channel `n` is sought on the media by the read channel of its bushel's actuator; the places of a bushel
whose map entry is not VALID count as failing without a read (R122). -/
def State.seekGrain (s : State) (tag n : Nat) (g : Word) : State :=
  let b := s.bushelFor n g
  let a := s.actOf b
  if !s.flag Reg.BMAP_VALID b then s.readFail tag 0x26 g
  else s.setRw a { s.rw a with reads := (s.rw a).reads ++ [({ what := .command tag, seq := g, bushel := b } : Read)] }

/-- The page that a read of grain `g` is served from, with its header and bushel: any resident page for a copy into the
window; for a staging, which reads the media (R100), only the page of a grain that the media do not hold yet (log entry 31). -/
def State.servedFrom (s : State) (tag n : Nat) (g : Word) : Option (Nat × List Byte × Nat) :=
  match s.residentRec n g, s.cmds.find? (fun (c : Cmd) => c.tag == tag) with
  | some r, _ => some (r.page, fullHdr r.gen r.hdr, r.bushel)
  | none, some c => if staged c.desc then none else (s.resident n g).map (fun e => (e.1, e.2, s.bushelFor n g))
  | none, none => none

/-- Begins the reads of the grains from `k` on: a resident grain is copied from its page, any other is sought on the
media, and so is one whose page holds an uncorrectable error (R323). -/
def State.readFrom (s : State) (tag n : Nat) : List Word → State
  | [] => s
  | g :: l =>
    let s : State :=
      match s.servedFrom tag n g with
      | some (p, h, b) =>
        if !s.roomFor tag then s.seekGrain tag n g
        else
          let r := s.bufCheck (4096 * p) 4096 10
          if r.2 then r.1.seekGrain tag n g else r.1.readDone tag g b h (r.1.bufRead (4096 * p) 4096)
      | none => s.seekGrain tag n g
    match s.cmds.find? (fun (c : Cmd) => c.tag == tag) with
    | some c => if c.ends.isSome then s else State.readFrom s tag n l
    | none => s

/-- Bushel `b` is released, or a RELEASE_BUSHEL of it was fetched before command `tag` (R72). -/
def State.isReleased (s : State) (b tag : Nat) : Bool :=
  (s.bushel b).state == .released ||
    (s.cmds.takeWhile (fun d => d.tag != tag)).any (fun d => d.op == 0x06 && dArg d.desc 28 4 == b)

/-- A grain from `g` to `last` of channel `n` lies in a released bushel: in that of the last one, or in one that ends in
the range. -/
def State.rangeReleased (s : State) (n : Nat) (g last : Word) (tag : Nat) : Bool :=
  s.isReleased (s.bushelFor n last) tag ||
    s.bushels.any (fun e => e.2.chan == n && e.2.intake == s.readsIntake n && (e.2.state == .closed || e.2.state == .released) &&
      seqLe g e.2.lastSeq && seqLe e.2.lastSeq last && s.isReleased e.1 tag)

/-- The grains of a range. -/
def seqsFrom (g : Word) (n : Nat) : List Word := (List.range n).map (fun k => g + BitVec.ofNat 32 k)

/-- READ_GRAINS (R65, R100): the checks, then the reads. Grains from the lost one on of a halted channel are refused as
BAD_STATE (R325). -/
def execReadGrains (sq : Nat) (s : State) : Host.Outcome State Fault Refusal :=
  .next (s.whenLive (fun s => s.onFetched sq 0x01 (fun s c =>
    let n := dChan c.desc
    let g := dSeq c.desc
    let l := seqsFrom g (dCount c.desc)
    let fail (code : Nat) : State := State.post (s.dropPages c.pages) c code 0 g
    if !s.hasOpening n then fail 5
    else if !l.all (fun q => seqLe q (s.readHead n)) then fail 2
    else if l.any (fun q => s.releasedFor n q c.tag) then fail 0x24
    else if l.any (fun q => match (s.chan n).lost with | some h => seqLe h q | none => false) then fail 0x24
    else (s.start c).readFrom c.tag n l)))

/-- Every grain of a running READ_GRAINS has been copied or staged and checked, or dropped. -/
def State.readOver (s : State) (c : Cmd) : Bool :=
  (readsOf c.tag (s.rw 0)).isEmpty && (readsOf c.tag (s.rw 1)).isEmpty &&
    !s.stagings.any (fun t => t.tag == c.tag && !t.checked && !t.revoked)

/-- READ_GRAINS_COMPLETE (R65, R72): the oldest of the queue whose reads are over, whatever earlier ones wait for; every grain has been copied or staged, or one cannot be. RESULT1 of a read that delivered
all is the grain after the last. -/
def execReadGrainsComplete (sq : Nat) (s : State) : Host.Outcome State Fault Refusal :=
  .next (s.whenLive (fun s =>
    match s.cmds.find? (fun c => c.sq == sq && c.op == 0x01 && c.running && s.readOver c) with
    | none => s
    | some c =>
      let g := dSeq c.desc
      let s := s.dropPages c.pages
      match c.ends with
      | some (code, h) => s.post c code (h - g) h
      | none => s.post c 0 (BitVec.ofNat 32 (dCount c.desc)) (g + BitVec.ofNat 32 (dCount c.desc))))

/-- VERIFY_RANGE (R65, R72): a range beyond SEALED_HEAD gives GAP, one in a released bushel BAD_STATE; otherwise its grains are
read from the media. -/
def execVerifyRange (sq : Nat) (s : State) : Host.Outcome State Fault Refusal :=
  .next (s.whenLive (fun s => s.onFetched sq 0x07 (fun s c =>
    let n := dChan c.desc
    let g := dSeq c.desc
    let last := g + BitVec.ofNat 32 (dCount c.desc - 1)
    let top := (s.heads n).2.2.2
    let fail (code : Nat) : State := State.post (s.dropPages c.pages) c code 0 g
    if !s.hasOpening n then fail 5
    else if !seqLe g top || !seqLe last top then fail 2
    else if s.rangeReleased n g last c.tag then fail 0x24
    else s.start c)))

/-! ## Heads, seals, opening and closing (R14, R65, R67, R126, R129) -/

/-- The head record (R67). -/
def State.headRecord (s : State) (n : Nat) : List Byte :=
  let c := s.chan n
  let i := s.intake n
  let other := !c.isOpen && i.isOpen
  let h := s.heads n
  leBytes 4 h.1.toNat ++ leBytes 4 h.2.1.toNat ++ leBytes 4 h.2.2.1.toNat ++ leBytes 4 h.2.2.2.toNat ++
    leBytes 1 (if other then i.frameMax else c.frameMax) ++ leBytes 1 (if other then i.cls else c.cls) ++
    leBytes 1 (b2n c.isOpen + 2 * b2n c.halted + 4 * b2n c.mirror + 8 * b2n (s.beingShed n)) ++ [0] ++
    leBytes 4 (if other then i.bushel else if c.isOpen then c.bushel else 0xFFFFFFFF) ++
    leBytes 6 c.lastCommit.dmt.toNat ++ leBytes 2 c.lastCommit.epoch.toNat

/-- QUERY_HEAD (R16, R65, R67). -/
def execQueryHead (sq : Nat) (s : State) : Host.Outcome State Fault Refusal :=
  .next (s.whenLive (fun s => s.onFetched sq 0x02 (fun s c =>
    let n := dChan c.desc
    if !s.hasOpening n then s.postOpen c 5 true
    else (s.bufWrite (s.cmdAddr c) (s.headRecord n)).post c 0 (s.heads n).1 (s.heads n).2.1)))

/-- SEAL (R65, R126, R129, R325). -/
def execSeal (sq : Nat) (s : State) : Host.Outcome State Fault Refusal :=
  .next (s.whenLive (fun s => s.onFetched sq 0x03 (fun s c =>
    let n := dChan c.desc
    let h := s.chan n
    let q := dSeq c.desc
    if !h.everOpened then s.postOpen c 5 true
    else if h.halted then s.postOpen c 0x24 true
    else if seqLe q h.sealed then
      match h.sealFor q, h.sealsFrom with
      | _, some f =>
        if seqLe q f then s.postOpen c 0 true
        else s.post c 0 (BitVec.ofNat 32 (((h.sealFor q).map (·.ordinal)).getD 0)) (((h.sealFor q).map (·.covers)).getD q)
      | some k, none => s.post c 0 (BitVec.ofNat 32 k.ordinal) k.covers
      | none, none => s.postOpen c 0 true
    else if seqLt h.durable q then s.postOpen c 2 true
    else
      let s := s.setCmd { c with running := true, target := q }
      if (h.sealFor q).isSome then s
      else if s.sealDue n then
        { s with due := s.due.map (fun d => match d with | Due.seal m 1 t => if m = n then Due.seal m 2 t else Due.seal m 1 t | e => e) }
      else s.makeDue (.seal n 2 (some c.tag)))))

/-- The opening of channel `n` in bushel `b`, just taken (R14, R25, R132, R133, R248). -/
def State.openIn (s : State) (n b page : Nat) (d : List Byte) : State :=
  let c := s.chan n
  let first := dSeq d
  let h := first - 1
  let opening := c.nextOpening
  let every := if dArg d 32 4 = 0 then 256 else dArg d 32 4
  let mirror := bitOf (dArg d 30 1) 0
  let s := s.openBushel b n false opening
  let zero := chainZero uid n opening first
  let s := s.setChan n { c with
    isOpen := true, halted := false, everOpened := true, closing := false, lost := none, haltCost := 0, spare := none, gap := none
    resumed := false, durable := h, written := h, mirrored := h, sealed := h, frameMax := dArg d 28 1, cls := dArg d 29 1
    mirror := mirror, sealEvery := every, firstSeq := first, opening := opening, nextOpening := opening + 1, bushel := b
    gen := (s.bushel b).gen, act := s.actOf b, prevBushel := 0xFFFFFFFF, promised := 0, chain := zero, sealChain := zero
    ordinal := 0, covers := h, seals := [], sealsFrom := none
    credit := some { page := page, act := s.actOf b, cost := s.costOf b, tid := s.writer n } }
  let s := s.setOwn n { lagging := mirror && !s.linkUp, pos := h }
  let s := s.formHeader n .credit (s.costOf b)
  let s := if mirror then
      s.noteAlways (noteBytes 1 n 0 first (leBytes 2 opening.toNat ++ leBytes 1 (dArg d 28 1) ++ leBytes 1 (dArg d 29 1) ++ leBytes 4 every))
    else s
  if s.flag Reg.ARB_STATUS_SHORTFALL then s.shedding (fun s => (s.setShed n {}).refit) else s

/-- The seal credit of a channel that opens in bushel `b` can be taken for its writer: a page, a slot on the bushel's
actuator and the cost of one record (R25, R218, R219). -/
def State.sealCreditOk (s : State) (n b : Nat) : Bool :=
  let w := s.writer n
  let z := s.costOf b
  s.writePagesOk 1 w && s.slotsOk (s.actOf b) 1 w && decide (s.commit + z ≤ s.lend) &&
    (match w with | some t => decide (s.tenEnergy t + z ≤ (s.ten t).share.energy) | none => true)

/-- OPEN_CHANNEL (R14, R65, R131 to R134, R142 NO_BUSHEL, R237, R290): no record is formed while DMT_VALID is 0, so no seal credit can then
be taken. -/
def execOpenChannel (sq : Nat) (s : State) : Host.Outcome State Fault Refusal :=
  .next (s.whenLive (fun s => s.onFetched sq 0x04 (fun s c =>
    let n := dChan c.desc
    let fail (code : Nat) : State := s.postOpen c code false
    let mirror := bitOf (dArg c.desc 30 1) 0
    if (s.chan n).isOpen || !s.owns n || (mirror && !s.flag Reg.OVR_CTRL_EN) then fail 0x24
    else
      match s.takeBushel 0 with
      | none => (s.raise Reg.LDG_EVENTS_NO_BUSHEL).postOpen c 0x25 false
      | some (b, t) =>
        if !s.time.valid || !t.sealCreditOk n b then fail 0x25
        else
          match t.allocPages { num := 0, pool := .write, tid := t.writer n } 1 with
          | (t, [p]) => ((t.openIn n b p c.desc).checkEnergy).post c 0 (BitVec.ofNat 32 b) 0
          | _ => fail 0x25)))

/-- CLOSE_CHANNEL (R53, R65, R126, R131): ordered behind a write in flight; the close seal covers DURABLE_HEAD, and the
pending seals of the channel become it. -/
def execCloseChannel (sq : Nat) (s : State) : Host.Outcome State Fault Refusal :=
  .next (s.whenLive (fun s => s.onFetched sq 0x05 (fun s c =>
    let n := dChan c.desc
    let h := s.chan n
    if !h.accepts then s.postOpen c 5 true
    else if h.halted then s.postOpen c 0x24 true
    else if s.writeBusy n then s
    else
      let s := (s.start c).setChan n { h with closing := true }
      State.makeDue { s with due := s.due.filter (fun d => match d with | Due.seal m _ _ => m != n | _ => true) }
        (.seal n 3 (some c.tag)))))

/-- FLUSH (R65, R325): DURABLE_HEAD as at fetch on CHAN, or on every open channel of the owner. The spec states no head
flushed to for several channels. -/
def execFlush (sq : Nat) (s : State) : Host.Outcome State Fault Refusal :=
  .next (s.whenLive (fun s => s.onFetched sq 0x08 (fun s c =>
    let all := bitOf (dArg c.desc 28 1) 0
    if !all && !(s.chan (dChan c.desc)).everOpened then s.postOpen c 5 false
    else if c.waits.any (fun w => (s.chan w.1).halted) then s.postOpen c 0x24 false
    else
      let f := s.fresh
      let c := { c with running := true, target := f.2 }
      (f.1.setCmd c).settleCmd c)))

/-- MIRROR_RESYNC (R65, R237, R257, R325). -/
def execMirrorResync (sq : Nat) (s : State) : Host.Outcome State Fault Refusal :=
  .next (s.whenLive (fun s => s.onFetched sq 0x09 (fun s c =>
    let n := dChan c.desc
    let h := s.chan n
    if !s.owns n || !s.flag Reg.OVR_CTRL_EN || (h.accepts && (h.halted || !h.mirror)) then s.post c 0x24 h.mirrored 0
    else if !h.accepts then s.post c 5 h.mirrored 0
    else if !s.linkUp then s.post c 0x28 h.mirrored 0
    else
      let c := { c with running := true }
      let s := s.setCmd c
      let s := if h.mirrored = h.durable then s else s.lag n
      (s.setOwn n { s.own n with resync := true, gapHalted := false }).settleCmd c)))

/-! ## Bushels, events, windows, reservations (R65, R72, R92, R111, R135) -/

/-- Every grain of the bushel is SEALED, as far as the device knows. -/
def State.bushelSealed (s : State) (b : Nat) : Bool :=
  let x := s.bushel b
  if s.records.any (fun r => r.bushel == b && r.kind == .grain) then false
  else if x.intake then (s.intake x.chan).opening != x.opening || seqLe x.lastSeq (s.intake x.chan).sealed
  else (s.chan x.chan).opening != x.opening || seqLe x.lastSeq (s.chan x.chan).sealed

/-- RELEASE_BUSHEL (R65, R72, R101, R135): after the reads of its channel fetched before it. -/
def execReleaseBushel (sq : Nat) (s : State) : Host.Outcome State Fault Refusal :=
  .next (s.whenLive (fun s => s.onFetched sq 0x06 (fun s c =>
    let b := dArg c.desc 28 4
    let before := s.cmds.takeWhile (fun d => d.tag != c.tag)
    if before.any (fun d => (d.op == 0x01 || d.op == 0x07) && dChan d.desc == (s.bushel b).chan) then s
    else if b < 2 ∨ (s.bushel b).state ≠ .closed ∨ !s.bushelSealed b then s.post c 0x24 (BitVec.ofNat 32 b) 0
    else
      let s := s.setBushel b { s.bushel b with state := .released }
      (s.revoke (fun t => t.bushel == b)).post c 0 (BitVec.ofNat 32 b) 0)))

/-- The 16 bytes of an event entry (R357). -/
def Event.bytes (e : Event) : List Byte :=
  leBytes 6 e.stamp.dmt.toNat ++ leBytes 2 e.stamp.epoch.toNat ++ [e.code, e.unit] ++ leBytes 2 e.aux.toNat ++
    leBytes 4 e.detail.toNat

/-- Entry `i` of an area of the recorder; beyond its count, 16 zero bytes (R360). -/
def entryAt (l : List Event) (i : Nat) : List Byte :=
  match l[i]? with | some e => e.bytes | none => List.replicate 16 0

/-- READ_EVENTS (R65, R360). -/
def execReadEvents (sq : Nat) (s : State) : Host.Outcome State Fault Refusal :=
  .next (s.whenLive (fun s => s.onFetched sq 0x0A (fun s c =>
    let area := if dArg c.desc 28 1 = 0 then s.evr.first else s.evr.last
    let n := dCount c.desc
    let bytes := ((List.range n).map (fun k => entryAt area (dArg c.desc 32 2 + k))).flatten
    (s.bufWrite (s.cmdAddr c) bytes).post c 0 (BitVec.ofNat 32 n) 0)))

/-- Zeroes `n` bytes of the buffer from `a`: every word is written whole. -/
def State.bufZero (s : State) (a n : Nat) : State :=
  let n := min n (0x1000000 - a)
  { s with buf := splice a n [] s.buf, ecc := s.ecc.written a n }

/-- ZERO_WINDOW (R65, R72): it begins once the commands on the window fetched before it are done. -/
def execZeroWindow (sq : Nat) (s : State) : Host.Outcome State Fault Refusal :=
  .next (s.whenLive (fun s => s.onFetched sq 0x0B (fun s c => s.start c)))

/-- ZERO_WINDOW_COMPLETE (R65, R72): every byte of the window is 0. -/
def execZeroWindowComplete (sq : Nat) (s : State) : Host.Outcome State Fault Refusal :=
  .next (s.whenLive (fun s => s.onRunning sq 0x0B (fun s c =>
    let t := dArg c.desc 28 1
    let w := dArg c.desc 29 1
    let n := s.getF Reg.WPAGES_PAGES (8 * t + w)
    (s.bufZero (s.winBase t w) (4096 * n)).post c 0 (BitVec.ofNat 32 n) 0)))

/-- The shares that a SET_RESERVATION gives. -/
def shareOf (d : List Byte) : Share :=
  { pages := dArg d 32 2, tagsW := dArg d 34 2, tagsR := dArg d 36 2, tagsC := dArg d 38 2, slotsA := dArg d 40 2
    slotsB := dArg d 42 2, rate := dArg d 44 4, energy := dArg d 48 3 }

/-- The shares of all tenants fit the pools, the media floor and the energy budget (R65, R111, R219). -/
def State.sharesFit (s : State) : Bool :=
  decide (s.shareSum Share.pages ≤ s.poolCap .write) && decide (s.shareSum Share.tagsW ≤ s.tagSize 0) &&
    decide (s.shareSum Share.tagsR ≤ s.tagSize 1) && decide (s.shareSum Share.tagsC ≤ s.tagSize 2) &&
    decide (s.shareSum Share.slotsA ≤ s.slotSize 0) && decide (s.shareSum Share.slotsB ≤ s.slotSize 1) &&
    decide (s.resvSum ≤ s.mediaFloor) && decide (s.shareSum Share.energy ≤ s.getF Reg.ENG_BUDGET_E)

/-- SET_RESERVATION (R65, R72, R92, R111, R112, R219). -/
def execSetReservation (sq : Nat) (s : State) : Host.Outcome State Fault Refusal :=
  .next (s.whenLive (fun s => s.onFetched sq 0x0C (fun s c =>
    let t := dArg c.desc 28 1
    let new := s.setTen t { s.ten t with share := shareOf c.desc }
    if new.sharesFit then (new.post c 0 0 0).media else s.post c 0x29 0 0)))

/-! ## Queued writes (R66) -/

/-- QUEUED_WRITE_GRAINS (R66, R323): the range engine copies the payload into the grain pages and computes its CRC; an
uncorrectable error in the source makes the CRC count as mismatched. -/
def execQueuedWriteGrains (sq : Nat) (s : State) : Host.Outcome State Fault Refusal :=
  .next (s.whenLive (fun s => s.onFetched sq 0x10 (fun s c =>
    let a := s.cmdAddr c
    let n := 4096 * dCount c.desc
    let r := s.bufCheck a n 10
    let s := r.1
    let bytes := s.bufRead a n
    (s.fillPages c.pages bytes).setCmd
      { c with running := true, crc := crc32c bytes, ends := if r.2 then some (3, 0) else none })))

end Sys2Proof.Machine
end

