-- ==== Sys2Proof/Machine/Tenants.lean ====
section
/-! DEFINITION. Tenants (spec/04 R76 to R86): sessions, keys, channel rights and buffer windows. -/

namespace Sys2Proof.Machine

/-- Tenant `t` exists (R76). -/
def State.tenantIs (s : State) (t : Nat) : Bool := s.flag Reg.TCFG_EN t || t == 0

/-- TENANT_STATUS.CFG_REJECT. -/
def State.tenantReject (s : State) : State := s.raise Reg.TENANT_STATUS_CFG_REJECT

/-! ## Sessions (R79 to R82) -/

/-- SESSION_CHALLENGE (R76, R79, R80): a fresh NONCE; ignored while locked, and while the session is open, since a
CHALLENGE is no closure of R81. -/
def execSessionChallenge (tid : Nat) (s : State) : Host.Outcome State Fault Refusal :=
  .next (s.whenLive (fun s =>
    let x := s.ten tid
    if !s.tenantIs tid || x.sess == 3 || x.sess == 2 then s
    else State.setTen { s with freeCtr := s.freeCtr + 1 } tid { x with sess := 1, nonce := some (Config.freshNonce s.freeCtr) }))

/-- The RESPONSE that opens tenant `t`'s session (R79). -/
def State.response (s : State) (t : Nat) (nonce : BitVec 128) : List Byte :=
  hmac (s.ten t).key (leBytes 16 nonce.toNat ++ leBytes 1 t ++ uid)

/-- The RESPONSE bytes that the host has written. -/
def Tenant.given (x : Tenant) : List Byte := wordsBytes ((List.range 8).map (fun i => sget 0 i x.response))

/-- A failure of tenant `t` (R80): the fourth in a row locks for 1 s, doubled by each lock since the last success, up to
64 s. A failure while locked is recorded and counted; it does not count toward the four of the next lock, which starts
from 0 at each lock (log entry 33). -/
def State.sessionFail (s : State) (t : Nat) : State :=
  let x := s.ten t
  let n := x.fails + 1
  let s := s.event 0x10 t 0 n
  if x.sess = 3 then s.setTen t { x with fails := n, nonce := none }
  else if x.run + 1 < 4 then s.setTen t { x with fails := n, run := x.run + 1, sess := 0, nonce := none }
  else s.setTen t { x with fails := n, run := 0, sess := 3, nonce := none, lockMs := min (1000 * 2 ^ x.locks) 64000
                           lockAt := s.time.dmt, locks := x.locks + 1 }

/-- SESSION_RESPOND (R79, R80): a match opens the session; anything else counts one failure, and a RESPOND on an open
session ends it. While locked the lock stands. -/
def execSessionRespond (tid : Nat) (s : State) : Host.Outcome State Fault Refusal :=
  .next (s.whenLive (fun s =>
    let x := s.ten tid
    match x.sess == 1 && s.tenantIs tid, x.nonce with
    | true, some nonce =>
      if x.given == s.response tid nonce then
        s.setTen tid { x with sess := 2, nonce := none, fails := 0, run := 0, locks := 0 }
      else s.sessionFail tid
    | _, _ => (if x.sess = 2 then s.cause tid 6 else s).sessionFail tid))

/-- SESSION_CLOSE (R81): the tenant's own CLOSE. -/
def execSessionClose (tid : Nat) (s : State) : Host.Outcome State Fault Refusal :=
  .next (s.whenLive (·.closeSession tid true))

/-- NONCE_EXPIRY (R79): 10 s have passed since the NONCE was issued. -/
def execNonceExpiry (tid : Nat) (s : State) : Host.Outcome State Fault Refusal :=
  .next (s.whenLive (fun s => s.setTen tid { s.ten tid with nonce := none }))

/-- LOCKOUT_EXPIRY (R80). -/
def execLockoutExpiry (tid : Nat) (s : State) : Host.Outcome State Fault Refusal :=
  .next (s.whenLive (fun s =>
    let x := s.ten tid
    if x.sess = 3 then s.setTen tid { x with sess := 0, lockMs := 0 } else s))

/-! ## Configuration (R78, R82, R84, R85) -/

/-- The stagings of a reader that has lost its right to the channel are cancelled (R101). -/
def State.revokeUnread (s : State) : State :=
  s.revoke (fun t => match t.tid with | some x => !s.assigned x t.chan | none => false)

/-- Tenant `t` is disabled (R78): its session closes; its channel rights, windows and key are cleared. -/
def State.disableTenant (s : State) (t : Nat) : State :=
  let s := s.closeSession t false
  let s := s.each chanNums (fun s n =>
    let s := if s.flag Reg.CHAN_RIGHTS_WRITER_EN n && s.getF Reg.CHAN_RIGHTS_WRITER n == t then
        (s.lower Reg.CHAN_RIGHTS_WRITER_EN n).lower Reg.CHAN_RIGHTS_WRITER n else s
    let r := s.getF Reg.CHAN_RIGHTS_READERS n
    if bitOf r t then s.setF Reg.CHAN_RIGHTS_READERS n (r - 2 ^ t) else s)
  let s := s.each (List.range 8) (fun s w =>
    ((s.resetF Reg.WIN_EN (8 * t + w)).resetF Reg.WIN_BASE (8 * t + w)).resetF Reg.WPAGES_PAGES (8 * t + w))
  let s := s.setTen t { s.ten t with key := List.replicate 32 0, keyStage := [] }
  s.revokeUnread

/-- TENANT_CONFIG_WRITE (R76 to R78): TCFG_t. T0's EN reads 1 and cannot be cleared. -/
def execTenantConfigWrite (src t : Nat) (v : Word) (s : State) : Host.Outcome State Fault Refusal :=
  .next (s.whenLive (fun s =>
    let en := bitOf v.toNat 0 || t == 0
    if !privileged src then s.denied src (regDetail (0x40030100 + 0x80 * t))
    else if !en && (chanNums.any (fun n => (s.chan n).isOpen && s.mayWrite t n) ||
        (List.range 256).any (fun q => s.flag Reg.QCFG_EN q && s.qOwner q == some t)) then s.tenantReject
    else
      let was := s.flag Reg.TCFG_EN t
      let s := (s.setF Reg.TCFG_IRQ_PIN t (bitsOf v.toNat 1 2)).setBit Reg.TCFG_EN t en
      if was && !en then s.disableTenant t else s))

/-- KEY_WRITE (R81, R82, R95): word `i` of KEY_t; the key applies when word 7 is written, which closes the session. -/
def execKeyWrite (src t i : Nat) (v : Word) (s : State) : Host.Outcome State Fault Refusal :=
  .next (s.whenLive (fun s =>
    if !privileged src then s.denied src (regDetail (0x40031000 + 0x20 * t + 4 * i))
    else
      let x := s.ten t
      let stage := sput 0 i v x.keyStage
      if i = 7 then
        (s.closeSession t false).setTen t { (s.closeSession t false).ten t with
          key := wordsBytes ((List.range 8).map (fun j => sget 0 j stage)), keyStage := stage, keySet := true }
      else s.setTen t { x with keyStage := stage }))

/-- CHAN_RIGHTS_WRITE (R84): the writer changes only while the channel is closed. -/
def execChanRightsWrite (src n : Nat) (v : Word) (s : State) : Host.Outcome State Fault Refusal :=
  .next (s.whenLive (fun s =>
    if !privileged src then s.denied src (regDetail (0x40032000 + 4 * n))
    else if (s.chan n).isOpen && (bitsOf v.toNat 0 4 != s.getF Reg.CHAN_RIGHTS_WRITER n ||
        bitsOf v.toNat 4 1 != s.getF Reg.CHAN_RIGHTS_WRITER_EN n) then s.tenantReject
    else (s.genericWrite src (0x40032000 + 4 * n) v).revokeUnread))

/-- The window of `en`, `base` and `pages` overlaps an enabled window of another tenant. -/
def State.overlaps (s : State) (t base pages : Nat) : Bool :=
  (List.range 128).any (fun i => i / 8 != t && s.flag Reg.WIN_EN i &&
    decide (base < s.getF Reg.WIN_BASE i + s.getF Reg.WPAGES_PAGES i) && decide (s.getF Reg.WIN_BASE i < base + pages))

/-- A command of tenant `t` that names its window `w` is in flight, or one that zeroes it. -/
def State.windowUsed (s : State) (t w : Nat) : Bool := s.cmds.any (fun c => c.window == some (t, w))

/-- WINDOW_CONFIG_WRITE (R85): WIN_t_w, or WPAGES_t_w (`second`). An enabled window lies in the window region and overlaps
no other tenant's. -/
def execWindowConfigWrite (src t w : Nat) (second : Bool) (v : Word) (s : State) : Host.Outcome State Fault Refusal :=
  .next (s.whenLive (fun s =>
    let i := 8 * t + w
    let addr := 0x40030140 + 0x80 * t + 8 * w + (if second then 4 else 0)
    if !privileged src then s.denied src (regDetail addr)
    else
      let val (f : Field) : Nat := if (f.addr i) = addr then s.afterWrite src v f i else s.getF f i
      let base := val Reg.WIN_BASE
      let pages := val Reg.WPAGES_PAGES
      let bad := val Reg.WIN_EN == 1 && (s.overlaps t base pages || decide (base < s.getF Reg.BUF_WREG_LO) ||
        decide (s.getF Reg.BUF_WREG_LAST + 1 < base + pages))
      if bad || s.windowUsed t w then s.tenantReject else s.genericWrite src addr v))

end Sys2Proof.Machine
end

