-- ==== Sys2Proof/Machine/Buffer.lean ====
section
/-! DEFINITION. The buffer's regions, its arbiter and its stagings (spec/05 R97, R100 to R108, R111). -/

namespace Sys2Proof.Machine

/-! ## Regions and the mirror rate (R97, R111) -/

/-- A pool region from page `base` and a window region `lo` to `last` overlap. DESIGN CHOICE (log entry 74): with LO above
LAST, for which the spec names no pages, the window region is empty and overlaps nothing. -/
def regionsMeet (base lo last : Nat) : Bool := decide (lo ≤ last) && decide (base ≤ last)

/-- BUF_REGION_WRITE (R71, R97): BUF_WREG (`wreg`) or BUF_POOL_BASE. -/
def execBufRegionWrite (src : Nat) (wreg : Bool) (v : Word) (s : State) : Host.Outcome State Fault Refusal :=
  .next (s.whenLive (fun s =>
    let addr := if wreg then 0x40040024 else 0x40040020
    if !privileged src then s.denied src (regDetail addr)
    else if wreg then
      if regionsMeet (s.getF Reg.BUF_POOL_BASE_PAGE) (bitsOf v.toNat 0 12) (bitsOf v.toNat 16 12) ||
          (List.range 128).any (fun i => s.flag Reg.WIN_EN i) then s.queueReject
      else s.genericWrite src addr v
    else
      let base := bitsOf v.toNat 0 12
      if regionsMeet base (s.getF Reg.BUF_WREG_LO) (s.getF Reg.BUF_WREG_LAST) || !s.poolsIdle ||
          decide (s.usablePages base < s.poolCap .write + s.poolCap .read) then s.queueReject
      else s.genericWrite src addr v))

/-- MIRROR_RATE_WRITE (R111, R112). -/
def execMirrorRateWrite (src : Nat) (v : Word) (s : State) : Host.Outcome State Fault Refusal :=
  .next (s.whenLive (fun s =>
    if !privileged src then s.denied src (regDetail 0x40040014)
    else if s.mediaFloor < s.shareSum Share.rate + bitsOf v.toNat 0 24 then s.queueReject
    else (s.genericWrite src 0x40040014 v).media))

/-! ## Arbitration (R103 to R108) -/

/-- Bank `b`. -/
def State.bank (s : State) (b : Nat) : Bank := sget {} b s.banks
/-- Sets bank `b`. -/
def State.setBank (s : State) (b : Nat) (x : Bank) : State := { s with banks := sput {} b x s.banks }

/-- PRIO of a requester; the write channels' is fixed at 7 (R102, R104). -/
def State.prioOf (s : State) (who : Nat) : Nat := if who = 2 ∨ who = 3 then 7 else s.getF Reg.ARB_CFG_PRIO who

/-- The distance of a requester in the rotation that starts just after the last grantee (R105). -/
def rotation (last who : Nat) : Nat := (who + 12 - (last + 1) % 12) % 12

/-- The better of two pending requests: the higher PRIO, then the earlier in that level's rotation. -/
def State.better (s : State) (x : Bank) (a b : Request) : Request :=
  let p := s.prioOf a.who
  let q := s.prioOf b.who
  if p < q then b
  else if q < p then a
  else if rotation (sget 11 p x.ptr) b.who < rotation (sget 11 p x.ptr) a.who then b else a

/-- The requests that may win: those of requesters whose sideband is not asserted (R107). -/
def State.eligible (s : State) (x : Bank) : List Request := x.reqs.filter (fun r => !s.flag Reg.ARB_CFG_MASKED r.who)

/-- The grant is counted (R108). -/
def State.countGrant (s : State) (r : Request) : State :=
  let s := (s.bump Reg.ARB_GRANTS_COUNT r.who).bump Reg.ARB_WAIT_CYCLES r.who r.waited
  if s.getF Reg.ARB_STAT_LWAIT r.who < r.waited then s.setF Reg.ARB_STAT_LWAIT r.who (satN 16 r.waited) else s

/-- A grant to the cache's requester serves the oldest write-back that waits for this bank, if one does (spec/14 R311). -/
def Cache.granted (c : Cache) (bank : Nat) : Cache :=
  match c.victims.find? (fun v => v.dirty && !v.granted && v.base / 0x100000 == 0x100 + bank) with
  | some v => { c with victims := c.victims.map (fun (w : Victim) => if w.base = v.base then { w with granted := true } else w) }
  | none => c

/-- The requests pending at a decision `cycles` BUF cycles after the last one: the old ones, and those that have come since
(requester, beats, cycles they have waited). -/
def pendingReqs (cycles : Nat) (old : List Request) (new : List (Nat × Nat × Nat)) : List Request :=
  old.map (fun (r : Request) => { r with waited := r.waited + (cycles - r.late), late := 0 }) ++
    (new.filter (fun r => decide (r.1 < 12))).map (fun r => ({ who := r.1, beats := r.2.1, waited := min r.2.2 cycles } : Request))

/-- BANK_ARBITRATION (R103 to R105, R107, R108): the arbiter of a free bank decides. `reqs` are the requests that have come
since its last decision, `cycles` the BUF cycles that have passed. A burst is at most the BURST of the decision that grants
it; the beats beyond are asked for again when it ends (log entry 69). -/
def execBankArbitration (bank cycles : Nat) (reqs : List (Nat × Nat × Nat)) (s : State) : Host.Outcome State Fault Refusal :=
  .next (s.whenLive (fun s =>
    let x := s.bank bank
    let x := { x with grant := none, reqs := pendingReqs cycles x.reqs reqs }
    match s.eligible x with
    | [] => s.setBank bank x
    | r :: rest =>
      let g := rest.foldl (s.better x) r
      let s : State := if g.who = 8 then { s with cache := s.cache.granted bank } else s
      let n := min g.beats (s.getF Reg.ARB_CFG_BURST g.who)
      let more : List Request := if n < g.beats then [{ who := g.who, beats := g.beats - n, late := n }] else []
      (s.setBank bank { grant := some { g with beats := n }, reqs := x.reqs.erase g ++ more
                        ptr := sput 11 (s.prioOf g.who) g.who x.ptr }).countGrant g))

/-- GRANT_CUTOFF (R106): the grant at `bank` has not presented its last beat within CUTOFF cycles; `presented` beats
stand, the others are requested again. -/
def execGrantCutoff (bank presented : Nat) (s : State) : Host.Outcome State Fault Refusal :=
  .next (s.whenLive (fun s =>
    let x := s.bank bank
    match x.grant with
    | none => s
    | some g =>
      let s := s.setBank bank { x with grant := none, reqs := x.reqs ++ [{ who := g.who, beats := g.beats - presented, late := s.getF Reg.ARB_CFG_CUTOFF g.who }] }
      (s.bumpSat Reg.ARB_STAT_CUTS g.who).eventC 0x11 g.who bank))

/-- ARB_COUNTER_CLEAR (R108): CNT_CLR is WO, so any writer's write acts. -/
def execArbCounterClear (_src : Nat) (s : State) : Host.Outcome State Fault Refusal :=
  .next (s.whenLive (fun s => s.each (List.range 12) (fun s n =>
    ((s.lower Reg.ARB_GRANTS_COUNT n).lower Reg.ARB_WAIT_CYCLES n).lower Reg.ARB_STAT_LWAIT n)))

/-- The reset sideband of a requester is asserted or released (R107): its grants end and its unpresented beats are
discarded. -/
def State.sideband (s : State) (who : Nat) (on : Bool) : State :=
  let s := s.setBit Reg.ARB_CFG_MASKED who on
  if on then
    s.each (List.range 16) (fun s b =>
      match (s.bank b).grant with
      | some g => if g.who = who then s.setBank b { s.bank b with grant := none } else s
      | none => s)
  else s

/-! ## Stagings (R100, R101, R122) -/

/-- A record's bytes are valid under generation `gen` (R122): MAGIC, KIND, HDR_CRC and BODY_TAG. -/
def recordValid (gen : Word) (hdr body : List Byte) : Bool :=
  leAt hdr 0 2 == 0x51D7 && decide (1 ≤ (byteAt hdr 2).toNat) && decide ((byteAt hdr 2).toNat ≤ 5) &&
    leAt hdr 28 4 == (crc32c (leBytes 4 gen.toNat ++ slice hdr 0 28)).toNat && slice hdr 20 8 == (sha256 body).take 8

/-- STAGING_CHECK_DONE (R100, R101, R323): the hash engine's check of a staged grain ends. A revoked token's result is
discarded; a failed one completes its READ_GRAINS as VERIFY_MISMATCH. -/
def execStagingCheckDone (token : BitVec 16) (s : State) : Host.Outcome State Fault Refusal :=
  .next (s.whenLive (fun s =>
    match s.stagings.find? (fun t => t.token == token && !t.checked) with
    | none => s
    | some t =>
      if t.revoked then s.endStaging t
      else
        let r := s.bufCheck (4096 * t.page) 4096 7
        let s := r.1
        if !r.2 && recordValid (s.bushel t.bushel).gen t.hdr (s.bufRead (4096 * t.page) 4096) then
          { s with stagings := s.stagings.map (fun (x : Staging) => if x.token = token then { x with checked := true } else x) }
        else (s.endStaging t).readFail t.tag 0x27 t.seq))

/-- STAGING_TIMEOUT (R101): 1 s has passed without a READ_STREAM for the grain. -/
def execStagingTimeout (token : BitVec 16) (s : State) : Host.Outcome State Fault Refusal :=
  .next (s.whenLive (fun s => s.revoke (fun t => t.token == token)))

end Sys2Proof.Machine
end

