-- ==== Sys2Proof/Machine/Geometry.lean ====
section
/-! DEFINITION. Geometry of the tracks and the form of a sector (spec/07 R148 to R158): the staged and the applied tables,
wedges, slots, a sector's start, its bits and its code, and where a place of a bushel lies. -/

namespace Sys2Proof.Machine

/-! ## Geometry (R148 to R151, R158) -/

/-- An enabled zone of the tables in force: first track, M, code, S, SKEW. -/
def State.zone (s : State) (z : Nat) : Option (Nat × Nat × Nat × Nat × Nat) := s.tables.zones[z]?

/-- The track after the last of zone `z` of some zones. -/
def zoneEnd (zones : List (Nat × Nat × Nat × Nat × Nat)) (tracks z : Nat) : Nat :=
  match zones[z + 1]? with | some y => y.1 | none => tracks

/-- A bushel-map entry of zone `z` starting at `track` is at fault under some zones (R151 check 4, R158). -/
def runFault (zones : List (Nat × Nat × Nat × Nat × Nat)) (tracks z track : Nat) : Bool :=
  match zones[z]? with
  | none => true
  | some y => decide (track < y.1) || decide (zoneEnd zones tracks z < track + ceilDiv 16384 y.2.2.2.1)

/-- The track of place `p` of bushel `b` (R158); none for a place that cannot be located (R122). -/
def State.placeTrack (s : State) (b p : Nat) : Option Nat :=
  if s.flag Reg.BMAP_VALID b then
    (s.zone (s.getF Reg.BMAP_ZONE b)).map (fun y => s.getF Reg.BMAP_START_TRACK b + p / y.2.2.2.1)
  else none

/-- PRE of a PRE_16 field: 0 stands for 16 (R152). -/
def preBits (f : Nat) : Nat := if f = 0 then 256 else 16 * f

/-- Bits of the codeword of loaded code `c` under the staged descriptors (R156). -/
def State.codeBits (s : State) (c : Nat) : Nat :=
  if c = 0 then 37120
  else
    let z := 64 * 2 ^ s.getF Reg.CODE_DESC_LOG2Z (c - 1)
    let k := s.getF Reg.CODE_DESC_K_B (c - 1)
    (k + s.getF Reg.CODE_DESC_M_B (c - 1)) * z - (k * z - 33024)

/-- Code `c` is loaded. -/
def State.codeLoaded (s : State) (c : Nat) : Bool := c == 0 || s.getF Reg.CODE_DESC_E (c - 1) != 0

/-- The listed entries of loaded code `c`: row, column, shift. -/
def State.codeEntries (s : State) (c : Nat) : List (Nat × Nat × Nat) :=
  (List.range (s.getF Reg.CODE_DESC_E (c - 1))).map (fun e =>
    let i := 1024 * (c - 1) + e
    (s.getF Reg.CODE_ENT_ROW i, s.getF Reg.CODE_ENT_COL i, s.getF Reg.CODE_ENT_SHIFT i))

/-- No two entries name the same row and column. -/
def distinctEntries : List (Nat × Nat × Nat) → Bool
  | [] => true
  | e :: l => !l.any (fun f => f.1 == e.1 && f.2.1 == e.2.1) && distinctEntries l

/-- A loaded code keeps the limits of R156. -/
def State.codeOk (s : State) (c : Nat) : Bool :=
  let z := 64 * 2 ^ s.getF Reg.CODE_DESC_LOG2Z (c - 1)
  let k := s.getF Reg.CODE_DESC_K_B (c - 1)
  let m := s.getF Reg.CODE_DESC_M_B (c - 1)
  let n := s.getF Reg.CODE_DESC_E (c - 1)
  let l := s.codeEntries c
  decide (33024 ≤ k * z) && decide (k * z - 33024 < z) && decide (4 ≤ m) && decide (m ≤ 24) && decide (s.codeBits c ≤ 40960) &&
    decide (n ≤ 1024) && l.all (fun e => decide (e.1 < m) && decide (e.2.1 < k) && decide (e.2.2 < z)) && distinctEntries l &&
    (List.range k).all (fun j => let w := (l.filter (fun e => e.2.1 == j)).length; decide (2 ≤ w) && decide (w ≤ 6)) &&
    (List.range m).all (fun i => decide ((l.filter (fun e => e.1 == i)).length ≤ 64))

/-- Zone `z` fits under the staged geometry (R149). -/
def State.zoneFits (s : State) (z : Nat) : Bool :=
  let nw := s.getF Reg.SERVO_GEOM_N_W
  let wl := s.getF Reg.SERVO_GEOM_W_LEN
  let m := s.getF Reg.ZONE1_M z
  let n := s.getF Reg.ZONE2_S z
  let pre := preBits (s.getF Reg.SECT_FMT_PRE_16)
  let l := (65536 - nw * wl) * m / n
  let x := l / ((65536 / nw - wl) * m) + 1
  n != 0 && decide (pre + 32 + s.codeBits (s.getF Reg.ZONE1_CODE z) + 16 * s.getF Reg.SECT_FMT_DRAM_16 + 24 * x + pre + 32 ≤ l)

/-- Zone `z` of the staged zone table is at fault (R151 check 3). -/
def State.zoneFault (s : State) (z : Nat) : Bool :=
  let en (i : Nat) : Bool := s.flag Reg.ZONE0_EN i
  let above := (List.range 32).filter (fun i => decide (z < i) && en i)
  let none_ := !(List.range 32).any en
  if !en z then !above.isEmpty || (z == 0 && none_)
  else
    let t := s.getF Reg.ZONE0_FIRST_TRACK z
    let m := s.getF Reg.ZONE1_M z
    (z == 0 && t != 16) || (z != 0 && decide (t ≤ s.getF Reg.ZONE0_FIRST_TRACK (z - 1))) ||
      (above.isEmpty && decide (s.getF Reg.TRACKS_COUNT ≤ t)) ||
      decide (m < 64) || decide (320 < m) || decide (s.getF Reg.ZONE2_S z ≤ s.getF Reg.ZONE2_SKEW z) ||
      !s.codeLoaded (s.getF Reg.ZONE1_CODE z) || !s.zoneFits z

/-- The staged zone table. -/
def State.stagedZones (s : State) : List (Nat × Nat × Nat × Nat × Nat) :=
  ((List.range 32).takeWhile (fun z => s.flag Reg.ZONE0_EN z)).map (fun z =>
    (s.getF Reg.ZONE0_FIRST_TRACK z, s.getF Reg.ZONE1_M z, s.getF Reg.ZONE1_CODE z, s.getF Reg.ZONE2_S z, s.getF Reg.ZONE2_SKEW z))

/-- The staged tables, as an apply puts them in force. -/
def State.stagedTables (s : State) : Tables :=
  { nw := s.getF Reg.SERVO_GEOM_N_W, wlen := s.getF Reg.SERVO_GEOM_W_LEN, pre16 := s.getF Reg.SECT_FMT_PRE_16
    dram16 := s.getF Reg.SECT_FMT_DRAM_16, tracks := s.getF Reg.TRACKS_COUNT, zones := s.stagedZones
    ofs := (List.range 256).foldl (fun (l : Sparse Nat) i => sput 0 i (s.getF Reg.OFS_OFS i) l) []
    syncTol := s.getF Reg.SECT_FMT_SYNC_TOL, syncTolW := s.getF Reg.SECT_FMT_SYNC_TOL_W
    resTol := s.getF Reg.SECT_FMT_RES_TOL, syncErr := s.getF Reg.SECT_FMT_SYNC_ERR
    codes := ([1, 2, 3].filter s.codeLoaded).map (fun c =>
      ({ num := c, z := 64 * 2 ^ s.getF Reg.CODE_DESC_LOG2Z (c - 1), kb := s.getF Reg.CODE_DESC_K_B (c - 1)
         mb := s.getF Reg.CODE_DESC_M_B (c - 1), entries := s.codeEntries c } : Code)) }

/-! ## The format of a track (R148, R149, R152 to R154, R157, R158) -/

/-- How the sectors of a track are laid out: wedges, ratio M, sectors, preamble and dram bits, the head's offset in 1/256
mark, and the code. -/
structure Format where
  nw : Nat
  wlen : Nat
  m : Nat
  sectors : Nat
  pre : Nat
  dram : Nat
  ofs : Int
  code : Code

/-- Code 0, whose matrix the spec does not print (log entry 11). -/
def codeZero : Code := { num := 0, z := 256, kb := 129, mb := 16, entries := Config.codeZero }

/-- Code `c` of some tables. -/
def Tables.code (t : Tables) (c : Nat) : Code := (t.codes.find? (fun x => x.num == c)).getD codeZero

/-- Bits of a codeword that are written: those left of the shortening (R156). -/
def Code.bits (c : Code) : Nat := (c.kb + c.mb) * c.z - (c.kb * c.z - 33024)

/-- The zone of a track beyond the maker tracks: the last whose first track is not above it (R150). -/
def Tables.zoneOf (t : Tables) (track : Nat) : Nat := (t.zones.filter (fun y => decide (y.1 ≤ track))).length - 1

/-- Head `head` of an actuator reads a maker track there: tracks 0 to 15 of heads 0 and 4 (R157). -/
def maker (head track : Nat) : Bool := head % 4 == 0 && decide (track < 16)

/-- The tables by which the channels read: the staged ones until the first successful apply (R157). -/
def State.layout (s : State) : Tables := if s.flag Reg.TABLE_STATUS_OK then s.tables else s.stagedTables

/-- The ratio M of a track under head `head`: 96 on the maker tracks (R157), the zone's elsewhere (R147). -/
def State.ratioOf (s : State) (head track : Nat) : Option Nat :=
  if maker head track then some 96 else (s.zone (s.tables.zoneOf track)).map (·.2.1)

/-- The format of a track under head `head`, 0 to 7: the maker format, or that of its zone once the tables are applied. -/
def State.format (s : State) (head track : Nat) : Option Format :=
  let t := s.layout
  if maker head track then
    some { nw := t.nw, wlen := t.wlen, m := 96, sectors := 128, pre := preBits t.pre16, dram := 16 * t.dram16, ofs := 0, code := codeZero }
  else if !s.flag Reg.TABLE_STATUS_OK then none
  else (t.zones[t.zoneOf track]?).map (fun y =>
    { nw := t.nw, wlen := t.wlen, m := y.2.1, sectors := y.2.2.2.1, pre := preBits t.pre16, dram := 16 * t.dram16
      ofs := signed 24 (sget 0 (32 * head + t.zoneOf track) t.ofs), code := t.code y.2.2.1 })

/-- The sector of place `p` in a zone of `n` sectors and some skew (R158). -/
def skewed (n skew p : Nat) : Nat := (p % n + p / n * skew) % n

/-- Where place `p` of bushel `b` lies (R158): head 0 to 7, track and sector; none where it cannot be located (R122). -/
def State.located (s : State) (b p : Nat) : Option (Nat × Nat × Nat) :=
  match s.placeTrack b p, s.zone (s.getF Reg.BMAP_ZONE b) with
  | some t, some y => some (s.getF Reg.BMAP_HEAD b, t, skewed y.2.2.2.1 y.2.2.2.2 p)
  | _, _ => none

/-- DB: data-angle bits of a revolution (R148). -/
def Format.revolution (f : Format) : Nat := (65536 - f.nw * f.wlen) * f.m

/-- L: data-angle bits of a slot; those after the last slot are never written (R149). -/
def Format.slot (f : Format) : Nat := f.revolution / f.sectors

/-- The data-angle bit at which wedge `i` begins, for `i` from 1; wedge N_W is wedge 0 of the next revolution (R148). -/
def Format.wedge (f : Format) (i : Nat) : Nat := (65536 * i / f.nw - i * f.wlen) * f.m

/-- The wedges of a revolution beyond wedge 0, by the data-angle bit at which each begins. -/
def Format.wedges (f : Format) : List Nat := (List.range f.nw).map (fun i => f.wedge (i + 1))

/-- The data-angle bit at which sector `k` begins: its slot's first bit, or, where a wedge would begin inside the preamble
or the sync mark, that wedge's end, which is the same data-angle bit as its beginning (R149, R154). -/
def Format.start (f : Format) (k : Nat) : Nat :=
  let a := k * f.slot
  (f.wedges.find? (fun d => decide (a ≤ d) && decide (d < a + f.pre + 32))).getD a

/-- The mark of the chain band under the clock head when data-angle bit `d` passes the head: head angle counts the wedges
that data angle leaves out, and chain angle is head angle plus OFS (R148). -/
def Format.mark (f : Format) (d : Nat) : Nat :=
  let bits := d + f.m * f.wlen * (1 + (f.wedges.filter (fun w => decide (w ≤ d))).length)
  (((256 * bits : Nat) + f.ofs * f.m) / ((256 * f.m : Nat) : Int) % 65536).toNat

/-- One run of a sector's codeword and dram: its data-angle bit, its first bit and length in the field, and whether a
resume mark precedes it. -/
structure Piece where
  angle : Nat
  first : Nat
  len : Nat
  resumed : Bool
deriving DecidableEq, Repr

/-- The runs of a field of `total` bits from bit `i`, laid down from data-angle bit `pos` (R152): a wedge that begins at
any bit of it, the first included, interrupts it, and it goes on after the wedge with a resume mark. -/
def piecesFrom (total : Nat) : Nat → Nat → Bool → List Nat → List Piece
  | pos, i, r, [] => [⟨pos, i, total - i, r⟩]
  | pos, i, r, d :: l =>
    let p := if r then pos + 24 else pos
    if total - i ≤ d - p then [⟨pos, i, total - i, r⟩]
    else ⟨pos, i, d - p, r⟩ :: piecesFrom total d (i + (d - p)) true l

/-- The runs of sector `k`: the codeword and the dram after the preamble and the sync mark. -/
def Format.pieces (f : Format) (k : Nat) : List Piece :=
  let a := f.start k + f.pre + 32
  piecesFrom (f.code.bits + f.dram) a 0 false (f.wedges.filter (fun d => decide (a ≤ d)))

/-- The bits of a number, the most significant of `n` first. -/
def bitsBE (n v : Nat) : List Bool := (List.range n).map (fun i => bitOf v (n - 1 - i))

/-- The exclusive or of two rows of bits. -/
def xorBits (a b : List Bool) : List Bool := List.zipWith (fun x y => x != y) a b

/-- A block of the information word through the circulant of shift `h`: column j of the block is the identity's shifted by
`h`, so its one stands in row (j + h) mod Z (R156; log entry 73). -/
def circulant (h : Nat) (b : List Bool) : List Bool := b.drop (b.length - h) ++ b.take (b.length - h)

/-- The information word of a code: the shortened bits, which are zeros and are not written, then the record's bytes, each
with its most significant bit first (R152, R156). -/
def Code.info (c : Code) (record : List Byte) : List Bool :=
  List.replicate (c.kb * c.z - 33024) false ++ record.flatMap (fun b => bitsBE 8 b.toNat)

/-- The sum of the listed blocks of row `i` of the base matrix over an information word. -/
def Code.rowSum (c : Code) (u : List Bool) (i : Nat) : List Bool :=
  (c.entries.filter (fun e => e.1 == i)).foldl
    (fun x e => xorBits x (circulant e.2.2 ((u.drop (e.2.1 * c.z)).take c.z))) (List.replicate c.z false)

/-- The parity blocks from row `i`, `p` being the block before: the staircase makes each the row's sum and its
predecessor (R156). -/
def Code.parityFrom (c : Code) (u : List Bool) : Nat → Nat → List Bool → List Bool
  | 0, _, _ => []
  | n + 1, i, p => let q := xorBits p (c.rowSum u i); q ++ Code.parityFrom c u n (i + 1) q

/-- The codeword that is written for a record: its bits and the parity bits. -/
def Code.encode (c : Code) (record : List Byte) : List Bool :=
  let u := c.info record
  u.drop (c.kb * c.z - 33024) ++ c.parityFrom u c.mb 0 (List.replicate c.z false)

/-- The bits of sector `k`, by the data-angle bit at which each run of them begins (R152): preamble and sync mark, then the
codeword and the dram, each resumed after a wedge with 0xB4_7A19. -/
def Format.sector (f : Format) (k : Nat) (record : List Byte) : List (Nat × List Bool) :=
  let field := f.code.encode record ++ (List.range f.dram).map (fun i => decide (i % 8 < 4))
  (f.start k, (List.range f.pre).map (fun i => decide (i % 4 < 2)) ++ bitsBE 32 0x5B2EC0D3) ::
    (f.pieces k).map (fun r => (r.angle, (if r.resumed then bitsBE 24 0xB47A19 else []) ++ (field.drop r.first).take r.len))

/-- The data-angle bit after sector `k`'s last. -/
def Format.stop (f : Format) (k : Nat) : Nat :=
  match (f.pieces k).getLast? with
  | some r => r.angle + (if r.resumed then 24 else 0) + r.len
  | none => f.start k

/-- The head of actuator `a` serves a track under head `head` of the actuator: RWC_STATUS.ZONE follows it, and a change of
zone or ratio leaves the channel's multiplier to settle (R147). -/
def State.headTo (s : State) (a head track : Nat) : State :=
  let x := s.rw a
  let z := if maker head track || s.tables.zones.isEmpty then s.getF Reg.RWC_STATUS_ZONE a else s.tables.zoneOf track
  let m := (s.ratioOf head track).getD x.ratio
  if z = s.getF Reg.RWC_STATUS_ZONE a ∧ m = x.ratio then s
  else (s.setF Reg.RWC_STATUS_ZONE a z).setRw a { x with ratio := m, settled := false }

end Sys2Proof.Machine
end

