-- ==== Sys2Proof/Machine/Loop.lean ====
section
/-! DEFINITION. The loop engine (spec/08): the jerk-limited profile, the actuator control law, missed wedges and lost
position, the spindle speed loop, seeks, coefficient banks and shock. Every result is the exact sum or product rounded
once into its format (R174); log entry 40 names the formats that R173 does not give. -/

namespace Sys2Proof.Machine

/-! ## The profile (R180, R181)

A profile is the list of the segments still to run; it ends at rest at the goal. The reference is what the segments,
run backward from the goal, give. Exact scales: acceleration 2⁴⁸, velocity 2 · 2⁸⁰, position 6 · 2¹¹². -/

/-- One segment run backward. -/
def segBack (x : Int × Int × Int) (g : Segment) : Int × Int × Int :=
  let t : Int := g.left
  let j := g.jerk
  let (a, v, p) := x
  (a - j * t, v - 2 * a * t + j * t * t, p - 3 * v * t + 3 * a * t * t - j * t * t * t)

/-- One segment run forward. -/
def segForth (x : Int × Int × Int) (g : Segment) : Int × Int × Int :=
  let t : Int := g.left
  let j := g.jerk
  let (a, v, p) := x
  (a + j * t, v + 2 * a * t + j * t * t, p + 3 * v * t + 3 * a * t * t + j * t * t * t)

/-- A quotient rounded to nearest, ties away from zero. -/
def roundDiv (v : Int) (d : Nat) : Int :=
  if 0 ≤ v then (2 * v + d) / (2 * d) else -((2 * (-v) + d) / (2 * d))

/-- The reference (position Q20.12, velocity and acceleration Q16.16) that a profile to `goal` gives. -/
def profileRef (goal : Int) (l : List Segment) : Int × Int × Int :=
  let (a, v, p) := l.foldr (fun g x => segBack x g) (0, 0, goal * 6 * (2 ^ 100 : Nat))
  (roundDiv p (6 * 2 ^ 100), roundDiv v (2 ^ 65), roundDiv a (2 ^ 32))

/-- A profile advanced by `t` (Q0.32 ms). -/
def runProfile : Nat → List Segment → List Segment
  | _, [] => []
  | t, g :: l => if t < g.left then { g with left := g.left - t } :: l else runProfile (t - g.left) l

/-- The segments from velocity `v0` and acceleration `a0` to velocity `v1` at rest of acceleration, the fewest under the
jerk limit `j` and the acceleration limit `m`; for a change that is not negative once `a0` has been brought to 0. -/
def rise (j m : Nat) (v0 a0 v1 : Int) (sign : Int) : List Segment :=
  let dv := v1 - v0
  let top := Nat.sqrt ((2 * ((j : Int) * dv) + a0 * a0).toNat / 2)
  let t (n : Int) (d : Nat) : Nat := (n * (2 ^ 32 : Nat) / d).toNat
  if (top : Int) ≤ m then
    if a0 ≤ top then [⟨sign * j, t (top - a0) j⟩, ⟨-(sign * j), t top j⟩]
    else [⟨-(sign * j), t a0 j⟩]
  else if a0 ≤ m then
    let rest := 2 * (j : Int) * dv - (2 * (m : Int) * m - a0 * a0)
    [⟨sign * j, t ((m : Int) - a0) j⟩, ⟨0, t rest (2 * j * m)⟩, ⟨-(sign * j), t m j⟩]
  else
    let rest := 2 * (j : Int) * dv - a0 * a0
    [⟨-(sign * j), t (a0 - m) j⟩, ⟨0, t rest (2 * j * m)⟩, ⟨-(sign * j), t m j⟩]

/-- The segments of a change of velocity in either direction. -/
def velChange (j m : Nat) (v0 a0 v1 : Int) : List Segment :=
  let n := 2 * (j : Int) * (v1 - v0) - a0 * a0.natAbs
  if 0 ≤ n then rise j m v0 a0 v1 1 else rise j m (-v0) (-a0) (-v1) (-1)

/-- The distance (scale 6 · 2¹¹²) of some segments from a velocity and an acceleration. -/
def travel (v a : Int) (l : List Segment) : Int :=
  (l.foldl segForth (a * (2 ^ 32 : Nat), v * (2 ^ 65 : Nat), 0)).2.2

/-- The distance of a plan that passes through velocity `c` without cruising. -/
def planTravel (j m : Nat) (v a c : Int) : Int := travel v a (velChange j m v a c) + travel c 0 (velChange j m c 0 0)

/-- The highest velocity in `lo … lo + 2 ^ n − 1` whose plan does not pass the goal. -/
def peakFor (j m : Nat) (v a d : Int) : Nat → Int → Int
  | 0, lo => lo
  | n + 1, lo =>
    let mid := lo + (2 ^ n : Nat)
    peakFor j m v a d n (if planTravel j m v a mid ≤ d then mid else lo)

/-- The profile from a reference to rest at `goal` (R180). -/
def plan (j m vmax : Nat) (p v a goal : Int) : List Segment :=
  let d := (goal - p) * 6 * (2 ^ 100 : Nat)
  let top : Int := vmax
  let c := if planTravel j m v a top ≤ d then top
    else if d ≤ planTravel j m v a (-top) then -top
    else min top (peakFor j m v a d 33 (-top))
  let rest := d - planTravel j m v a c
  let cruise := if c = top ∨ c = -top then (rest / (6 * c * (2 ^ 64 : Nat))).toNat else 0
  (velChange j m v a c ++ [({ jerk := 0, left := cruise } : Segment)] ++ velChange j m c 0 0).filter (fun (g : Segment) => g.left != 0)

/-! ## Seeks (R179 to R183) -/

/-- The offset of step 5 becomes `off` (R183). Estimate and reference are kept with the offset removed, as the measurement
is (R175): the reference stands that much off the target, and a profile moves it back there (log entry 40). -/
def Loop.rebase (l : Loop) (off : Int) : Loop :=
  { l with p := clampI (l.p + l.jog - off) 0 4294967295, rPos := clampI (l.rPos + l.jog - off) 0 4294967295, jog := off, want := off }

/-- A seek to the loop's target is planned from the reference of this sample (R180, R181, R189); `torn` of a gate that
leaving TRACK forces off. -/
def State.planSeek (s : State) (a : Nat) (torn : Bool) : State :=
  let l := s.loop a
  let lim := if s.actState (1 - a) == 4 then s.getF Reg.A_MAX_DUAL_LIMIT a else s.getF Reg.A_MAX_LIMIT a
  let prof := plan (s.getF Reg.J_MAX_LIMIT a) lim (s.getF Reg.V_MAX_LIMIT a) l.rPos l.rVel l.rAcc l.target
  -- the target lies behind the point at which the reference would stop (R182)
  let stop := l.rPos * 6 * (2 ^ 100 : Nat) + travel l.rVel l.rAcc (velChange (s.getF Reg.J_MAX_LIMIT a) lim l.rVel l.rAcc 0)
  let g := l.target * 6 * (2 ^ 100 : Nat)
  let behind := (0 < l.rVel && g < stop) || (l.rVel < 0 && stop < g)
  let st := s.actState a
  let new := st != 4 || (l.rVel == 0 && l.rAcc == 0) || behind
  (s.setLoop a { l with profile := prof, seekCount := if new then 0 else l.seekCount
                        seekFailed := if new then false else l.seekFailed }).setAct a 4 torn

/-- A target is given to actuator `a` (R179, R181): it is taken at the next sample, or held in LOST and ACQUIRE. One equal
to the current target has no effect. -/
def State.giveTarget (s : State) (a track head : Nat) : State :=
  let l := s.loop a
  let st := s.actState a
  if st = 2 ∨ st = 6 then (s.setLoop a { l with held := some (track, head) }).headTo a head track
  else if 3 ≤ st ∧ st ≤ 5 then
    let now := l.replan.getD ((l.target / 4096).toNat, l.head)
    if now = (track, head) ∧ (l.replan.isSome ∨ l.target % 4096 = 0) then s
    else (s.setLoop a { l with replan := some (track, head), want := 0 }).headTo a head track
  else s

/-- The target that waits, and the offset that the channel asks for, are taken at a sample in TRACK, SEEK or SETTLE (R181,
R183). -/
def State.takeTarget (s : State) (a : Nat) (torn : Bool) : State :=
  let l := s.loop a
  match l.replan.orElse (fun _ => l.held) with
  | some (track, head) =>
    (((s.setLoop a { l.rebase l.want with target := (track : Int) * 4096, head := head, headNew := head != l.head || l.headNew
                                          held := none, replan := none }).headTo a head track)).planSeek a torn
  | none => if l.want = l.jog then s else (s.setLoop a (l.rebase l.want)).planSeek a torn

/-- The channel asks for an offset (R183): the change is a seek, taken at the next sample. -/
def State.askJog (s : State) (a : Nat) (off : Int) : State := s.setLoop a { s.loop a with want := off }

/-! ## The control law (R175, R178, R186, R187) -/

/-- One notch: a direct-form-I biquad (R175). -/
def biquad (b0 b1 b2 a1 a2 x : Int) (h : Notch) : Int × Notch :=
  let y := satI 32 (roundShift (satI 64 (b0 * x + b1 * h.x1 + b2 * h.x2 - a1 * h.y1 - a2 * h.y2)) 20)
  (y, { x1 := x, x2 := h.x1, y1 := y, y2 := h.y1 })

/-- The four notches of loop `a` in turn, from notch `j`. -/
def State.filter (s : State) (a : Nat) : Nat → Int → List Notch → Int × List Notch
  | _, x, [] => (x, [])
  | j, x, h :: l =>
    let c (i : Nat) : Int := s.coef a (16 + 5 * j + i)
    let r := biquad (c 0) (c 1) (c 2) (c 3) (c 4) x h
    let t := s.filter a (j + 1) r.1 l
    (t.1, r.2 :: t.2)

/-- The masked loop changes its bank at this sample boundary (R185). -/
def State.swapBank (s : State) (l : Nat) : State :=
  if s.swap.contains l then
    let s := s.setF Reg.LOOP_BANKS_ACTIVE 0 ((BitVec.ofNat 3 (s.getF Reg.LOOP_BANKS_ACTIVE)) ^^^ BitVec.ofNat 3 (2 ^ l)).toNat
    let s := if s.swapClear && decide (l < 2) then s.setLoop l { s.loop l with notches := [{}, {}, {}, {}] } else s
    { s with swap := s.swap.filter (· != l) }
  else s

/-- The output of loop `a` is handed to the die link; one that saturates is counted (R174). `x` has 36 fraction bits. -/
def State.output (s : State) (a : Nat) (x : Int) : State :=
  let lim : Int := s.getF Reg.I_LIM_I_LIM a
  let u := roundShift (satI 64 x) 36
  let s := if u < -lim ∨ lim < u then
      (s.bump Reg.CNT_SAT_COUNT a).setF Reg.LOOP_EVENTS_SAT 0 (BitVec.ofNat 2 (s.getF Reg.LOOP_EVENTS_SAT) ||| BitVec.ofNat 2 (2 ^ a)).toNat
    else s
  s.setLoop a { s.loop a with uPrev := clampI u (-lim) lim }

/-- Position is lost (R187); no offset is asked for any more. -/
def State.positionLost (s : State) (a : Nat) (torn : Bool) : State :=
  let s := s.setLoop a ((s.loop a).rebase 0)
  let s := s.bump Reg.CNT_LOST_COUNT a
  let s := s.setF Reg.LOOP_EVENTS_LOST 0 (BitVec.ofNat 2 (s.getF Reg.LOOP_EVENTS_LOST) ||| BitVec.ofNat 2 (2 ^ a)).toNat
  ((s.event 0x27 a 0 (s.getF Reg.CNT_LOST_COUNT a)).emcy 0xFF04 (BitVec.ofNat 8 a) (s.getF Reg.CNT_LOST_COUNT a)).setAct a 6 torn

/-- The prediction of the observer (R175): p⁻ and v⁻. -/
def State.predict (s : State) (a : Nat) (t : Nat) : Int × Int :=
  let l := s.loop a
  let g := satI 32 (roundShift (s.coef a 0 * l.uPrev + l.b * 16) 4)
  let ti : Int := t
  let p := roundShift (l.p * (2 ^ 69 : Nat) + l.v * ti * (2 ^ 33 : Nat) + g * ti * ti) 69
  (clampI p 0 4294967295, satI 32 (roundShift (l.v * (2 ^ 32 : Nat) + g * ti) 32))

/-- The burst amplitude sum lies in 50 to 200 % of its running mean (R186); with no mean yet it does. -/
def burstOk (mean x : Nat) : Bool := mean == 0 || (decide (mean ≤ 2 * x) && decide (x ≤ 2 * mean))

/-- The shock count `c` of actuator `a` has not yet reached its `n`-th sample (R188). -/
def shockRuns (c : Option Nat) (n : Nat) : Bool := match c with | some k => decide (k < n) | none => false

/-- The on-track flags and write inhibit at a sample (R178); write inhibit forces an open gate off. -/
def State.trackFlags (s : State) (a : Nat) (missed torn : Bool) : State :=
  let l := s.loop a
  let track := s.actState a == 3
  let pes := (l.pesHist.head?.map (·.1)).getD 0
  let n := s.getF Reg.COUNTS_WR_N a
  let quiet := !shockRuns l.shockHold (s.getF Reg.SHK_CTRL_SHK_HOLD) && !shockRuns l.shockQuiet (s.getF Reg.SHK_CTRL_SHK_QUIET) && !s.shock.low
  let rd := track && decide (pes ≤ s.getF Reg.LIM_RD_RD_LIM a)
  let wr := track && l.jog == 0 && l.want == 0 && quiet && decide (n ≤ l.pesHist.length) &&
    (l.pesHist.take n).all (fun x => decide (x.1 ≤ s.getF Reg.LIM_WR_WR_LIM a) && !x.2)
  let inh := !track || decide (s.getF Reg.LIM_WR_WI_LIM a < pes) || missed || s.shock.low
  let s := ((s.setBit Reg.ACT_STATE_ON_TRK_RD a rd).setBit Reg.ACT_STATE_ON_TRK_WR a wr).setBit Reg.ACT_STATE_WINH a inh
  if inh then s.forceOff a 4 torn else s

/-- The sample counts of R188, from the rise of SHOCK_N, and of R182. -/
def State.countSamples (s : State) (a : Nat) : State :=
  let l := s.loop a
  let up (c : Option Nat) : Option Nat := if s.shock.low then c else c.map (· + 1)
  s.setLoop a { l with shockHold := up l.shockHold, shockQuiet := up l.shockQuiet, seekCount := l.seekCount + 1 }

/-- The servo window of actuator `a`, marks to either side of the expected position (R171, R187). -/
def State.servoWindow (s : State) (a : Nat) : Nat :=
  if s.actState a = 6 then s.getF Reg.WINDOW_SV_WIN_LOST a else s.getF Reg.WINDOW_SV_WIN a

/-- The search for the servo address mark (R171): `sam` is where it was found, in 1/256 mark from where the chain angle, or
in holdover the held angle, puts the wedge. It counts within the window about the expected position, which in holdover each
mark found shifts; with no angle at all there is no window. -/
def State.searchSam (s : State) (a : Nat) (sam : Option Int) : State × Bool :=
  let l := s.loop a
  let locked := s.flag Reg.CHN_STATUS_LOCK
  let at' : Int := if locked then 0 else l.shift
  match sam with
  | some o =>
    if (locked || s.flag Reg.CHN_STATUS_HOLDOVER) && decide ((o - at').natAbs ≤ 256 * s.servoWindow a) then
      (s.setLoop a { l with shift := if locked then 0 else o }, true)
    else (s.setLoop a { l with shift := at' }, false)
  | none => (s.setLoop a { l with shift := at' }, false)

/-- The position as the registers show it (R192): the estimate, and PES. -/
def State.showPos (s : State) (a : Nat) (p pes : Int) : State :=
  (s.setF Reg.ACT_PES_PES a (unsigned 16 (satI 16 pes))).setF Reg.ACT_POS_P a p.toNat

/-- A sample in ACQUIRE or LOST (R177, R186, R187): the wedges are searched, the output is KB·b. The first wedge found has
none before it to be predicted from. -/
def State.searchSample (s : State) (a : Nat) (found : Bool) (y t : Nat) : State :=
  let l := s.loop a
  let pv := s.predict a t
  let near := decide ((y : Int) - pv.1 ≤ 256 * (s.getF Reg.WINDOW_MISS_DEV a : Int)) &&
    decide (pv.1 - (y : Int) ≤ 256 * (s.getF Reg.WINDOW_MISS_DEV a : Int))
  let valid := found && (l.acq == 0 || near)
  let n := if valid then l.acq + 1 else 0
  let p : Int := if valid then y else pv.1
  let v := if valid && l.acq != 0 then
      satI 32 (roundShift (pv.2 * 65536 + s.coef a 2 * satI 32 ((y : Int) - pv.1)) 16)
    else pv.2
  let s := (s.setLoop a { l with p := p, v := v, acq := n }).showPos a p (satI 32 (p - l.rPos))
  let s := if valid then s.setF Reg.ACT_STATE_MISS a 0
    else (s.setF Reg.ACT_STATE_MISS a (satN 3 (s.getF Reg.ACT_STATE_MISS a + 1))).bump Reg.CNT_MISS_COUNT a
  if s.getF Reg.COUNTS_ACQ_N a ≤ n then
    -- position is regained: the reference is set to it
    let s := s.setLoop a { s.loop a with rPos := y, rVel := 0, rAcc := 0, profile := [], target := y, jog := 0, want := 0, acq := 0
                                         headNew := false, settle := 0, pesHist := [(0, false)] }
    let s := (s.showPos a y 0).headTo a (s.loop a).head (y / 4096)
    ((s.event 0x28 a 0 (y / 4096)).setAct a 3 true).output a (s.coef a 11 * (s.loop a).b)
  else s.output a (s.coef a 11 * (s.loop a).b)

/-- A sample in TRACK, SEEK or SETTLE (R175, R182, R186, R187). -/
def State.trackSample (s : State) (a : Nat) (found : Bool) (measured t : Nat) (torn : Bool) : State :=
  -- the reference advances by T; a new target is planned from it
  let l := s.loop a
  let prof := runProfile t l.profile
  let r := profileRef l.target prof
  let s := if s.actState a = 4 then
      s.setLoop a { l with profile := prof, rPos := clampI r.1 0 4294967295, rVel := satI 32 r.2.1, rAcc := satI 32 r.2.2 }
    else s
  let s := s.takeTarget a torn
  let s := if s.actState a = 4 && (s.loop a).profile.isEmpty then
      (s.setLoop a { s.loop a with rPos := clampI (s.loop a).target 0 4294967295, rVel := 0, rAcc := 0, settle := 0 }).setAct a 5 torn
    else s
  -- the observer
  let l := s.loop a
  let pv := s.predict a t
  let dev : Int := 256 * s.getF Reg.WINDOW_MISS_DEV a
  let y := clampI ((measured : Int) - l.jog) 0 4294967295
  let e := satI 32 (y - pv.1)
  let valid := found && (l.headNew || (decide (e ≤ dev) && decide (-dev ≤ e)))
  let p := if !valid then pv.1 else if l.headNew then y else clampI (roundShift (pv.1 * (2 ^ 20 : Nat) + s.coef a 1 * e) 20) 0 4294967295
  let v := if valid && !l.headNew then satI 32 (roundShift (pv.2 * 65536 + s.coef a 2 * e) 16) else pv.2
  let b := if valid && !l.headNew then satI 32 (roundShift (l.b * 65536 + s.coef a 3 * e) 16) else l.b
  let pes := satI 32 ((if valid then y else p) - l.rPos)
  let s := s.setLoop a { l with p := p, v := v, b := b, headNew := l.headNew && !valid
                                pesHist := ((pes.natAbs, !valid) :: l.pesHist).take 15
                                settle := if pes.natAbs ≤ s.getF Reg.LIM_RD_SETTLE_LIM a then l.settle + 1 else 0 }
  let s := s.showPos a p pes
  let s := if valid then s.setF Reg.ACT_STATE_MISS a 0
    else (s.setF Reg.ACT_STATE_MISS a (satN 3 (s.getF Reg.ACT_STATE_MISS a + 1))).bump Reg.CNT_MISS_COUNT a
  if 4 ≤ s.getF Reg.ACT_STATE_MISS a then
    ((s.positionLost a torn).setLoop a { s.loop a with acq := 0 }).output a (s.coef a 11 * b)
  else
    let s := if s.actState a = 5 && decide (s.getF Reg.COUNTS_SETTLE_N a ≤ (s.loop a).settle) then
        (s.setAct a 3 torn).raise Reg.ACT_STATE_SEEK_DONE a
      else s
    -- the control law
    let l := s.loop a
    let err := satI 32 (l.rPos - p)
    let ev := satI 32 (l.rVel - v)
    let st := s.actState a
    let frozen := (st != 3 && st != 5) || shockRuns l.shockHold (s.getF Reg.SHK_CTRL_SHK_HOLD) || s.shock.low
    let lim := s.iClamp a * 65536
    let i := if frozen then l.i else clampI (roundShift (l.i * 65536 + s.coef a 5 * err) 16) (-lim) lim
    let x := satI 32 (roundShift (satI 64 (s.coef a 4 * err * 16 + s.coef a 6 * ev + i * (2 ^ 20 : Nat))) 20)
    let f := s.filter a 0 x l.notches
    let shk := if s.flag Reg.SHK_CTRL_FF_EN then s.shock.sample else 0
    let s := s.setLoop a { l with i := i, notches := f.2 }
    s.output a (f.1 * (2 ^ 20 : Nat) + s.coef a 8 * l.rAcc + s.coef a 9 * (s.loop (1 - a)).rAcc + s.coef a 10 * shk * 65536 +
      s.coef a 11 * b)

/-- SERVO_SAMPLE (R171, R175, R178, R182, R185 to R187): the end of a wedge of actuator `a`. `sam`: where the servo address
mark was found, in 1/256 mark from where the angle puts the wedge; `parity`: the Gray code passes; `burst`: the amplitude sum; `y`: the measured position, Q20.12; `t`: the sample
interval, Q0.32 ms; `torn` of a gate that this sample forces off. -/
def execServoSample (a : Nat) (sam : Option Int) (parity : Bool) (burst : Nat) (y t : Word) (torn : Bool) (s : State) :
    Host.Outcome State Fault Refusal :=
  .next (s.whenLive (fun s => s.when' (decide (2 ≤ s.actState a ∧ s.actState a ≤ 6)) (fun s =>
    let x := ((s.swapBank a).countSamples a).searchSam a sam
    let s := x.1
    let l := s.loop a
    let found := x.2 && parity && burstOk l.burst burst
    let s := if found then s.setLoop a { l with burst := if l.burst = 0 then burst else (15 * l.burst + burst) / 16 } else s
    let s := if s.actState a = 2 ∨ s.actState a = 6 then s.searchSample a found y.toNat t.toNat
      else s.trackSample a found y.toNat t.toNat torn
    s.trackFlags a ((s.loop a).pesHist.head?.map (·.2) |>.getD (!found)) torn)))

/-- SEEK_TIMEOUT (R182): TRACK was not reached within SEEK_TMO samples of the seek's start. -/
def execSeekTimeout (a : Nat) (s : State) : Host.Outcome State Fault Refusal :=
  .next (s.whenLive (fun s =>
    let l := s.loop a
    s.when' ((s.actState a == 4 || s.actState a == 5) && !l.seekFailed && decide (s.getF Reg.COUNTS_SEEK_TMO a ≤ l.seekCount)) (fun s =>
      ((s.setLoop a { l with seekFailed := true }).raise Reg.LOOP_EVENTS_SEEK_FAIL).event 0x26 a 0 (l.target / 4096).toNat)))

/-- LOST_TIMEOUT (R187, R191): position was not regained within LOST_TMO: the power die is asked to retract. -/
def execLostTimeout (a : Nat) (s : State) : Host.Outcome State Fault Refusal :=
  .next (s.whenLive (fun s => s.when' (s.actState a == 2 || s.actState a == 6) (fun s => s.retractLoop a true)))

/-! ## The spindle speed loop (R176, R207) -/

/-- The spindle is judged to be at speed, or no longer (R207); the drive is no longer being heated (R209) and
the spin-up charge leaves the account when speed is reached. -/
def State.judgeSpeed (s : State) : State :=
  let n := s.nSet
  let dev (x : Nat) : Nat := ((x : Int) - 8 * (n : Int)).natAbs
  let near := s.flag Reg.CHN_STATUS_LOCK && decide (256 * dev (s.getF Reg.CHN_RPM_RPM8) ≤ 8 * n)
  let far := decide (8 * n < 64 * dev s.measured8)
  let atN := s.getF Reg.SPN_THR2_AT_N
  let s := s.modSpn (fun p => { p with atCount := if near then p.atCount + 1 else 0, offCount := if far then p.offCount + 1 else 0 })
  if !s.atSpeed && near && decide (atN ≤ s.spindle.atCount) && s.spn == 7 then
    let s := ((s.raise Reg.SPN_STATE_AT_SPEED).raise Reg.SPN_EVENTS_AT_SPEED_UP).lower Reg.SPN_STATE_HEATING
    { s with power := { s.power with spinup := none } }
  else if s.atSpeed && far && decide (atN ≤ s.spindle.offCount) then s.lower Reg.SPN_STATE_AT_SPEED
  else s

/-- The speed loop computes (R176): `period` is the mean mark period in picoseconds. -/
def State.speedLoop (s : State) (period : Nat) : State :=
  let lock := s.flag Reg.CHN_STATUS_LOCK
  -- rpm with 16 fraction bits
  let w : Int := if lock then roundDiv 60000000000000 period else (s.getF Reg.SPN_EST_RPM8 : Int) * 8192
  let e := (s.nSet : Int) * 65536 - w
  let lim := s.iClamp 2 * 65536
  let i := if lock then clampI (roundShift (s.spl.i * (2 ^ 20 : Nat) + s.coef 2 5 * e) 20) (-lim) lim else s.spl.i
  let m : Int := s.getF Reg.SPD_ILIM_I_LIM_S
  let u := satI 16 (clampI (roundShift (satI 64 (s.coef 2 4 * e + i * (2 ^ 20 : Nat) + s.feedFwd)) 36) (-m) m)
  State.setF { s with spl := { i := i, u := u } } Reg.SPD_CMD_CMD 0 (unsigned 16 u)

/-- A reading of the shock sensor (R188). -/
def State.shockReading (s : State) (r : BitVec 16) : State :=
  let v := signed 16 r.toNat
  { s with shock := { s.shock with sample := v, peak := if s.shock.low then max s.shock.peak v.natAbs else s.shock.peak } }

/-- A PARK action of the monitors names actuator `a` (spec/17 R350): action 2 of a slot that is asserted. -/
def State.parkAsked (s : State) (a : Nat) : Bool :=
  s.mon.slots.any (fun e => e.2.asserted && s.getF Reg.THR0_ACTION e.1 == 2 && bitOf (s.getF Reg.THR2_ARG e.1) a)

/-- Every PARK action is suspended from step 1 of R230 until PL_DONE or RETURN (R351). -/
def State.parkSuspended (s : State) : Bool := s.getF Reg.ENG_STATUS_PL_STEP != 0 && !s.flag Reg.ENG_STATUS_PL_DONE

/-- A PARK action holds actuator `a`. -/
def State.parkHeld (s : State) (a : Nat) : Bool := s.parkAsked a && !s.parkSuspended

/-- An actuator that a PARK action held parked is loaded for the drain once the spindle turns fast enough (R351). -/
def State.drainLoad (s : State) : State :=
  if s.parkSuspended && decide (8 * s.getF Reg.SPN_THR_UNLOAD_RPM ≤ s.measured8) then
    s.each [0, 1] (fun s a => if s.parkAsked a && s.actState a == 1 && !(s.rw a).records.isEmpty then
      s.setLoop a { s.loop a with loadReq := true, retReq := false } else s)
  else s

/-- SPINDLE_SAMPLE (R176, R185, R188, R207, R217): a chain-angle wedge boundary. `shock` is the sensor's reading where R188
takes one. -/
def execSpindleSample (period : Nat) (shock : BitVec 16) (tornA tornB : Bool) (s : State) : Host.Outcome State Fault Refusal :=
  .next (s.whenLive (fun s =>
    let s := s.swapBank 2
    let s := if s.flag Reg.SHK_CTRL_FF_EN || s.shock.low then s.shockReading shock else s
    let s := if bitOf (s.getF Reg.LOOP_CTRL_EN) 2 then s.speedLoop period else s
    (((s.rekin).judgeSpeed).unloadCheck tornA tornB).drainLoad))

/-! ## Commands of the loop (R179, R184, R185, R190 to R192) -/

/-- ACT_SEEK (R179): ACT_CMD = SEEK to SEEK_TGT. ACT_CMD is WO, so any writer's write acts. -/
def execActSeek (_src a : Nat) (s : State) : Host.Outcome State Fault Refusal :=
  .next (s.whenLive (fun s =>
    let h := s.getF Reg.SEEK_TGT_HEAD a
    let st := s.actState a
    if s.flag Reg.RWC_CTRL_EN a || h / 4 != a || decide (st ≤ 1) || st == 7 then s.raise Reg.LOOP_EVENTS_SEEK_REJECT
    else s.giveTarget a (s.getF Reg.SEEK_TGT_TRACK a) (h % 4)))

/-- ACT_PARK (R190): ACT_CMD = PARK. An actuator already on the ramp, or on its way, has nothing to park. -/
def execActPark (_src a : Nat) (torn : Bool) (s : State) : Host.Outcome State Fault Refusal :=
  .next (s.whenLive (fun s =>
    if s.actState a == 7 || (s.atRest a && !(s.loop a).loadReq) then s else s.retractLoop a torn))

/-- ACT_ACQUIRE (R191): ACT_CMD = ACQUIRE. -/
def execActAcquire (_src a : Nat) (s : State) : Host.Outcome State Fault Refusal :=
  .next (s.whenLive (fun s =>
    if s.actState a == 1 && s.atSpeed && !s.flag Reg.DL_STATUS_DOWN && !s.parkHeld a then
      s.setLoop a { s.loop a with loadReq := true, retReq := false }
    else s.raise Reg.LOOP_EVENTS_SEEK_REJECT))

/-- LOAD_TIMEOUT (R191): the heads were not reported loaded within 100 ms; the power die retracts the actuator. -/
def execLoadTimeout (a : Nat) (s : State) : Host.Outcome State Fault Refusal :=
  .next (s.whenLive (fun s => s.when' (s.loop a).loadReq (fun s =>
    let s : State := { s with power := { s.power with retract := sput false a true s.power.retract, loadReq := sput false a false s.power.loadReq } }
    ((s.setLoop a { s.loop a with loadReq := false }).raise Reg.LOOP_EVENTS_SEEK_FAIL).event 0x26 a 0 0)))

/-- LOOP_SWAP (R185): WO, so any writer's write acts. -/
def execLoopSwap (_src : Nat) (v : Word) (s : State) : Host.Outcome State Fault Refusal :=
  .next (s.whenLive (fun s =>
    let m := bitsOf v.toNat 0 3
    if !s.swap.isEmpty || m == 0 then s.raise Reg.LOOP_EVENTS_SWAP_REJECT
    else { s with swap := [0, 1, 2].filter (bitOf m), swapClear := bitOf v.toNat 3 }))

/-- COEF_BANK_WRITE (R184, R193): a word of the inactive bank of a loop; the words that R193 does not name are reserved, and
I_CLAMP has 16 bits. -/
def execCoefBankWrite (src addr : Nat) (v : Word) (s : State) : Host.Outcome State Fault Refusal :=
  .next (s.whenLive (fun s =>
    let k := (addr - 0x40071000) / 512
    if !privileged src then s.denied src (regDetail addr)
    else if !s.swap.isEmpty || b2n (bitOf (s.getF Reg.LOOP_BANKS_ACTIVE) (k / 2)) == k % 2 then s.raise Reg.LOOP_EVENTS_BANK_REJECT
    else
      match (addr - 0x40071000) % 512 with
      | 0x34 | 0x38 | 0x3C => s
      | 0x1C => s.genericWrite src addr (v &&& 0xFFFF)
      | _ => s.genericWrite src addr v))

/-- EN_A or EN_B takes a written bit (R191, R192). -/
def State.loopEnable (s : State) (a : Nat) (on : Bool) : State :=
  let en := s.getF Reg.LOOP_CTRL_EN
  if bitOf en a == on then s
  else if !on && (!s.atRest a || (s.loop a).loadReq) then s.raise Reg.LOOP_EVENTS_BANK_REJECT
  else
    let s := s.setF Reg.LOOP_CTRL_EN 0 (if on then en + 2 ^ a else en - 2 ^ a)
    s.setAct a (b2n on) false

/-- LOOP_CTRL_WRITE (R191, R192; spec/16 R334). -/
def execLoopCtrlWrite (src : Nat) (v : Word) (s : State) : Host.Outcome State Fault Refusal :=
  .next (s.whenLive (fun s =>
    if !privileged src then s.denied src (regDetail 0x40070000)
    else if bitsOf v.toNat 0 3 != 0 && !s.onPll 2 then s.runReject src 0x40070000
    else
      let s := (s.loopEnable 0 (bitOf v.toNat 0)).loopEnable 1 (bitOf v.toNat 1)
      let en := s.getF Reg.LOOP_CTRL_EN
      s.setF Reg.LOOP_CTRL_EN 0 (en % 4 + 4 * bitsOf v.toNat 2 1)))

/-! ## Shock (R188) -/

/-- SHOCK_ASSERT (R160 cause 5, R188): SHOCK_N falls; the sensor is read once. -/
def execShockAssert (reading : BitVec 16) (tornA tornB : Bool) (s : State) : Host.Outcome State Fault Refusal :=
  .next (s.whenLive (fun s =>
    let s := State.shockReading { s with shock := { s.shock with low := true, peak := 0 } } reading
    let s := s.each [0, 1] (fun s a =>
      ((s.setLoop a { s.loop a with shockHold := some 0, shockQuiet := some 0 }).lower Reg.ACT_STATE_ON_TRK_WR a).raise Reg.ACT_STATE_WINH a)
    (s.forceOff 0 5 tornA).forceOff 1 5 tornB))

/-- SHOCK_RELEASE (R188): SHOCK_N rises; the peak is recorded, and the sample counts begin. -/
def execShockRelease (s : State) : Host.Outcome State Fault Refusal :=
  .next (s.whenLive (fun s => s.when' s.shock.low (fun s =>
    let s : State := { s with shock := { s.shock with low := false } }
    (s.setF Reg.SHK_LAST_PEAK 0 s.shock.peak).event 0x29 0 0 s.shock.peak)))

/-- SHOCK_HOLD_END (R188): the SHK_HOLD-th sample after the rise; the integrator of actuator `a` is released. -/
def execShockHoldEnd (a : Nat) (s : State) : Host.Outcome State Fault Refusal :=
  .next (s.whenLive (fun s =>
    match (s.loop a).shockHold with
    | some n => if !s.shock.low && decide (s.getF Reg.SHK_CTRL_SHK_HOLD ≤ n) then s.setLoop a { s.loop a with shockHold := none } else s
    | none => s))

/-- SHOCK_QUIET_END (R178, R188): the SHK_QUIET-th sample after the rise; ON_TRK_WR is judged anew. -/
def execShockQuietEnd (a : Nat) (s : State) : Host.Outcome State Fault Refusal :=
  .next (s.whenLive (fun s =>
    match (s.loop a).shockQuiet with
    | some n =>
      if !s.shock.low && decide (s.getF Reg.SHK_CTRL_SHK_QUIET ≤ n) then
        let s := s.setLoop a { s.loop a with shockQuiet := none }
        s.trackFlags a (((s.loop a).pesHist.head?.map (·.2)).getD true) true
      else s
    | none => s))

end Sys2Proof.Machine
end

