-- ==== Sys2Proof/Machine/Channels.lean ====
section
/-! DEFINITION. The chain band, the tables and the bushel map, and the read/write channels (spec/07): lock and its loss,
write gates, sector reads with their ladder, the sector-read port and the angular events. -/

namespace Sys2Proof.Machine

/-! ## Tables and the bushel map (R151, R158) -/

/-- TABLE_APPLY (R151): refused at the first check that fails. APPLY is WO, so any writer's write acts. -/
def State.tableApply (s : State) : State :=
  if s.flag Reg.RWC_CTRL_EN 0 || s.flag Reg.RWC_CTRL_EN 1 then
    (s.setF Reg.TABLE_STATUS_FAIL_CAUSE 0 1).raise Reg.CHN_EVENTS_ZT_REJECT
  else
    match [1, 2, 3].find? (fun c => s.codeLoaded c && !s.codeOk c) with
    | some c => (s.setF Reg.TABLE_STATUS_FAIL_CAUSE 0 2).setF Reg.TABLE_STATUS_FAIL_CODE 0 c
    | none =>
      match (List.range 32).find? s.zoneFault with
      | some z => (s.setF Reg.TABLE_STATUS_FAIL_CAUSE 0 3).setF Reg.TABLE_STATUS_FAIL_ZONE 0 z
      | none =>
        let t := s.stagedTables
        match (List.range 8192).find? (fun b => s.flag Reg.BMAP_VALID b &&
            runFault t.zones t.tracks (s.getF Reg.BMAP_ZONE b) (s.getF Reg.BMAP_START_TRACK b)) with
        | some b =>
          ((s.setF Reg.TABLE_STATUS_FAIL_CAUSE 0 4).setF Reg.TABLE_STATUS_FAIL_ZONE 0 (s.getF Reg.BMAP_ZONE b)).setF
            Reg.TABLE_STATUS_FAIL_BUSHEL 0 b
        | none =>
          let least := t.zones.foldl (fun a y => min a y.2.2.2.1) 65535
          let s : State := { s with tables := t }
          let s := (((s.raise Reg.TABLE_STATUS_OK).setF Reg.TABLE_STATUS_FAIL_CAUSE 0 0).setF Reg.ZONE_SMIN_GRAINS 0 least).media
          s.each [0, 1] (fun s a => s.headTo a (s.loop a).head ((s.loop a).target / 4096).toNat)

/-- TABLE_APPLY (R151). -/
def execTableApply (_src : Nat) (s : State) : Host.Outcome State Fault Refusal := .next (s.whenLive State.tableApply)

/-- The reads of commands that wait for a place of bushel `b`, whose map entry is no longer VALID, fail (R122). -/
def State.unplaced (s : State) (b : Nat) : State :=
  if s.flag Reg.BMAP_VALID b then s
  else
    let l := [0, 1].flatMap (fun a => ((s.rw a).reading.toList ++ (s.rw a).reads).filter (fun r => r.what != .port && r.bushel == b))
    l.foldl (fun s r => match r.what with | .command tag => s.readFail tag 0x26 r.seq | .port => s) s

/-- BMAP_WRITE (R158): a write of VALID that cannot be placed, or any write to the entry of an OPEN bushel, is ignored. -/
def execBmapWrite (src b : Nat) (v : Word) (s : State) : Host.Outcome State Fault Refusal :=
  .next (s.whenLive (fun s =>
    let addr := 0x400B8000 + 4 * b
    let track := bitsOf v.toNat 8 20
    if !privileged src then s.denied src (regDetail addr)
    else if (s.bushel b).state == .opened ||
        (bitOf v.toNat 31 && (decide (track < 16) || runFault s.tables.zones s.tables.tracks (bitsOf v.toNat 3 5) track)) then
      s.raise Reg.CHN_EVENTS_MAP_REJECT
    else (s.genericWrite src addr v).unplaced b))

/-! ## The chain (R143 to R146) -/

/-- ANGLE_FWD (R145): REVS and the marks counted since the index, which stop at 65,535 so that it never decreases. -/
def State.angleFwd (s : State) : Nat := (65536 * s.chain.revs + s.getF Reg.CHN_ANGLE_MARK) % 2 ^ 40

/-- TARGET of an angular event. -/
def State.aevTarget (s : State) (a : Nat) : Nat := s.getF Reg.AEV0_TARGET_LO a + 2 ^ 32 * s.getF Reg.AEV1_TARGET_HI a

/-- The slots of the angular events that are armed. -/
def State.armedAevs (s : State) : List Nat := (List.range 16).filter (fun a => s.getF Reg.AEV1_STATE a == 1)

/-- A channel gate may open as far as the chain, the multiplier, the speed and the bit rate go (R147). -/
def State.gateOk (s : State) (ch : Nat) : Bool :=
  let n := s.getF Reg.CHN_RPM_RPM8
  let m := (s.rw ch).ratio
  s.flag Reg.CHN_STATUS_LOCK && (s.rw ch).settled && decide (8 * s.getF Reg.CHN_WMIN_RPM ≤ n) && decide (n ≤ 8 * 7560) &&
    decide (n * m * 65536 ≤ 2600000000 * 480)

/-- The head of channel `ch` is on `track` with head `head` of its actuator: the loop's target (R178, R179). -/
def State.onTarget (s : State) (ch track head : Nat) : Bool :=
  let l := s.loop ch
  l.head == head && decide (l.target = (track : Int) * 4096)

/-! ## The write queue (R125, R134, R159) -/

/-- A record may be written now: its page is not under repair, a seal's grains are all WRITTEN (R126), and a record on
the credit has its turn (R131). -/
def State.recReady (s : State) (r : Rec) : Bool :=
  !s.inRepair r &&
  (r.kind != .seal || !s.records.any (fun g => g.kind == .grain && g.chan == r.chan && g.intake == r.intake &&
    g.opening == r.opening && seqLe g.seq r.seq)) &&
  (!r.onCredit || (s.creditTurn r.page).map (·.form) == some r.form)

/-- The records of a queue that are the first of their bushel among those not passed over (R125, R325). -/
def State.firsts (s : State) (seen : List Nat) : List Rec → List Rec
  | [] => []
  | r :: l =>
    if s.passOver r then State.firsts s seen l
    else if seen.contains r.bushel then State.firsts s seen l
    else r :: State.firsts s (r.bushel :: seen) l

/-- The next place of the bushel of `r`; a system record goes no lower than the place it was formed for (R138). -/
def State.nextPlace (s : State) (r : Rec) : Nat :=
  let p := (s.bushel r.bushel).next
  if r.system then max p r.place else p

/-- The records of channel `ch` that may be written, one of each bushel, the oldest first. -/
def State.candidates (s : State) (ch : Nat) : List Rec :=
  (s.firsts [] (s.rw ch).wq).filter (fun r => s.recReady r && decide (s.nextPlace r < 16384))

/-- The reads of channel `ch` that may be served: its own while EN is 1 and a page is there for the grain, and the port's. -/
def State.servable (s : State) (ch : Nat) : List Read :=
  ((s.rw ch).reading.toList ++ (s.rw ch).reads).filter (fun r => match r.what with
    | .command tag => s.flag Reg.RWC_CTRL_EN ch && s.roomFor tag
    | .port => true)

/-- Between batches, reads go first while the oldest queued record is younger than RWC_WAGE and admission is open under
R27 (R159). -/
def State.readsFirst (s : State) (ch : Nat) : Bool :=
  !(s.servable ch).isEmpty && s.lendOk &&
    (match (s.rw ch).wq with
     | r :: _ => decide ((s.time.dmt - r.since).toNat < s.getF Reg.RWC_WAGE_US ch)
     | [] => true)

/-- The record that the write channel of an enabled channel writes next, and whether it starts a batch: after a loss of lock
a torn record (R163), the next of the batch, or, unless reads go first, the oldest. -/
def State.pickWrite (s : State) (ch : Nat) : Option (Rec × Bool) :=
  let x := s.rw ch
  let l := if s.flag Reg.RWC_CTRL_EN ch then s.candidates ch else []
  match l.find? (fun r => x.tornFirst && r.torn), l.find? (fun r => x.batchBushel == some r.bushel && decide (0 < x.batchLeft)) with
  | some r, _ => some (r, true)
  | none, some r => some (r, false)
  | none, none => if s.readsFirst ch then none else l.head?.map (fun r => (r, true))

/-- The read that channel `ch` serves next, unless a write goes first (R27, R159, R163). -/
def State.readTurn (s : State) (ch : Nat) : Option Read :=
  if (s.pickWrite ch).isSome || (s.rw ch).gate.isSome then none else (s.servable ch).head?

/-- Tears have used up the places of a bushel: its remaining records go on after the header of the next one (R134). -/
def State.moveRest (s : State) (r : Rec) : State :=
  let mine (x : Rec) : Bool := x.bushel == r.bushel && x.chan == r.chan && x.intake == r.intake && !x.system
  match s.records.find? (fun h => h.kind == .header && h.chan == r.chan && h.intake == r.intake && h.bushel != r.bushel) with
  | none => s
  | some h =>
    let rest := ((s.rw r.act).wq.filter mine).mapIdx (fun i (x : Rec) =>
      { x with bushel := h.bushel, gen := h.gen, act := h.act, form := if x.onCredit then s.formed + i else x.form })
    let s : State := { s with formed := s.formed + rest.length }
    let s := match rest.find? (·.kind == .grain) with
      | some g => s.setBushel r.bushel { s.bushel r.bushel with lastSeq := g.seq - 1 }
      | none => s
    let s := s.setRw r.act { s.rw r.act with wq := (s.rw r.act).wq.filter (fun x => !mine x) }
    let y := s.rw h.act
    let i := y.wq.findIdx (fun x => x.form == h.form)
    (s.setRw h.act { y with wq := y.wq.take (i + 1) ++ rest ++ y.wq.drop (i + 1) }).layPage h.page

/-- Every bushel of channel `ch` whose places are used up. -/
def State.moveExhausted (s : State) (ch : Nat) : State :=
  match (s.firsts [] (s.rw ch).wq).find? (fun r => !r.system && decide (16384 ≤ s.nextPlace r)) with
  | some r => s.moveRest r
  | none => s

/-- The conditions of a write gate of channel `ch` for record `r` but for the angle (R147, R151, R178). -/
def State.writeReady (s : State) (ch : Nat) (r : Rec) : Bool :=
  s.flag Reg.RWC_CTRL_EN ch && s.flag Reg.TABLE_STATUS_OK && s.gateOk ch && !(s.rw ch).faultLow && (s.rw ch).rgate.isNone &&
    s.flag Reg.ACT_STATE_ON_TRK_WR ch && !s.flag Reg.ACT_STATE_WINH ch &&
    (match s.placeTrack r.bushel (s.nextPlace r) with
     | some t => s.onTarget ch t (s.getF Reg.BMAP_HEAD r.bushel % 4)
     | none => false)

/-- The mark under the clock head is the one in which a sector's first bit passes head `head` (R149, R153, R154). -/
def State.atStart (s : State) (head track sector : Nat) : Bool :=
  match s.format head track with
  | some f => f.mark (f.start sector) == s.getF Reg.CHN_ANGLE_MARK
  | none => false

/-- The write gate of channel `ch` opens for record `r`: at its sector's first bit (R153). -/
def State.writeGateOk (s : State) (ch : Nat) (r : Rec) : Bool :=
  s.writeReady ch r && (match s.located r.bushel (s.nextPlace r) with | some (h, t, k) => s.atStart h t k | none => false)

/-- The bits that the gate lays down for record `r` at place `p` (R152). -/
def State.sectorBits (s : State) (r : Rec) (p : Nat) : List (Nat × List Bool) :=
  match s.located r.bushel p with
  | some (h, t, k) =>
    match s.format h t with
    | some f => f.sector k (fullHdr r.gen r.hdr ++ s.bufRead (4096 * r.page) 4096)
    | none => []
  | none => []

/-- The write gate opens for `r`, which takes its place (R159). -/
def State.openGate (s : State) (ch : Nat) (r : Rec) (new : Bool) : State :=
  let x := s.rw ch
  let p := s.nextPlace r
  let b := s.bushel r.bushel
  let s := s.setBushel r.bushel { b with next := p + 1, lastSeq := if r.kind = .grain ∧ b.state = .opened then r.seq else b.lastSeq }
  let s := if r.system && r.bushel == s.sysBushel then
      s.setF Reg.LDG_SYS_PLACE 0 (max (s.getF Reg.LDG_SYS_PLACE) (p + 1))
    else s
  let rest := x.wq.filter (fun y => y.form != r.form)
  s.setRw ch { x with gate := some { r with place := p, torn := false }, wq := rest, sector := s.sectorBits r p
                      tornFirst := x.tornFirst && rest.any (·.torn)
                      batchBushel := some r.bushel
                      batchLeft := if new then s.getF Reg.RWC_CTRL_WR_BATCH ch - 1 else x.batchLeft - 1 }

/-- The write channel reads the page of record `r`, and whether the record goes to the media (R323). With an uncorrectable
error in the page, a grain opens no gate while R324 repairs or loses it; firmware's record is not written and its checkpoint
is abandoned, with the outcome that R138 gives an abandoned command; any other record's page is rebuilt from the record
store, which holds its body. -/
def State.readForWrite (s : State) (ch : Nat) (r : Rec) : State × Bool :=
  let t := s.bufCheck (4096 * r.page) 4096 (2 + ch)
  if !t.2 then (t.1, true)
  else if r.kind = .grain then (t.1, false)
  else if r.system && !r.anchor && (match s.sys with | some c => c.begin.isNone | none => false) then
    let s := t.1.setRw ch { t.1.rw ch with wq := (t.1.rw ch).wq.filter (fun y => y.form != r.form) }
    let s := s.freePage r.page
    (State.srecRefuse { s with sys := none, time := { s.time with midCheckpoint := false } } 5, false)
  else (t.1.bufWrite (4096 * r.page) r.body, true)

/-- WRITE_GATE_OPEN (R147, R159): the gate of channel `ch` opens for the record that R159 takes next. -/
def execWriteGateOpen (ch : Nat) (s : State) : Host.Outcome State Fault Refusal :=
  .next (s.whenLive (fun s =>
    let s := s.moveExhausted ch
    if (s.rw ch).gate.isSome then s
    else
      match s.pickWrite ch with
      | some (r, new) =>
        if !s.writeGateOk ch r then s
        else
          let t := s.readForWrite ch r
          if t.2 then t.1.openGate ch r new else t.1
      | none => s))

/-! ## Loss of lock (R144, R162) -/

/-- Gates of channel `ch` scheduled for an angle not yet reached: the next of a batch under an open gate, or the record
or read that is served next. -/
def State.scheduled (s : State) (ch : Nat) : Nat :=
  let x := s.rw ch
  match x.gate with
  | some _ => b2n ((s.candidates ch).any (fun r => x.batchBushel == some r.bushel && decide (0 < x.batchLeft)))
  | none =>
    match s.pickWrite ch with
    | some (r, _) => b2n (s.writeReady ch r)
    | none => b2n (x.rgate.isNone && !(s.servable ch).isEmpty && s.gateOk ch && s.flag Reg.ACT_STATE_ON_TRK_RD ch)

/-- Lock is lost by silence (1), reversal (2) or miscount (3); the codes are those of R160. -/
def State.loseLock (s : State) (cause : Nat) (tornA tornB : Bool) : State :=
  let gates := s.scheduled 0 + s.scheduled 1
  let armed := s.armedAevs
  let s := (s.lower Reg.CHN_STATUS_LOCK).raise Reg.CHN_STATUS_HOLDOVER
  let s : State := { s with chain := { s.chain with good := 0 } }
  let s := match cause with
    | 1 => (s.raise Reg.CHN_EVENTS_STALL).event 0x23 0 0 s.angleFwd
    | 2 => (s.raise Reg.CHN_EVENTS_REVERSAL).event 0x24 0 0 s.angleFwd
    | _ => (s.raise Reg.CHN_EVENTS_MISCOUNT).event 0x2F 0 0 s.chain.since
  let s := (s.forceOff 0 cause tornA).forceOff 1 cause tornB
  let s := s.each [0, 1] (fun s a =>
    let x := s.rw a
    s.setRw a { x with reads := (x.reading.map (fun (r : Read) => { r with samples := false })).toList ++ x.reads, reading := none
                       rgate := none, batchLeft := 0, tornFirst := x.wq.any (·.torn) })
  let s := s.each armed (fun s a => s.setF Reg.AEV1_STATE a 3)
  let s := if armed.isEmpty then s else s.raise Reg.CHN_EVENTS_AEV_CANCEL
  s.event 0x25 0 gates armed.length

/-- The mark period lies within 2 % of the expected period: the mean of the last 16 forward periods (R143, R144). -/
def nearExpected (period : Nat) (l : List Nat) : Bool :=
  let k := l.take 16
  !k.isEmpty && decide (49 * k.sum ≤ 50 * (period * k.length)) && decide (50 * (period * k.length) ≤ 51 * k.sum)

/-- CHN_RPM from the mean of the last 256 periods (R146); it holds in holdover (R144). -/
def State.newRpm (s : State) : State :=
  if s.chain.periods.length = 256 && !s.flag Reg.CHN_STATUS_HOLDOVER then
    (s.setF Reg.CHN_RPM_RPM8 0 (satN 16 (1875000000000 / s.chain.periods.sum))).media
  else s

/-- A forward mark: lock is acquired, kept or lost by miscount (R144, R145). -/
def State.forwardMark (s : State) (period : Nat) (index tornA tornB : Bool) : State :=
  let c := s.chain
  let good := if nearExpected period c.periods then c.good + 1 else 0
  let since := c.since + 1
  let s : State := { s with chain := { c with periods := (period :: c.periods).take 256, good := good, since := since } }
  let reset (s : State) : State := { s with chain := { s.chain with since := 0 } }
  if s.flag Reg.CHN_STATUS_LOCK then
    if !index then (s.setF Reg.CHN_ANGLE_MARK 0 (min since 65535)).newRpm
    else if since = 65536 then
      let s := reset s
      (State.lower { s with chain := { s.chain with revs := s.chain.revs + 1 } } Reg.CHN_ANGLE_MARK).newRpm
    else reset (s.loseLock 3 tornA tornB)
  else if index && decide (256 ≤ c.good) then
    -- at a relock REVS becomes its value at the loss plus 1
    let s := reset s
    let revs := if s.flag Reg.CHN_STATUS_HOLDOVER then s.chain.revs + 1 else s.chain.revs
    let s : State := { s with chain := { s.chain with revs := revs } }
    ((((s.lower Reg.CHN_ANGLE_MARK).raise Reg.CHN_STATUS_LOCK).lower Reg.CHN_STATUS_HOLDOVER).raise Reg.CHN_EVENTS_RELOCK).newRpm
  else if index then (reset s).newRpm
  else s.newRpm

/-! ## Read gates (R147, R164) -/

/-- Where the sector of a read lies: head 0 to 7, track, sector. -/
def State.readAt (s : State) (r : Read) : Option (Nat × Nat × Nat) :=
  match r.what with
  | .port => some (r.head, r.track, r.sector)
  | .command _ => s.located r.bushel r.place

/-- The offset that a read asks of the loop: in step 5 +JOG and then −JOG (R165, R183). -/
def State.offsetFor (s : State) (ch : Nat) (r : Read) : Int :=
  if r.ladder = 5 then (if r.half then -(s.getF Reg.JOG_JOG ch : Int) else (s.getF Reg.JOG_JOG ch : Int)) else 0

/-- Steps 2 and 6 decode samples that the channel holds, with no read (R165). -/
def Read.again (r : Read) : Bool := r.samples && (r.ladder == 2 || r.ladder == 6)

/-- At a mark: the read gate of channel `ch` opens at the first bit of the sector that is read next, PRE bits before its
sync mark (R164), while the conditions of R147 hold and the head stands where the step reads. -/
def State.openRead (s : State) (ch : Nat) : State :=
  let x := s.rw ch
  let l := s.loop ch
  match s.readTurn ch with
  | none => s
  | some r =>
    match s.readAt r with
    | none => s
    | some (h, t, k) =>
      if x.rgate.isNone && !r.again && s.gateOk ch && s.flag Reg.ACT_STATE_ON_TRK_RD ch && s.onTarget ch t (h % 4) &&
          decide (l.jog = s.offsetFor ch r) && decide (l.want = l.jog) && s.atStart h t k
      then s.setRw ch { x with rgate := some r } else s

/-- At a mark under lock. -/
def State.openReads (s : State) : State :=
  if s.flag Reg.CHN_STATUS_LOCK then (s.openRead 0).openRead 1 else s

/-- CHAIN_MARK (R143 to R146): a main-track mark, `period` picoseconds after the one before. -/
def execChainMark (period : Nat) (backward index tornA tornB : Bool) (s : State) : Host.Outcome State Fault Refusal :=
  .next (s.whenLive (fun s => s.when' (s.flag Reg.CHN_CTRL_EN) (fun s =>
    if backward then
      if s.flag Reg.CHN_STATUS_LOCK then (s.loseLock 2 tornA tornB).unloadCheck tornA tornB
      else { s with chain := { s.chain with good := 0 } }
    else ((s.forwardMark period index tornA tornB).unloadCheck tornA tornB).openReads)))

/-- CHAIN_SILENCE (R144): no mark for four expected periods. -/
def execChainSilence (tornA tornB : Bool) (s : State) : Host.Outcome State Fault Refusal :=
  .next (s.whenLive (fun s =>
    if s.flag Reg.CHN_STATUS_LOCK then (s.loseLock 1 tornA tornB).unloadCheck tornA tornB
    else { s with chain := { s.chain with good := 0 } }))

/-- ZONE_MULTIPLIER_SETTLE (R147): the multiplier of channel `ch` has settled after a change of zone. -/
def execZoneMultiplierSettle (ch : Nat) (s : State) : Host.Outcome State Fault Refusal :=
  .next (s.whenLive (fun s => s.setRw ch { s.rw ch with settled := true }))

/-- PREAMP_WRITE_FAULT (R147, R160): the write-fault input of channel `ch` falls (`low`) or rises. -/
def execPreampWriteFault (ch : Nat) (low torn : Bool) (s : State) : Host.Outcome State Fault Refusal :=
  .next (s.whenLive (fun s =>
    let s := s.setRw ch { s.rw ch with faultLow := low }
    if low then (s.raise Reg.RWC_EVENTS_PREAMP_FAULT ch).forceOff ch 6 torn else s))

/-! ## DMT follows the media (R289) -/

/-- The anchor that a valid directory record is, if it is one: the part count of a checkpoint is 0 (R136, R293). -/
def anchorIn (hdr body : List Byte) : Option Anchor :=
  if byteAt hdr 2 = 4 ∧ leAt body 8 4 = 0 then
    some { number := leAt body 0 8, cause := leAt body 12 2, epoch := BitVec.ofNat 16 (leAt body 14 2)
           head := hdr.take 20, body := body }
  else none

/-- A valid record has been read from the media: while FOLLOW is set, DMT is raised above its stamp and an anchor refills
the store. Anchor numbers count on from the highest read (R293). -/
def State.observe (s : State) (hdr body : List Byte) : State :=
  let s := match anchorIn hdr body with
    | some a =>
      let s := if s.flag Reg.TIME_CTRL_FOLLOW then s.storeAnchor a else s
      if s.time.anchorNo < a.number then { s with time := { s.time with anchorNo := a.number, anchorEpoch := a.epoch } } else s
    | none => s
  let d := BitVec.ofNat 48 (leAt hdr 8 6)
  if s.flag Reg.TIME_CTRL_FOLLOW && dmtLt s.time.dmt d then
    if d + 1 < s.time.dmt then s.dmtWrap (d + 1) else { s with time := { s.time with dmt := d + 1 } }
  else s

/-- The generation under which firmware's read of a place of bushel `b` is judged: a header record names its own. -/
def State.genFor (s : State) (b : Nat) (hdr body : List Byte) : Word :=
  if byteAt hdr 2 = 5 then BitVec.ofNat 32 (leAt body 4 4) else (s.bushel b).gen

/-! ## Sector reads (R164 to R166) -/

/-- The next enabled step of the ladder after `k` (R165). -/
def State.nextStep (s : State) (ch k : Nat) : Option Nat :=
  ((List.range 6).map (· + 1)).find? (fun i => decide (k < i) && bitOf (s.getF Reg.RWC_LADDER_STEP_EN ch) (i - 1))

/-- The sector of a read has been decoded, or is a failing place (`bytes` empty): what the reader does with it. A read of
a command passes over a place that does not hold its grain. -/
def State.sectorRead (s : State) (ch : Nat) (r : Read) (cls : Nat) (bytes : List Byte) : State :=
  let hdr := bytes.take 32
  let body := bytes.drop 32
  match r.what with
  | .port =>
    let s := s.portDone ch cls r.ladder
    if cls = 0 then
      -- the system bushels, whose generations the ledger engine learns here: 0 on A's heads, 1 on B's (R370)
      let b := ch
      let g := s.genFor b hdr body
      let s := if recordValid g hdr body then
          (if byteAt hdr 2 = 5 && leAt body 0 4 = b then s.setBushel b { s.bushel b with state := .system, gen := g } else s).observe hdr body
        else s
      s.bufWrite r.place bytes
    else s
  | .command tag =>
    if cls = 3 then s.readFail tag 0x26 r.seq
    else
      let ok := cls == 0 && recordValid (s.bushel r.bushel).gen hdr body
      let s := if ok then s.observe hdr body else s
      match s.cmds.find? (·.tag == tag) with
      | none => s
      | some c =>
        if ok && byteAt hdr 2 = 1 && (byteAt hdr 3).toNat % 64 = dChan c.desc && BitVec.ofNat 32 (leAt hdr 4 4) = r.seq then
          s.readDone tag r.seq r.bushel hdr body
        else if r.place + 1 < 16384 then
          s.setRw ch { s.rw ch with reads := { r with place := r.place + 1, ladder := 0 } :: (s.rw ch).reads }
        else s.readFail tag 0x26 r.seq

/-- The bits of the codeword that a read gives the decoder as erasures: the runs whose resume mark was not found within
RES_TOL (R164); `n` codeword bits. -/
def erasures (tol n : Nat) : List Piece → List (Option Int) → List (Nat × Nat)
  | [], _ => []
  | p :: l, found =>
    if !p.resumed then erasures tol n l found
    else
      let lost := match found.head? with | some (some d) => decide (tol < d.natAbs) | _ => true
      let rest := erasures tol n l found.tail
      if lost && decide (p.first < n) then (p.first, min p.len (n - p.first)) :: rest else rest

/-- The sync mark is found at a step: within the tolerance of the step and with no more errors than SYNC_ERR (R164, R165). -/
def syncFound (t : Tables) (step : Nat) (v : Seen) : Bool :=
  match v.sync with
  | some (d, e) => decide (d.natAbs ≤ if step = 3 then t.syncTolW else t.syncTol) && decide (e ≤ t.syncErr)
  | none => false

/-- The iterations of the decoder at a step (R165). -/
def State.iterations (s : State) (ch step : Nat) : Nat :=
  if step = 2 ∨ step = 6 then s.getF Reg.RWC_LADDER_ITER_MAX ch else s.getF Reg.RWC_LADDER_ITER_N ch

/-- A step decodes its sector. -/
def State.decodes (s : State) (ch step : Nat) (v : Seen) : Bool :=
  syncFound s.layout step v && decide (v.iters ≤ s.iterations ch step) && decide (v.bytes.length = 4128)

/-- A read of the sector ends: its class (R164), the ladder (R165), and the reader. The preamble of PRE bits has a transition
every 2 bits within it. Step 5 reads at +JOG and then at −JOG (R183); the offset returns to 0 when the step is left. -/
def State.sectorEnd (s : State) (ch : Nat) (r : Read) (v : Seen) : State :=
  let t := s.layout
  let lost := match s.readAt r with
    | some (h, tr, k) => (s.format h tr).elim [] (fun f => erasures t.resTol f.code.bits (f.pieces k) v.resumes)
    | none => []
  let s := s.setRw ch { s.rw ch with rgate := none, erased := lost }
  let drop (s : State) : State :=
    let x := s.rw ch
    (s.setRw ch { x with reading := none, reads := x.reads.erase r }).askJog ch 0
  if s.decodes ch r.ladder v then
    (((drop s).bump Reg.RWC_CNT_RD_COUNT ch).bump Reg.RWC_CNT_STEP_COUNT (7 * ch + r.ladder)).sectorRead ch r 0 v.bytes
  else if r.ladder = 0 && decide (2 * v.edges < preBits t.pre16 / 2 - 1) then ((drop s).bump Reg.RWC_CNT_RD_COUNT ch).sectorRead ch r 1 []
  else if r.ladder = 0 && syncFound t 0 v && decide (2 * v.dram < 16 * t.dram16) then ((drop s).bump Reg.RWC_CNT_RD_COUNT ch).sectorRead ch r 2 []
  else if r.ladder = 5 && !r.half then
    let q : Read := { r with half := true, samples := true }
    (s.setRw ch { s.rw ch with reading := some q, reads := (s.rw ch).reads.erase r }).askJog ch (s.offsetFor ch q)
  else
    match s.nextStep ch r.ladder with
    | some k =>
      let s := drop s
      let q : Read := { r with ladder := k, half := false, samples := true }
      (s.setRw ch { s.rw ch with reading := some q }).askJog ch (s.offsetFor ch q)
    | none =>
      let s := ((drop s).bump Reg.RWC_CNT_RD_COUNT ch).bump Reg.RWC_CNT_FAIL_COUNT ch
      (s.raise Reg.RWC_EVENTS_UNREADABLE ch).sectorRead ch r 3 []

/-- SECTOR_READ_COMPLETE (R164 to R166, R178, R289): the sector under the open read gate has been read, which PES never forces
off, or samples that the channel holds have been decoded again. -/
def execSectorReadComplete (ch edges : Nat) (sync : Option (Int × Nat)) (dram : Nat) (decoded : Decoded) (s : State) :
    Host.Outcome State Fault Refusal :=
  .next (s.whenLive (fun s =>
    let seen : Seen := { decoded with edges := edges, sync := sync, dram := dram }
    match (s.rw ch).rgate, s.readTurn ch with
    | some r, _ => s.sectorEnd ch r seen
    | none, some r => if r.again then s.sectorEnd ch r seen else s
    | none, none => s))

/-- The offset that the channel asks for with a target: that of the read it serves next there (R183). -/
def State.offsetAt (s : State) (ch track head : Nat) : Int :=
  match s.readTurn ch with
  | none => 0
  | some r =>
    match s.readAt r with
    | some (h, t, _) => if t = track ∧ h % 4 = head then s.offsetFor ch r else 0
    | none => 0

/-- CHANNEL_SEEK_TARGET (R147, R179, R183): the channel's sequencer issues the target, and the offset, of the record or read
that it serves next; a change of zone leaves the multiplier to settle. -/
def execChannelSeekTarget (ch track head : Nat) (s : State) : Host.Outcome State Fault Refusal :=
  .next (s.whenLive (fun s =>
    let st := s.actState ch
    s.when' (decide (2 ≤ st ∧ st ≤ 6) && (s.flag Reg.RWC_CTRL_EN ch || s.flag Reg.RWC_SR_STAT_BUSY ch)) (fun s =>
      (s.giveTarget ch track (head % 4)).askJog ch (s.offsetAt ch track (head % 4)))))

/-- The track and sector of the port's registers can be read (R166): the maker tracks, or the zones once applied. -/
def State.portTarget (s : State) (ch : Nat) : Bool :=
  let h := s.getF Reg.RWC_SR_LOC_HEAD ch
  let t := s.getF Reg.RWC_SR_LOC_TRACK ch
  let k := s.getF Reg.RWC_SR_SECT_SECTOR ch
  if t < 16 then h % 4 == 0 && decide (k < 128)
  else s.flag Reg.TABLE_STATUS_OK && decide (t < s.tables.tracks) &&
    (match (s.tables.zones.filter (fun y => decide (y.1 ≤ t))).getLast? with
     | some y => decide (k < y.2.2.2.1)
     | none => false)

/-- SECTOR_READ_PORT_GO (R166): GO of RWC_SR_CMD, a WO field of any writer. -/
def execSectorReadPortGo (_src ch : Nat) (s : State) : Host.Outcome State Fault Refusal :=
  .next (s.whenLive (fun s =>
    let dest := 32 * s.getF Reg.RWC_SR_DEST_OFFSET ch
    if s.flag Reg.RWC_SR_STAT_BUSY ch || s.getF Reg.RWC_SR_LOC_HEAD ch / 4 != ch || !pagesAll s.fwPage dest 4128 ||
        !s.portTarget ch then s.raise Reg.RWC_SR_STAT_REJECT ch
    else
      (s.raise Reg.RWC_SR_STAT_BUSY ch).setRw ch { s.rw ch with
        reads := (s.rw ch).reads ++ [({ what := .port, place := dest, head := s.getF Reg.RWC_SR_LOC_HEAD ch
                                        track := s.getF Reg.RWC_SR_LOC_TRACK ch, sector := s.getF Reg.RWC_SR_SECT_SECTOR ch } : Read)] }))

/-! ## Angular events (R167) -/

/-- TARGET_HI and CORES of a write of word 1 of AEV_a; TARGET stays while the slot is armed. -/
def State.aevFields (s : State) (a : Nat) (v : Word) : State :=
  let s := if s.getF Reg.AEV1_STATE a == 1 then s else s.setF Reg.AEV1_TARGET_HI a (bitsOf v.toNat 0 8)
  s.setF Reg.AEV1_CORES a (bitsOf v.toNat 8 4)

/-- A write of word 1 of AEV_a: TARGET_HI, CORES and ARM. -/
def State.aevWrite (s : State) (a : Nat) (v : Word) : State :=
  let armed := s.getF Reg.AEV1_STATE a == 1
  let s := (s.aevFields a v).setBit Reg.AEV1_ARM a (bitOf v.toNat 16)
  if !bitOf v.toNat 16 then (s.setF Reg.AEV1_STATE a 0).lower Reg.AEV1_LATE a
  else if armed then s
  else if s.aevTarget a ≤ s.angleFwd then (s.setF Reg.AEV1_STATE a 3).raise Reg.AEV1_LATE a
  else (s.setF Reg.AEV1_STATE a 1).lower Reg.AEV1_LATE a

/-- AEV_ARM (R167): a write of word 1 of AEV_a with ARM = 1; its fields are RW, so any writer's write acts. -/
def execAevArm (_src a : Nat) (v : Word) (s : State) : Host.Outcome State Fault Refusal :=
  .next (s.whenLive (fun s => s.aevWrite a (v ||| 0x10000)))

/-- AEV_DISARM (R167): ARM = 0. -/
def execAevDisarm (_src a : Nat) (s : State) : Host.Outcome State Fault Refusal :=
  .next (s.whenLive (fun s =>
    ((s.lower Reg.AEV1_ARM a).setF Reg.AEV1_STATE a 0).lower Reg.AEV1_LATE a))

/-- AEV_FIRE (R167): ANGLE_FWD first reaches TARGET of an armed slot while LOCK is 1; DMT is captured, and the interrupt to
the cores of CORES stands while STATE is FIRED. -/
def execAevFire (a : Nat) (s : State) : Host.Outcome State Fault Refusal :=
  .next (s.whenLive (fun s => s.when'
    (s.getF Reg.AEV1_STATE a == 1 && s.flag Reg.CHN_STATUS_LOCK && decide (s.aevTarget a ≤ s.angleFwd)) (fun s =>
      let d := s.time.dmt.toNat
      ((s.setF Reg.AEV1_STATE a 2).setF Reg.AEV2_DMT_LO a (d % 2 ^ 32)).setF Reg.AEV3_DMT_HI a (d / 2 ^ 32))))

end Sys2Proof.Machine
end

