-- ==== Sys2Proof/Machine/Ovore.lean ====
section
/-! DEFINITION. Mirroring over the Ovore link (spec/11): the frames on the lanes, the owner's catch-up, the partner's
intakes, and the link going up and down. The owner's live frames are queued from Machine/Ledger.lean. -/

namespace Sys2Proof.Machine

/-! ## Received frames (R241, R242) -/

/-- The length of a frame with its CRC (R242). -/
def ovrLen (ty : Nat) : Nat :=
  match ty with
  | 1 => 4148
  | 2 => 216
  | 3 => 36
  | 4 => 164
  | _ => 0

/-- The partner's DEVICE_UID, as the keeper gave it. -/
def State.peerUid (s : State) : List Byte :=
  leBytes 4 (s.getF Reg.OVR_PEER_UID_UID 0) ++ leBytes 4 (s.getF Reg.OVR_PEER_UID_UID 1)

/-- The partner's public key, X then Y. -/
def State.peerKey (s : State) : List Byte :=
  ((List.range 16).map (fun i => leBytes 4 (s.getF Reg.OVR_PEER_KEY_KEY i))).flatten

/-- A received frame is valid as a frame of type `ty` (R241). -/
def State.ovrValid (s : State) (ty : Nat) (f : List Byte) : Bool :=
  f.length == ovrLen ty && (byteAt f 0).toNat == ty && slice f 4 8 == s.peerUid &&
    BitVec.ofNat 32 (leAt f (f.length - 4) 4) == crc32c (f.take (f.length - 4))

/-- The OWNED mask of this cartridge. -/
def State.ownMask (s : State) : List Byte := leBytes 4 (s.getF Reg.OVR_OWN_MASK 0) ++ leBytes 4 (s.getF Reg.OVR_OWN_MASK 1)

/-- Two masks share a channel. -/
def masksMeet (a b : List Byte) : Bool := (List.zip a b).any (fun p => p.1 &&& p.2 != 0)

/-- The port has passed step 3 of the power-loss sequence (R249, R258). -/
def State.pastStep3 (s : State) : Bool := decide (3 ≤ s.getF Reg.ENG_STATUS_PL_STEP)

/-! ## Credits granted to the partner (R246) -/

/-- The members received for intake `n` and not yet confirmed. -/
def State.pendingOf (s : State) (n : Nat) : List Prov := s.ovr.prov.filter (fun g => g.chan == n)

/-- One more mirror credit may be granted: fewer than OVR_GRANT are outstanding, the energy of one record is free (R219),
the intake is not being shed (R116), and a page and a slot that no share reserves are free (R92). -/
def State.mayGrant (s : State) (n : Nat) : Bool :=
  let i := s.intake n
  i.isOpen && !i.halted && !i.closing && s.linkUp && !s.pastStep3 && !s.intakeShed n &&
    decide (i.outstanding.length + (s.pendingOf n).length < s.getF Reg.OVR_GRANT_GRANT) &&
    decide (s.commit + s.costOf i.bushel ≤ s.lend) && s.writePagesOk 1 none && s.slotsOk i.act 1 none

/-- Grants as many credits as may be. -/
def State.grants (s : State) (n : Nat) : Nat → State
  | 0 => s
  | fuel + 1 =>
    if s.mayGrant n then
      match s.allocPages { num := 0, pool := .write } 1 with
      | (t, [p]) =>
        let i := t.intake n
        State.grants (t.setIntake n { i with outstanding := i.outstanding ++ [(s.costOf i.bushel, p)], granted := i.granted + 1 })
          n fuel
      | _ => s
    else s

/-- Grants what may be granted, with a GRANT note when the total has risen; with `always`, in any case. -/
def State.grant (s : State) (n : Nat) (always : Bool) : State :=
  let t := s.grants n 128
  let i := t.intake n
  if i.isOpen && (always || i.granted != (s.intake n).granted) then t.note (noteBytes 5 n 0 i.granted []) else t

/-- Every open intake. -/
def State.openIntakes (s : State) : List Nat := chanNums.filter (fun n => (s.intake n).isOpen)

/-- A CONFIRM note (R244, R249, R250). -/
def State.confirmNote (s : State) (n : Nat) (lag : Bool) : State :=
  let i := s.intake n
  s.note (noteBytes 6 n (b2n lag) i.confirmed (leBytes 2 i.opening.toNat))

/-! ## Opening, closing and rolling over an intake (R251) -/

/-- Members of intake `n` that `p` takes are dropped with their pages; what follows must follow those that stay (R250). -/
def State.dropProv (s : State) (n : Nat) (p : Prov → Bool) : State :=
  let mine (g : Prov) : Bool := g.chan == n && p g
  let gone := s.ovr.prov.filter mine
  let s := State.dropPages { s with ovr := { s.ovr with prov := s.ovr.prov.filter (fun (g : Prov) => !mine g) } } (gone.map (·.page))
  let i := s.intake n
  s.setIntake n { i with received := ((s.pendingOf n).filter (·.kind == 1)).foldl (fun h g => seqMax h g.seq) i.confirmed }

/-- Intake `n` moves to bushel `b`, just taken, whose header follows on the seal credit; `chainIn` is its CHAIN_IN. -/
def State.intakeTo (s : State) (n b : Nat) (chainIn : List Byte) : State :=
  let i := s.intake n
  let s := s.openBushel b n true i.opening
  let i : Intake := { i with bushel := b, gen := (s.bushel b).gen, act := s.actOf b, prevBushel := i.bushel, promised := 1,
                             credit := i.credit.map (fun (k : Credit) => { k with act := s.actOf b }) }
  match i.credit with
  | none => s.setIntake n i
  | some k =>
    let cc := chanClass n i.cls
    let body := headerBody b i.gen cc i.frameMax 3 i.opening i.firstSeq i.sealEvery i.prevBushel chainIn s.peerUid s.peerKey
    let r : Rec := { kind := .header, chan := n, intake := true, seq := i.confirmed + 1, opening := i.opening
                     hdr := hdr28 .header cc (i.confirmed + 1) s.stamp 0 0 i.opening body, page := k.page, onCredit := true
                     act := i.act, bushel := b, gen := i.gen, cost := k.cost, account := .credit, body := body }
    ((s.setIntake n i).queueRec r).layPage k.page

/-- An intake that is open closes: what it has not confirmed is dropped, its credits return. -/
def State.shutIntake (s : State) (n : Nat) : State :=
  if (s.intake n).isOpen then (s.dropProv n (fun _ => true)).closeIntakeDone n else s

/-- An OPEN note (R251): the intake bushel and the seal credit are taken, or the intake is refused. No record is formed
while DMT_VALID is 0 (spec/13 R290). -/
def State.noteOpen (s : State) (n : Nat) (first : Word) (opening : BitVec 16) (fm cls every : Nat) : State :=
  let s := s.shutIntake n
  match s.takeBushel 0 with
  | none => s.raise Reg.OVR_EVENTS_INTAKE_REFUSED
  | some (b, t) =>
    let act := s.actOf b
    let z := s.costOf b
    if !s.time.valid || !t.writePagesOk 1 none || !t.slotsOk act 1 none || decide (t.lend < t.commit + z) then
      s.raise Reg.OVR_EVENTS_INTAKE_REFUSED
    else
      match t.allocPages { num := 0, pool := .write } 1 with
      | (t, [p]) =>
        let zero := chainZero s.peerUid n opening first
        let h := first - 1
        let t := t.setIntake n {
          isOpen := true, opening := opening, firstSeq := first, frameMax := fm, cls := cls, sealEvery := every
          confirmed := h, written := h, sealed := h, received := h, chain := zero, sealChain := zero
          credit := some { page := p, act := act, cost := z, tid := none } }
        let t := t.intakeTo n b zero
        let t := if t.flag Reg.ARB_STATUS_SHORTFALL then t.shedding (fun s => (s.setShedIn n {}).refit) else t
        t.grant n true
      | _ => s.raise Reg.OVR_EVENTS_INTAKE_REFUSED

/-- A CLOSE note (R251). -/
def State.noteClose (s : State) (n : Nat) (opening : BitVec 16) : State :=
  let i := s.intake n
  if i.isOpen && i.opening == opening then (s.setIntake n { i with closing := true }).settleIntake n else s

/-! ## Confirmation (R249, R251, R256, R257) -/

/-- The header with the DMT and EPOCH of the COMMIT note. -/
def stampHdr (hdr dmtEpoch : List Byte) : List Byte := overlay hdr 8 dmtEpoch

/-- The intake halts (R251): MIRROR_CHAIN_MISMATCH, and LAG to the owner. -/
def State.intakeHalt (s : State) (n : Nat) (seq : Word) : State :=
  let s := s.dropProv n (fun _ => true)
  let i := s.intake n
  let s := (s.setIntake n { i with halted := true }).raise Reg.OVR_EVENTS_CHAIN_MISMATCH
  (s.event 0x45 n i.opening.toNat seq.toNat).confirmNote n true

/-- The record of a confirmed member joins the media write queue in the intake's open bushel. -/
def State.copyRec (s : State) (g : Prov) (kind : Kind) (body : List Byte) (ordinal : Nat) : State :=
  let i := s.intake g.chan
  let s := s.setIntake g.chan { i with promised := i.promised + 1 }
  s.queueRec { kind := kind, chan := g.chan, intake := true, seq := g.seq, opening := i.opening, hdr := g.hdr, page := g.page
               act := i.act, bushel := i.bushel, gen := i.gen, cost := g.cost, account := .intake, ordinal := ordinal
               digest := if kind = .grain then sha256 body else [], chainIn := i.chain
               body := if kind = .grain then [] else body }

/-- The intake's bushel rolls over when a grain would leave fewer than 2 + TEAR_RSV places free (R134, R251). Answers none
when no bushel is free. -/
def State.intakeRoll (s : State) (n : Nat) : Option State :=
  let i := s.intake n
  if 16384 < i.promised + 3 + s.getF Reg.LDG_CTRL_TEAR_RSV then
    match s.takeBushel i.act with
    | none => none
    | some (b, t) => some ((t.closeAt i.bushel i.confirmed).intakeTo n b i.chain)
  else some s

/-- A seal copy verifies: PREV_CHAIN, CHAIN_HEAD and the signature (R251). The seal that ends a truncation gives the chain
itself (R256). -/
def State.sealCopyOk (s : State) (i : Intake) (hdr body : List Byte) : Bool :=
  (i.truncated || (slice body 28 32 == padTo 32 i.sealChain && slice body 60 32 == padTo 32 i.chain)) &&
    ecdsaVerify s.peerKey (hdr.take 20 ++ body.take 100) (slice body 100 32) (slice body 132 32)

/-- The member whose turn it is may be confirmed: it is committed and every earlier one is confirmed (R249). -/
def Intake.next (i : Intake) (g : Prov) : Bool :=
  g.committed && (if g.kind = 1 then !i.truncated && g.seq == i.confirmed + 1
    else g.seq == i.confirmed && (!i.truncated || g.kind == 2))

/-- Confirms member `g`, which has left the pending ones. -/
def State.confirmOne (s : State) (g : Prov) : State :=
  let n := g.chan
  let i := s.intake n
  let body := s.bufRead (4096 * g.page) 4096
  match g.kind with
  | 1 =>
    match s.intakeRoll n with
    | none => ((s.raise Reg.LDG_EVENTS_NO_BUSHEL).dropPages [g.page]).dropProv n (fun _ => true) |>.confirmNote n true
    | some s =>
      let i := s.intake n
      let s := s.copyRec g .grain body 0
      s.setIntake n { s.intake n with confirmed := g.seq, chain := chainFold i.chain g.hdr body, held := [] }
  | 2 =>
    if !s.sealCopyOk i g.hdr body then (s.dropPages [g.page]).intakeHalt n g.seq
    else
      let head := slice body 60 32
      let go (s : State) : State :=
        let s := s.copyRec g .seal body (leAt body 0 4)
        s.setIntake n { s.intake n with ordinal := leAt body 0 4, chain := head, sealChain := head, truncated := false }
      if i.truncated then
        match s.takeBushel i.act with
        | none => ((s.raise Reg.OVR_EVENTS_INTAKE_REFUSED).dropPages [g.page]).confirmNote n true
        | some (b, s) => go (s.intakeTo n b head)
      else go s
  | _ =>
    let s := s.copyRec g .divergence body 0
    s.setIntake n { s.intake n with chain := chainFold i.chain g.hdr body, held := i.held ++ [g.hdr.take 20] }

/-- Confirms the members of intake `n` whose turn has come. -/
def State.confirmRun (s : State) (n : Nat) : Nat → State
  | 0 => s
  | fuel + 1 =>
    match s.pendingOf n with
    | g :: _ =>
      if (s.intake n).isOpen && !(s.intake n).halted && !s.pastStep3 && (s.intake n).next g then
        State.confirmRun (State.confirmOne { s with ovr := { s.ovr with prov := s.ovr.prov.erase g } } g) n fuel
      else s
    | [] => s

/-- Confirms what may be confirmed, and answers with one CONFIRM note and the credits returned. -/
def State.confirm (s : State) (n : Nat) : State :=
  let t := s.confirmRun n (s.pendingOf n).length
  if (t.pendingOf n).length = (s.pendingOf n).length then t
  else (if (t.intake n).halted then t else t.confirmNote n false).grant n false

/-- A member takes its place among the pending ones of its intake: before the first grain after it. -/
def insertProv (g : Prov) : List Prov → List Prov
  | [] => [g]
  | x :: l => if x.chan = g.chan ∧ seqLt g.seq x.seq then g :: x :: l else x :: insertProv g l

/-- A member of intake `n` has come in a MIRROR or SEAL_NOTE frame against one credit (R246, R249, R250, R257). -/
def State.memberRx (s : State) (n kind : Nat) (committed : Bool) (hdr body : List Byte) : State :=
  let i := s.intake n
  let seq := BitVec.ofNat 32 (leAt hdr 4 4)
  match i.outstanding with
  | [] => if i.isOpen then s.confirmNote n true else s
  | (z, p) :: rest =>
    let back := (s.setIntake n { i with outstanding := rest }).dropPages [p]
    let answer (lag : Bool) : State := (back.confirmNote n lag).grant n false
    let pend := s.pendingOf n
    let same (g : Prov) : Bool := g.committed && g.kind == kind && g.seq == seq && g.hdr.take 20 == hdr.take 20
    let dup := committed && (pend.any same || (match kind with
      | 1 => seqLe seq i.confirmed
      | 2 => seqLt seq i.confirmed || (seq == i.confirmed && !i.truncated && decide (leAt body 0 4 ≤ i.ordinal))
      | _ => seqLt seq i.confirmed || i.held.contains (hdr.take 20)))
    let follows := if kind = 1 then seq == i.received + 1 || (committed && seq == i.confirmed + 1) else seqLe seq i.received
    if !s.linkUp || s.pastStep3 then back
    else if !i.isOpen then back
    else if BitVec.ofNat 16 (leAt hdr 18 2) != i.opening || i.halted then answer true
    else if dup then answer false
    else if !follows then answer true
    else
      let s := (s.setIntake n { i with outstanding := rest }).dropProv n (fun g => committed && kind == 1 && g.kind == 1 && g.seq == seq)
      let s := s.bufWrite (4096 * p) (padTo 4096 body)
      let g : Prov := { chan := n, kind := kind, seq := seq, page := p, hdr := hdr.take 28, cost := z, came := s.time.dmt
                        committed := committed }
      let s := { s with ovr := { s.ovr with prov := insertProv g s.ovr.prov } }
      let s := if kind = 1 then (s.setIntake n { s.intake n with received := seqMax (s.intake n).received seq }).admitted (64 + n) 1 else s
      s.confirm n

/-! ## The owner's side of the notes (R246, R249, R250, R257) -/

/-- A CONFIRM note: MIRRORED_HEAD, which never passes DURABLE_HEAD and never goes back, and the catch-up's position; LAG makes
the channel lagging. -/
def State.noteConfirm (s : State) (n : Nat) (seq : Word) (lag : Bool) (opening : BitVec 16) : State :=
  let c := s.chan n
  if !c.isOpen || !c.mirror then s
  else
    let s : State :=
      if opening = c.opening then
        let h := seqMin seq c.durable
        -- a head only advances (R15), and no head of a halted channel but WRITTEN_HEAD moves (R325)
        let s := if c.halted then s else s.setChan n { c with mirrored := seqMax c.mirrored h }
        let o := s.own n
        let gone := (o.extras.takeWhile (fun e => seqLt e.1 h)).length
        s.setOwn n { o with extras := o.extras.drop gone, posX := o.posX - gone, pos := if seqLt o.pos h then h else o.pos }
      else s
    (if lag then s.lag n else s).settleCmds

/-- A GRANT note (R246). -/
def State.noteGrant (s : State) (n : Nat) (total : Word) : State :=
  if (s.chan n).isOpen && (s.chan n).mirror then s.setOwn n { s.own n with granted := total } else s

/-! ## The partner's side of the notes (R249, R250, R256) -/

/-- A COMMIT note: the provisional grains it covers take its DMT and EPOCH; a grain that is not held is answered LAG. -/
def State.noteCommit (s : State) (n count : Nat) (first : Word) (dmtEpoch : List Byte) : State :=
  if !(s.intake n).isOpen then s
  else
    let l := (List.range count).map (fun k => first + BitVec.ofNat 32 k)
    let held (q : Word) : Bool := seqLe q (s.intake n).confirmed || (s.pendingOf n).any (fun g => g.kind == 1 && g.seq == q)
    let mark (g : Prov) : Prov :=
      if g.chan = n ∧ g.kind = 1 ∧ g.committed = false ∧ l.contains g.seq then
        { g with hdr := stampHdr g.hdr dmtEpoch, committed := true }
      else g
    let t := State.confirm { s with ovr := { s.ovr with prov := s.ovr.prov.map mark } } n
    if l.all held then t else t.confirmNote n true

/-- Truncation at `seq` (R256): the copies after it are orphaned and the intake bushel closes; those not yet at the gate are
not written. -/
def State.truncate (s : State) (n : Nat) (seq : Word) : State :=
  let s := s.dropProv n (fun _ => true)
  let i := s.intake n
  let orphan (r : Rec) : Bool := r.intake && r.chan == n && r.opening == i.opening && r.kind != .header && seqLt seq r.seq
  let pages := (((s.rw 0).wq ++ (s.rw 1).wq).filter orphan).map (·.page)
  let s := s.each [0, 1] (fun s a => s.setRw a { s.rw a with wq := (s.rw a).wq.filter (fun r => !orphan r) })
  let s := (s.dropPages pages).closeAt i.bushel seq
  let s := s.setIntake n { i with confirmed := seq, received := seq, written := seqMin i.written seq, sealed := seqMin i.sealed seq
                                  truncated := true, held := [], gap := i.gap.filter (fun g => seqLe g seq) }
  (s.raise Reg.OVR_EVENTS_TRUNC).event 0x43 n i.opening.toNat (seq + 1).toNat

/-- A HEAD note (R256). With another OPENING the intake closes, and one for the note's opening stays closed, since a HEAD
note does not bring what an OPEN note brings. -/
def State.noteHead (s : State) (n : Nat) (seq : Word) (opening : BitVec 16) : State :=
  let i := s.intake n
  if !i.isOpen then s
  else if i.opening != opening then s.shutIntake n
  else
    let s := if seqLt seq i.confirmed then s.truncate n seq else s
    s.grant n true

/-- A note of a HEARTBEAT (R244). -/
def State.noteRx (s : State) (b : List Byte) : State :=
  let n := (byteAt b 1).toNat
  let seq := BitVec.ofNat 32 (leAt b 4 4)
  let opening := BitVec.ofNat 16 (leAt b 8 2)
  let kind := (byteAt b 0).toNat
  if decide (1 ≤ kind ∧ kind ≤ 6) && decide (64 ≤ n) then s
  else match kind with
    | 1 => s.noteOpen n seq opening (byteAt b 10).toNat ((byteAt b 11).toNat % 4) (leAt b 12 4)
    | 2 => s.noteClose n opening
    | 3 => s.noteCommit n (byteAt b 2).toNat seq (slice b 8 8)
    | 4 => s.noteHead n seq opening
    | 5 => s.noteGrant n seq
    | 6 => s.noteConfirm n seq (bitOf (byteAt b 2).toNat 0) opening
    | k => s.reserved 0x21 (noteDetail k)

/-! ## Link down and link up (R253, R255) -/

/-- The open mirrored channels that this cartridge owns. -/
def State.mirroredOwn (s : State) : List Nat :=
  chanNums.filter (fun n => (s.chan n).isOpen && (s.chan n).mirror && s.owns n)

/-- The first grain of the write in flight on channel `n`. -/
def State.writing (s : State) (n : Nat) : Option Word :=
  match s.frames.find? (fun f => f.phase == .writing && f.ty == 0 && f.chan == n) with
  | some f => some f.word1
  | none => (s.cmds.find? (fun c => c.op == 0x10 && dChan c.desc == n)).map (fun c => dSeq c.desc)

/-- A link event is recorded on every mirrored channel of this cartridge, after the grains of a write in flight (R130,
R253). -/
def State.diverge (s : State) (event cause : Nat) : State :=
  let st := s.stamp
  s.each s.mirroredOwn (fun s n => s.makeDue (.divergence n event cause st (s.writing n)))

/-- The link is declared down (R253): the queues are dropped, the channels lag, provisional grains go, divergence records
are due, and a running MIRROR_RESYNC completes LINK_DOWN (R254). -/
def State.linkDown (s : State) (cause : Nat) : State :=
  if !s.linkUp then s
  else
    let s := s.dropOvr (fun _ => true)
    let s := (s.lower Reg.OVR_STATUS_UP).setF Reg.OVR_STATUS_LAST_CAUSE 0 cause
    let s := { s with ovr := { s.ovr with notes := [], good := 0, errs := 0 } }
    let s := s.each s.mirroredOwn State.lag
    let s := s.each s.openIntakes (fun s n => s.dropProv n (fun _ => true))
    let s := s.diverge 1 cause
    let s := ((s.event 0x40 cause 0 (s.getF Reg.OVR_CNT_BAD_COUNT)).emcy 0xFF06 0xFF cause).causeAll 4
    (s.cmds.filter (fun c => c.op == 0x09 && c.running)).foldl (fun s c =>
      let n := dChan c.desc
      (s.setOwn n { s.own n with resync := false }).post c 0x28 (s.chan n).mirrored 0) s

/-- The link is declared up when its conditions hold (R255). -/
def State.tryUp (s : State) : State :=
  if !s.linkUp && s.flag Reg.OVR_CTRL_EN && s.flag Reg.OVR_STATUS_TRAINED0 && s.flag Reg.OVR_STATUS_TRAINED1 &&
      decide (3 ≤ s.ovr.good) then
    let s := s.raise Reg.OVR_STATUS_UP
    let s := s.diverge 2 0
    let s := s.each s.mirroredOwn (fun s n =>
      s.note (noteBytes 4 n 0 (s.chan n).durable (leBytes 2 (s.chan n).opening.toNat)))
    let s := (s.event 0x41 0 0 0).causeAll 4
    s.each s.openIntakes (fun s n => s.grant n true)
  else s

/-- A valid frame is counted, and a gap of FSEQ (R242). -/
def State.ovrCount (s : State) (f : List Byte) : State :=
  let q := byteAt f 1
  let s := s.bump Reg.OVR_CNT_RX_COUNT
  let s := if s.ovr.rxSeen && q != s.ovr.fseqRx + 1 then s.bump Reg.OVR_CNT_GAP_COUNT else s
  { s with ovr := { s.ovr with fseqRx := q, rxSeen := true } }

/-- An invalid frame or a code violation (R253): more than ERR_LIM in one window of 1 ms take the link down. `fresh`: it is
the first of a new window. -/
def State.ovrBad (s : State) (fresh : Bool) : State :=
  let k := if fresh then 1 else s.ovr.errs + 1
  let s := State.bump { s with ovr := { s.ovr with errs := k, good := 0 } } Reg.OVR_CNT_BAD_COUNT
  if s.getF Reg.OVR_CTRL_ERR_LIM < k then s.linkDown 2 else s

/-- Acts on a received frame of type `ty` while this side is paired; an invalid one counts as such. -/
def State.ovrRx (s : State) (ty : Nat) (f : List Byte) (g : State → State) : State :=
  s.when' (s.flag Reg.OVR_CTRL_EN) (fun s => if s.ovrValid ty f then g (s.ovrCount f) else s.ovrBad false)

/-! ## The lanes (R241, R245, R247) -/

/-- A HEARTBEAT starts on the lanes with up to eight notes; POWER_LOSS is set once this side has reached step 7 under a
power loss (R253). -/
def State.startBeat (s : State) : State :=
  let now := s.ovr.notes.take 8
  let gone := decide (7 ≤ s.getF Reg.ENG_STATUS_PL_STEP) && s.inLoss
  let body := s.ownMask ++ leBytes 1 (s.getF Reg.OVR_CTRL_EN + 2 * b2n gone) ++ leBytes 1 now.length ++
    List.replicate 6 0 ++ padTo 128 now.flatten
  State.onLanes { s with ovr := { s.ovr with notes := s.ovr.notes.drop 8, beatDue := !(s.ovr.notes.drop 8).isEmpty, beating := true } }
    (ovrBytes 4 s.ovr.fseqTx.toNat 0 body)

/-- The next queued frame starts; one whose page holds an uncorrectable error is not sent and its channel lags (R323). -/
def State.nextOvr (s : State) : Nat → State
  | 0 => s
  | fuel + 1 =>
    match s.ovr.txq with
    | [] => s
    | f :: rest =>
      let r := match f.page with
        | some p => s.bufCheck (4096 * p) 4096 6
        | none => (s, false)
      if r.2 then State.nextOvr ((r.1.dropOvr (fun x => x == f)).lag f.chan) fuel
      else State.startOvr { r.1 with ovr := { r.1.ovr with txq := rest } } f

/-! ## Catch-up (R257) -/

/-- A lagging channel is being caught up. -/
def State.catching (s : State) (n : Nat) : Bool :=
  let o := s.own n
  (s.chan n).isOpen && (s.chan n).mirror && o.lagging && !o.gapHalted && s.linkUp && !s.pastStep3 &&
    (s.flag Reg.OVR_CTRL_AUTO_RESYNC || o.resync)

/-- The channel stops lagging once the catch-up has sent through DURABLE_HEAD and no write to it is in flight. -/
def State.caughtUp (s : State) (n : Nat) : State :=
  let o := s.own n
  if o.pos = (s.chan n).durable && decide (o.extras.length ≤ o.posX) && !o.search && !s.writeBusy n then s.setOwn n { o with lagging := false }
  else s

/-- A grain of the catch-up is queued from page `p`. -/
def State.sendCaught (s : State) (n : Nat) (g : Word) (p : Nat) (hdr : List Byte) : State :=
  let s := s.setOwn n { s.own n with pos := g }
  s.queueOvr { ty := 1, chan := n, seq := g, committed := true, opening := (s.chan n).opening, page := some p
               body := padTo 32 (hdr.take 28) }

/-- The catch-up meets MEDIA_UNREADABLE at grain `g`. -/
def State.mirrorGap (s : State) (n : Nat) (g : Word) : State :=
  let s := (s.setOwn n { s.own n with gapHalted := true }).raise Reg.OVR_EVENTS_MIRROR_GAP
  s.event 0x44 n (s.chan n).opening.toNat g.toNat

/-- A record read from the media is the member `kind` of channel `n` with sequence `q`. -/
def State.mediaIs (s : State) (n : Nat) (q : Word) (media : List Byte) : Bool :=
  let hdr := media.take 32
  media.length == 4128 && recordValid (s.bushel (s.bushelFor n q)).gen hdr (media.drop 32) &&
    (byteAt hdr 3).toNat % 64 == n && BitVec.ofNat 32 (leAt hdr 4 4) == q &&
    BitVec.ofNat 16 (leAt hdr 18 2) == (s.chan n).opening

/-- The next grain `g` of the catch-up: from its page if that is held, else from the media through a read page. -/
def State.catchGrain (s : State) (n : Nat) (g : Word) (media : List Byte) : State :=
  match s.residentRec n g with
  | some r =>
    let t := s.bufCheck (4096 * r.page) 4096 6
    if t.2 then t.1 else t.1.sendCaught n g r.page r.hdr
  | none =>
    if !(s.mediaIs n g media && byteAt media 2 == 1) then s.mirrorGap n g
    else if decide (s.getF Reg.OVR_GRANT_RESYNC_PAGES ≤ (s.pages.filter (fun g => g.pool == .read && g.mirror)).length) ||
        !s.readPagesOk 1 then s
    else
      match s.allocPages { num := 0, pool := .read, freed := true, mirror := true } 1 with
      | (s, [p]) => (s.bufWrite (4096 * p) (media.drop 32)).sendCaught n g p (media.take 32)
      | _ => s

/-- The record read from the media is a seal or divergence record that follows grain `pos` of channel `n`. -/
def State.mediaMember (s : State) (n : Nat) (media : List Byte) : Bool :=
  ((byteAt media 2).toNat == 2 || (byteAt media 2).toNat == 3) && s.mediaIs n (s.own n).pos media

/-- It is sent as a SEAL_NOTE or a catch-up MIRROR frame. -/
def State.sendMember (s : State) (n : Nat) (media : List Byte) : State :=
  let hdr := padTo 32 (media.take 28)
  let isSeal := decide ((byteAt media 2).toNat = 2)
  s.queueOvr { ty := if isSeal then 2 else 1, chan := n, seq := (s.own n).pos, committed := !isSeal, opening := (s.chan n).opening
               body := if isSeal then hdr ++ (media.drop 32).take 164 else hdr ++ media.drop 32 }

/-- After a power-up the media have been searched for members after DURABLE_HEAD once the read brings none. -/
def State.searched (s : State) (n : Nat) (media : List Byte) : State :=
  let o := s.own n
  if o.search && o.pos == (s.chan n).durable && !s.mediaMember n media then s.setOwn n { o with search := false } else s

/-- The next member of the catch-up of channel `n`, in the order of formation. `media` is the record as read from the media
where its page is no longer held; a seal or divergence record that the device no longer keeps comes that way too. -/
def State.catchNext (s : State) (n : Nat) (media : List Byte) : State :=
  let o := s.own n
  let c := s.chan n
  if o.search && s.mediaMember n media then s.sendMember n media
  else match o.extras[o.posX]? with
  | some (h, ty, bytes) =>
    if seqLe h o.pos then
      (s.setOwn n { o with posX := o.posX + 1 }).queueOvr { ty := ty, chan := n, seq := h, committed := ty == 1
                                                            opening := c.opening, body := bytes }
    else s.catchGrain n (o.pos + 1) media
  | none =>
    if s.mediaMember n media then s.sendMember n media
    else if o.pos = c.durable then s
    else match c.lost with
      | some g => if o.pos + 1 = g then s else s.catchGrain n (o.pos + 1) media
      | none => s.catchGrain n (o.pos + 1) media

/-! ## Commands -/

/-- OVR_MIRROR_FRAME_RX (R249, R257): a frame carrying a record that is neither a grain nor a divergence record does not
follow. -/
def execOvrMirrorFrameRx (frame : List Byte) (s : State) : Host.Outcome State Fault Refusal :=
  .next (s.whenLive (fun s => s.ovrRx 1 frame (fun s =>
    let hdr := slice frame 16 32
    let committed := bitOf (byteAt frame 2).toNat 0
    let kind := (byteAt hdr 2).toNat
    let n := (byteAt hdr 3).toNat % 64
    if kind = 1 ∨ (kind = 3 ∧ committed) then s.memberRx n kind committed hdr (slice frame 48 4096)
    else if (s.intake n).isOpen then s.confirmNote n true
    else s)))

/-- OVR_SEAL_NOTE_RX (R251, R256). -/
def execOvrSealNoteRx (frame : List Byte) (s : State) : Host.Outcome State Fault Refusal :=
  .next (s.whenLive (fun s => s.ovrRx 2 frame (fun s =>
    let hdr := slice frame 16 32
    s.memberRx ((byteAt hdr 3).toNat % 64) 2 true hdr (slice frame 48 164))))

/-- OVR_CANCEL_RX (R250): the provisional grains that it covers are dropped and their credits return. -/
def execOvrCancelRx (frame : List Byte) (s : State) : Host.Outcome State Fault Refusal :=
  .next (s.whenLive (fun s => s.ovrRx 3 frame (fun s =>
    let n := (byteAt frame 16).toNat % 64
    let count := (byteAt frame 17).toNat
    let first := BitVec.ofNat 32 (leAt frame 20 4)
    if BitVec.ofNat 16 (leAt frame 18 2) != (s.intake n).opening then s
    else (s.dropProv n (fun g => g.kind == 1 && !g.committed && decide ((g.seq - first).toNat < count))).grant n false)))

/-- OVR_HEARTBEAT_RX (R244, R253, R255): EN and the OWNED mask first, then the notes in order. -/
def execOvrHeartbeatRx (frame : List Byte) (s : State) : Host.Outcome State Fault Refusal :=
  .next (s.whenLive (fun s => s.ovrRx 4 frame (fun s =>
    let flags := (byteAt frame 24).toNat
    let meet := masksMeet (slice frame 16 8) s.ownMask
    let s := if meet then s.raise Reg.OVR_EVENTS_OVERLAP else s
    if meet then State.linkDown { s with ovr := { s.ovr with good := 0 } } 3
    else if !bitOf flags 0 then State.linkDown { s with ovr := { s.ovr with good := 0 } } 4
    else if bitOf flags 1 then State.linkDown { s with ovr := { s.ovr with good := 0 } } 5
    else
      let s := State.tryUp { s with ovr := { s.ovr with good := min 3 (s.ovr.good + 1) } }
      ((List.range (min 8 (byteAt frame 25).toNat)).map (fun i => slice frame (32 + 16 * i) 16)).foldl State.noteRx s)))

/-- OVR_INVALID_FRAME_RX (R241, R253): an invalid frame, or a code violation; `fresh`: the first of a window of 1 ms. -/
def execOvrInvalidFrameRx (fresh : Bool) (s : State) : Host.Outcome State Fault Refusal :=
  .next (s.whenLive (fun s => s.when' (s.flag Reg.OVR_CTRL_EN) (fun s => s.ovrBad fresh)))

/-- OVR_LINK_SILENCE (R253): no valid frame for 300 µs. -/
def execOvrLinkSilence (s : State) : Host.Outcome State Fault Refusal :=
  .next (s.whenLive (fun s => State.linkDown { s with ovr := { s.ovr with good := 0 } } 1))

/-- OVR_HEARTBEAT_SEND (R245, R246): a HEARTBEAT is due; credits that have become free are granted in it. -/
def execOvrHeartbeatSend (s : State) : Host.Outcome State Fault Refusal :=
  .next (s.whenLive (fun s =>
    let s := s.each s.openIntakes (fun s n => s.grant n false)
    if s.lanesIdle then s.startBeat else { s with ovr := { s.ovr with beatDue := true } }))

/-- MIRROR_FRAME_QUEUE (R25, R247, R323): the payload of the next grain of the write in flight on `chan` is in its page. -/
def execMirrorFrameQueue (chan : Nat) (s : State) : Host.Outcome State Fault Refusal :=
  let go (s : State) (tid first k len : Nat) (held : Bool) (page : Option Nat) (f : State → State) : State :=
    match page with
    | none => s
    | some p =>
      if !s.liveMirror chan then s
      else
        let t := s.bufCheck (4096 * p) 4096 6
        if t.2 then t.1.lag chan
        else
          let seq := BitVec.ofNat 32 first + BitVec.ofNat 32 k
          let h := grainHdr (s.chan chan) chan seq {} held tid k len (s.bufRead (4096 * p) 4096)
          let u := t.1.mirrorGrain chan seq p h
          if (u.own chan).lagging then u else f u
  .next (s.whenLive (fun s =>
    match s.port.frame, s.cmds.find? (fun c => c.op == 0x10 && c.running && dChan c.desc == chan) with
    | some f, c =>
      if f.phase = .writing && f.ty == 0 && f.chan == chan then
        go s f.tid f.word1.toNat f.mirrored f.len f.held f.pages[f.mirrored]? (fun s =>
          { s with port := { s.port with frame := some { f with mirrored := f.mirrored + 1 } } })
      else match c with
        | some c => go s (c.owner.getD 0) (dSeq c.desc).toNat c.done c.pages.length c.held c.pages[c.done]? (·.setCmd { c with done := c.done + 1 })
        | none => s
    | none, some c =>
      go s (c.owner.getD 0) (dSeq c.desc).toNat c.done c.pages.length c.held c.pages[c.done]? (·.setCmd { c with done := c.done + 1 })
    | none, none => s))

/-- CATCH_UP_SEND (R257): the next member of a lagging channel against one credit; `media` is the record as read from the
media, none where its page is still held or it cannot be read. -/
def execCatchUpSend (chan : Nat) (media : List Byte) (s : State) : Host.Outcome State Fault Refusal :=
  .next (s.whenLive (fun s =>
    if !s.catching chan then s
    else
      let t := s.caughtUp chan
      if !(t.own chan).lagging || s.ovrCredit chan = 0 then t
      else ((s.searched chan media).catchNext chan media).caughtUp chan))

/-- PROV_TIMEOUT (R250): OVR_PROV_TMO has passed without a COMMIT note for the provisional grains of `chan`. -/
def execProvTimeout (chan : Nat) (s : State) : Host.Outcome State Fault Refusal :=
  .next (s.whenLive (fun s =>
    match (s.pendingOf chan).filter (fun g => g.kind == 1 && !g.committed) with
    | [] => s
    | g :: l =>
      let first := l.foldl (fun h x => seqMin h x.seq) g.seq
      let s := (s.dropProv chan (fun x => !seqLt x.seq first)).raise Reg.OVR_EVENTS_PROV_TIMEOUT
      (s.event 0x42 chan 0 first.toNat).grant chan false))

/-- OVR_CONFIG_WRITE (R238, R253; spec/16 R334): OVR_CTRL, OVR_PEER_UID, OVR_OWN or OVR_PEER_KEY. -/
def execOvrConfigWrite (src addr : Nat) (v : Word) (s : State) : Host.Outcome State Fault Refusal :=
  .next (s.whenLive (fun s =>
    let off := addr - 0x400D0000
    if addr = 0x400D0000 && bitOf v.toNat 0 && privileged src && !s.onPll 3 then s.runReject src addr
    else if addr = 0x400D0000 then
      let t := s.genericWrite src addr v
      if s.flag Reg.OVR_CTRL_EN && !t.flag Reg.OVR_CTRL_EN then
        State.linkDown { t with ovr := { t.ovr with good := 0 } } 4
      else t
    else if (0x10 ≤ off && off < 0x20) || (0x40 ≤ off && off < 0x80) then
      if !privileged src then s.denied src (regDetail addr)
      else if s.flag Reg.OVR_CTRL_EN then s.raise Reg.OVR_EVENTS_CFG_REJECT
      else if 0x18 ≤ off && off < 0x20 &&
          (List.range 32).any (fun b =>
            let n := 32 * ((off - 0x18) / 4) + b
            bitOf v.toNat b != bitOf (s.getF Reg.OVR_OWN_MASK (n / 32)) b && ((s.chan n).isOpen || (s.intake n).isOpen)) then
        s.raise Reg.OVR_EVENTS_CFG_REJECT
      else s.genericWrite src addr v
    else s.genericWrite src addr v))

/-- OVORE_FRAME_SENT (R25, R99, R245): the frame on the lanes has left; a due HEARTBEAT or the next queued frame starts. -/
def execOvoreFrameSent (s : State) : Host.Outcome State Fault Refusal :=
  .next (s.whenLive (fun s =>
    if s.lanesIdle then s
    else
      let s := s.bump Reg.OVR_CNT_TX_COUNT
      let s := if s.ovr.beating then { s with ovr := { s.ovr with beating := false } }
        else match s.ovr.sending with
          | some f =>
            let s := { s with ovr := { s.ovr with sending := none } }
            (match f.page with
             | some p => (s.modPage p (fun g => { g with mirror := false })).sweepPages
             | none => s)
          | none => s
      if s.ovr.beatDue then s.startBeat else s.nextOvr s.ovr.txq.length))

/-- LANE_TRAINED (R241, R255): receive lane `lane` gains or loses comma alignment. -/
def execLaneTrained (lane : Nat) (gained : Bool) (s : State) : Host.Outcome State Fault Refusal :=
  .next (s.whenLive (fun s =>
    (s.setBit (if lane = 0 then Reg.OVR_STATUS_TRAINED0 else Reg.OVR_STATUS_TRAINED1) 0 gained).tryUp))

end Sys2Proof.Machine
end

