-- ==== Sys2Proof/Machine/Reset.lean ====
section
/-! DEFINITION. The resets of the logic die (spec/18 R376 to R378): what each keeps and what it clears; the reset of a hart;
the resume table. -/

namespace Sys2Proof.Machine

/-! ## What a reset keeps (R378) -/

/-- The keys of a field's elements. -/
def Field.keys (f : Field) : List Nat := (List.range f.n).map f.key

/-- The register fields that a RESET_N, software or watchdog reset keeps. -/
def keptFields : List Field :=
  [Reg.CLK_STATUS_XTAL_RDY, Reg.ECC_RETIRE_MAP, Reg.MON_LIFE_MINUTES, Reg.MON_AGE_AGE]

/-- The part of the register store that a reset keeps; a power-on reset keeps none of it. -/
def State.keptRegs (s : State) (powerOn : Bool) : Sparse Word :=
  if powerOn then [] else
    let ks := (keptFields.map Field.keys).flatten
    s.regs.filter (fun e => ks.contains e.1)

/-- A bushel stays on the media as it is; one that was open is open no longer to the ledger engine (log entry 10). -/
def State.keptBushels (s : State) : Sparse Bushel :=
  s.bushels.map (fun (e : Nat × Bushel) => (e.1, if e.2.state = .opened then { e.2 with state := .closed } else e.2))

/-- What stays of a tenant: its failures and its lockout; of nothing at power-on. -/
def State.keptTenants (s : State) (powerOn : Bool) : Sparse Tenant :=
  if powerOn then [] else
    tids.foldl (fun l t =>
      let x := s.ten t
      sput {} t { fails := x.fails, run := x.run, locks := x.locks, lockMs := x.lockMs, lockAt := x.lockAt, sess := if x.sess = 3 then 3 else 0 } l) []

/-- The logic die is reset (R376, R378): everything not listed here takes its reset value. The media, the power die and the
pins are not the logic die's; the always-on domain keeps what it holds while VAON is in regulation. -/
def State.logicReset (s : State) (powerOn : Bool) (src : Nat) : State :=
  { pending := s.pending, rdata := s.rdata, freeCtr := s.freeCtr, formed := s.formed
    regs := s.keptRegs powerOn
    die := if powerOn then .powerOn else .reset
    time := { dmt := s.time.dmt, frac := s.time.frac, epoch := s.time.epoch, retained := s.power.vaon
              anchorNo := s.time.anchorNo, anchorEpoch := s.time.anchorEpoch, waiting := s.time.waiting
              store := s.time.store, wrap := s.time.wrap }
    -- a deferred reset waits until the intake is empty (R377); a power-on reset loses it (R356)
    evr := { first := s.evr.first, last := s.evr.last, total := s.evr.total, droppedTotal := s.evr.droppedTotal }
    port := { seated := s.port.seated }
    tenants := s.keptTenants powerOn
    buf := s.buf, nor := s.nor, lmem0 := s.lmem0, lmem1 := s.lmem1, lmem2 := s.lmem2
    lmem3 := s.lmem3
    bushels := s.keptBushels
    shock := { low := s.shock.low }
    power := { s.power with vholds := [], admClosed := false, spinup := none, told := false, lost := false
                            wasTurning := false, wasStarting := false }
    ecc := { bad := s.ecc.bad.filter (fun b => b.mem != 5) }
    clk := if powerOn then { stopLast := s.clk.stopLast, stopDmt := s.clk.stopDmt, unreported := s.clk.unreported
                             xtalStopped := s.clk.xtalStopped, freezeLow := s.clk.freezeLow }
      else { s.clk with switching := [] }
    tap := s.tap
    boot := { floor := s.boot.floor, raises := s.boot.raises, revoke := s.boot.revoke
              resume := s.boot.resume, lastSrc := src }
    pins := s.pins }

/-- A power-on reset. -/
def State.powerOnReset (s : State) : State :=
  (s.logicReset true 0).setF Reg.CLK_STATUS_XTAL_RDY 0 0

/-! ## Harts (R376) -/

/-- Hart `h` is held in reset: its registers, CSRs and PMP locks return to their reset values (R378). -/
def State.holdHart (s : State) (h : Nat) : State :=
  let run := s.getF Reg.CORE_RUN_RUN
  let s := if bitOf run h then s.setF Reg.CORE_RUN_RUN 0 (run - 2 ^ h) else s
  s.setHart h {}

/-! ## The resume table (R372) -/

/-- The open channels of this cartridge's own. -/
def State.savedChans (s : State) : List SavedChan :=
  (s.chans.filter (fun e => e.2.isOpen)).map (fun e =>
    { num := e.1, chan := e.2, place := (s.bushel e.2.bushel).next, sealPlace := sget 0 e.1 s.boot.sealPlaces })

/-- The resume table as step 7 saves it: open channels, the TENANT block's settings, keys, reservations, and the numbers of
the current checkpoint and of the highest anchor. -/
def State.saveResume (s : State) : State :=
  let t : Resume := {
    chans := s.savedChans
    fields := s.regs.filter (fun e => decide (32 * 0x40030000 ≤ e.1) && decide (e.1 < 32 * 0x40040000))
    keys := (tids.filter (fun t => (s.ten t).keySet)).map (fun t => (t, (s.ten t).key))
    shares := (tids.filter (fun t => (s.ten t).share != {})).map (fun t => (t, (s.ten t).share))
    checkpoint := s.boot.checkpoint, anchor := s.time.anchorNo }
  { s with boot := { s.boot with resume := some t } }

end Sys2Proof.Machine
end

