-- ==== Sys2Proof/Machine/PowerLoss.lean ====
section
/-! DEFINITION. The die link and the power-loss sequence (spec/10 R223 to R234, R396; spec/09 R210, R211), which a deferred
reset runs too (spec/18 R377). -/

namespace Sys2Proof.Machine

/-! ## The die link (R224, R226) -/

/-- The logic die has received a valid frame: SEQ gaps, the longest interval, and the return of the link (R226). -/
def State.dlValid (s : State) (seq : Byte) (gap : Nat) : State :=
  let s := if s.dl.rxSeen && seq != s.dl.rx + 1 then s.bump Reg.DL_CNT_GAP_COUNT else s
  let s := if s.getF Reg.DL_GAP_MAX_NS10 < gap then s.setF Reg.DL_GAP_MAX_NS10 0 (satN 16 gap) else s
  let s : State := { s with dl := { s.dl with rx := seq, rxSeen := true } }
  let s := s.raise Reg.DL_STATUS_UP
  if s.flag Reg.DL_STATUS_DOWN then
    let s := (s.lower Reg.DL_STATUS_DOWN).event 0x35 0 0 (s.getF Reg.DL_CNT_CRC_COUNT)
    if s.getF Reg.ENG_STATUS_PL_STEP = 0 then { s with power := { s.power with admClosed := false } } else s
  else s

/-- A die-link frame (R224): TYPE, SEQ, the 48-bit PAYLOAD, and CRC-16/CCITT-FALSE over bits [79:16]. -/
def dlFrame (ty : Nat) (seq : Byte) (payload : Nat) : BitVec 80 :=
  let head := ty % 256 * 2 ^ 56 + seq.toNat * 2 ^ 48 + payload % 2 ^ 48
  BitVec.ofNat 80 (head * 2 ^ 16 + (crc16 (beBytes 8 head)).toNat)

/-- The logic die sends a frame of type `ty` under its next SEQ. -/
def State.dlSend (s : State) (ty payload : Nat) : State :=
  { s with dl := { s.dl with tx := s.dl.tx + 1, out := dlFrame ty s.dl.tx payload } }

/-- The payload of an ACTUATOR frame (R224): the current commands, retract and load requests and RESUME. The places of the
fields are the model's (log entry 71). -/
def actPayload (a b : Int) (retA retB loadA loadB resume : Bool) : Nat :=
  unsigned 16 a + 2 ^ 16 * unsigned 16 b + 2 ^ 32 * (b2n retA + 2 * b2n retB + 4 * b2n loadA + 8 * b2n loadB + 16 * b2n resume)

/-- The payload of a SPINDLE frame (R224): current command, bridge state, heater and DRAIN, placed as log entry 71 says. -/
def spinPayload (i : Int) (bridge : Nat) (heater drain : Bool) : Nat :=
  unsigned 16 i + 2 ^ 16 * (bridge % 16) + 2 ^ 20 * (b2n heater + 2 * b2n drain)

/-- DL_HEARTBEAT (R224): the logic die has had nothing else to send for 2 µs. -/
def execDlHeartbeat (s : State) : Host.Outcome State Fault Refusal := .next (s.whenLive (·.dlSend 1 0))

/-- Two coil commands within the actuator budget (R223): scaled by one factor, which the spec gives no rounding for; here
toward 0. -/
def State.budget (s : State) (a b : Int) : Int × Int × Bool :=
  let m := s.getF Reg.ENG_ACT_SUM_MAX
  let sum := a.natAbs + b.natAbs
  if sum ≤ m then (a, b, false) else (Int.tdiv (a * m) sum, Int.tdiv (b * m) sum, true)

/-- DL_ACTUATOR_FRAME (R190, R191, R223 to R225): the power die takes the coil commands, and retract and load requests; a load
request carries RESUME, and is accepted only while AT_SPEED is 1 (R207). In AUTO_RETRACT it loads no head and drives no coil
until RESUME comes. -/
def execDlActuatorFrame (s : State) : Host.Outcome State Fault Refusal :=
  .next (s.whenLive (fun s =>
    let ask (a : Nat) : Bool := (s.loop a).loadReq && !(s.loop a).retReq
    let s := s.dlSend 2 (actPayload (s.loop 0).uPrev (s.loop 1).uPrev (s.loop 0).retReq (s.loop 1).retReq (ask 0) (ask 1)
      (ask 0 || ask 1))
    let p := s.power
    let retracting (a : Nat) : Bool := sget false a p.retract || (s.loop a).retReq
    let auto := p.autoRetract && !(ask 0 || ask 1)
    let u (a : Nat) : Int := if retracting a || auto then 0 else (s.loop a).uPrev
    let c := s.budget (u 0) (u 1)
    let s := if c.2.2 then (s.raise Reg.ENG_EVENTS_ACT_CLIP).bumpSat Reg.ENG_ACT_CNT_CLIP else s
    let s : State := { s with power := { p with
      coil := sput 0 1 c.2.1 (sput 0 0 c.1 p.coil), autoRetract := auto
      retract := sput false 1 (retracting 1) (sput false 0 (retracting 0) p.retract)
      loadReq := sput false 1 (ask 1 && s.atSpeed) (sput false 0 (ask 0 && s.atSpeed) p.loadReq) } }
    s.each [0, 1] (fun s a => s.setLoop a { s.loop a with retReq := false })))

/-- A spindle that turns backward at HANDOFF_RPM or faster: the drive is stopped until the speed falls back (R198). -/
def State.backCapped (s : State) : Bool :=
  s.spn == 6 && s.spindle.dir && decide (8 * s.getF Reg.SPN_THR_HANDOFF_RPM ≤ s.getF Reg.SPN_EST_RPM8)

/-- The spindle current that the sequencer commands in its state (R196); backward running is at RAMP_I (R198). -/
def State.spinCurrent (s : State) : Int :=
  match s.spn with
  | 2 => s.getF Reg.SPN_IBRK_BRAKE_I
  | 3 => s.getF Reg.SPN_HEAT_HEAT_I
  | 4 => s.getF Reg.SPN_IPD_IPD_I
  | 5 => s.spindle.rampI
  | 6 => if s.backCapped then 0 else if s.spindle.dir then s.getF Reg.SPN_IRUN_RAMP_I else s.getF Reg.SPN_IRUN_SYNC_I
  | 7 => s.spl.u
  | 8 => if s.spindle.stopBrake then s.getF Reg.SPN_IBRK_STOP_I else -(s.getF Reg.SPN_IBRK_STOP_I : Int)
  | _ => 0

/-- What the bridge does in the sequencer's state, named by the state of R196 whose bridge it is: STOP ends in the short brake
of BRAKE, and a capped backward spindle is not driven (R198). -/
def State.bridgeState (s : State) : Nat :=
  if s.spn = 8 ∧ s.spindle.stopBrake then 2 else if s.backCapped then 0 else s.spn

/-- DL_SPINDLE_FRAME (R224, R231): the bridge follows the sequencer's state, but for a bridge that the power die holds after a
loss; DRAIN tells whether records remain queued, and once none does a spindle held at N_L is harvested again. -/
def execDlSpindleFrame (s : State) : Host.Outcome State Fault Refusal :=
  .next (s.whenLive (fun s =>
    let drain := !s.queuesEmpty
    let s := s.dlSend 3 (spinPayload s.spinCurrent s.bridgeState (s.spn == 3) drain)
    let p := s.power
    if p.driveNL && drain then { s with power := { p with drain := true } }
    else if p.driveNL || p.harvest then
      { s with power := { p with driveNL := false, harvest := true, spinCmd := 0, bridge := 9, heater := false, drain := drain } }
    else { s with power := { p with spinCmd := s.spinCurrent, bridge := (if s.spn = 9 then p.bridge else s.bridgeState),
                                     heater := s.spn == 3, drain := drain } }))

/-- DL_MEASURE_FRAME (R224, R226, R228, R229, R235): VHOLD and VIN in mV. VIN counts as valid only while it stays at or above
VIN_FAIL + 0.20 V. -/
def execDlMeasureFrame (seq : Byte) (vhold vin gap : Nat) (s : State) : Host.Outcome State Fault Refusal :=
  .next (s.whenLive (fun s =>
    let s := (s.dlValid seq gap).arm vhold
    let up := decide (10 * s.getF Reg.ENG_PL2_VIN_FAIL + 200 ≤ vin)
    let s : State := { s with power := { s.power with vin := vin, vinValid := s.power.vinValid && up } }
    (s.setF Reg.ENG_VOLT_VHOLD 0 (satN 16 vhold)).setF Reg.ENG_VOLT_VIN 0 (satN 16 vin)))

/-- The power die reports the heads of actuator `a` on the ramp (R190, R191): a retracting loop is PARKED, and one that is
not enabled IDLE. -/
def State.onRamp (s : State) (a : Nat) : State :=
  let s := s.lower Reg.ACT_STATE_LOADED a
  if s.actState a = 7 then (s.setAct a (b2n (bitOf (s.getF Reg.LOOP_CTRL_EN) a)) false).restReached else s

/-- The power die reports the heads of actuator `a` loaded (R191): the loop enters ACQUIRE. -/
def State.headsLoaded (s : State) (a : Nat) : State :=
  if (s.loop a).loadReq then
    ((s.setLoop a { s.loop a with loadReq := false, acq := 0 }).raise Reg.ACT_STATE_LOADED a).setAct a 2 false
  else s

/-- A retract that the power die begins on its own moves the loop to RETRACT, whatever its state (R190). -/
def State.ownRetract (s : State) (a : Nat) (torn : Bool) : State :=
  if s.actState a = 7 then s
  else
    let s := s.retractLoopFor a 7 torn
    s.setLoop a { s.loop a with retReq := false }

/-- DL_STATE_FRAME (R190, R191, R224 to R226): the retract, ramp and loaded flags of the two actuators, beside AUTO_RETRACT as
the power die holds it; the harvest and charger states are held as they were last reported. -/
def execDlStateFrame (seq : Byte) (retA retB rampA rampB loadedA loadedB harvest charger tornA tornB : Bool) (gap : Nat)
    (s : State) : Host.Outcome State Fault Refusal :=
  .next (s.whenLive (fun s =>
    let s := (s.dlValid seq gap).setBit Reg.DL_STATUS_AUTO_RETRACT 0 s.power.autoRetract
    let s : State := { s with dl := { s.dl with harvest := harvest, charger := charger } }
    let one (s : State) (a : Nat) (ret ramp loaded torn : Bool) : State :=
      let s : State := { s with power := { s.power with loaded := sput false a loaded s.power.loaded } }
      let s := if ret then s.ownRetract a torn else s
      let s := if ramp then s.onRamp a else s
      if loaded && !ret then s.headsLoaded a else s
    one (one s 0 retA rampA loadedA tornA) 1 retB rampB loadedB tornB))

/-- DL_BAD_CRC_FRAME (R224). -/
def execDlBadCrcFrame (s : State) : Host.Outcome State Fault Refusal :=
  .next (s.whenLive (·.bump Reg.DL_CNT_CRC_COUNT))

/-- POWER_DIE_AUTO_RETRACT (R225): the power die, having heard no valid frame for 50 µs, retracts both actuators, releases the
bridge and stays so until RESUME; it harvests only if VIN is lost too. With the link silent it takes DRAIN as clear
(R231). -/
def execPowerDieAutoRetract (s : State) : Host.Outcome State Fault Refusal :=
  .next (s.when' s.power.vaon (fun s =>
    let p := s.power
    let lost := s.lossStands
    { s with power := { p with autoRetract := true, coil := [], loadReq := [], spinCmd := 0, heater := false, drain := false
                               driveNL := false, harvest := lost, bridge := if lost then 9 else 0
                               retract := sput false 1 true (sput false 0 true p.retract) } }))

/-- DIELINK_DOWN (R226): the logic die has heard no valid frame for 50 µs. Both loops go to RETRACT, with the power die's own
retract (R190). -/
def execDielinkDown (tornA tornB : Bool) (s : State) : Host.Outcome State Fault Refusal :=
  .next (s.whenLive (fun s => s.when' (!s.flag Reg.DL_STATUS_DOWN) (fun s =>
    let s : State := { s with power := { s.power with admClosed := true } }
    let s := (s.ownRetract 0 tornA).ownRetract 1 tornB
    ((s.raise Reg.DL_STATUS_DOWN).lower Reg.DL_STATUS_UP).event 0x34 0 0 (s.getF Reg.DL_CNT_CRC_COUNT))))

/-! ## Detection (R210, R228, R229) -/

/-- The rotor turns forward at SPN_EST ≥ CATCH_MIN (R210). -/
def State.turnsForward (s : State) : Bool :=
  !s.flag Reg.SPN_STATE_DIR_NOW && decide (8 * s.getF Reg.SPN_DET_CATCH_MIN ≤ s.getF Reg.SPN_EST_RPM8) &&
    s.getF Reg.SPN_EST_RPM8 != 0

/-- The spindle is turning (R210). -/
def State.classTurning (s : State) : Bool :=
  let st := s.spn
  st == 7 || st == 8 || ((st == 0 || st == 1 || st == 2 || st == 10) && s.turnsForward)

/-- The spindle is starting (R210). -/
def State.classStarting (s : State) : Bool :=
  let st := s.spn
  decide (3 ≤ st ∧ st ≤ 6) || ((st == 1 || st == 2) && s.spindle.starting && !s.turnsForward)

/-- A record with DURABLE content waits that cannot be written any more: the die link is silent at the loss (R227). -/
def State.abandonSilent (s : State) : State :=
  let k := (s.records.filter (fun r => r.kind == .grain)).length
  if s.flag Reg.DL_STATUS_DOWN && k != 0 then
    let s : State := { s with power := { s.power with lost := true } }
    (s.raise Reg.ENG_EVENTS_DRAIN_ABANDONED).event 0x36 0xFF 0 k
  else s

/-- The power die detects a loss (R228, R229): the charger stops, the test of R229 is disarmed, VIN is no longer valid, the
spindle is classed and a turning one is rectified. A loss by VHOLD stays one until VIN is valid after it (R229). -/
def State.detectLoss (s : State) (why : PowerLoss) : State :=
  let turning := s.classTurning
  let p := s.power
  let why := if p.loss = some .vhold ∧ p.vinValid = false then .vhold else why
  let s : State := { s with power := { p with
    loss := some why, told := false, charger := false, armed := false, vinValid := false, wasTurning := turning
    wasStarting := s.classStarting, lostAt := s.time.dmt, harvest := turning, bridge := if turning then 9 else p.bridge } }
  s.whenLive State.abandonSilent

/-- POWER_LOSS_VIN (R228): VIN has stayed below VIN_FAIL for 2 µs. While a loss stands, that is no new detection. -/
def execPowerLossVin (s : State) : Host.Outcome State Fault Refusal :=
  .next (if s.lossStands then s else s.detectLoss .vin)

/-- POWER_LOSS_VHOLD (R229): VHOLD has stayed below 12.0 V for 2 µs; a loss only while the test is armed. -/
def execPowerLossVhold (s : State) : Host.Outcome State Fault Refusal :=
  .next (if s.power.armed then s.detectLoss .vhold else s)

/-! ## Steps 1 to 3 (R230) -/

/-- Step 1, of a power loss and of a deferred reset: admission and fetching close, commands in flight are abandoned, every
staging is revoked, halted channels are split (R327), parked actuators may be loaded for the drain (R351). -/
def State.plStep1 (s : State) : State :=
  let s : State := { s with power := { s.power with admClosed := true, lost := false } }
  let s := (s.lower Reg.ENG_STATUS_RETURN).lower Reg.ENG_STATUS_PL_DONE
  let s := s.abandon.revoke (fun _ => true)
  let bare := (s.chans.filter (fun e => e.2.lost.isSome && e.2.spare.isNone)).isEmpty
  let s := s.each chanNums State.autoSplit
  let s := if bare then s else State.raise { s with power := { s.power with lost := true } } Reg.ENG_EVENTS_DRAIN_ABANDONED
  (s.setF Reg.ENG_STATUS_PL_STEP 0 1).drainLoad

/-- What only a power loss does at step 1 (R230, R282). -/
def State.lossSigns (s : State) : State :=
  let s := ((s.raise Reg.ENG_STATUS_PL_ACTIVE).raise Reg.ENG_EVENTS_POWER_LOSS).event 0x30 0 0 s.lend
  State.emcy { s with dict := { s.dict with refusing := true } } 0x3100 0xFF (s.power.lostAt.toNat % 2 ^ 32)

/-- A DURABLE grain still waits for the media. -/
def State.grainsWait (s : State) : Bool := s.records.any (fun r => r.kind == .grain)

/-- The spindle at power loss (R210, R233). -/
def State.lossSpindle (s : State) : State :=
  let s := s.modSpn (fun p => { p with spent := false })
  if s.power.wasTurning then ((s.modSpn (fun p => { p with starting := false })).enterSpn 9).rekin
  else if !s.grainsWait then
    if s.spn = 3 then s.heatEnd 5 false else (s.modSpn (fun p => { p with starting := false })).enterSpn 0
  else if s.power.wasStarting then
    if s.spn = 3 then s.heatEnd 5 true
    -- START_GAP no longer applies (R233)
    else if s.spn = 2 && s.spindle.brake == .gap && s.spindle.gapWait then s.newAttempt
    else s
  else if s.power.spinup.isSome then s.newSet false
  else s

/-- What step 7 does under a power loss alone (R230, R253, R282). -/
def State.lossEnd (s : State) : State :=
  (((s.linkDown 5).lower Reg.DICT_CTRL_EN).lower Reg.DICT_STATUS_NMT).raise Reg.ENG_STATUS_PL_DONE

/-- DL_PWRFAIL_FRAME (R210, R228, R230, R232, R377): the sequence starts, a detection during it begins it again from step 1, or
a deferred reset becomes a power loss from the step it has reached and is withdrawn; the repeats change nothing. Once step 7
has been reached nothing is left to do. -/
def execDlPwrfailFrame (seq : Byte) (gap : Nat) (s : State) : Host.Outcome State Fault Refusal :=
  .next (s.whenLive (fun s =>
    let s := s.dlValid seq gap
    if s.power.told || s.flag Reg.ENG_STATUS_PL_DONE then s
    else
      let s := if s.power.loss.isSome then s else s.detectLoss .vin
      let s : State := { s with power := { s.power with told := true } }
      let s : State := if s.inLoss then s else { s with boot := { s.boot with pending := none } }
      let s := if s.inLoss || s.getF Reg.ENG_STATUS_PL_STEP == 0 then s.plStep1 else s
      let s := s.lossSigns.lossSpindle
      if s.getF Reg.ENG_STATUS_PL_STEP = 1 then s.setF Reg.ENG_STATUS_PL_STEP 0 2
      else if s.getF Reg.ENG_STATUS_PL_STEP = 7 then s.lossEnd
      else s))

/-- A power-loss seal becomes due for channel `n` if its last seal does not cover DURABLE_HEAD (R126); the periodic and
command seals that have not been formed never are. -/
def State.lossSeal (s : State) (n : Nat) : State :=
  let c := s.chan n
  if c.isOpen && !c.halted && c.covers != c.durable then
    State.makeDue { s with due := s.due.filter (fun d => match d with | Due.seal m _ _ => m != n | _ => true) } (.seal n 5 none)
  else s

/-- PL_PORT_CLOSE (R230 step 3, R250, R294, R377): the port closes, what is not yet at its commit edge is discarded, the
power-loss seals are formed, the oldest waiting anchor is written, and provisional grains are dropped. -/
def execPlPortClose (s : State) : Host.Outcome State Fault Refusal :=
  .next (s.whenLive (fun s =>
    let st := s.getF Reg.ENG_STATUS_PL_STEP
    s.when' (st == 1 || st == 2) (fun s =>
      let s := (s.closePort (if s.inLoss then 3 else 4)).discardWrites
      let s := s.setF Reg.ENG_STATUS_PL_STEP 0 3
      let s := s.each chanNums State.lossSeal
      let s := s.pumpAnchor true
      let s := s.each s.openIntakes (fun s n => s.dropProv n (fun _ => true))
      (s.setF Reg.ENG_STATUS_PL_STEP 0 4).drainLoad)))

/-! ## Steps 5 to 8 (R230 to R234, R396) -/

/-- A reset asked for during the sequence of a power loss that has ended runs its own sequence now (R20, R377). -/
def State.resumeReset (s : State) : State := if s.boot.pending.isSome then s.plStep1.setF Reg.ENG_STATUS_PL_STEP 0 2 else s

/-- A return of VIN ends the sequence (R232): the heads stay loaded, the charger runs, the spindle is caught. -/
def State.powerReturn (s : State) : State :=
  let s := (s.raise Reg.ENG_STATUS_RETURN).event 0x31 0 0 s.lend
  let s := (s.lower Reg.ENG_STATUS_PL_ACTIVE).setF Reg.ENG_STATUS_PL_STEP 0 0
  let s : State := { s with power := { s.power with loss := none, admClosed := s.flag Reg.DL_STATUS_DOWN, charger := true, harvest := false, driveNL := false }
                            dict := { s.dict with refusing := false } }
  (if s.spn = 9 then s.catchHarvest.rekin else s).resumeReset

/-- PL_QUEUE_EMPTY (R230 step 5, R232, R377): the media write queue of actuator `a` is empty, not before step 3 has ended. -/
def execPlQueueEmpty (a : Nat) (s : State) : Host.Outcome State Fault Refusal :=
  .next (s.whenLive (fun s =>
    let st := s.getF Reg.ENG_STATUS_PL_STEP
    s.when' (decide (4 ≤ st ∧ st ≤ 6) && (s.rw a).records.isEmpty) (fun s =>
      if s.inLoss && s.power.vinValid then s.powerReturn
      else
        let s := s.setF Reg.ENG_STATUS_PL_STEP 0 (max st 5)
        if s.atRest a && !(s.loop a).loadReq || s.actState a == 7 then s else s.retractLoop a false)))

/-- The records of actuator `a` are abandoned: their pages, slots and energy return. -/
def State.abandonRecs (s : State) (a : Nat) : State :=
  let l := (s.rw a).wq
  (s.setRw a { s.rw a with wq := [], batchBushel := none, batchLeft := 0 }).abandoned l

/-- PL_DRAIN_TIMEOUT (R160 cause 7, R230 step 6, R233): DRAIN_MAX has passed with records still queued. A deferred reset has no
such limit (R377). -/
def execPlDrainTimeout (tornA tornB : Bool) (s : State) : Host.Outcome State Fault Refusal :=
  .next (s.whenLive (fun s =>
    let st := s.getF Reg.ENG_STATUS_PL_STEP
    s.when' (decide (4 ≤ st ∧ st ≤ 5) && s.inLoss && !s.queuesEmpty) (fun s =>
      let s := (s.forceOff 0 7 tornA).forceOff 1 7 tornB
      let k := s.records.length
      let busy (a : Nat) : Bool := !(s.rw a).records.isEmpty
      let s := (s.abandonRecs 0).abandonRecs 1
      let s := if k = 0 then s else
        let s : State := { s with power := { s.power with lost := true } }
        (s.raise Reg.ENG_EVENTS_DRAIN_ABANDONED).event 0x36 0xFF 0 k
      let s := s.each [0, 1] (fun s a => if busy a && !(s.atRest a && !(s.loop a).loadReq) && s.actState a != 7 then s.retractLoop a false else s)
      s.setF Reg.ENG_STATUS_PL_STEP 0 6)))

/-- Every open window places its count in the intake and ends (spec/17 R359). -/
def State.flushWindows (s : State) : State :=
  let l := s.evr.windows
  l.foldl (fun s w => if w.count = 0 then s else s.intakeEvent { w.last with aux := BitVec.ofNat 16 (satN 16 w.count) })
    { s with evr := { s.evr with windows := [] } }

/-- VIN is valid again with no sequence running: the loss is over for the power die. -/
def State.lossOver (s : State) : State :=
  { s with power := { s.power with loss := none, harvest := false, driveNL := false } }

/-- PL_BOTH_PARKED (R230 step 7, R253, R282, R359, R372, R396): both actuators are parked and nothing is left to write. -/
def execPlBothParked (s : State) : Host.Outcome State Fault Refusal :=
  .next (s.whenLive (fun s =>
    let st := s.getF Reg.ENG_STATUS_PL_STEP
    s.when' (decide (5 ≤ st ∧ st ≤ 6) && s.bothAtRest && s.queuesEmpty) (fun s =>
      let reset := !s.inLoss
      let s := (s.setF Reg.ENG_STATUS_PL_STEP 0 7).flushWindows
      let s := if s.power.lost then s else s.saveResume
      let s := ((s.holdHart 0).holdHart 1).holdHart 2
      if reset then s
      else
        let s := s.lossEnd
        if s.power.vinValid then s.lossOver.powerOnReset else s)))

/-- LOGIC_DIE_BROWNOUT (R230 step 8, R364): VHOLD falls below ENG_VMIN; the bucks stop. -/
def execLogicDieBrownout (s : State) : Host.Outcome State Fault Refusal :=
  .next (State.when' s (decide (s.die ≠ .off)) (fun s =>
    let t := s.powerOnReset
    { t with die := .off, power := { t.power with rails := false } }))

/-- VIN_VALID (R211, R228, R229, R232, R396): VIN has met its return test, with `vhold` mV the least VHOLD over that time. The
charger restarts at once; VIN is valid then, but after a loss by VHOLD only with VHOLD at 15.0 V. Past step 7 the power die
resets the logic die, whether its clocks run or not. -/
def execVinValid (vhold : Nat) (s : State) : Host.Outcome State Fault Refusal :=
  .next (
    let s : State := State.arm { s with power := { s.power with charger := true } } vhold
    if s.power.loss = some .vhold ∧ vhold < 15000 then s
    else
      let s : State := { s with power := { s.power with vinValid := true } }
      if decide (s.die = .running) && s.flag Reg.ENG_STATUS_PL_DONE then s.lossOver.powerOnReset
      else if !s.live || !s.inLoss then s.lossOver
      else if s.spn = 9 then
        State.rekin (State.catchHarvest { s with power := { s.power with harvest := false, driveNL := false } })
      else s)

/-- HARVEST_AT_N_L (R231): N has fallen to N_L with DRAIN set; the power die drives the spindle at SYNC_I, holding it. -/
def execHarvestAtNL (s : State) : Host.Outcome State Fault Refusal :=
  .next (s.when' (s.power.harvest && s.power.drain) (fun s =>
    { s with power := { s.power with harvest := false, driveNL := true, spinCmd := s.getF Reg.SPN_IRUN_SYNC_I } }))

/-- HARVEST_END (R231): the harvest is down to 500 rpm; the bridge is released. The sequencer's state is not said to change. -/
def execHarvestEnd (s : State) : Host.Outcome State Fault Refusal :=
  .next (s.when' (s.power.harvest || s.power.driveNL) (fun s =>
    { s with power := { s.power with harvest := false, driveNL := false, bridge := 0, spinCmd := 0 } }))

/-- RETRACT_COMPLETE (R190, R234): ramp contact, RET_MS, or the 800 scruples of the floor (`spent`). -/
def execRetractComplete (a : Nat) (spent : Bool) (s : State) : Host.Outcome State Fault Refusal :=
  .next (
    let p := s.power
    let s : State := { s with power := { p with retract := sput false a false p.retract, loaded := sput false a false p.loaded
                                                coil := sput 0 a 0 p.coil } }
    s.whenLive (fun s => (if spent then s.raise Reg.ENG_EVENTS_RET_FLOOR else s).onRamp a))

end Sys2Proof.Machine
end

