-- ==== Sys2Proof/Machine/Scan.lean ====
section
/-! DEFINITION. The recovery scan (spec/06 R139 to R141; spec/18 R371, R374): what the media hold of each bushel that the
current checkpoint lists as OPEN, the heads it gives, the verification of resumed channels, and the check of VERIFY_RANGE
(spec/03 R65). -/

namespace Sys2Proof.Machine

/-! ## Reading places (R119, R122, R139) -/

/-- What the media hold: bushel, place and the 4128 bytes of each sector that decodes. -/
abbrev Media := List (Nat × Nat × List Byte)

/-- A valid record found at a place. -/
structure Found where
  place : Nat
  hdr : List Byte
  body : List Byte

/-- KIND of a found record. -/
def Found.kind (f : Found) : Nat := (byteAt f.hdr 2).toNat
/-- SEQ of a found record. -/
def Found.seq (f : Found) : Word := BitVec.ofNat 32 (leAt f.hdr 4 4)

/-- The bytes of place `p` of bushel `b`. -/
def sectorOf (media : Media) (b p : Nat) : Option (List Byte) :=
  (media.find? (fun e => e.1 == b && e.2.1 == p)).map (fun e => e.2.2)

/-- The record at place `p` of bushel `b` when the place is valid under `gen` (R122); a bushel whose map entry is not VALID
has no valid place. -/
def State.placeAt (s : State) (media : Media) (b : Nat) (gen : Word) (p : Nat) : Option Found :=
  if s.flag Reg.BMAP_VALID b && decide (p < 16384) then
    match sectorOf media b p with
    | some l =>
      if l.length = 4128 && recordValid gen (l.take 32) (l.drop 32) then some { place := p, hdr := l.take 32, body := l.drop 32 }
      else none
    | none => none
  else none

/-- The header record of bushel `b` under `gen`: the lowest valid place from 0 to TEAR_RSV (R119). -/
def State.headerAt (s : State) (media : Media) (b : Nat) (gen : Word) : Option Found :=
  (List.range (s.getF Reg.LDG_CTRL_TEAR_RSV + 1)).findSome? (fun p =>
    match s.placeAt media b gen p with
    | some f => if f.kind = 5 then some f else none
    | none => none)

/-- Steps 1 and 2 of R139 from place `p`: the valid records in place order, and the place after the last of them. `bad`
counts the consecutive failing places just passed. -/
def State.walk (s : State) (media : Media) (b : Nat) (gen : Word) : Nat → Nat → Nat → List Found × Nat
  | 0, p, bad => ([], p - bad)
  | n + 1, p, bad =>
    if bad = 8 ∨ 16384 ≤ p then ([], p - bad)
    else
      match s.placeAt media b gen p with
      | some f => let r := State.walk s media b gen n (p + 1) 0; (f :: r.1, r.2)
      | none => State.walk s media b gen n (p + 1) (bad + 1)

/-! ## The chain of a run (R124, R125, R139 steps 3 and 5) -/

/-- The run so far: the chain, the chain head of the last seal and that seal, the recovered head. -/
structure Run where
  chain : List Byte
  sealChain : List Byte
  head : Word
  /-- the last verified seal: its ordinal and MIRRORED_HEAD, when known, its sequence and place -/
  ordinal : Option Nat
  mirrored : Option Word
  covers : Word
  sealPlace : Nat := 0
  /-- the first grain after a failing place that no rewrite follows -/
  orphan : Option Word := none
  /-- a seal has failed -/
  bad : Bool := false
  /-- every seal that verified, the first first -/
  seals : List SealId := []
  /-- the seals up to this sequence lie in bushels that the scan does not read -/
  sealsFrom : Option Word := none
  /-- header bytes 0–27 of the records taken: a rewrite is taken once -/
  seen : List (List Byte) := []

/-- A seal verifies against the run under the owner's key `key` (R139, R141). -/
def Run.sealOk (r : Run) (key : List Byte) (f : Found) : Bool :=
  slice f.body 28 32 == padTo 32 r.sealChain && slice f.body 60 32 == padTo 32 r.chain &&
    ecdsaVerify key (f.hdr.take 20 ++ f.body.take 100) (slice f.body 100 32) (slice f.body 132 32)

/-- One more valid record of the run. -/
def Run.take (key : List Byte) (r : Run) (f : Found) : Run :=
  if r.bad || r.orphan.isSome || r.seen.contains (f.hdr.take 28) then r
  else
    let r := { r with seen := f.hdr.take 28 :: r.seen }
    match f.kind with
    | 1 =>
      if f.seq = r.head + 1 then { r with head := f.seq, chain := chainFold r.chain f.hdr f.body }
      else if seqLe f.seq r.head then r
      else { r with orphan := some f.seq }
    | 2 =>
      if r.sealOk key f then
        { r with ordinal := some (leAt f.body 0 4), mirrored := some (BitVec.ofNat 32 (leAt f.body 16 4)), covers := f.seq
                 sealPlace := f.place, sealChain := r.chain
                 seals := r.seals ++ [{ ordinal := leAt f.body 0 4, covers := f.seq, written := true, chain := r.chain }] }
      else { r with bad := true }
    | 3 => { r with chain := chainFold r.chain f.hdr f.body }
    | _ => r

/-- A roll-over seal that tears moved out of the bushel it closes (R134): BUSHEL names another one. -/
def Found.moved (b : Nat) (f : Found) : Bool := f.kind == 2 && byteAt f.body 4 == 4 && leAt f.body 20 4 != b

/-- The records after the last moved roll-over seal; those up to it belong to the closing bushel, and CHAIN_IN covers them. -/
def afterMoved (b : Nat) (l : List Found) : List Found := (l.reverse.takeWhile (fun f => !f.moved b)).reverse

/-- A moved roll-over seal must carry this bushel's CHAIN_IN. -/
def movedBad (b : Nat) (chainIn : List Byte) (l : List Found) : Bool :=
  match l.reverse.find? (Found.moved b) with
  | some f => slice f.body 60 32 != padTo 32 chainIn
  | none => false

/-- The last seal known of the opening before bushel `b` of it: the last valid seal of PREV_BUSHEL. -/
def State.lastSealOf (s : State) (media : Media) (prev : Nat) : Option Found :=
  ((s.walk media prev (s.bushel prev).gen 16384 0 0).1.reverse).find? (fun f => f.kind == 2)

/-- The run as a header record starts it. The first bushel of an opening starts at C₀; another one after a roll-over
seal that covered everything before CHAIN_IN. A CHAIN_IN that is not C₀, or not that seal's CHAIN_HEAD, breaks the chain
(R139 step 3, log entry 52). -/
def State.startRun (s : State) (media : Media) (h : Found) : Run :=
  let chainIn := slice h.body 28 32
  let chan := (byteAt h.hdr 3).toNat % 64
  let first := BitVec.ofNat 32 (leAt h.body 16 4)
  let prev := leAt h.body 24 4
  if prev = 0xFFFFFFFF then
    let zero := chainZero (slice h.body 60 8) chan (BitVec.ofNat 16 (leAt h.body 12 2)) first
    { chain := chainIn, sealChain := zero, bad := chainIn != padTo 32 zero
      head := h.seq - 1, ordinal := some 0, mirrored := some (first - 1), covers := first - 1 }
  else
    let k := s.lastSealOf media prev
    { chain := chainIn, sealChain := chainIn, head := h.seq - 1, covers := h.seq - 1, sealsFrom := some (h.seq - 1)
      bad := match k with | some f => slice f.body 60 32 != chainIn | none => false
      ordinal := k.map (fun f => leAt f.body 0 4), mirrored := k.map (fun f => BitVec.ofNat 32 (leAt f.body 16 4)) }

/-! ## A whole run (R139 step 4) -/

/-- What the scan of an opening found: the run, the bushel in which it ends with its generation and header, the place after
the last record written there, how it ended, and every valid record read. -/
structure ScanRes where
  run : Run
  bushel : Nat
  gen : Word
  header : Found
  next : Nat
  /-- the last valid record is a seal with REASON 3 -/
  closed : Bool
  /-- the last valid record is a roll-over seal: nothing more goes into the bushel -/
  rolled : Bool
  /-- NEXT_BUSHEL holds no valid header of the opening -/
  lostNext : Option Nat
  all : List Found

/-- The header of NEXT_BUSHEL: valid under its own GEN, which is the one known of the bushel or one more, with the channel,
the opening and the roll-over seal's CHAIN_HEAD. -/
def State.nextHeader (s : State) (media : Media) (nb : Nat) (h k : Found) : Option (Word × Found) :=
  let g := (s.bushel nb).gen
  let ok (g : Word) : Option (Word × Found) :=
    match s.headerAt media nb g with
    | some f =>
      if byteAt f.hdr 3 = byteAt h.hdr 3 && leAt f.body 12 2 = leAt h.body 12 2 && slice f.body 28 32 = slice k.body 60 32 then
        some (g, f)
      else none
    | none => none
  (ok (g + 1)).orElse (fun _ => ok g)

/-- Scans bushel `b` under `gen` with header `h`, then the bushels that follow it. -/
def State.scanFrom (s : State) (media : Media) : Nat → Nat → Word → Found → Run → ScanRes
  | fuel, b, gen, h, r =>
    let w := s.walk media b gen 16384 (h.place + 1) 0
    let r := (afterMoved b w.1).foldl (Run.take (slice h.body 69 64)) { r with seen := [] }
    let r := if movedBad b (slice h.body 28 32) w.1 then { r with bad := true } else r
    let r := match w.1.reverse.find? (Found.moved b) with
      | some f => if r.ordinal.isNone then
          { r with ordinal := some (leAt f.body 0 4), mirrored := some (BitVec.ofNat 32 (leAt f.body 16 4)) } else r
      | none => r
    let last := w.1.getLast?
    let isSeal (reason : Nat) (f : Found) : Bool := f.kind == 2 && (byteAt f.body 4).toNat == reason && !f.moved b
    let res : ScanRes := {
      run := r, bushel := b, gen := gen, header := h, next := w.2, closed := (last.map (isSeal 3)).getD false
      rolled := (last.map (isSeal 4)).getD false, lostNext := none, all := h :: w.1 }
    match fuel, last with
    | fuel + 1, some k =>
      if isSeal 4 k && !r.bad then
        let nb := leAt k.body 24 4
        match s.nextHeader media nb h k with
        | some (g, f) =>
          let t := State.scanFrom s media fuel nb g f r
          { t with all := res.all ++ t.all }
        | none => { res with lostNext := some nb }
      else res
    | _, _ => res

/-- The scan of the opening that starts in bushel `b` under `gen`; none without a valid header. -/
def State.scanOf (s : State) (media : Media) (b : Nat) (gen : Word) : Option ScanRes :=
  (s.headerAt media b gen).map (fun h => s.scanFrom media 8192 b gen h (s.startRun media h))

/-- DMT follows every valid record read (R289). -/
def State.observeAll (s : State) (l : List Found) : State := l.foldl (fun s f => s.observe f.hdr f.body) s

/-! ## VERIFY_RANGE (R65) -/

/-- The run that VERIFY_RANGE reads for grain `g` of channel `n`: from the header of the bushel that holds it, the same steps
as those of an independent reader (spec/06). It must begin at or before the grain. -/
def State.rangeRun (s : State) (media : Media) (n : Nat) (g : Word) : Option ScanRes :=
  let b := s.bushelFor n g
  let gen := (s.bushel b).gen
  match s.headerAt media b gen with
  | some h => if seqLe h.seq g then some (s.scanFrom media 8192 b gen h (s.startRun media h)) else none
  | none => none

/-- Of `count` grains from `g` those that verify: the ones up to the last seal of the run that verifies. -/
def State.verified (s : State) (media : Media) (n : Nat) (g : Word) (count : Nat) : Nat :=
  match s.rangeRun media n g with
  | some r => if seqLe g r.run.covers then min count ((r.run.covers - g).toNat + 1) else 0
  | none => 0

/-- VERIFY_RANGE_COMPLETE (R65): the hash chain and the covering seal signatures are checked over `media`, the sectors that
decoded; `unreadable`: a sector that the check needed failed every step of the ladder. The spec states no first failing
grain where none fails. -/
def execVerifyRangeComplete (sq : Nat) (media : List (Nat × Nat × List Byte)) (unreadable : Bool) (s : State) :
    Host.Outcome State Fault Refusal :=
  .next (s.whenLive (fun s => s.onRunning sq 0x07 (fun s c =>
    let v := s.verified media (dChan c.desc) (dSeq c.desc) (dCount c.desc)
    let read := match s.rangeRun media (dChan c.desc) (dSeq c.desc) with | some r => r.all | none => []
    let s := (s.observeAll read).dropPages c.pages
    if v = dCount c.desc then
      let f := s.fresh
      f.1.post c 0 (BitVec.ofNat 32 v) f.2
    else s.post c (if unreadable then 0x26 else 0x27) (BitVec.ofNat 32 v) (dSeq c.desc + BitVec.ofNat 32 v))))

/-! ## What the scan makes of a run (R140, R141) -/

/-- LEDGER_ORPHAN (R141). -/
def State.orphanEvent (s : State) (n : Nat) (opening : BitVec 16) (detail : Nat) : State := s.event 0x21 n opening.toNat detail

/-- The findings of a run are reported. -/
def State.report (s : State) (n : Nat) (opening : BitVec 16) (r : ScanRes) : State :=
  let s := if r.run.bad then (s.event 0x20 n opening.toNat r.run.covers.toNat).raise Reg.LDG_EVENTS_CHAIN_BREAK else s
  let s := match r.run.orphan with | some q => s.orphanEvent n opening q.toNat | none => s
  match r.lostNext with | some b => s.orphanEvent n opening b | none => s

/-- The recovered head: of a run with a failed seal, what the last seal that verified covers (R139 step 5, R141). -/
def Run.recovered (r : Run) : Word := if r.bad then r.covers else r.head

/-- No valid seal covers the recovered head. -/
def Run.uncovered (r : Run) : Bool := !r.bad && (seqLt r.covers r.head || r.ordinal == some 0)

/-- A bushel of the run is left behind, closed; its last one is open to the opening. -/
def State.runBushel (s : State) (n : Nat) (intake : Bool) (first : Nat) (opening : BitVec 16) (r : ScanRes) : State :=
  let s := if first = r.bushel then s else s.closeBushel first
  s.setBushel r.bushel { state := if r.closed then .closed else .opened, gen := r.gen, chan := n, intake := intake
                         opening := opening, lastSeq := r.run.covers, next := r.next }

/-- The seal credit of a reopened opening: a page and the cost of one record in its bushel. -/
def State.scanCredit (s : State) (b : Nat) (tid : Option Nat) : State × Option Credit :=
  match s.allocPages { num := 0, pool := .write, tid := tid } 1 with
  | (s, [p]) => (s, some { page := p, act := s.actOf b, cost := s.costOf b, tid := tid })
  | (s, _) => (s, none)

/-- Ordinal and MIRRORED_HEAD of the last seal where the scan has read none: free values. -/
def State.sealFacts (s : State) (r : Run) : State × Nat × Word :=
  match r.ordinal, r.mirrored with
  | some o, some m => (s, o, m)
  | _, _ =>
    let a := s.fresh
    let b := a.1.fresh
    (b.1, a.2.toNat, b.2)

/-- A channel of this cartridge's own as the run leaves it (R140). -/
def Chan.scanned (c : Chan) (r : ScanRes) (act ordinal : Nat) (mirrored : Word) (credit : Option Credit) : Chan :=
  let b := r.header.body
  let h := r.run.recovered
  let opening := BitVec.ofNat 16 (leAt b 12 2)
  { c with
    isOpen := !r.closed || r.run.bad, halted := r.run.bad, everOpened := true, closing := false, resumed := false
    durable := h, written := h, sealed := h, lost := none, cut := false, haltCost := 0, spare := none
    -- the MIRRORED_HEAD of a channel that is not mirrored has stayed where the opening put it (R14)
    mirrored := if bitOf (byteAt b 10).toNat 0 then seqMin h mirrored else BitVec.ofNat 32 (leAt b 16 4) - 1
    frameMax := (byteAt b 9).toNat, cls := (byteAt b 8).toNat / 64, mirror := bitOf (byteAt b 10).toNat 0
    sealEvery := leAt b 20 4, firstSeq := BitVec.ofNat 32 (leAt b 16 4), opening := opening, nextOpening := opening + 1
    bushel := r.bushel, gen := r.gen, act := act, prevBushel := leAt b 24 4, promised := r.next
    chain := if r.run.bad then r.run.sealChain else r.run.chain, sealChain := r.run.sealChain, ordinal := ordinal
    covers := r.run.covers
    seals := r.run.seals, sealsFrom := r.run.sealsFrom
    credit := credit }

/-- The recovery seal (R139 step 6), where the closing bushel has a place for it. -/
def State.recoverySeal (s : State) (n : Nat) : State :=
  if (s.chan n).promised < 16384 then s.formSeal n 6 .reserve (s.costOf (s.chan n).bushel) else s

/-- Appending resumes in a bushel from the free FIFOs, as at a roll-over (R141). DEDUCED (log entry 52): with both FIFOs empty
NO_BUSHEL is set, and the channel stays open in the closing bushel, where its next frame meets the shortfall of R134. -/
def State.freshBushel (s : State) (n : Nat) : State :=
  let c := s.chan n
  match s.takeBushel c.act with
  | none => s.raise Reg.LDG_EVENTS_NO_BUSHEL
  | some (b, s) => ((s.closeBushel c.bushel).moveTo n b).formHeader n .reserve (s.costOf b)

/-- The scan reopens channel `n`, whose first scanned bushel is `first` (R139 to R141). -/
def State.reopen (s : State) (n first : Nat) (r : ScanRes) : State :=
  let opening := BitVec.ofNat 16 (leAt r.header.body 12 2)
  let s := (s.report n opening r).runBushel n false first opening r
  let stays := r.closed && !r.run.bad
  let t := if stays then (s, none) else s.scanCredit r.bushel (s.writer n)
  let f := t.1.sealFacts r.run
  let c := (f.1.chan n).scanned r (f.1.actOf r.bushel) f.2.1 f.2.2 t.2
  let s := f.1.setChan n c
  let s : State := { s with boot := { s.boot with sealPlaces := sput 0 n r.run.sealPlace s.boot.sealPlaces } }
  let s := s.setOwn n { lagging := c.mirror, pos := c.mirrored, search := c.mirror }
  let s := if r.run.bad then s.haltAt n (c.durable + 1) true else s
  if stays then s
  else
    let s := if r.run.uncovered then s.recoverySeal n else s
    if (r.rolled || r.lostNext.isSome) && !r.run.bad then
      let full := decide (16384 ≤ c.promised)
      let s := s.freshBushel n
      if r.run.uncovered && full then s.recoverySeal n else s
    else s

/-- The scan sets an intake (R139, R249): its confirmed head is the recovered one, and it waits for link-up. -/
def State.reopenIntake (s : State) (n first : Nat) (r : ScanRes) : State :=
  let b := r.header.body
  let opening := BitVec.ofNat 16 (leAt b 12 2)
  let s := (s.report n opening r).runBushel n true first opening r
  let stays := r.closed && !r.run.bad
  let t := if stays then (s, none) else s.scanCredit r.bushel none
  let f := t.1.sealFacts r.run
  let h := r.run.recovered
  let s := f.1.setIntake n {
    isOpen := !stays, opening := opening, firstSeq := BitVec.ofNat 32 (leAt b 16 4), frameMax := (byteAt b 9).toNat
    cls := (byteAt b 8).toNat / 64, sealEvery := leAt b 20 4, confirmed := h, written := h, sealed := r.run.covers, received := h
    bushel := r.bushel, gen := r.gen, act := f.1.actOf r.bushel, prevBushel := leAt b 24 4, promised := r.next
    chain := if r.run.bad then r.run.sealChain else r.run.chain, sealChain := r.run.sealChain, ordinal := f.2.1
    credit := t.2, halted := r.run.bad }
  if (r.rolled || r.lostNext.isSome) && !stays && !r.run.bad then
    match s.takeBushel (s.intake n).act with
    | none => s.raise Reg.LDG_EVENTS_NO_BUSHEL
    | some (nb, s) => (s.closeBushel r.bushel).intakeTo n nb (s.intake n).chain
  else s

/-- A bushel that the checkpoint lists as OPEN is scanned. -/
def State.scanListed (s : State) (media : Media) (e : Nat × Word × Nat × BitVec 16 × Bool) : State :=
  let b := e.1
  match s.scanOf media b e.2.1 with
  | none => (s.closeBushel b).orphanEvent e.2.2.1 e.2.2.2.1 b
  | some r =>
    let n := (byteAt r.header.hdr 3).toNat % 64
    let s := s.observeAll r.all
    if e.2.2.2.2 then s.reopenIntake n b r else s.reopen n b r

/-! ## Resumed channels (R374) -/

/-- The channel's last seal is valid, verifies, covers the saved head and gives the saved chain head, and the place after it
is failing. -/
def State.resumeOk (s : State) (media : Media) (n : Nat) : Bool :=
  let c := s.chan n
  let p := sget 0 n s.boot.sealPlaces
  match s.placeAt media c.bushel c.gen p with
  | some f =>
    f.kind == 2 && f.seq == c.savedHead && slice f.body 60 32 == padTo 32 c.savedChain &&
      ecdsaVerify pubKey (f.hdr.take 20 ++ f.body.take 100) (slice f.body 100 32) (slice f.body 132 32) &&
      (s.placeAt media c.bushel c.gen (p + 1)).isNone
  | none => false

/-- A resumed channel passes: its records may go to the media, from place `next` of its bushel. -/
def State.resumePass (s : State) (n b next : Nat) : State :=
  let s := s.setChan n { s.chan n with resumed := false }
  s.setBushel b { s.bushel b with next := next }

/-- A resumed channel has failed (R374): the records it has admitted since APPLY are carried into a new opening. The old
opening ends as the scan found it. With no free bushel the channel halts with its records held, until a pushed bushel lets
SPLIT carry them. -/
def State.resumeCarry (s : State) (n : Nat) (r : Option ScanRes) : State :=
  let c := s.chan n
  let t := s.takeAfter n c.savedHead
  let s := t.1
  let s := match r with
    | none => s.orphanEvent n c.opening c.bushel
    | some r =>
      let s := s.report n c.opening r
      let s := s.setBushel r.bushel { s.bushel r.bushel with next := r.next }
      if r.run.uncovered && !r.rolled then
        let f := s.sealFacts r.run
        (f.1.setChan n (c.scanned r c.act f.2.1 f.2.2 c.credit)).recoverySeal n
      else s
  match s.takeBushel c.act with
  | none =>
    let s := t.2.foldl (fun s r => s.setRw r.act { s.rw r.act with wq := (s.rw r.act).wq ++ [r] }) s
    let s := s.setChan n { s.chan n with isOpen := true, resumed := false, durable := c.durable }
    (s.haltAt n (c.savedHead + 1) true).raise Reg.LDG_EVENTS_NO_BUSHEL
  | some (b, s) => s.splitInto { c with resumed := false } t.2 n c.savedHead b (s.costOf b) true

/-- The verification of resumed channel `n` (R374). -/
def State.resumeVerify (s : State) (media : Media) (n : Nat) : State :=
  let c := s.chan n
  if s.resumeOk media n then
    let p := sget 0 n s.boot.sealPlaces
    let s := match s.placeAt media c.bushel c.gen p with | some f => s.observe f.hdr f.body | none => s
    s.resumePass n c.bushel (p + 1)
  else
    match s.scanOf media c.bushel c.gen with
    | none => s.resumeCarry n none
    | some r =>
      let s := s.observeAll r.all
      if !r.run.bad && r.run.orphan.isNone && r.run.head == c.savedHead && r.run.chain == c.savedChain && r.bushel == c.bushel then
        s.resumePass n c.bushel r.next
      else s.resumeCarry n (some r)

/-! ## Commands -/

/-- A write of STARTUP.SCAN is ignored (R371). -/
def State.scanRefused (s : State) : Bool :=
  !s.flag Reg.LDG_CTRL_EN || !s.flag Reg.TABLE_STATUS_OK || !s.time.valid || s.boot.scanDone || s.boot.scan.isSome

/-- What STATE of a directory entry says (R136). -/
def dirState (n : Nat) : BushelState :=
  match n with | 0 => .free | 2 => .closed | 3 => .released | 4 => .system | _ => .bad

/-- An entry of the current checkpoint: the bushel, and the next opening of the channel that it held last, the latest of all
(R132, R136). -/
def State.fromDirectory (s : State) (e : DirEntry) : State :=
  if (s.bushel e.bushel).state == .opened then s
  else
    let s := s.setBushel e.bushel { s.bushel e.bushel with
      state := dirState e.state, gen := e.gen, chan := e.chan, intake := e.intake, opening := e.opening, lastSeq := e.lastSeq }
    let c := s.chan e.chan
    let next := e.opening + 1
    if (e.state = 2 ∨ e.state = 3) ∧ !e.intake ∧ !c.isOpen ∧ (c.nextOpening = 0 ∨ (next - c.nextOpening).toNat < 32768) then
      s.setChan e.chan { c with nextOpening := next }
    else s

/-- The bushels that the entries of a checkpoint list as OPEN (R136). -/
def listedOpen (directory : List DirEntry) : List (Nat × Word × Nat × BitVec 16 × Bool) :=
  (directory.filter (·.state == 1)).map (fun e => (e.bushel, e.gen, e.chan, e.opening, e.intake))

/-- SCAN_START (R132, R136, R371): STARTUP.SCAN, a WO field of any writer. `checkpoint` is the number of the current
checkpoint, `directory` its entries. -/
def execScanStart (_src checkpoint : Nat) (directory : List DirEntry) (s : State) : Host.Outcome State Fault Refusal :=
  .next (s.whenLive (fun s =>
    if s.scanRefused then s.raise Reg.STARTUP_SCAN_REJECT
    else
      let l := listedOpen directory
      let s := l.foldl (fun s e => s.setBushel e.1 { s.bushel e.1 with
        state := .opened, gen := e.2.1, chan := e.2.2.1, opening := e.2.2.2.1, intake := e.2.2.2.2 }) s
      let s := (directory.filter (·.state != 1)).foldl State.fromDirectory s
      { s with boot := { s.boot with scan := some { listed := l }, checkpoint := checkpoint } }))

/-- SCAN_COMPLETE (R139 to R141, R374): the scan ends, having read `media`; resumed channels are verified, every other
listed bushel is scanned. -/
def execScanComplete (media : List (Nat × Nat × List Byte)) (s : State) : Host.Outcome State Fault Refusal :=
  .next (s.whenLive (fun s =>
    match s.boot.scan with
    | none => s
    | some k =>
      let resumed := chanNums.filter (fun n => (s.chan n).resumed)
      let rest := k.listed.filter (fun e => e.2.2.2.2 || !resumed.contains e.2.2.1)
      let s := resumed.foldl (fun s n => s.resumeVerify media n) s
      let s := rest.foldl (fun s e => s.scanListed media e) s
      (State.checkEnergy { s with boot := { s.boot with scan := none, scanDone := true } }).settleCmds))

end Sys2Proof.Machine
end

