-- ==== Sys2Proof/Machine/Monitors.lean ====
section
/-! DEFINITION. Monitors and the event recorder (spec/17): sensors, threshold slots and their actions, silicon age, the
recorder's intake, areas and windows, and the clear. -/

namespace Sys2Proof.Machine

/-! ## Sensors and slots (R346 to R349) -/

/-- The numbers of the threshold slots. -/
def slotNums : List Nat := List.range 32

/-- A reading in its sensor's unit: temperatures and ring oscillators are signed (R346). -/
def sensorValue (sensor : Nat) (r : BitVec 16) : Int :=
  if sensor < 8 ∨ 16 ≤ sensor then signed 16 r.toNat else (r.toNat : Int)

/-- N of a slot: DWELL over the sample period of its sensor, rounded up (R346, R348). -/
def State.slotN (s : State) (k : Nat) : Nat :=
  let d := s.getF Reg.THR1_DWELL k
  let sensor := s.getF Reg.THR0_SENSOR k
  if sensor < 8 then d else if sensor < 16 then 10 * d else ceilDiv d 1000

/-- Slot `k`'s runs. -/
def State.slot (s : State) (k : Nat) : Slot := sget {} k s.mon.slots
/-- Sets them. -/
def State.setSlot (s : State) (k : Nat) (x : Slot) : State := { s with mon := { s.mon with slots := sput {} k x s.mon.slots } }

/-- One sample of value `x` counts toward an assertion or a deassertion (R348). -/
def Slot.sample (y : Slot) (n : Nat) (falling : Bool) (t h x : Int) : Slot :=
  let above := decide (t + h ≤ x)
  let below := decide (x ≤ t - h)
  let up := if (if falling then below else above) then y.up + 1 else 0
  let down := if (if falling then above else below) then y.down + 1 else 0
  let on := if y.asserted then decide (down < n) else decide (n ≤ up)
  { up := min up n, down := min down n, seen := min (y.seen + 1) n, asserted := on }

/-- A qualified crossing of slot `k` (R348, R350, R358): CROSS, MON_CROSS, and EMCY 0x4200 at the assertion of a park or
cold-soak slot. -/
def State.crossing (s : State) (k : Nat) (r : BitVec 16) (on : Bool) : State :=
  let sensor := s.getF Reg.THR0_SENSOR k
  let action := s.getF Reg.THR0_ACTION k
  let s := (s.raise Reg.MON_EVENTS_CROSS).eventC 0x60 k (r.toNat + 2 ^ 16 * sensor + 2 ^ 21 * action + 2 ^ 24 * b2n on)
  if on && decide (2 ≤ action) then s.emcy 0x4200 (BitVec.ofNat 8 sensor) (unsigned 32 (sensorValue sensor r)) else s

/-- A sample reaches slot `k`. -/
def State.sampleSlot (s : State) (k : Nat) (r : BitVec 16) : State :=
  let sensor := s.getF Reg.THR0_SENSOR k
  let old := s.slot k
  let new := old.sample (s.slotN k) (s.flag Reg.THR0_DIR k) (s.getI Reg.THR0_LEVEL k) (s.getF Reg.THR1_HYST k) (sensorValue sensor r)
  let s := s.setSlot k new
  if old.asserted == new.asserted then s else s.crossing k r new.asserted

/-- The asserted slots of an action. -/
def State.assertedFor (s : State) (action : Nat) : List Nat :=
  slotNums.filter (fun k => (s.slot k).asserted && s.flag Reg.THR0_EN k && s.getF Reg.THR0_ACTION k == action)

/-- SPN_CAP is held at the lowest ARG of the asserted DERATE slots, else it is 7,200 (R350). -/
def State.derate (s : State) : State :=
  let cap := ((s.assertedFor 1).map (fun k => s.getF Reg.THR2_ARG k)).foldl min 7200
  if s.getF Reg.SPN_CAP_RPM = cap then s else (s.setF Reg.SPN_CAP_RPM 0 cap).media

/-- An actuator that a PARK action holds is retracted (R350). -/
def State.parkNow (s : State) (a : Nat) (torn : Bool) : State :=
  if s.parkHeld a && s.actState a != 7 && !(s.atRest a && !(s.loop a).loadReq) then s.retractLoop a torn else s

/-- What the asserted slots require (R350, R351). -/
def State.actions (s : State) (tornA tornB : Bool) : State := ((s.derate).parkNow 0 tornA).parkNow 1 tornB

/-- Stores a reading (R346). -/
def State.storeReading (s : State) (sensor : Nat) (r : BitVec 16) : State :=
  if sensor < 6 then s.setF Reg.TS_READING sensor r.toNat
  else if 8 ≤ sensor ∧ sensor < 16 then s.setF Reg.VM_READING (sensor - 8) r.toNat
  else if 16 ≤ sensor ∧ sensor < 20 then s.setF Reg.PM_READING (sensor - 16) r.toNat
  else s

/-- The highest reading of TS0–TS4 in the minute (R353). -/
def maxReading (m : Option Int) (x : Int) : Option Int :=
  match m with
  | some y => some (max x y)
  | none => some x

/-- SENSOR_SAMPLE (R346, R348 to R351): every enabled slot on the sensor counts; the changes of one sample are applied
together. `tornA` and `tornB` say on which side of the dram an open write gate falls when a retract forces it off. -/
def execSensorSample (sensor : Nat) (reading : BitVec 16) (tornA tornB : Bool) (s : State) : Host.Outcome State Fault Refusal :=
  .next (s.whenLive (fun s =>
    let s := s.storeReading sensor reading
    let s : State := if sensor < 5 then
        { s with mon := { s.mon with minuteMax := maxReading s.mon.minuteMax (sensorValue sensor reading) } }
      else s
    let on := slotNums.filter (fun k => s.flag Reg.THR0_EN k)
    let s := s.each (on.filter (fun k => s.getF Reg.THR0_SENSOR k == sensor)) (fun s k => s.sampleSlot k reading)
    let all := on.all (fun k => decide (s.slotN k ≤ (s.slot k).seen))
    let s : State := if all then { s with mon := { s.mon with ready := true } } else s
    s.actions tornA tornB))

/-- ARG keeps the range that the slot's ACTION gives it (R347). -/
def argOk (action arg : Nat) : Bool :=
  match action with
  | 1 => decide (3600 ≤ arg) && decide (arg ≤ 7200)
  | 2 => decide (1 ≤ arg) && decide (arg ≤ 3)
  | _ => arg == 0

/-- THRESHOLD_SLOT_WRITE (R347): word `w` of THR_slot, RWK. An enabled slot takes only a write that clears EN, which
withdraws its action at once; a slot starts deasserted when it is enabled. -/
def execThresholdSlotWrite (src slot w : Nat) (v : Word) (s : State) : Host.Outcome State Fault Refusal :=
  .next (s.whenLive (fun s =>
    let addr := 0x40100200 + 16 * slot + 4 * w
    let was := s.flag Reg.THR0_EN slot
    if !privileged src then s.denied src (regDetail addr)
    else if was && !(w == 0 && !bitOf v.toNat 15) then s.raise Reg.MON_EVENTS_CFG_REJECT
    else if w == 2 && !argOk (s.getF Reg.THR0_ACTION slot) (bitsOf v.toNat 0 13) then s.reserved src (regDetail addr)
    else
      let s := s.genericWrite src addr v
      if w = 0 then (s.setSlot slot {}).derate else s))

/-! ## Silicon age (R353, R354) -/

/-- The bin of a reading in 1/16 °C. -/
def ageBin (x : Int) : Nat :=
  if x < 880 then 0 else if x < 1200 then 1 else if x < 1520 then 2 else if x < 1680 then 3 else if x < 1840 then 4
  else if x < 2000 then 5 else if x < 2160 then 6 else 7

/-- The weight W of a bin. -/
def ageWeight (b : Nat) : Nat := [17, 72, 256, 459, 798, 1350, 2225, 8695].getD b 0

/-- AGE_MINUTE (R353, R354): a minute of running has passed. -/
def execAgeMinute (s : State) : Host.Outcome State Fault Refusal :=
  .next (s.whenLive (fun s =>
    match s.mon.minuteMax with
    | none => s
    | some x =>
      let b := ageBin x
      let old := s.getF Reg.MON_AGE_AGE
      let s : State := { s with mon := { s.mon with minuteMax := none } }
      let s := (s.bumpSat Reg.MON_LIFE_MINUTES b).bumpSat Reg.MON_AGE_AGE 0 (ageWeight b)
      let new := s.getF Reg.MON_AGE_AGE
      [(50, 1345536000), (80, 2152857600), (100, 2691072000)].foldl (fun s (m : Nat × Nat) =>
        if old < m.2 ∧ m.2 ≤ new then (s.raise Reg.MON_EVENTS_AGE_MARK).event 0x61 m.1 0 new else s) s))

/-! ## The recorder (R355 to R361) -/

/-- An entry is written into the areas (R355). -/
def Recorder.record (r : Recorder) (e : Event) : Recorder :=
  { r with
    first := if r.first.length < 256 then r.first ++ [e] else r.first
    last := (if r.last.length < 1024 then r.last else r.last.drop 1) ++ [e]
    total := BitVec.ofNat 32 (satN 32 (r.total.toNat + 1)) }

/-- EVENT_RECORD (R356): the oldest event of the intake is recorded; once there is room, EVENTS_DROPPED follows. -/
def execEventRecord (s : State) : Host.Outcome State Fault Refusal :=
  .next (s.whenLive (fun s =>
    match s.evr.intake with
    | [] => s
    | e :: rest =>
      let s : State := { s with evr := { (s.evr.record e) with intake := rest } }
      if s.evr.dropped = 0 then s
      else
        let n := satN 16 s.evr.dropped
        State.event { s with evr := { s.evr with dropped := 0 } } 0x01 0 n 0))

/-- COALESCE_WINDOW_CLOSE (R359): the second of the window of a pair is over. -/
def execCoalesceWindowClose (code unit : Byte) (s : State) : Host.Outcome State Fault Refusal :=
  .next (s.whenLive (fun s =>
    match s.evr.windows.find? (fun w => w.code == code && w.unit == unit) with
    | none => s
    | some w =>
      let rest := s.evr.windows.erase w
      if w.count = 0 then { s with evr := { s.evr with windows := rest } }
      else
        State.intakeEvent { s with evr := { s.evr with windows := rest ++ [{ w with count := 0 }] } }
          { w.last with aux := BitVec.ofNat 16 (satN 16 w.count) }))

/-- The recorder is cleared by source `src` (R361). -/
def State.evrClear (s : State) (src : Nat) : State :=
  let e : Event := { stamp := s.stamp, code := 0x00, unit := BitVec.ofNat 8 src, detail := s.evr.total }
  { s with evr := Recorder.record { s.evr with first := [], last := [], total := 0, droppedTotal := 0 } e }

/-- EVR_CLEAR (R361): written in either privilege mode. -/
def execEvrClear (src : Nat) (s : State) : Host.Outcome State Fault Refusal := .next (s.whenLive (·.evrClear src))

end Sys2Proof.Machine
end

