-- ==== Sys2Proof/Machine/Clocks.lean ====
section
/-! DEFINITION. Clocks, source switching and freeze (spec/16): the PLL, the switches and their refusals, the stop gate, and
the release of the logic die from a reset. -/

namespace Sys2Proof.Machine

/-! ## The PLL and the sources (R331 to R334) -/

/-- PLL_ENABLE (R331): a write of CLK_PLL, RWK; EN does not clear while any domain runs from the PLL. -/
def execPllEnable (src : Nat) (v : Word) (s : State) : Host.Outcome State Fault Refusal :=
  .next (s.whenLive (fun s =>
    if !privileged src then s.denied src (regDetail 0x40000100)
    else if bitOf v.toNat 0 then s.raise Reg.CLK_PLL_EN
    else if s.getF Reg.CLK_STATUS_CUR ≠ 0 then s.raise Reg.CLK_EVENTS_PLL_REJECT
    else (s.lower Reg.CLK_PLL_EN).lower Reg.CLK_STATUS_PLL_LOCK))

/-- PLL_LOCKED (R331): the enabled PLL has locked. -/
def execPllLocked (s : State) : Host.Outcome State Fault Refusal :=
  .next (s.whenLive (fun s => s.when' (s.flag Reg.CLK_PLL_EN) (fun s => s.raise Reg.CLK_STATUS_PLL_LOCK)))

/-- The port, the queues, the ledger or a channel is enabled: BUF may not be switched (R334). -/
def State.bufBusy (s : State) : Bool :=
  s.flag Reg.SP_CTRL_PORT_EN || s.flag Reg.QUEUE_CTRL_FETCH_EN || s.flag Reg.LDG_CTRL_EN || s.flag Reg.RWC_CTRL_EN 0 ||
    s.flag Reg.RWC_CTRL_EN 1

/-- A loop is enabled: LOOP may not be switched (R334). -/
def State.loopBusy (s : State) : Bool := s.getF Reg.LOOP_CTRL_EN != 0

/-- The device refuses the change of CLK_SRC from `old` to `new` (R333, R334). -/
def State.switchRefused (s : State) (old new : Nat) : Bool :=
  let changes (d : Nat) : Bool := bitOf old d != bitOf new d
  (new != 0 && !s.flag Reg.CLK_STATUS_PLL_LOCK) || !s.clk.switching.isEmpty || (changes 1 && s.bufBusy) ||
    (changes 2 && s.loopBusy) || (changes 3 && s.flag Reg.OVR_CTRL_EN)

/-- CLK_SRC_WRITE (R333, R334), RWK: a write that changes no request asks for no switch. -/
def execClkSrcWrite (src : Nat) (v : Word) (s : State) : Host.Outcome State Fault Refusal :=
  .next (s.whenLive (fun s =>
    let old := s.getF Reg.CLK_SRC_SRC
    let new := bitsOf v.toNat 0 5
    if !privileged src then s.denied src (regDetail 0x40000104)
    else if old = new then s
    else if s.switchRefused old new then s.raise Reg.CLK_EVENTS_SW_REJECT
    else
      let s := s.setF Reg.CLK_SRC_SRC 0 new
      { s with clk := { s.clk with switching := (List.range 5).filter (fun d => bitOf old d != bitOf new d) } }))

/-- CLOCK_SWITCH_COMPLETE (R333): the switch ends, but for a domain whose target is a PLL that does not run. -/
def execClockSwitchComplete (s : State) : Host.Outcome State Fault Refusal :=
  .next (s.whenLive (fun s =>
    let want := s.getF Reg.CLK_SRC_SRC
    let stuck (d : Nat) : Bool := bitOf want d && !s.flag Reg.CLK_PLL_EN
    let cur := s.getF Reg.CLK_STATUS_CUR
    let now (d : Nat) : Bool := if s.clk.switching.contains d && !stuck d then bitOf want d else bitOf cur d
    let s := s.setF Reg.CLK_STATUS_CUR 0 (((List.range 5).map (fun d => b2n (now d) * 2 ^ d)).sum)
    { s with clk := { s.clk with switching := s.clk.switching.filter stuck } }))

/-! ## The stop gate (R335 to R341) -/

/-- The write gate of channel `a` falls as the clocks stop: its record goes back to its queue with nothing recorded (R336,
R337). -/
def State.cutGate (s : State) (a : Nat) : State :=
  let x := s.rw a
  match x.gate with
  | some r => s.setRw a { x with gate := none, sector := [], wq := { r with torn := true } :: x.wq }
  | none => s

/-- The stop gate closes for `cause`: 1 freeze, 2 missing reference. The balls of the port, the links, the CAN node and the
write gates take the levels of R336; CLK_STOP captures the cause and the DMT (R338). -/
def State.stopClocks (s : State) (cause : Nat) : State :=
  let s := (s.cutGate 0).cutGate 1
  { s with
    clk := { s.clk with stopped := true, frozen := cause == 1, stopLast := cause, stopDmt := s.time.dmt, unreported := true }
    port := { s.port with rdy0 := false, rdy1 := false, bsy1 := true, bsyN := true, out := [] }
    ovr := { s.ovr with out := [], lane0 := [], lane1 := [] }
    dict := { s.dict with out := [] } }

/-- XTAL_STOPPED (R335): the crystal stops. With the PLL enabled the gate closes; without it the domains on XTAL simply
stop. -/
def execXtalStopped (s : State) : Host.Outcome State Fault Refusal :=
  .next (
    let s : State := { s with clk := { s.clk with xtalStopped := true } }
    if decide (s.die = .running) && s.flag Reg.CLK_PLL_EN && !s.clk.stopped then s.stopClocks 2 else s)

/-- FREEZE_ASSERT (R340): FREEZE_N goes low. It has no effect on a stopped device or one in power-on reset, and needs XTAL. -/
def execFreezeAssert (s : State) : Host.Outcome State Fault Refusal :=
  .next (
    let s : State := { s with clk := { s.clk with freezeLow := true } }
    if (decide (s.die = .running) || decide (s.die = .reset)) && !s.clk.stopped && !s.clk.xtalStopped then s.stopClocks 1 else s)

/-- FREEZE_RELEASE (R341): FREEZE_N goes high; nothing restarts. -/
def execFreezeRelease (s : State) : Host.Outcome State Fault Refusal :=
  .next { s with clk := { s.clk with freezeLow := false } }

/-! ## Leaving a reset (R338, R340, R377, R395) -/

/-- The first BUF cycle after a reset: a wrap not yet told is recorded (R395), and a stop not yet reported (R338). -/
def State.firstCycle (s : State) : State :=
  let s := match s.time.wrap with
    | some w =>
      if w.told then s
      else State.timeRoll { s with time := { s.time with wrap := some { w with told := true } } } w.dmt w.newEpoch
    | none => s
  if s.clk.unreported then
    let d := s.clk.stopDmt.toNat
    State.event { s with clk := { s.clk with unreported := false } } 0x52 s.clk.stopLast (d / 2 ^ 32) (d % 2 ^ 32)
  else s

/-- The logic die leaves a reset; with FREEZE_N low it freezes again at once (R340). -/
def State.leaveReset (s : State) : State :=
  let s : State := { s with die := .running, pins := { s.pins with resetLow := false } }
  if s.clk.freezeLow && !s.clk.stopped then s.stopClocks 1 else s.firstCycle

/-- XTAL_READY (R330, R364, R384): 65,536 oscillator cycles have been counted; the logic die leaves power-on reset, unless
TEST_EN is high, which keeps it there. -/
def execXtalReady (s : State) : Host.Outcome State Fault Refusal :=
  .next (s.when' (decide (s.die = .powerOn)) (fun s =>
    let s := State.setF { s with clk := { s.clk with xtalStopped := false } } Reg.CLK_STATUS_XTAL_RDY 0 1
    if s.pins.testEn then s else s.leaveReset))

/-- LOGIC_DIE_RESET_RELEASE (R377): the hold of a RESET_N, software or watchdog reset has ended, and XTAL rises. -/
def execLogicDieResetRelease (s : State) : Host.Outcome State Fault Refusal :=
  .next (s.when' (decide (s.die = .reset) && !s.clk.stopped && !s.clk.xtalStopped) State.leaveReset)

end Sys2Proof.Machine
end

