-- ==== Sys2Proof/Machine/Startup.lean ====
section
/-! DEFINITION. Start-up and reset (spec/18): the rails, the boot ROM and the image it verifies, the release and reset of
harts, the resume table, the fuses, the reset sources and the deferred reset. -/

namespace Sys2Proof.Machine

/-! ## Power (R364, R365, R288) -/

/-- EVENTS_CLEARED of a recorder that has lost its contents (spec/17 R355). -/
def freshRecorder : Recorder := { intake := [{ code := 0x00, unit := 0x30 }] }

/-- RAILS_UP (R364): VHOLD reaches 7.0 V; the power die starts from its own reset and brings up the rails in order. The
logic die is held in power-on reset until XTAL_RDY. An always-on domain that has lost its contents starts without any, and the
power die with it knows of no loss: VIN is valid, since the charger has run (R214). -/
def execRailsUp (s : State) : Host.Outcome State Fault Refusal :=
  .next (s.when' (decide (s.die = .off)) (fun s =>
    let s : State := { s with die := .powerOn, power := { s.power with rails := true } }
    if s.power.vaon then s
    else
      let p := s.power
      { s with power := { p with vaon := true, loss := none, autoRetract := false, armed := false, vinValid := true, charger := true }
               evr := freshRecorder }))

/-- VAON_OUT_OF_REGULATION (R288, R365): VHOLD has fallen below what retention needs, after the rails; the always-on domain
loses its contents. -/
def execVaonOutOfRegulation (s : State) : Host.Outcome State Fault Refusal :=
  .next (s.when' (decide (s.die = .off)) (fun s =>
    { s with
      power := { s.power with vaon := false }, time := {}, evr := {}, lmem3 := []
      boot := { s.boot with resume := none }
      clk := { s.clk with stopLast := 0, stopDmt := 0, unreported := false } }))

/-! ## The Keanath image (R366 to R369) -/

/-- Bytes of the NOR device (R296); an erased byte reads 0xFF (log entry 8). -/
def State.norRead (s : State) (a n : Nat) : List Byte := readBytes 0xFF a n s.nor

/-- A section of an image: SRC, DEST, LEN, COPY (R367). -/
structure Section where
  src : Nat
  dest : Nat
  len : Nat
  copy : Bool

/-- The sections of a header. -/
def sectionsOf (h : List Byte) : List Section :=
  (List.range (leAt h 6 2)).map (fun i =>
    let a := 64 + 16 * i
    { src := leAt h a 4, dest := leAt h (a + 4) 4, len := leAt h (a + 8) 4, copy := bitOf (leAt h (a + 12) 4) 0 })

/-- ENTRY_h of a header. -/
def entryOf (h : List Byte) (i : Nat) : Nat := leAt h (20 + 4 * i) 4

/-- Bytes `a` to `a + n − 1` of the address space lie in one region. -/
def inRegion (base size a n : Nat) : Bool := decide (base ≤ a) && decide (a + n ≤ base + size)

/-- The size of a core's local memory (spec/14 R296). -/
def lmemSize (h : Nat) : Nat := if h = 3 then 0x8000 else 0x10000

/-- A copied section lies in one core's local memory, under either of its addresses as hart 3 sees them, or in pages P0–P255
of the buffer (R368). -/
def copyOk (x : Section) : Bool :=
  inRegion 0x08000000 0x8000 x.dest x.len ||
    [0, 1, 2, 3].any (fun h => inRegion (0x08100000 + 0x10000 * h) (lmemSize h) x.dest x.len) ||
    inRegion 0x10000000 0x100000 x.dest x.len

/-- Where a copied section comes to lie: Warden's local memory has two addresses. -/
def Section.home (x : Section) : Nat := if x.dest < 0x08100000 then x.dest + 0x130000 else x.dest

/-- Two copied sections overlap. -/
def overlaps (x y : Section) : Bool := decide (x.home < y.home + y.len) && decide (y.home < x.home + x.len)

/-- No two copied sections of the list overlap. -/
def disjointCopies : List Section → Bool
  | [] => true
  | x :: l => !(l.any (fun y => x.copy && y.copy && overlaps x y)) && disjointCopies l

/-- The section and entry rules of R368 for a slot at NOR offset `base`. -/
def sectionsOk (base : Nat) (h : List Byte) : Bool :=
  let l := sectionsOf h
  l.all (fun x => decide (4 ≤ x.len) && x.len % 4 == 0 && decide (x.src + x.len ≤ 0x1000000) &&
    (if x.copy then copyOk x else x.dest == 0x20000000 + base + x.src)) &&
  disjointCopies l && entryOf h 3 != 0 &&
  [0, 1, 2, 3].all (fun i => let e := entryOf h i; e == 0 || l.any (fun x => decide (x.dest ≤ e) && decide (e < x.dest + x.len)))

/-- Digest `k` of the fused key hashes (R379). -/
def keyHash (k : Fin 2) : List Byte := List.ofFn (Config.bootKeyHash k)

/-- The cause for which the slot at NOR offset `base` is not valid (R368, R379 BOOT_STATUS): 0 when it is valid. -/
def State.slotFail (s : State) (base : Nat) : Nat :=
  let h := s.norRead base 512
  let id : BitVec 32 := 0x64100B01
  let mask := BitVec.ofNat 32 (leAt h 12 4)
  let key := slice h 224 64
  let zero (a n : Nat) : Bool := (slice h a n).all (· == 0)
  if leAt h 0 4 ≠ 0x48544E4B ∨ leAt h 4 2 ≠ 1 ∨ leAt h 6 2 < 1 ∨ 8 < leAt h 6 2 ∨ !zero 36 28 ∨ !zero 352 160 then 1
  else if (id ^^^ BitVec.ofNat 32 (leAt h 8 4)) &&& mask ≠ 0 ∨ mask.toNat / 2 ^ 16 ≠ 0xFFFF then 2
  else if leAt h 16 4 < s.boot.floor.toNat then 3
  else if ! [0, 1].any (fun (k : Fin 2) => sha256 key == keyHash k && !bitOf s.boot.revoke.toNat k.val) then 4
  else if !ecdsaVerify key (h.take 288) (slice h 288 32) (slice h 320 32) then 5
  else if !sectionsOk base h then 6
  else if sha256 ((sectionsOf h).map (fun x => s.norRead (base + x.src) x.len)).flatten ≠ slice h 192 32 then 7
  else 0

/-- Local memory of core `h`. -/
def State.lmem (s : State) (h : Nat) : List Host.Cell :=
  match h with
  | 0 => s.lmem0
  | 1 => s.lmem1
  | 2 => s.lmem2
  | _ => s.lmem3

/-- Sets it. -/
def State.setLmem (s : State) (h : Nat) (m : List Host.Cell) : State :=
  match h with
  | 0 => { s with lmem0 := m }
  | 1 => { s with lmem1 := m }
  | 2 => { s with lmem2 := m }
  | _ => { s with lmem3 := m }

/-- Stores bytes in the local memory of core `h`. -/
def State.lmemWrite (s : State) (h a : Nat) (bs : List Byte) : State := s.setLmem h (writeBytes 0 a bs (s.lmem h))

/-- The ROM copies one section. -/
def State.copySection (s : State) (base : Nat) (x : Section) : State :=
  let bs := s.norRead (base + x.src) x.len
  if !x.copy then s
  else if 0x10000000 ≤ x.dest then s.bufWrite (x.dest - 0x10000000) bs
  else if x.dest < 0x08100000 then s.lmemWrite 3 (x.dest - 0x08000000) bs
  else s.lmemWrite ((x.dest - 0x08100000) / 0x10000) (x.dest % 0x10000) bs

/-- Hart `h` starts at its entry: the ROM's first instructions jump there (R366). -/
def State.startHart (s : State) (h : Nat) : State :=
  s.setHart h { pc := BitVec.ofNat 32 (s.getF Reg.BOOT_ENTRY_ENTRY h) }

/-- The ROM starts the image in the slot at `base`: sections, BOOT registers, CORE_RUN, the jump to ENTRY_3 (R366). -/
def State.runImage (s : State) (slot base : Nat) : State :=
  let h := s.norRead base 512
  let s := (sectionsOf h).foldl (fun s x => s.copySection base x) s
  let s := (s.setF Reg.BOOT_STATUS_SLOT 0 slot).setF Reg.BOOT_VERSION_VERSION 0 (leAt h 16 4)
  let s := s.each [0, 1, 2, 3] (fun s i => s.setF Reg.BOOT_ENTRY_ENTRY i (entryOf h i))
  let up := [0, 1, 2].filter (fun i => entryOf h i != 0)
  let s := s.setF Reg.CORE_RUN_RUN 0 (8 + (up.map (2 ^ ·)).sum)
  (s.each up State.startHart).startHart 3

/-- BOOT_ROM_RUN (R366, R368, R369; spec/05 R107): Warden runs the ROM: the PLL, the sources, the verification of both slots
and the chosen image. `image` gives bytes with which the NOR device has been programmed. The reset sidebands of the blocks
fall as they come out of reset. -/
def execBootRomRun (image : List (Nat × Byte)) (s : State) : Host.Outcome State Fault Refusal :=
  .next (
    let s : State := { s with nor := image.foldl (fun (m : List Host.Cell) e => if e.1 < 0x4000000 then sput 0xFF e.1 e.2 m else m) s.nor }
    s.whenLive (fun s => s.when' (!s.boot.ran && !s.boot.waiting) (fun s =>
      let s := s.each (List.range 12) (fun s n => s.lower Reg.ARB_CFG_MASKED n)
      let s := ((s.raise Reg.CLK_PLL_EN).raise Reg.CLK_STATUS_PLL_LOCK).setF Reg.CLK_SRC_SRC 0 19
      let s := s.setF Reg.CLK_STATUS_CUR 0 19
      let a := s.slotFail 0
      let b := s.slotFail 0x1000000
      let s := (s.setF Reg.BOOT_STATUS_FAIL_A 0 a).setF Reg.BOOT_STATUS_FAIL_B 0 b
      let ver (base : Nat) : Nat := leAt (s.norRead base 512) 16 4
      if a ≠ 0 ∧ b ≠ 0 then { s with boot := { s.boot with waiting := true } }
      else
        let s : State := { s with boot := { s.boot with ran := true } }
        if a = 0 ∧ (b ≠ 0 ∨ ver 0x1000000 ≤ ver 0) then s.runImage 1 0 else s.runImage 2 0x1000000)))

/-! ## Harts (R376, R379) -/

/-- A write of CORE_RUN that concerns bit `h`, RWK. -/
def State.coreRun (s : State) (src : Nat) (f : State → State) : State :=
  if privileged src then f s else s.denied src (regDetail 0x40000208)

/-- CORE_RELEASE (R376): CORE_RUN bit `h` is set; the hart runs from its entry. Bit 3 is read-only. -/
def execCoreRelease (src h : Nat) (s : State) : Host.Outcome State Fault Refusal :=
  .next (s.whenLive (fun s => s.coreRun src (fun s =>
    let run := s.getF Reg.CORE_RUN_RUN
    if h < 3 && !bitOf run h then (s.setF Reg.CORE_RUN_RUN 0 (run + 2 ^ h)).startHart h else s)))

/-- CORE_RESET (R376, R378): CORE_RUN bit `h` is cleared. -/
def execCoreReset (src h : Nat) (s : State) : Host.Outcome State Fault Refusal :=
  .next (s.whenLive (fun s => s.coreRun src (fun s => if h < 3 then s.holdHart h else s)))

/-! ## The resume table (R372, R373) -/

/-- A saved channel is reopened as the table gives it (R373): its seal credit is taken again, and its records wait for the
scan. -/
def State.resumeChan (s : State) (x : SavedChan) : State :=
  let c := x.chan
  let z := s.costOf c.bushel
  let t := s.allocPages { num := 0, pool := .write, tid := s.writer x.num } 1
  let k := t.2.head?.map (fun p => ({ page := p, act := s.actOf c.bushel, cost := z, tid := s.writer x.num } : Credit))
  let s := t.1.setChan x.num { c with
    resumed := true, savedHead := c.durable, savedChain := c.chain, act := s.actOf c.bushel, credit := k, closing := false
    lost := none, haltCost := 0, spare := none, promised := x.place }
  let s := s.setOwn x.num { lagging := c.mirror, pos := c.mirrored, search := c.mirror }
  let s := s.setBushel c.bushel { s.bushel c.bushel with state := .opened, gen := c.gen, chan := x.num, intake := false
                                                         opening := c.opening, next := x.place }
  { s with boot := { s.boot with sealPlaces := sput 0 x.num x.sealPlace s.boot.sealPlaces } }

/-- The TENANT block's register fields as the table gives them. -/
def State.resumeFields (s : State) (l : Sparse Word) : State :=
  { s with regs := splice (32 * 0x40030000) (32 * 0x10000) l s.regs }

/-- RESUME_APPLY (R373): RES_CMD.APPLY, of a writer in machine mode; it does nothing while VALID is 0. -/
def execResumeApply (src : Nat) (s : State) : Host.Outcome State Fault Refusal :=
  .next (s.whenLive (fun s =>
    if !machineMode src then s.denied src (regDetail 0x40000244)
    else
      match s.boot.resume with
      | none => s
      | some t =>
        let s := s.resumeFields t.fields
        let s := t.keys.foldl (fun s k => s.setTen k.1 { s.ten k.1 with key := k.2, keySet := true }) s
        let s := t.shares.foldl (fun s k => s.setTen k.1 { s.ten k.1 with share := k.2 }) s
        let s : State := { s with
          boot := { s.boot with resume := none, checkpoint := t.checkpoint }
          time := { s.time with anchorNo := max s.time.anchorNo t.anchor } }
        let s := t.chans.foldl State.resumeChan s
        ((s.raise Reg.RES_STATUS_APPLIED).checkEnergy).media))

/-- RESUME_DISCARD (R372): RES_CMD.DISCARD, of a writer in machine mode. -/
def execResumeDiscard (src : Nat) (s : State) : Host.Outcome State Fault Refusal :=
  .next (s.whenLive (fun s =>
    if machineMode src then { s with boot := { s.boot with resume := none } } else s.denied src (regDetail 0x40000244)))

/-! ## The boot floor (R368) -/

/-- BOOT_FLOOR_WRITE (R368), RWK: the floor only rises, at most 64 times in the life of the part. -/
def execBootFloorWrite (src : Nat) (v : Word) (s : State) : Host.Outcome State Fault Refusal :=
  .next (s.whenLive (fun s =>
    if !privileged src then s.denied src (regDetail 0x40000228)
    else if s.boot.floor.toNat < v.toNat ∧ s.boot.raises < 64 then
      { s with boot := { s.boot with floor := v, raises := s.boot.raises + 1 } }
    else s))

/-! ## Reset sources (R376, R377) -/

/-- A deferred reset of cause `cause` is asked for: 1 RESET_N, 2 software, 3 watchdog. Requests merge. One asked for while the
sequence of R230 runs waits for its step 7 (R230), and for its own sequence where the power returns first (log entry 61). -/
def State.deferReset (s : State) (cause : Nat) : State :=
  if s.boot.pending.isSome then s
  else
    let s : State := { s with boot := { s.boot with pending := some cause } }
    if s.getF Reg.ENG_STATUS_PL_STEP = 0 then s.resumeReset else s

/-- RESET_N_ASSERT (R341, R376): RESET_N has been low for 1 µs. A stopped device gets a power-on reset at once. -/
def execResetNAssert (s : State) : Host.Outcome State Fault Refusal :=
  .next (
    let s : State := { s with pins := { s.pins with resetLow := true } }
    if s.clk.stopped then s.powerOnReset
    else s.whenLive (·.deferReset 1))

/-- SOFTWARE_RESET (R376): RST_CTRL.SYS_RST, of a writer in machine mode. -/
def execSoftwareReset (src : Nat) (s : State) : Host.Outcome State Fault Refusal :=
  .next (s.whenLive (fun s =>
    if machineMode src then s.deferReset 2 else s.denied src (regDetail 0x40000200)))

/-- WDT_KICK (R377): the count restarts from 0 on 0x0000_6410. -/
def execWdtKick (_src : Nat) (v : Word) (s : State) : Host.Outcome State Fault Refusal :=
  .next (s.whenLive (fun s => if v = 0x6410 then { s with boot := { s.boot with wdt := 0 } } else s))

/-- The watchdog's count of TICK has reached TIMEOUT_MS (R376, R377). -/
def State.wdtOut (s : State) : Bool := s.flag Reg.WDT_CTRL_EN && decide (1000 * s.getF Reg.WDT_CTRL_TIMEOUT_MS ≤ s.boot.wdt)

/-- WATCHDOG_EXPIRY (R376): the count has reached TIMEOUT_MS without a kick. -/
def execWatchdogExpiry (s : State) : Host.Outcome State Fault Refusal :=
  .next (s.whenLive (fun s => s.when' s.wdtOut (·.deferReset 3)))

/-- DEFERRED_RESET_EFFECT (R356, R377, R378): a pending reset takes effect at step 7, once the intake is empty. -/
def execDeferredResetEffect (s : State) : Host.Outcome State Fault Refusal :=
  .next (s.whenLive (fun s =>
    match s.boot.pending with
    | some cause =>
      if s.getF Reg.ENG_STATUS_PL_STEP = 7 && s.evr.intake.isEmpty && s.evr.dropped == 0 then s.logicReset false cause else s
    | none => s))

end Sys2Proof.Machine
end

