-- ==== Sys2Proof/Machine/Views.lean ====
section
/-! DEFINITION. The register fields that show state held elsewhere (the `view` fields of the register map), the interrupt
sources of spec/14 R302, and the word that a register reads as, without any effect of the read. -/

namespace Sys2Proof.Machine

/-! ## Interrupt sources (spec/14 R301, R302) -/

/-- Any of these fields, in any of its elements below `n`, is not 0. -/
def State.anyOf (s : State) (l : List Field) (n : Nat := 1) : Bool := l.any (fun f => (List.range n).any (fun i => s.getF f i != 0))

/-- The fields of block `k`'s event register at offset `off`. -/
def eventFields (k off : Nat) : List Field := (Reg.block k).filter (fun f => f.off == off && f.acc == .w1c)

/-- Some angular event slot has fired for one of the cores in `mask`. -/
def State.aevFired (s : State) (mask : Nat) : Bool :=
  (List.range 16).any (fun a => s.getF Reg.AEV1_STATE a == 2 && s.getF Reg.AEV1_CORES a &&& mask != 0)

/-- Source `k` is raw-pending; source 8 for the cores in `mask`. -/
def State.rawSource (s : State) (mask k : Nat) : Bool :=
  match k with
  | 0 => s.anyOf (eventFields 18 0x0008)
  | 1 => s.flag Reg.DL_STATUS_DOWN
  | 2 => s.anyOf (eventFields 5 0x0008)
  | 3 => s.anyOf (eventFields 16 0x0008)
  | 4 => s.anyOf (eventFields 15 0x0020)
  | 5 => s.anyOf (eventFields 7 0x000C) 2 || s.anyOf [Reg.ACT_STATE_SEEK_DONE] 2
  | 6 => s.anyOf (eventFields 8 0x0014)
  | 7 => s.anyOf (eventFields 11 0x0018)
  | 8 => s.aevFired mask
  | 9 => s.anyOf (eventFields 9 0x0010) 2
  | 10 => s.anyOf (eventFields 12 0x0010)
  | 11 => s.anyOf (eventFields 13 0x0008)
  | 12 => s.getF Reg.FWD_CTRL_HEAD != s.getF Reg.FWD_CTRL_TAIL || s.flag Reg.QUEUE_STATUS_CFG_REJECT ||
      (List.range 256).any (fun q => s.flag Reg.QCFG_FW q && (s.flag Reg.QERR_ERR_DB q || s.flag Reg.QERR_ERR_ECC q))
  | 13 => s.anyOf [Reg.FWCQ_PEND_Q] 8
  | 14 => s.flag Reg.DICT_FW_REQ_PENDING
  | 15 => s.anyOf (eventFields 14 0x000C)
  | 16 => s.anyOf (eventFields 1 0x0008)
  | 17 => s.flag Reg.TENANT_STATUS_CFG_REJECT
  | 18 => s.flag Reg.CACHE_STATUS_DONE || s.flag Reg.CACHE_STATUS_REJECT
  | 19 => s.flag Reg.CORE_EV_NMT_RESET
  | _ => false

/-- Sources pending and enabled for core `c`. -/
def State.corePend (s : State) (c : Nat) : List Nat :=
  let en := s.getF Reg.CORE_IE_EN c
  (List.range 20).filter (fun k => bitOf en k && s.rawSource (2 ^ c) k)

/-- The number with these bits set. -/
def ofBits (l : List Nat) : Nat := (l.map (2 ^ ·)).sum

/-! ## The computed fields -/

/-- Fields of SYSCTL (spec/16 R345, spec/18 R379, spec/19 R393, spec/14 R313). -/
def State.view0 (s : State) (off lo i : Nat) : Nat :=
  match off, lo with
  | 0x0004, _ => b2n Config.gradeAuto
  | 0x0108, _ => b2n (!s.clk.switching.isEmpty)
  | 0x0110, _ => s.clk.stopLast
  | 0x0114, _ => s.clk.stopDmt.toNat % 2 ^ 32
  | 0x0118, _ => s.clk.stopDmt.toNat / 2 ^ 32
  | 0x0204, 0 => b2n s.boot.pending.isSome
  | 0x0204, _ => s.boot.lastSrc
  | 0x0228, _ => s.boot.floor.toNat
  | 0x022C, _ => s.boot.revoke.toNat
  | 0x0240, _ => b2n s.boot.resume.isSome
  | 0x0260, _ => leAt (keyHash (if i < 8 then 0 else 1)) (4 * (i % 8)) 4
  | 0x0308, _ =>
    let oe := BitVec.ofNat 8 (s.getF Reg.GPIO_OE_OE)
    ((BitVec.ofNat 8 (s.getF Reg.GPIO_OUT_OUT) &&& oe) ||| (s.pins.gpioIn &&& ~~~oe)).toNat
  | 0x0404, _ => ofBits (s.corePend i)
  | 0x0408, 0 => (s.corePend i).headD 0
  | 0x0408, _ => b2n (s.corePend i).isEmpty
  | 0x0480, _ => ofBits ((List.range 20).filter (s.rawSource 15))
  | _, _ => 0

/-- Fields of the Stream Port (spec/02 R54). -/
def State.view1 (s : State) (off lo i : Nat) : Nat :=
  match off, lo with
  | 0x0004, 0 => b2n (s.flag Reg.SP_CTRL_PORT_EN && s.port.seated)
  | 0x0004, 1 => b2n s.admitAny
  | 0x0004, 2 => b2n s.port.seated
  | 0x0004, _ => b2n s.port.frame.isSome
  | 0x0100, 0 => if (s.chan i).isOpen then (s.chan i).frameMax else 0
  | 0x0100, 8 => b2n (s.ready i)
  | 0x0100, 9 => b2n ((s.chan i).isOpen && s.energyOk i (s.chan i).frameMax)
  | 0x0100, _ => b2n (s.writeBusy i)
  | _, _ => 0

/-- Fields of the queues (spec/03 R74). -/
def State.view2 (s : State) (off lo i : Nat) : Nat :=
  match off, lo with
  | 0x0004, _ => b2n (s.flag Reg.QUEUE_CTRL_FETCH_EN && !s.power.admClosed)
  | 0x0014, 0 => s.tagFree 0
  | 0x0014, _ => s.tagFree 1
  | 0x0018, _ => s.tagFree 2
  | 0x002C, 0 => min s.freePages (s.poolCap .write - s.pageUse .write (fun _ => true))
  | 0x002C, _ => min s.freePages (s.poolCap .read - s.pageUse .read (fun _ => true))
  | 0x0030, 0 => s.slotSize 0 - s.slotUse 0 (fun _ => true)
  | 0x0030, _ => s.slotSize 1 - s.slotUse 1 (fun _ => true)
  | 0x100C, 2 => b2n (s.flag Reg.QERR_ERR_ECC i)
  | 0x100C, _ => s.inflight i
  | _, _ => 0

/-- Fields of the tenants (spec/04 R95). -/
def State.view3 (s : State) (off i : Nat) : Nat :=
  match off with
  | 0x0004 => ofBits (tids.filter s.sessionOpen)
  | _ => b2n (s.ten i).keySet

/-- SHED_CH and SHED_BASIS of channel `n` show the intake of it that this cartridge receives (R113, R116), unless the channel
is its own and open. -/
def State.showsIntake (s : State) (n : Nat) : Bool := !(s.chan n).isOpen && (s.intake n).isOpen

/-- The shedding state that the registers of channel `n` show (R118). -/
def State.shownShed (s : State) (n : Nat) : Shed := if s.showsIntake n then s.shedInOf n else s.shedOf n

/-- Fields of the arbiter (spec/05 R118). -/
def State.view4 (s : State) (off lo i : Nat) : Nat :=
  match off, lo with
  | 0x0004, 1 => b2n (s.flag Reg.ARB_STATUS_SHORTFALL && s.getF Reg.ARB_STATUS_MARGIN == 0)
  | 0x0004, _ => b2n (s.available 0) + 2 * b2n (s.available 1)
  | 0x0008, _ => s.mediaFloor
  | 0x0010, _ => satN 24 s.resvSum
  | 0x0200, 0 => b2n (s.flag Reg.ARB_STATUS_SHORTFALL && decide ((s.shownShed i).factor < 32768))
  | 0x0200, 1 => b2n (if s.showsIntake i then s.intakeShed i else s.beingShed i)
  | 0x0200, _ => (s.shownShed i).factor
  | _, _ => satN 24 (s.shownShed i).basis

/-- The ADDR word of the oldest entry of a log (spec/15 R321); 0 when the log is empty. -/
def headAddr (l : List EccEntry) : Nat :=
  match l with
  | e :: _ => e.word % 2 ^ 24 / 8 * 8
  | [] => 0

/-- The INFO word of the oldest entry of a log (spec/15 R321). -/
def headInfo (l : List EccEntry) : Nat :=
  match l with
  | e :: _ => e.synd.toNat + 256 * e.mem + 4096 * e.reader + 65536 * e.repeats
  | [] => 0

/-- Fields of the error logs (spec/15 R329). -/
def State.view5 (s : State) (off : Nat) : Nat :=
  match off with
  | 0x0010 => headAddr s.ecc.ce
  | 0x0014 => headInfo s.ecc.ce
  | 0x0018 => s.ecc.ce.length
  | 0x0020 => headAddr s.ecc.ue
  | 0x0024 => headInfo s.ecc.ue
  | _ => s.ecc.ue.length

/-- A read or a write of channel `ch` waits for a gate (spec/07 R147). -/
def State.gateHeld (s : State) (ch : Nat) : Bool :=
  let x := s.rw ch
  let held (track : Bool) : Bool := !s.gateOk ch || !track
  x.gate.isNone && x.rgate.isNone &&
    ((!x.wq.isEmpty && (x.faultLow || held (s.flag Reg.ACT_STATE_ON_TRK_WR ch))) ||
      (!(s.servable ch).isEmpty && held (s.flag Reg.ACT_STATE_ON_TRK_RD ch)))

/-- Fields of a read/write channel (spec/07 R170). -/
def State.view9 (s : State) (lo i : Nat) : Nat :=
  match lo with
  | 5 => (s.loop i).head
  | 8 => b2n (s.rw i).gate.isSome
  | 9 => b2n (s.rw i).rgate.isSome
  | _ => b2n (s.gateHeld i)

/-- Fields of the chain band (spec/07 R145). -/
def State.view11 (s : State) (off : Nat) : Nat :=
  match off with
  | 0x0008 => s.chain.revs
  | 0x000C => s.angleFwd % 2 ^ 32
  | _ => s.angleFwd / 2 ^ 32

/-- Fields of the ledger (spec/06 R142). -/
def State.view12 (s : State) (off lo i : Nat) : Nat :=
  match off, lo with
  | 0x0004, 0 => b2n (s.flag Reg.LDG_CTRL_EN)
  | 0x0004, _ => b2n s.boot.scan.isSome
  | 0x000C, 0 => s.fifoA.length
  | 0x000C, _ => s.fifoB.length
  | 0x0020, _ => leAt pubKey (4 * i) 4
  | 0x0100, _ => if (s.chan i).isOpen then (s.chan i).bushel else 0xFFFFFFFF
  | 0x0104, 0 => if (s.chan i).isOpen then (s.bushel (s.chan i).bushel).next else 0
  | _, _ => if (s.chan i).isOpen then (s.chan i).opening.toNat else 0

/-- Fields of the link (spec/11 R259). -/
def State.view13 (s : State) (lo i : Nat) : Nat :=
  match lo with
  | 0 => b2n (s.intake i).isOpen
  | 1 => b2n (s.own i).lagging
  | 2 => b2n (s.own i).resync
  | _ => satN 8 (s.ovrCredit i)

/-- Fields of evidence time (spec/13 R295): after a read of DMT_LO, DMT_HI shows the half latched with it. -/
def State.view15 (s : State) (off lo : Nat) : Nat :=
  let t := s.time
  match off, lo with
  | 0x0004, 0 => b2n t.valid
  | 0x0004, 1 => b2n t.retained
  | 0x0004, 2 => b2n t.master
  | 0x0004, 3 => b2n (t.slew != 0)
  | 0x0004, 4 => t.lastCause
  | 0x0004, _ => t.waiting.length
  | 0x0008, _ => t.dmt.toNat % 2 ^ 32
  | 0x000C, _ => if t.hiHeld then t.hiLatch.toNat else t.dmt.toNat / 2 ^ 32
  | 0x0010, _ => t.epoch.toNat
  | 0x0014, _ => unsigned 64 t.ofs % 2 ^ 32
  | 0x0018, _ => unsigned 64 t.ofs / 2 ^ 32
  | _, _ => t.slew

/-- Fields of the monitors (spec/17 R354). -/
def State.view16 (s : State) (off lo : Nat) : Nat :=
  match off, lo with
  | 0x0004, 0 => b2n s.mon.ready
  | 0x0004, 1 => b2n (!(s.assertedFor 3).isEmpty)
  | 0x0004, 2 => b2n (!(s.assertedFor 1).isEmpty)
  | 0x0004, 3 => b2n (s.parkHeld 0)
  | 0x0004, _ => b2n (s.parkHeld 1)
  | _, _ => ofBits (slotNums.filter (fun k => (s.slot k).asserted))

/-- Fields of the event recorder (spec/17 R362). -/
def State.view17 (s : State) (off lo i : Nat) : Nat :=
  match off, lo with
  | 0x0004, 0 => s.evr.first.length
  | 0x0004, _ => s.evr.last.length
  | 0x0008, _ => s.evr.total.toNat
  | 0x000C, _ => s.evr.droppedTotal.toNat
  | 0x1000, _ => leAt (entryAt s.evr.first (i / 4)) (4 * (i % 4)) 4
  | _, _ => leAt (entryAt s.evr.last (i / 4)) (4 * (i % 4)) 4

/-- Fields of the energy account (spec/10 R236). VIN_OK and HARVEST are what the die link has reported. -/
def State.view18 (s : State) (off lo i : Nat) : Nat :=
  match off, lo with
  | 0x0004, 2 => b2n (s.power.vinValid && s.dl.rxSeen)
  | 0x0004, 3 => b2n (s.power.harvest && s.dl.rxSeen)
  | 0x0004, _ => b2n s.power.spinup.isSome
  | 0x001C, _ => satN 24 s.commit
  | 0x0020, _ => satN 24 (s.earmarks (fun _ => true))
  | 0x0024, _ => satN 24 (s.debits (fun _ => true))
  | 0x0028, _ => satN 24 (s.sealRes (fun _ => true))
  | _, _ => satN 24 (s.tenEnergy i)

/-- The value of a computed field. -/
def State.view (s : State) (f : Field) (i : Nat) : Nat :=
  match f.blk with
  | 0 => s.view0 f.off f.lo i
  | 1 => s.view1 f.off f.lo i
  | 2 => s.view2 f.off f.lo i
  | 3 => s.view3 f.off i
  | 4 => s.view4 f.off f.lo i
  | 5 => s.view5 f.off
  | 6 => b2n s.cache.sweep.isSome
  | 7 => b2n (!s.swap.isEmpty)
  | 9 => s.view9 f.lo i
  | 11 => s.view11 f.off
  | 12 => s.view12 f.off f.lo i
  | 13 => s.view13 f.lo i
  | 15 => s.view15 f.off f.lo
  | 16 => s.view16 f.off f.lo
  | 17 => s.view17 f.off f.lo i
  | 18 => s.view18 f.off f.lo i
  | _ => 0

/-! ## The word a register reads as (R3, R5) -/

/-- What a read of element `i` of a field returns: a WO field reads 0. -/
def State.fieldVal (s : State) (f : Field) (i : Nat) : Nat :=
  if f.acc == .wo then 0 else if f.view then s.view f i % 2 ^ f.w else s.getF f i

/-- The word at `addr`, without the effect of a read; where no register is named it reads 0 (R2). -/
def State.regWord (s : State) (addr : Nat) : Word :=
  BitVec.ofNat 32 (((regFields addr).map (fun fi => s.fieldVal fi.1 fi.2 * 2 ^ fi.1.lo)).sum)

end Sys2Proof.Machine
end

