-- ==== Sys2Proof/Machine/Objects.lean ====
section
/-! DEFINITION. The objects of the dictionary (spec/12 R274 to R277): the entries and their values, the rights and checks of
an access, the effect of a write, the error register, and the CAN node they belong to. -/

namespace Sys2Proof.Machine

/-! ## The entries (R274, R275) -/

/-- An entry: its size in bytes (of a string or DOMAIN the most it holds), and its marks. -/
structure DEntry where
  size : Nat
  str : Bool := false
  dom : Bool := false
  rd : Bool := true
  wr : Bool := false
  k : Bool := false
  fw : Bool := false
  tx : Bool := false
  rx : Bool := false

/-- A read-only entry. -/
def roE (n : Nat) : DEntry := { size := n }
/-- A read-only entry that a TPDO maps. -/
def txE (n : Nat) : DEntry := { size := n, tx := true }
/-- A communication object that may be written. -/
def rwE (n : Nat) : DEntry := { size := n, wr := true }
/-- A keeper's entry that firmware serves. -/
def fwE (n : Nat) : DEntry := { size := n, wr := true, k := true, fw := true }

/-- The first index of the run of objects of one kind. -/
def dictKind (i : Nat) : Nat :=
  if i / 8 * 8 = 0x1400 ∨ i / 8 * 8 = 0x1600 ∨ i / 8 * 8 = 0x1800 ∨ i / 8 * 8 = 0x1A00 then i / 8 * 8
  else if i / 64 * 64 = 0x3000 then 0x3000
  else i

/-- The subindices that an object defines, in rising order, with their entries; none where no object is. -/
def dictSubs (i : Nat) : List (Nat × DEntry) :=
  match dictKind i with
  | 0x1000 => [(0, roE 4)]
  | 0x1001 => [(0, roE 1)]
  | 0x1008 => [(0, { size := 8, str := true })]
  | 0x1009 => [(0, { size := 2, str := true })]
  | 0x100A => [(0, { size := 32, str := true, fw := true })]
  | 0x1012 => [(0, rwE 4)]
  | 0x1014 => [(0, rwE 4)]
  | 0x1015 => [(0, rwE 2)]
  | 0x1017 => [(0, rwE 2)]
  | 0x1018 => [(0, roE 1), (1, roE 4), (2, roE 4), (3, roE 4), (4, roE 4)]
  | 0x1200 => [(0, roE 1), (1, roE 4), (2, roE 4)]
  | 0x1400 => [(0, roE 1), (1, rwE 4), (2, rwE 1)]
  | 0x1600 => (0, rwE 1) :: (List.range 8).map (fun j => (j + 1, rwE 4))
  | 0x1800 => [(0, roE 1), (1, rwE 4), (2, rwE 1), (3, rwE 2), (5, rwE 2)]
  | 0x1A00 => (0, rwE 1) :: (List.range 8).map (fun j => (j + 1, rwE 4))
  | 0x2000 => [(0, roE 1), (1, fwE 1), (2, roE 1), (3, fwE 2), (4, fwE 2)]
  | 0x2001 => [(0, roE 1), (1, fwE 4), (2, fwE 4), (3, fwE 1)]
  | 0x2002 => [(0, roE 1), (1, rwE 1), (2, rwE 8)]
  | 0x2010 => [(0, roE 1), (1, roE 8), (2, roE 4), (3, roE 1), (4, { size := 64, dom := true })]
  | 0x2100 => [(0, roE 1), (1, txE 4), (2, txE 4), (3, txE 4), (4, txE 4), (5, txE 2)]
  | 0x2110 => [(0, roE 1), (1, txE 2), (2, txE 2), (3, txE 1), (4, txE 1), (5, txE 1), (6, txE 4), (7, txE 1)]
  | 0x2120 => [(0, roE 1), (1, txE 1)]
  | 0x2130 => [(0, roE 1), (1, txE 6), (2, txE 2)]
  | 0x2140 => (0, roE 1) :: (List.range 8).map (fun j => (j + 1, txE 2))
  | 0x3000 => [(0, roE 1), (1, txE 4), (2, txE 4), (3, txE 4), (4, txE 4), (5, txE 1), (6, roE 1), (7, roE 1)]
  | 0x4000 => [(0, roE 1), (1, { size := 4096, dom := true }), (2, { size := 16384, dom := true }),
               (3, { size := 1, rd := false, wr := true }), (4, txE 2), (5, txE 2)]
  | 0x4200 => [(0, roE 1), (1, { size := 32, str := true, wr := true, k := true, fw := true })]
  | 0x4300 => [(0, roE 1), (1, { size := 1, rd := false, wr := true, k := true, rx := true }), (2, txE 4)]
  | _ => []

/-- The entry `i.j`. -/
def dictEntry (i j : Nat) : Option DEntry := (dictSubs i).lookup j

/-- The highest subindex of an object. -/
def highestSub (i : Nat) : Nat := ((dictSubs i).map (·.1)).foldl max 0

/-! ## The values the device keeps (R263, R274, R275) -/

/-- The key of an entry among the values kept. -/
def objKey (i j : Nat) : Nat := 256 * i + j

/-- The node-ID in force (R263). -/
def State.nodeId (s : State) : Nat := s.getF Reg.DICT_STATUS_NODE_ID

/-- The default of an entry that may be written. -/
def State.objDefault (s : State) (i j : Nat) : Nat :=
  let n := i % 8
  match dictKind i, j with
  | 0x1012, _ => 0x80000100
  | 0x1014, _ => 0x80 + s.nodeId
  | 0x1017, _ => 1000
  | 0x1400, 1 => if n < 4 then 0x200 + 0x100 * n + s.nodeId else 0x80000000
  | 0x1400, 2 => 255
  | 0x1800, 1 => if n < 4 then 0x40000180 + 0x100 * n + s.nodeId else 0xC0000000
  | 0x1800, 2 => 255
  | 0x2000, 1 => 0x20
  | 0x2000, 3 => 500
  | 0x2000, 4 => 2000
  | 0x2001, 1 => 0x680 + 2 * s.pins.strap
  | 0x2001, 2 => 0x681 + 2 * s.pins.strap
  | 0x2001, 3 => 16
  | _, _ => 0

/-- The value of an entry that may be written: what was written last, kept as one more than the value, or its default. -/
def State.obj (s : State) (i j : Nat) : Nat :=
  match sget 0 (objKey i j) s.dict.objs with
  | 0 => s.objDefault i j
  | v + 1 => v

/-- Sets it. -/
def State.setObj (s : State) (i j v : Nat) : State :=
  { s with dict := { s.dict with objs := sput 0 (objKey i j) (v + 1) s.dict.objs } }

/-! ## The error register (R267, R274) -/

/-- The bit of 0x1001 that a code sets. -/
def emcyBit (code : Nat) : Nat :=
  if code = 0x3100 then 4 else if code = 0x4200 then 8 else if code < 0xFF00 then 16 else 128

/-- The condition of a lasting code is active. -/
def State.condition (s : State) (code : Nat) : Bool :=
  match code with
  | 0x3100 => s.flag Reg.ENG_STATUS_PL_ACTIVE
  | 0x4200 => !(s.assertedFor 2).isEmpty || !(s.assertedFor 3).isEmpty
  | 0x8120 => s.getF Reg.DICT_STATUS_BUS == 1
  | 0xFF01 => s.flag Reg.ENG_CTRL_EN && !s.lendOk
  | 0xFF02 => s.view Reg.ARB_STATUS_CRITICAL 0 == 1
  | 0xFF03 => s.chans.any (fun e => e.2.halted)
  | 0xFF04 => s.actState 0 == 6 || s.actState 1 == 6
  | 0xFF05 => s.spn == 10 && s.spindle.failed
  | 0xFF06 => s.flag Reg.OVR_CTRL_EN && !s.linkUp
  | _ => false

/-- 0x1001 with the bits of the codes in `more` set. -/
def State.errorReg (s : State) (more : List Nat) : Nat :=
  let l := more ++ lastingCodes.filter s.condition
  if l.isEmpty then 0 else ((l.map emcyBit).foldl (· ||| ·) 1)

/-! ## What an entry reads as (R273, R275, R276) -/

/-- Where a request came from is CAN. -/
def Source.can : Source → Bool
  | .mailbox _ => false
  | _ => true

/-- A source as an event codes it (spec/17 R357). -/
def Source.code : Source → Nat
  | .mailbox t => t
  | _ => 0x20

/-- Channel `n` is open to CAN reads. -/
def State.canReads (s : State) (n : Nat) : Bool := bitOf (s.getF Reg.CAN_READ_CH_MASK (n / 32)) (n % 32)

/-- The channel of a channel entry. -/
def chanEntry (i : Nat) : Option Nat := if dictKind i = 0x3000 then some (i - 0x3000) else none

/-- The bytes of characters. -/
def textBytes (t : String) : List Byte := t.toList.map (fun c => BitVec.ofNat 8 c.toNat)

/-- The value of channel entry `j` of channel `n`. -/
def State.chanNum (s : State) (n j : Nat) : Nat :=
  let h := s.headRecord n
  match j with
  | 1 => leAt h 0 4
  | 2 => leAt h 4 4
  | 3 => leAt h 8 4
  | 4 => leAt h 12 4
  | 5 => leAt h 18 1
  | 6 => leAt h 17 1
  | _ => leAt h 16 1

/-- The number that a hardware-served entry reads as. -/
def State.dictNum (s : State) (i j : Nat) : Nat :=
  match dictKind i, j with
  | 0x1001, _ => s.errorReg []
  | 0x1018, 1 => 0x0B71
  | 0x1018, 2 => 0x6410
  | 0x1018, 3 => 0x000B0001
  | 0x1018, 4 => leAt uid 0 4
  | 0x1200, 1 => 0x600 + s.nodeId
  | 0x1200, 2 => 0x580 + s.nodeId
  | 0x1600, _ => s.obj i j
  | 0x1A00, _ => s.obj i j
  | 0x1012, _ => s.obj i j
  | 0x1014, _ => s.obj i j
  | 0x1015, _ => s.obj i j
  | 0x1017, _ => s.obj i j
  | 0x1000, _ => 0
  | _, 0 => highestSub i
  | 0x1400, _ => s.obj i j
  | 0x1800, _ => s.obj i j
  | 0x2000, _ => s.pins.strap
  | 0x2002, 1 => s.getF Reg.DICT_RIGHTS_CAN_WRITE_EN
  | 0x2002, _ => s.getF Reg.CAN_READ_CH_MASK 0 + 2 ^ 32 * s.getF Reg.CAN_READ_CH_MASK 1
  | 0x2010, 1 => leNat uid
  | 0x2010, 2 => 0x64100B01
  | 0x2010, _ => b2n Config.gradeAuto
  | 0x2100, 1 => s.lend
  | 0x2100, 2 => s.fieldVal Reg.ENG_COMMIT_E 0
  | 0x2100, 3 => s.getF Reg.ENG_ECAP_E
  | 0x2100, 4 => s.getF Reg.ENG_EKIN_E
  | 0x2100, _ => (s.regWord 0x40120004).toNat % 2 ^ 11
  | 0x2110, 1 => if s.flag Reg.CHN_STATUS_LOCK then s.getF Reg.CHN_RPM_RPM8 / 8 else s.getF Reg.SPN_EST_RPM8 / 8
  | 0x2110, 2 => s.nSet
  | 0x2110, 3 => s.spn
  | 0x2110, 4 => s.actState 0
  | 0x2110, 5 => s.actState 1
  | 0x2110, 6 => s.getF Reg.MEDIA_NOW_RATE
  | 0x2110, _ => (s.regWord 0x40040004).toNat % 2 ^ 7
  | 0x2120, _ => (s.regWord 0x400D0004).toNat % 2 ^ 7
  | 0x2130, 1 => s.time.dmt.toNat
  | 0x2130, _ => s.time.epoch.toNat
  | 0x2140, 7 => s.getF Reg.ENG_VOLT_VHOLD
  | 0x2140, 8 => s.getF Reg.ENG_VOLT_VIN
  | 0x2140, j => s.getF Reg.TS_READING (j - 1)
  | 0x3000, j => s.chanNum (i - 0x3000) j
  | 0x4000, 4 => s.evr.first.length
  | 0x4000, _ => s.evr.last.length
  | 0x4300, _ => s.dict.incidents.toNat
  | _, _ => 0

/-- The bytes that a hardware-served entry reads as; a mailbox reads a channel not assigned to its tenant as zeros. -/
def State.dictBytes (s : State) (src : Source) (i j size : Nat) : List Byte :=
  match i, j with
  | 0x1008, _ => textBytes "LZQ-6410"
  | 0x1009, _ => textBytes "B1"
  | 0x2010, 4 => pubKey
  | 0x4000, 1 => (s.evr.first.map Event.bytes).flatten
  | 0x4000, 2 => (s.evr.last.map Event.bytes).flatten
  | _, _ =>
    let hidden := match chanEntry i, src with
      | some n, .mailbox t => !s.assigned t n && j != 0
      | _, _ => false
    leBytes size (if hidden then 0 else s.dictNum i j)

/-! ## Rights and checks (R273, R276, R280, R282) -/

/-- What refuses an access before its data is looked at: the abort code, and whether it is a denied write. The state comes
first, then the right to write over CAN, then the entry. -/
def State.access (s : State) (src : Source) (i j : Nat) (write : Bool) : Option (Nat × Bool) :=
  let fw := match dictEntry i j with | some e => e.fw | none => false
  if s.dict.refusing && (write || fw) then some (0x08000022, false)
  else if src.can && write && !(i == 0x4000 && j == 3) && !s.flag Reg.DICT_RIGHTS_CAN_WRITE_EN then some (0x08000020, true)
  else match dictEntry i j with
    | none => some (if (dictSubs i).isEmpty then 0x06020000 else 0x06090011, false)
    | some e =>
      let keeper := match src with | .mailbox t => t == 0 | _ => true
      let shut := match chanEntry i with | some n => src.can && !s.canReads n | none => false
      if write && (!e.wr || (src.can && i == 0x2002)) then some (0x06010002, false)
      else if !write && !e.rd then some (0x06010001, false)
      else if write && !keeper && (e.k || i == 0x2002) then some (0x08000020, true)
      else if !write && shut then some (0x08000020, false)
      else none

/-- A PDO's COB-ID entry for its mapping object. -/
def pdoComm (i : Nat) : Nat := i - 0x200

/-- One mapped entry is permitted (R280). -/
def State.mapEntry (s : State) (i v : Nat) : Option Nat :=
  let x := v / 65536
  match dictEntry x (v / 256 % 256) with
  | none => some 0x06040041
  | some e =>
    if !(if i < 0x1A00 then e.rx else e.tx) || v % 256 != 8 * e.size then some 0x06040041
    else match chanEntry x with
      | some n => if s.canReads n then none else some 0x06040043
      | none => none

/-- The mapped entries of mapping object `i`. -/
def State.mapped (s : State) (i : Nat) : List Nat := (List.range (s.obj i 0)).map (fun j => s.obj i (j + 1))

/-- A write of a mapping object (R280). -/
def State.mapCheck (s : State) (i j v : Nat) : Option Nat :=
  if s.obj (pdoComm i) 1 < 2 ^ 31 then some 0x08000022
  else if j = 0 then
    let l := (List.range v).map (fun j => s.obj i (j + 1))
    if 8 < v then some 0x06090030
    else match l.findSome? (s.mapEntry i) with
      | some c => some c
      | none => if 64 < (l.map (· % 256)).sum then some 0x06040042 else none
  else match s.mapEntry i v with
    | some c => some c
    | none =>
      let l := (List.range (s.obj i 0)).map (fun k => if k + 1 = j then v else s.obj i (k + 1))
      if 64 < (l.map (· % 256)).sum then some 0x06040042 else none

/-- What refuses the value of a write: the abort code. -/
def State.valueCheck (s : State) (i j v : Nat) : Option Nat :=
  let range (ok : Bool) : Option Nat := if ok then none else some 0x06090030
  match dictKind i, j with
  | 0x1012, _ => range (!bitOf v 30)
  | 0x1400, 2 => range (v == 254 || v == 255)
  | 0x1800, 2 => range (v == 254 || v == 255)
  | 0x1600, _ => s.mapCheck i j v
  | 0x1A00, _ => s.mapCheck i j v
  | 0x2000, 1 => range (decide (1 ≤ v) && decide (v ≤ 120))
  | 0x2000, 3 => range ([1000, 500, 250, 125].contains v)
  | 0x2000, 4 => range ([5000, 4000, 2000, 1000].contains v)
  | 0x2001, 3 => range (decide (1 ≤ v) && decide (v ≤ 16))
  | 0x2001, _ => range (decide (0x680 ≤ v) && decide (v ≤ 0x6DF))
  | 0x2002, 1 => range (decide (v ≤ 1))
  | 0x4000, _ => range (v == 1)
  | 0x4300, _ => range (v == 1)
  | _, _ => none

/-- The length of a write does not match (R276). -/
def DEntry.lengthBad (e : DEntry) (n : Nat) : Bool := if e.str then decide (e.size < n) else n != e.size

/-- What refuses a write of `data` to entry `e`. -/
def State.writeCheckD (s : State) (e : DEntry) (i j : Nat) (data : List Byte) : Option Nat :=
  if e.lengthBad data.length then some 0x06070010
  else if e.str then none
  else s.valueCheck i j (leNat data)

/-- A refused access is reported: WRITE_DENIED and DICT_EVENTS.DENIED (R273). -/
def State.dictDenied (s : State) (src : Source) (i j : Nat) : State :=
  (s.raise Reg.DICT_EVENTS_DENIED).denied src.code (dictDetail i j)

/-- A refused value is reported (R276). -/
def State.dictReserved (s : State) (src : Source) (i j code : Nat) : State :=
  if code = 0x06090030 then s.reserved src.code (dictDetail i j) else s

/-! ## The effect of a write (R275, R281) -/

/-- The incident seal of channel `n`: on an open class-0 channel that this cartridge owns, where the last formed seal does not
cover DURABLE_HEAD. A periodic seal already due becomes one of REASON 2; another one due covers DURABLE_HEAD (log entry 57). -/
def State.incidentSeal (s : State) (n : Nat) : State :=
  let c := s.chan n
  if c.isOpen && c.cls == 0 && s.owns n && c.covers != c.durable then
    if s.sealDue n then
      { s with due := s.due.map (fun d => match d with | Due.seal m 1 t => if m = n then Due.seal m 2 t else Due.seal m 1 t | e => e) }
    else s.makeDue (.seal n 2 none)
  else s

/-- The incident write (R281). -/
def State.incident (s : State) (src : Source) : State :=
  let s := s.each chanNums State.incidentSeal
  let s : State := { s with dict := { s.dict with incidents := s.dict.incidents + 1 } }
  s.event 0x19 src.code 0 s.dict.incidents.toNat

/-- A write of value `v` to a hardware-served entry. -/
def State.dictApply (s : State) (src : Source) (i j v : Nat) : State :=
  match i, j with
  | 0x2002, 1 => s.setF Reg.DICT_RIGHTS_CAN_WRITE_EN 0 v
  | 0x2002, _ => (s.setF Reg.CAN_READ_CH_MASK 0 (v % 2 ^ 32)).setF Reg.CAN_READ_CH_MASK 1 (v / 2 ^ 32)
  | 0x4000, _ => s.evrClear src.code
  | 0x4300, _ => s.incident src
  | _, _ => s.setObj i j v

/-! ## The node (R262 to R266) -/

/-- The controller is on the bus: enabled and not bus-off (R262, R264). -/
def State.canOn (s : State) : Bool := s.flag Reg.DICT_CTRL_EN && s.getF Reg.DICT_STATUS_BUS != 2

/-- The device sends a frame: classic, or an FD frame with BRS set (R260). -/
def State.sendCan (s : State) (cob : Nat) (data : List Byte) (fd : Bool := false) : State :=
  if s.canOn then { s with dict := { s.dict with out := s.dict.out ++ [{ cob := cob, data := data, fd := fd }] } } else s

/-- Frames in the 32-frame receive FIFO: each waits there until its request of the dictionary queue is served (R260; log
entry 58). -/
def State.rxWaiting (s : State) : Nat := (s.dict.queue.filter (fun r => r.src.can && r.frame)).length

/-- A frame that arrives at a full receive FIFO is lost (R260). -/
def State.rxOverrun (s : State) : State := (s.raise Reg.DICT_EVENTS_OVERRUN).emcy 0x8110 0xFF 0

/-- A frame has come on the bus: the node receives it, unless its FIFO is full. -/
def State.rxFrame (s : State) (f : State → State) : State :=
  s.when' s.canOn (fun s => if 32 ≤ s.rxWaiting then s.rxOverrun else f s)

/-- A command of the CAN node or the dictionary engine: what it sends is what the node has sent last. -/
def State.dictCmd (s : State) (f : State → State) : State :=
  s.whenLive (fun s => f { s with dict := { s.dict with out := [] } })

/-- Initialisation (R261, R263, R265): rates and node-ID are retaken, the boot-up message is sent, and the node enters
Pre-operational. -/
def State.canInit (s : State) : State :=
  let s : State := { s with dict := { s.dict with nominal := s.obj 0x2000 3, dataRate := s.obj 0x2000 4 } }
  let s := s.setF Reg.DICT_STATUS_NODE_ID 0 (s.obj 0x2000 1 + s.pins.strap)
  (s.sendCan (0x700 + s.nodeId) [0]).setF Reg.DICT_STATUS_NMT 0 0x7F

/-- A request of `src` is no longer answered. -/
def DictReq.muted (src : Source) (r : DictReq) : DictReq := if r.src = src then { r with mute := true } else r

/-- The transfer of `src` has been aborted: its request, where one has arrived, is served all the same (R278) and not
answered. -/
def State.muteSource (s : State) (src : Source) : State :=
  { s with dict := { s.dict with queue := s.dict.queue.map (DictReq.muted src), fw := s.dict.fw.map (DictReq.muted src) } }

/-- Any SDO or bulk transfer is dropped (R265). -/
def State.dropTransfers (s : State) : State :=
  let s := (s.muteSource .sdo).muteSource .bulk
  { s with dict := { s.dict with sdo := none, bulk := none } }

/-- Reset communication (R265). -/
def State.resetComm (s : State) : State :=
  let s := s.dropTransfers
  State.canInit { s with dict := { s.dict with
    objs := s.dict.objs.filter (fun e => decide (e.1 < objKey 0x1000 0) || decide (objKey 0x2000 0 ≤ e.1)), tpdo := [] } }

/-- An NMT command for node `node` (0: every node), obeyed while the controller is on the bus. -/
def State.nmt (s : State) (node : Nat) (f : State → State) : State :=
  s.dictCmd (fun s => s.rxFrame (fun s => s.when' (node == 0 || node == s.nodeId) f))

/-- NMT_START_REMOTE_NODE (R265). -/
def execNmtStartRemoteNode (node : Nat) (s : State) : Host.Outcome State Fault Refusal :=
  .next (s.nmt node (fun s => s.setF Reg.DICT_STATUS_NMT 0 0x05))

/-- NMT_STOP_REMOTE_NODE (R265): no SDO or bulk SDO is handled any more, so their transfers end (log entry 58). -/
def execNmtStopRemoteNode (node : Nat) (s : State) : Host.Outcome State Fault Refusal :=
  .next (s.nmt node (fun s => s.dropTransfers.setF Reg.DICT_STATUS_NMT 0 0x04))

/-- NMT_ENTER_PRE_OPERATIONAL (R265). -/
def execNmtEnterPreOperational (node : Nat) (s : State) : Host.Outcome State Fault Refusal :=
  .next (s.nmt node (fun s => s.setF Reg.DICT_STATUS_NMT 0 0x7F))

/-- NMT_RESET_COMMUNICATION (R265). -/
def execNmtResetCommunication (node : Nat) (s : State) : Host.Outcome State Fault Refusal :=
  .next (s.nmt node State.resetComm)

/-- NMT_RESET_NODE (R265): firmware is interrupted too. -/
def execNmtResetNode (node : Nat) (s : State) : Host.Outcome State Fault Refusal :=
  .next (s.nmt node (fun s => s.resetComm.raise Reg.CORE_EV_NMT_RESET))

/-- DICT_ENABLE (R264), RWK: setting EN enters Initialisation. -/
def execDictEnable (src : Nat) (s : State) : Host.Outcome State Fault Refusal :=
  .next (s.dictCmd (fun s =>
    if !privileged src then s.denied src (regDetail 0x400E0000)
    else if s.flag Reg.DICT_CTRL_EN then s
    else (s.raise Reg.DICT_CTRL_EN).canInit))

/-- CAN_HEARTBEAT_SEND (R266): 0x1017 milliseconds have passed since the last. -/
def execCanHeartbeatSend (s : State) : Host.Outcome State Fault Refusal :=
  .next (s.dictCmd (fun s => s.when' (s.getF Reg.DICT_STATUS_NMT != 0 && s.obj 0x1017 0 != 0) (fun s =>
    s.sendCan (0x700 + s.nodeId) (leBytes 1 (s.getF Reg.DICT_STATUS_NMT)))))

/-! ## Emergencies and bus states (R260, R262, R267) -/

/-- The inhibit time of EMCY has passed since the last. -/
def State.emcyFree (s : State) : Bool :=
  match s.dict.emcyLast with
  | some t => decide (100 * s.obj 0x1015 0 ≤ (s.time.dmt - t).toNat)
  | none => true

/-- Sends an EMCY frame on the COB-ID of 0x1014, if that is valid. -/
def State.sendEmcy (s : State) (code : Nat) (b3 : Byte) (detail : Word) : State :=
  let more := if code = 0 then [] else [code]
  let s := if s.obj 0x1014 0 < 2 ^ 31 then
      s.sendCan (s.obj 0x1014 0 % 2048) (leBytes 2 code ++ leBytes 1 (s.errorReg more) ++ [b3] ++ leBytes 4 detail.toNat)
    else s
  { s with dict := { s.dict with emcyLast := some s.time.dmt } }

/-- EMCY_SEND (R267): the oldest EMCY due is sent; with none due, 0x0000 once every active condition has cleared. -/
def execEmcySend (s : State) : Host.Outcome State Fault Refusal :=
  .next (s.dictCmd (fun s => s.when' (s.canOn && s.nmtUp && s.emcyFree) (fun s =>
    match s.dict.emcyDue with
    | e :: rest =>
      let s := s.sendEmcy e.code e.b3 e.detail
      { s with dict := { s.dict with emcyDue := rest } }
    | [] =>
      if !s.dict.active.isEmpty && !lastingCodes.any s.condition then
        let s := s.sendEmcy 0 0xFF 0
        { s with dict := { s.dict with active := [] } }
      else s)))

/-- CAN_ERROR_PASSIVE (R262): `tec` and `rec` are the error counters as they then stand. -/
def execCanErrorPassive (tec rec : Byte) (s : State) : Host.Outcome State Fault Refusal :=
  .next (s.dictCmd (fun s => s.when' s.canOn (fun s =>
    let s := (s.setF Reg.CAN_ERR_TEC 0 tec.toNat).setF Reg.CAN_ERR_REC 0 rec.toNat
    (s.setF Reg.DICT_STATUS_BUS 0 1).emcy 0x8120 0xFF (tec.toNat + 256 * rec.toNat))))

/-- CAN_ERROR_ACTIVE (R262, ISO 11898-1): both counters stand below 128 again; where is not stated (log entry 3). -/
def execCanErrorActive (s : State) : Host.Outcome State Fault Refusal :=
  .next (s.dictCmd (fun s => s.when' (s.canOn && s.getF Reg.DICT_STATUS_BUS == 1) (fun s =>
    let a := s.fresh
    let b := a.1.fresh
    let s := (b.1.setF Reg.CAN_ERR_TEC 0 (a.2.toNat % 128)).setF Reg.CAN_ERR_REC 0 (b.2.toNat % 128)
    s.setF Reg.DICT_STATUS_BUS 0 0)))

/-- CAN_BUS_OFF (R262, ISO 11898-1): the transmit error counter has passed 255, which the 8 bits of CAN_ERR.TEC cannot hold;
what they then read is not stated (log entry 3). -/
def execCanBusOff (s : State) : Host.Outcome State Fault Refusal :=
  .next (s.dictCmd (fun s => s.when' s.canOn (fun s =>
    let a := s.fresh
    let s := a.1.setF Reg.CAN_ERR_TEC 0 (a.2.toNat % 256)
    (s.setF Reg.DICT_STATUS_BUS 0 2).raise Reg.DICT_EVENTS_BUS_OFF)))

/-- CAN_BUS_OFF_RECOVERY (R262): 128 occurrences of 11 recessive bits, while AUTO_BOFF is 1. -/
def execCanBusOffRecovery (s : State) : Host.Outcome State Fault Refusal :=
  .next (s.dictCmd (fun s => s.when' (s.flag Reg.DICT_CTRL_EN && s.getF Reg.DICT_STATUS_BUS == 2 && s.flag Reg.DICT_CTRL_AUTO_BOFF)
    (fun s =>
      let s := (s.setF Reg.CAN_ERR_TEC 0 0).setF Reg.CAN_ERR_REC 0 0
      (s.setF Reg.DICT_STATUS_BUS 0 0).emcy 0x8140 0xFF 0)))

/-- CAN_RX_OVERRUN (R260): a frame came when the receive FIFO was full. -/
def execCanRxOverrun (s : State) : Host.Outcome State Fault Refusal :=
  .next (s.dictCmd (fun s => s.when' s.canOn State.rxOverrun))

/-- CAN_TIME_FRAME (R268, spec/13 R291): the 6 bytes are milliseconds after midnight in 28 bits, then days since 1984. -/
def execCanTimeFrame (cob : Nat) (data : List Byte) (s : State) : Host.Outcome State Fault Refusal :=
  .next (s.dictCmd (fun s =>
    let o := s.obj 0x1012 0
    s.rxFrame (fun s => s.when' (s.nmtUp && decide (2 ^ 31 ≤ o) && o % 2048 == cob && data.length == 6) (fun s =>
      s.timeFrame (leAt data 4 2 * 86400000000 + leAt data 0 4 % 2 ^ 28 * 1000)))))

end Sys2Proof.Machine
end

