-- ==== Sys2Proof/Machine/Dict.lean ====
section
/-! DEFINITION. The paths into the dictionary (spec/12 R269 to R282): the SDO server, the bulk SDO, the mailboxes of the
Stream Port, the one queue that orders every access, firmware's share of it, and the PDOs. -/

namespace Sys2Proof.Machine

/-- A request enters the dictionary queue (R278). -/
def State.enqueue (s : State) (r : DictReq) : State := { s with dict := { s.dict with queue := s.dict.queue ++ [r] } }

/-- What an initiate of an access finds before any data (R271 step 1): the abort code, reported where it must be. -/
def State.initiate (s : State) (src : Source) (i j : Nat) (write : Bool) : State × Option Nat :=
  match s.access src i j write with
  | some (c, true) => (s.dictDenied src i j, some c)
  | some (c, false) => (s, some c)
  | none => (s, none)

/-! ## SDO (R269) -/

/-- Sets the SDO transfer. -/
def State.setSdo (s : State) (x : Option Sdo) : State := { s with dict := { s.dict with sdo := x } }

/-- An SDO response on 0x580 + node-ID. -/
def State.sdoSend (s : State) (bytes : List Byte) : State := s.sendCan (0x580 + s.nodeId) (padTo 8 bytes)

/-- The index and subindex in a response. -/
def sdoMux (cmd i j : Nat) : List Byte := leBytes 1 cmd ++ leBytes 2 i ++ leBytes 1 j

/-- An SDO abort. -/
def State.sdoAbort (s : State) (i j code : Nat) : State := s.sdoSend (sdoMux 0x80 i j ++ leBytes 4 code)

/-- The client aborts: what has arrived of it is served and not answered. -/
def State.sdoDrop (s : State) : State := (s.muteSource .sdo).setSdo none

/-- A segmented transfer in progress ends with an abort (R269). -/
def State.sdoEnd (s : State) (code : Nat) : State :=
  match s.dict.sdo with
  | some x => (s.sdoAbort x.index x.sub code).setSdo none
  | none => s

/-- The SDO servers act: on the bus, in Pre-operational or Operational. -/
def State.sdoCmd (s : State) (f : State → State) : State := s.dictCmd (fun s => s.when' (s.canOn && s.nmtUp) f)

/-- The SDO servers receive a frame, in Pre-operational or Operational. -/
def State.sdoRx (s : State) (f : State → State) : State := s.dictCmd (fun s => s.rxFrame (fun s => s.when' s.nmtUp f))

/-- SDO_INITIATE (R269): a write's data is queued (expedited) or its segments awaited; a read is queued. A segmented transfer
in progress is aborted first, a request that has arrived is not (R278); a block initiate and an unknown command are answered
0x0504_0001. -/
def execSdoInitiate (data : List Byte) (s : State) : Host.Outcome State Fault Refusal :=
  .next (s.sdoRx (fun s =>
    let cmd := (byteAt data 0).toNat
    let i := leAt data 1 2
    let j := (byteAt data 3).toNat
    if cmd / 32 = 4 then s.sdoDrop
    else
      let s := s.sdoEnd 0x05040001
      match cmd / 32 with
      | 1 =>
        if bitOf cmd 1 then
          let n := if bitOf cmd 0 then 4 - bitsOf cmd 2 2
            else match dictEntry i j with | some e => min e.size 4 | none => 4
          s.enqueue { src := .sdo, index := i, sub := j, write := true, data := slice data 4 n, tag := 0x60 }
        else
          let r := s.initiate .sdo i j true
          let long := match dictEntry i j with | some e => bitOf cmd 0 && e.lengthBad (leAt data 4 4) | none => false
          match r.2 with
          | some c => r.1.sdoAbort i j c
          | none =>
            if long then r.1.sdoAbort i j 0x06070010
            else (r.1.setSdo (some { index := i, sub := j, write := true })).sdoSend (sdoMux 0x60 i j)
      | 2 => s.enqueue { src := .sdo, index := i, sub := j, write := false }
      | _ => s.sdoAbort i j 0x05040001))

/-- Bytes `pos` to `pos + n` of a hardware-served object as it now stands; past its end, zeros (spec/17 R360). -/
def State.objPart (s : State) (i j pos n : Nat) : List Byte :=
  slice (s.dictBytes .sdo i j (match dictEntry i j with | some e => e.size | none => 0)) pos n

/-- The next 16-byte entry of a DOMAIN is taken once fewer bytes are at hand than a segment carries (R276). -/
def State.sdoTake (s : State) (x : Sdo) : Sdo :=
  if 7 ≤ x.data.length then x
  else
    let n := min 16 x.left
    { x with data := x.data ++ s.objPart x.index x.sub x.pos n, left := x.left - n, pos := x.pos + n }

/-- SDO_SEGMENT (R269): the next segment of a segmented transfer; a wrong toggle or a segment that no transfer awaits is
answered 0x0504_0001. A write enters the queue with its last segment. -/
def execSdoSegment (data : List Byte) (s : State) : Host.Outcome State Fault Refusal :=
  .next (s.sdoRx (fun s =>
    let cmd := (byteAt data 0).toNat
    match s.dict.sdo with
    | none => if cmd / 32 = 4 then s.sdoDrop else s.sdoAbort 0 0 0x05040001
    | some x =>
      let t := 16 * b2n x.toggle
      if cmd / 32 = 4 then s.sdoDrop
      else if bitOf cmd 4 != x.toggle || cmd / 32 != (if x.write then 0 else 3) then s.sdoEnd 0x05040001
      else if x.write then
        let all := x.data ++ slice data 1 (7 - bitsOf cmd 1 3)
        if bitOf cmd 0 then
          (s.setSdo none).enqueue
            { src := .sdo, index := x.index, sub := x.sub, write := true, data := all, tag := BitVec.ofNat 8 (0x20 + t) }
        else (s.setSdo (some { x with data := all, toggle := !x.toggle })).sdoSend (leBytes 1 (0x20 + t))
      else
        let x := s.sdoTake x
        let part := x.data.take 7
        let rest := x.data.drop 7
        let last := rest.isEmpty && x.left == 0
        let s := s.sdoSend (leBytes 1 (t + 2 * (7 - part.length) + b2n last) ++ part)
        s.setSdo (if last then none else some { x with data := rest, toggle := !x.toggle })))

/-- SDO_TIMEOUT (R269): 1 s has passed between segments. -/
def execSdoTimeout (s : State) : Host.Outcome State Fault Refusal :=
  .next (s.sdoCmd (fun s =>
    match s.dict.sdo with
    | some _ => s.sdoEnd 0x05040000
    | none => s))

/-- The answer to a request of the SDO server: for a read its bytes, or those already taken and `left` still to take. A read
too long for one frame is sent by segments; where a segmented transfer has begun since, that displaces it. -/
def State.sdoAnswer (s : State) (r : DictReq) (code : Nat) (data : List Byte) (left : Nat) : State :=
  if code ≠ 0 then s.sdoAbort r.index r.sub code
  else if r.write then s.sdoSend (if r.tag = 0x60 then sdoMux 0x60 r.index r.sub else [r.tag])
  else if 1 ≤ data.length ∧ data.length ≤ 4 ∧ left = 0 then
    s.sdoSend (sdoMux (0x43 + 4 * (4 - data.length)) r.index r.sub ++ data)
  else if s.dict.sdo.isSome then s.sdoAbort r.index r.sub 0x05040001
  else
    (s.sdoSend (sdoMux 0x41 r.index r.sub ++ leBytes 4 (data.length + left))).setSdo
      (some { index := r.index, sub := r.sub, write := false, data := data, left := left })

/-! ## The bulk SDO (R270, R271) -/

/-- Sets the bulk transfer. -/
def State.setBulk (s : State) (x : Option Bulk) : State := { s with dict := { s.dict with bulk := x } }

/-- A bulk frame of the device, on the COB-ID of 0x2001.02. -/
def State.bulkSend (s : State) (cmd : Nat) (tag : Byte) (i j b5 b6 : Nat) (tail : List Byte) : State :=
  s.sendCan (s.obj 0x2001 2)
    (leBytes 1 cmd ++ [tag] ++ leBytes 2 i ++ leBytes 1 j ++ leBytes 1 b5 ++ leBytes 1 b6 ++ [0] ++ padTo 56 tail) true

/-- An ABORT frame. -/
def State.bulkAbortTo (s : State) (tag : Byte) (i j code : Nat) : State := s.bulkSend 0x7F tag i j 0 0 (leBytes 4 code)

/-- The bulk transfer is dropped: what has arrived of it is served and not answered. -/
def State.bulkDrop (s : State) : State := (s.muteSource .bulk).setBulk none

/-- The transfer in progress ends with an abort under its TAG. -/
def State.bulkEnd (s : State) (code : Nat) : State :=
  match s.dict.bulk with
  | some x => (s.bulkAbortTo x.tag x.index x.sub code).bulkDrop
  | none => s

/-- Every byte of the frame that is not in `used` is 0. -/
def unusedZero (f : List Byte) (used : List Nat) : Bool :=
  (List.range 64).all (fun n => n < 5 || used.contains n || byteAt f n == 0)

/-- A frame of the client with command `cmd` and used bytes `used` (R270); one that is malformed is answered 0x0504_0001, and
ends a transfer of its TAG. -/
def State.bulkCmd (s : State) (f : List Byte) (cmd : Nat) (used : List Nat) (g : State → State) : State :=
  s.sdoRx (fun s =>
    if byteAt f 0 == BitVec.ofNat 8 cmd && unusedZero f used then g s
    else
      let tag := byteAt f 1
      match s.dict.bulk with
      | some x => if x.tag = tag then s.bulkEnd 0x05040001 else s.bulkAbortTo tag (leAt f 2 2) (leAt f 4 1) 0x05040001
      | none => s.bulkAbortTo tag (leAt f 2 2) (leAt f 4 1) 0x05040001)

/-- A frame of the transfer in progress; one of another TAG, or of another object, or with none in progress is answered
0x0504_0001. -/
def State.bulkOf (s : State) (f : List Byte) (g : State → Bulk → State) : State :=
  match s.dict.bulk with
  | some x =>
    if x.tag = byteAt f 1 ∧ x.index = leAt f 2 2 ∧ x.sub = leAt f 4 1 then g s x
    else s.bulkAbortTo (byteAt f 1) (leAt f 2 2) (leAt f 4 1) 0x05040001
  | none => s.bulkAbortTo (byteAt f 1) (leAt f 2 2) (leAt f 4 1) 0x05040001

/-- SEG frames of a transfer's data. -/
def bulkSegs (n : Nat) : Nat := ceilDiv n 56

/-- Sends the END of a read: CRC-32C over its data. -/
def State.bulkFinish (s : State) (x : Bulk) : State :=
  (s.bulkSend 0x40 x.tag x.index x.sub 0 0 (leBytes 4 (crc32c x.data).toNat)).setBulk (some { x with ended := true })

/-- The first `need` bytes of a read are at hand: of a DOMAIN, the entries that they lack are taken now, each whole (R276). -/
def State.bulkTake (s : State) (x : Bulk) (need : Nat) : Bulk :=
  if min need x.size ≤ x.data.length then x
  else
    let n := min x.size (ceilDiv (x.offset + need) 16 * 16 - x.offset) - x.data.length
    { x with data := x.data ++ s.objPart x.index x.sub (x.offset + x.data.length) n }

/-- Sends the next window of a read, SEQ from 1; with every segment acknowledged, the END. -/
def State.bulkWindow (s : State) (x : Bulk) : State :=
  let total := bulkSegs x.size
  if total ≤ x.base then s.bulkFinish x
  else
    let n := min x.blksize (total - x.base)
    let x := s.bulkTake x (56 * (x.base + n))
    let s := (List.range n).foldl (fun s k =>
      s.bulkSend 0x30 x.tag x.index x.sub (k + 1) (b2n (x.base + k + 1 == total)) ((x.data.drop (56 * (x.base + k))).take 56)) s
    s.setBulk (some { x with seq := n })

/-- BULK_WR_INIT (R271 step 1): the open transfer is aborted; the access is checked and INIT_ACK sent. -/
def execBulkWrInit (frame : List Byte) (s : State) : Host.Outcome State Fault Refusal :=
  .next (s.bulkCmd frame 0x10 [8, 9, 10, 11] (fun s =>
    let tag := byteAt frame 1
    let i := leAt frame 2 2
    let j := leAt frame 4 1
    let size := leAt frame 8 4
    let r := (s.bulkEnd 0x05040001).initiate .bulk i j true
    let bad := match dictEntry i j with | some e => e.lengthBad size || size == 0 || decide (16384 < size) | none => true
    match r.2 with
    | some c => r.1.bulkAbortTo tag i j c
    | none =>
      if bad then r.1.bulkAbortTo tag i j 0x06070010
      else
        let b := r.1.obj 0x2001 3
        (r.1.bulkSend 0x20 tag i j 0 0 (leBytes 4 size ++ leBytes 1 b)).setBulk
          (some { tag := tag, index := i, sub := j, write := true, size := size, blksize := b })))

/-- BULK_RD_INIT (R271 step 1): the open transfer is aborted; the read is queued, and INIT_ACK follows when it is served. -/
def execBulkRdInit (frame : List Byte) (s : State) : Host.Outcome State Fault Refusal :=
  .next (s.bulkCmd frame 0x11 [8, 9, 10, 11, 12] (fun s =>
    let tag := byteAt frame 1
    let i := leAt frame 2 2
    let j := leAt frame 4 1
    let off := leAt frame 8 4
    let b := leAt frame 12 1
    let r := (s.bulkEnd 0x05040001).initiate .bulk i j false
    let plain := match dictEntry i j with | some e => !e.dom | none => false
    match r.2 with
    | some c => r.1.bulkAbortTo tag i j c
    | none =>
      if b == 0 || decide (16 < b) || (plain && off != 0) then r.1.bulkAbortTo tag i j 0x05040001
      else
        (r.1.setBulk (some { tag := tag, index := i, sub := j, write := false, blksize := b, offset := off, waiting := true })).enqueue
          { src := .bulk, index := i, sub := j, write := false, offset := off, tag := tag }))

/-- WIN_ACK of the device: the highest SEQ received in order; a new window begins (R271 step 2). -/
def State.bulkAck (s : State) (x : Bulk) : State :=
  (s.bulkSend 0x31 x.tag x.index x.sub x.seq 0 ([0, 0, 0, 0] ++ leBytes 1 x.blksize)).setBulk
    (some { x with base := x.base + x.seq, seq := 0 })

/-- BULK_SEG (R271 step 2): a segment of a write. Bytes past SIZE are 0. -/
def execBulkSeg (frame : List Byte) (s : State) : Host.Outcome State Fault Refusal :=
  .next (s.bulkCmd frame 0x30 (5 :: 6 :: (List.range 56).map (· + 8)) (fun s => s.bulkOf frame (fun s x =>
    let seq := leAt frame 5 1
    let last := byteAt frame 6 == 1
    let room := min 56 (x.size - x.data.length)
    if !x.write || x.waiting || x.lastSeen || decide (2 ≤ (byteAt frame 6).toNat) then s.bulkEnd 0x05040001
    else if seq = 0 ∨ x.blksize < seq then s.bulkEnd 0x05040003
    else
      let inOrder := seq == x.seq + 1
      if inOrder && !((frame.drop (8 + room)).all (· == 0)) then s.bulkEnd 0x05040001
      else
        let x := if inOrder then { x with data := x.data ++ slice frame 8 room, seq := seq, lastSeen := last } else x
        if seq = x.blksize ∨ last then s.bulkAck x else s.setBulk (some x))))

/-- BULK_ACK_TIMER (R271 step 2): 10 ms without a segment of a write. -/
def execBulkAckTimer (s : State) : Host.Outcome State Fault Refusal :=
  .next (s.sdoCmd (fun s =>
    match s.dict.bulk with
    | some x => if x.write && !x.waiting && !x.lastSeen then s.bulkAck x else s
    | none => s))

/-- BULK_WIN_ACK (R271 step 2): the client acknowledges a window of a read and gives BLKSIZE for the next. -/
def execBulkWinAck (frame : List Byte) (s : State) : Host.Outcome State Fault Refusal :=
  .next (s.bulkCmd frame 0x31 [5, 12] (fun s => s.bulkOf frame (fun s x =>
    let n := leAt frame 5 1
    let b := leAt frame 12 1
    if x.write || x.waiting || x.ended || b == 0 || decide (16 < b) then s.bulkEnd 0x05040001
    else if x.seq < n then s.bulkEnd 0x05040003
    else s.bulkWindow { x with base := x.base + n, blksize := b, seq := 0 })))

/-- BULK_END (R271 step 3): the client ends a write; where its CRC passes, the write is queued. -/
def execBulkEnd (frame : List Byte) (s : State) : Host.Outcome State Fault Refusal :=
  .next (s.bulkCmd frame 0x40 [8, 9, 10, 11] (fun s => s.bulkOf frame (fun s x =>
    if !x.write || x.waiting || !x.lastSeen then s.bulkEnd 0x05040001
    else if x.data.length ≠ x.size ∨ (crc32c x.data).toNat ≠ leAt frame 8 4 then s.bulkEnd 0x05040004
    else
      (s.setBulk (some { x with waiting := true })).enqueue
        { src := .bulk, index := x.index, sub := x.sub, write := true, data := x.data, tag := x.tag })))

/-- BULK_END_ACK (R271 step 3): the client has received a read whole. -/
def execBulkEndAck (frame : List Byte) (s : State) : Host.Outcome State Fault Refusal :=
  .next (s.bulkCmd frame 0x41 [] (fun s => s.bulkOf frame (fun s x =>
    if !x.write && x.ended then s.setBulk none else s.bulkEnd 0x05040001)))

/-- BULK_ABORT (R270): the client drops the transfer. -/
def execBulkAbort (frame : List Byte) (s : State) : Host.Outcome State Fault Refusal :=
  .next (s.bulkCmd frame 0x7F [8, 9, 10, 11] (fun s =>
    match s.dict.bulk with
    | some x => if x.tag = byteAt frame 1 then s.bulkDrop else s
    | none => s))

/-- BULK_TIMEOUT (R271): 500 ms have passed without a frame of the transfer. -/
def execBulkTimeout (s : State) : Host.Outcome State Fault Refusal :=
  .next (s.sdoCmd (fun s =>
    match s.dict.bulk with
    | some x => if x.waiting then s else s.bulkEnd 0x05040000
    | none => s))

/-- The answer to a request of the bulk SDO: for a read its bytes, or those already taken and `left` still to take. -/
def State.bulkAnswer (s : State) (code : Nat) (data : List Byte) (left : Nat) : State :=
  match s.dict.bulk with
  | none => s
  | some x =>
    if code ≠ 0 then (s.bulkAbortTo x.tag x.index x.sub code).setBulk none
    else if x.write then (s.bulkSend 0x41 x.tag x.index x.sub 0 0 []).setBulk none
    else
      let x := { x with data := data, size := data.length + left, waiting := false }
      (s.bulkSend 0x20 x.tag x.index x.sub 0 0 (leBytes 4 x.size ++ leBytes 1 x.blksize)).bulkWindow x

/-! ## Mailboxes (R272) -/

/-- Mailbox of tenant `t`. -/
def State.mbx (s : State) (t : Nat) : Mailbox := sget {} t s.dict.mbx
/-- Sets it. -/
def State.setMbx (s : State) (t : Nat) (x : Mailbox) : State :=
  { s with dict := { s.dict with mbx := sput {} t x s.dict.mbx } }

/-- The buffer offset of tenant `t`'s mailbox page. -/
def State.mbxPage (s : State) (t : Nat) : Nat := s.winBase t (s.getF Reg.DMBX_WIN t) + 4096 * s.getF Reg.DMBX_PAGE t

/-- Tenant `t`'s mailbox is enabled and its page lies in the window it names (R86, R272). -/
def State.mbxHeld (s : State) (t : Nat) : Bool :=
  s.flag Reg.DMBX_EN t && s.winOk t (s.getF Reg.DMBX_WIN t) (4096 * s.getF Reg.DMBX_PAGE t) 4096

/-- RESULT: TAG, DONE, OVERRUN. -/
def resultWord (x : Mailbox) (done : Bool) : List Byte := leBytes 4 (x.tag.toNat + 256 * b2n done + 512 * b2n x.overrun)

/-- The answer to a mailbox request: DATA, ABORT and RSIZE, then RESULT with DONE = 1. A page that its window no longer holds
is not written (R86). -/
def State.mbxAnswer (s : State) (t code : Nat) (data : List Byte) : State :=
  let p := s.mbxPage t
  let x := s.mbx t
  let s := s.when' (s.mbxHeld t) (fun s =>
    let s := if data.isEmpty then s else s.bufWrite p data
    let s := (s.bufWrite (p + 0xFE4) (leBytes 4 code)).bufWrite (p + 0xFE8) (leBytes 4 data.length)
    s.bufWrite (p + 0xFE0) (resultWord x true))
  s.setMbx t { x with pending := false, overrun := false }

/-- A mailbox request is taken at the commit edge that writes CMD (R272); one that is not defined is answered at once. -/
def State.takeMailbox (s : State) (t : Nat) (cmd : Word) : State :=
  let op := cmd.toNat % 4
  let x : Mailbox := { pending := true, tag := BitVec.ofNat 8 (cmd.toNat / 256) }
  if (s.mbx t).pending then s
  else if op = 0 ∨ op = 3 ∨ cmd.toNat / 4 % 64 ≠ 0 ∨ cmd.toNat / 65536 ≠ 0 then (s.setMbx t x).mbxAnswer t 0x05040001 []
  else
    ((s.setMbx t x).bufWrite (s.mbxPage t + 0xFE0) (resultWord x false)).enqueue
      { src := .mailbox t, index := 0, sub := 0, write := op == 2, tag := x.tag }

/-- A write touched the page of a mailbox whose request is pending: OVERRUN (R272). -/
def State.mbxTouched (s : State) (t : Nat) : State :=
  let x := s.mbx t
  if x.pending then
    ((s.setMbx t { x with overrun := true }).bufWrite (s.mbxPage t + 0xFE1) [2]).raise Reg.DICT_EVENTS_MBX_OVERRUN
  else s

/-- A mailbox request as the page gives it when it is served; an abort code where it cannot be read or is too long. -/
def State.mbxRequest (s : State) (t : Nat) (r : DictReq) : State × DictReq × Option Nat :=
  let p := s.mbxPage t
  let h := s.bufCheck (p + 0xFF0) 12 11
  let mux := h.1.bufWord (p + 0xFF0)
  let size := h.1.bufWord (p + 0xFF4)
  let off := h.1.bufWord (p + 0xFF8)
  let d := if r.write then h.1.bufCheck p (min size 4064) 11 else (h.1, false)
  let r := { r with index := mux % 65536, sub := mux / 65536 % 256, offset := off, limit := min size 4064
                    data := if r.write then d.1.bufRead p (min size 4064) else [] }
  (d.1, r, if h.2 || d.2 then some 0x06060000 else if r.write && decide (4064 < size) then some 0x06070010 else none)

/-! ## The queue (R278, R279) -/

/-- A request is answered; `left` bytes of what it reads are taken only as they are sent. -/
def State.answer (s : State) (r : DictReq) (code : Nat) (data : List Byte) (left : Nat := 0) : State :=
  if r.mute then s
  else match r.src with
    | .rpdo => s
    | .sdo => s.sdoAnswer r code data left
    | .bulk => s.bulkAnswer code data left
    | .mailbox t => s.mbxAnswer t code data

/-- Bytes read are answered as the request wants them: of a DOMAIN the part it names, over CAN taken as it is sent; of another
entry all, or none where they are more than a mailbox accepts. -/
def State.answerRead (s : State) (r : DictReq) (dom : Bool) (data : List Byte) : State :=
  let part := (data.drop r.offset).take r.limit
  if dom && r.src.can then s.answer r 0 [] part.length
  else if dom then s.answer r 0 part
  else if r.limit < data.length then s.answer r 0x06070010 []
  else s.answer r 0 data

/-- The buffer offset of the area that firmware and the engine share (R279). -/
def State.fwArea (s : State) : Nat := 4096 * s.getF Reg.DICT_FW_BASE_BASE

/-- A request for an F entry is presented to firmware (R279); the bytes that the write of a string leaves out are 0 (R276). -/
def State.present (s : State) (e : DEntry) (r : DictReq) : State :=
  let s := (s.setF Reg.DICT_FW_REQ_INDEX 0 r.index).setF Reg.DICT_FW_REQ_SUB 0 r.sub
  let s := (s.setBit Reg.DICT_FW_REQ_WRITE 0 r.write).raise Reg.DICT_FW_REQ_PENDING
  let s := (s.setF Reg.DICT_FW_SIZE_BYTES 0 r.data.length).bufWrite s.fwArea (if r.write && e.str then padTo e.size r.data else r.data)
  { s with dict := { s.dict with fw := some r } }

/-- A request is served: refused, presented to firmware, applied or read. -/
def State.serve (s : State) (r : DictReq) : State :=
  let a := s.initiate r.src r.index r.sub r.write
  match a.2, dictEntry r.index r.sub with
  | some c, _ => a.1.answer r c []
  | none, none => a.1.answer r 0x06020000 []
  | none, some e =>
    match (if r.write then s.writeCheckD e r.index r.sub r.data else none) with
    | some c => (s.dictReserved r.src r.index r.sub c).answer r c []
    | none =>
      if e.fw then s.present e r
      else if r.write then (s.dictApply r.src r.index r.sub (leNat r.data)).answer r 0 []
      else s.answerRead r e.dom (s.dictBytes r.src r.index r.sub e.size)

/-- Firmware's request ends. -/
def State.fwDone (s : State) : State := State.lower { s with dict := { s.dict with fw := none } } Reg.DICT_FW_REQ_PENDING

/-- DICT_QUEUE_SERVE (R278, R282): the next request begins once the last is finished. In a power loss a request still with
firmware is answered 0x0800_0022. In Stopped no request of the bus is handled (R265), and none of a mailbox whose page its window
no longer holds (R86). -/
def execDictQueueServe (s : State) : Host.Outcome State Fault Refusal :=
  .next (s.dictCmd (fun s => s.when' (s.flag Reg.DICT_CTRL_EN) (fun s =>
    match s.dict.fw, s.dict.queue with
    | some r, _ => if s.dict.refusing then s.fwDone.answer r 0x08000022 [] else s
    | none, [] => s
    | none, r :: rest =>
      let s : State := { s with dict := { s.dict with queue := rest } }
      match r.src with
      | .mailbox t =>
        if !s.mbxHeld t then s.answer r 0 []
        else
          let m := s.mbxRequest t r
          (match m.2.2 with
           | some c => m.1.answer r c []
           | none => m.1.serve m.2.1)
      | _ => if s.getF Reg.DICT_STATUS_NMT = 0x04 then s else s.serve r)))

/-- The device keeps the value that firmware has accepted for an entry it uses itself (R263, R270). -/
def State.keepFw (s : State) (r : DictReq) : State :=
  if r.index = 0x2000 ∨ r.index = 0x2001 then s.setObj r.index r.sub (leNat r.data) else s

/-- DICT_FW_POST (R279, R282): firmware answers with an abort code, 0 for success. A post with no request is ignored. -/
def execDictFwPost (_src : Nat) (v : Word) (s : State) : Host.Outcome State Fault Refusal :=
  .next (s.dictCmd (fun s =>
    match s.dict.fw with
    | none => s
    | some r =>
      let s := s.fwDone
      if s.dict.refusing then s.answer r 0x08000022 []
      else if v ≠ 0 then s.answer r v.toNat []
      else if r.write then (s.keepFw r).answer r 0 []
      else
        let n := s.getF Reg.DICT_FW_RSIZE_BYTES
        let c := s.bufCheck s.fwArea n 11
        if c.2 then c.1.answer r 0x06060000 [] else c.1.answerRead r false (c.1.bufRead s.fwArea n)))

/-- DICT_FW_TIMEOUT (R279): 100 ms have passed without a post. -/
def execDictFwTimeout (s : State) : Host.Outcome State Fault Refusal :=
  .next (s.dictCmd (fun s =>
    match s.dict.fw with
    | none => s
    | some r =>
      let s := (s.fwDone.raise Reg.DICT_EVENTS_FW_TIMEOUT).event 0x18 0 0 (256 * r.index + r.sub)
      s.answer r 0x08000000 []))

/-! ## PDOs (R280, R281) -/

/-- The requests of the entries that an RPDO's bytes map to. -/
def rpdoReqs : List Nat → List Byte → List DictReq
  | [], _ => []
  | v :: l, data =>
    let n := v % 256 / 8
    { src := .rpdo, index := v / 65536, sub := v / 256 % 256, write := true, data := data.take n, frame := l.isEmpty } ::
      rpdoReqs l (data.drop n)

/-- RPDO_RX (R281): RPDO n + 1 has come with `data`, in Operational. -/
def execRpdoRx (n : Nat) (data : List Byte) (s : State) : Host.Outcome State Fault Refusal :=
  .next (s.dictCmd (fun s =>
    let l := s.mapped (0x1600 + n)
    s.rxFrame (fun s => s.when' (s.getF Reg.DICT_STATUS_NMT == 0x05 && decide (s.obj (0x1400 + n) 1 < 2 ^ 31)) (fun s =>
      if data.length < (l.map (· % 256 / 8)).sum then s.emcy 0x8210 (BitVec.ofNat 8 (n + 1)) data.length
      else (rpdoReqs l data).foldl State.enqueue s))))

/-- The bytes of a mapped entry of a TPDO; of a channel no longer open to CAN reads, zeros (R280). -/
def State.tpdoPart (s : State) (v : Nat) : List Byte :=
  let i := v / 65536
  let size := v % 256 / 8
  match chanEntry i with
  | some n => if s.canReads n then s.dictBytes .rpdo i (v / 256 % 256) size else List.replicate size 0
  | none => s.dictBytes .rpdo i (v / 256 % 256) size

/-- The mapped values of TPDO n + 1. -/
def State.tpdoBytes (s : State) (n : Nat) : List Byte := ((s.mapped (0x1A00 + n)).map s.tpdoPart).flatten

/-- TPDO n + 1 is valid and maps something. -/
def State.tpdoOn (s : State) (n : Nat) : Bool :=
  s.canOn && s.getF Reg.DICT_STATUS_NMT == 0x05 && decide (s.obj (0x1800 + n) 1 < 2 ^ 31) && decide (0 < s.obj (0x1A00 + n) 0)

/-- Sends TPDO n + 1. -/
def State.tpdoSend (s : State) (n : Nat) (data : List Byte) : State :=
  let s := s.sendCan (s.obj (0x1800 + n) 1 % 2048) data
  { s with dict := { s.dict with tpdo := sput {} n { sent := true, last := data, sentAt := s.time.dmt } s.dict.tpdo } }

/-- TPDO_SAMPLE (R280): 1 ms of Operational has passed; a TPDO whose values have changed is sent once its inhibit time is
over. -/
def execTpdoSample (s : State) : Host.Outcome State Fault Refusal :=
  .next (s.dictCmd (fun s => s.each (List.range 8) (fun s n => s.when' (s.tpdoOn n) (fun s =>
    let data := s.tpdoBytes n
    let t := sget {} n s.dict.tpdo
    let free := decide (100 * s.obj (0x1800 + n) 3 ≤ (s.time.dmt - t.sentAt).toNat)
    if !t.sent || (data != t.last && free) then s.tpdoSend n data else s))))

/-- TPDO_EVENT_TIMER (R280): the event timer of TPDO n + 1 has expired. -/
def execTpdoEventTimer (n : Nat) (s : State) : Host.Outcome State Fault Refusal :=
  .next (s.dictCmd (fun s => s.when' (s.tpdoOn n && s.obj (0x1800 + n) 5 != 0) (fun s => s.tpdoSend n (s.tpdoBytes n))))

end Sys2Proof.Machine
end

