-- ==== Sys2Proof/Machine/Harts.lean ====
section
/-! DEFINITION. The harts (spec/14 R296 to R303): registers, CSRs, traps and interrupts, the memory map, physical memory
protection, and what an access does to the word it finds. -/

namespace Sys2Proof.Machine

/-! ## Registers and CSRs (R297) -/

/-- Register `i` of hart `h`; x0 reads 0. -/
def State.xreg (s : State) (h i : Nat) : Word := if i = 0 then 0 else sget 0 i (s.hart h).x

/-- Sets register `i` of hart `h`; a write of x0 does nothing. -/
def State.setX (s : State) (h i : Nat) (v : Word) : State :=
  if i = 0 then s else s.setHart h { s.hart h with x := sput 0 i v (s.hart h).x }

/-- A CSR that hart `h` keeps. -/
def Hart.csrOf (x : Hart) (n : Nat) : Word := sget 0 n x.csr

/-- Sets a CSR. -/
def Hart.setCsr (x : Hart) (n : Nat) (v : Word) : Hart := { x with csr := sput 0 n v x.csr }

/-- Hart `h` retires an instruction of `n` bytes: its pc moves past it and minstret counts it. -/
def State.passed (s : State) (h n : Nat) : State :=
  s.setHart h { s.hart h with pc := (s.hart h).pc + BitVec.ofNat 32 n, retired := (s.hart h).retired + 1 }

/-- Hart `h` runs: it is released (R376) and waits for no fill. -/
def State.runs (s : State) (h : Nat) : Bool := bitOf (s.getF Reg.CORE_RUN_RUN) h && (s.hart h).waiting.isNone

/-- A command of hart `h`: it arises only while the logic die and the hart run. -/
def State.hartCmd (s : State) (h : Nat) (f : State → State) : State := s.whenLive (fun s => s.when' (s.runs h) f)

/-! ## Traps (R297: the privileged specification, machine mode) -/

/-- mstatus as a trap leaves it: MPIE takes MIE, MIE falls, MPP takes the mode. -/
def trapStatus (m : Word) (machine : Bool) : Word :=
  BitVec.ofNat 32 (m.toNat - bitsOf m.toNat 11 2 * 2048 - bitsOf m.toNat 7 1 * 128 - bitsOf m.toNat 3 1 * 8 +
    (if machine then 3 else 0) * 2048 + bitsOf m.toNat 3 1 * 128)

/-- Hart `h` takes a trap to `target`: mepc, mcause, mtval and mstatus are written, and it goes on in machine mode. -/
def State.trapTo (s : State) (h : Nat) (cause tval target : Word) : State :=
  let x := s.hart h
  let y := ((x.setCsr 0x341 x.pc).setCsr 0x342 cause).setCsr 0x343 tval
  s.setHart h { y.setCsr 0x300 (trapStatus (x.csrOf 0x300) x.machine) with machine := true, pc := target }

/-- Hart `h` takes an exception: the pc goes to mtvec's base. -/
def State.trap (s : State) (h cause : Nat) (tval : Nat) : State :=
  s.trapTo h (BitVec.ofNat 32 cause) (BitVec.ofNat 32 tval) ((s.hart h).csrOf 0x305 &&& 0xFFFFFFFC)

/-- Hart `h` takes interrupt `cause`: with mtvec vectored, the pc goes to its base and 4 times the cause. -/
def State.interrupt (s : State) (h cause : Nat) : State :=
  let v := (s.hart h).csrOf 0x305
  s.trapTo h (0x80000000 + BitVec.ofNat 32 cause) 0
    ((v &&& 0xFFFFFFFC) + (if v &&& 3 = 1 then BitVec.ofNat 32 (4 * cause) else 0))

/-! ## Interrupts and the timer (R301, R303) -/

/-- The compare value of core `c` in effect. -/
def State.timecmp (s : State) (c : Nat) : BitVec 64 := sget 0xFFFFFFFFFFFFFFFF c s.mtimecmp

/-- MTIP of core `c`. -/
def State.mtip (s : State) (c : Nat) : Bool := decide ((s.timecmp c).toNat ≤ s.time.dmt.toNat)

/-- mip of core `c`: MEIP, MTIP and MSIP. -/
def State.mip (s : State) (c : Nat) : Nat :=
  2048 * b2n (!(s.corePend c).isEmpty) + 128 * b2n (s.mtip c) + 8 * s.getF Reg.MSIP_SET c

/-- The interrupt that hart `h` takes now: pending, enabled in mie, and enabled by mstatus.MIE or by user mode; external
before software before timer. -/
def State.pendingInt (s : State) (h : Nat) : Option Nat :=
  let x := s.hart h
  let p := BitVec.ofNat 32 (s.mip h) &&& x.csrOf 0x304
  if x.machine && !bitOf (x.csrOf 0x300).toNat 3 then none
  else [11, 3, 7].find? (fun k => bitOf p.toNat k)

/-- MACHINE_TIMER_INTERRUPT (R301): DMT has reached MTIMECMP of core `h`; where an interrupt is enabled, the hart takes it. -/
def execMachineTimerInterrupt (h : Nat) (s : State) : Host.Outcome State Fault Refusal :=
  .next (s.hartCmd h (fun s =>
    if s.mtip h then
      match s.pendingInt h with
      | some k => s.interrupt h k
      | none => s
    else s))

/-- MTIMECMP_HI_WRITE (R303), RWK: the new 64-bit value takes effect. -/
def execMtimecmpHiWrite (src c : Nat) (v : Word) (s : State) : Host.Outcome State Fault Refusal :=
  .next (s.whenLive (fun s =>
    if !privileged src then s.denied src (regDetail (0x40000414 + 0x20 * c))
    else
      let s := s.setF Reg.MTIMECMP_HI_CMP c v.toNat
      { s with mtimecmp := sput 0xFFFFFFFFFFFFFFFF c (v ++ BitVec.ofNat 32 (s.getF Reg.MTIMECMP_LO_CMP c)) s.mtimecmp }))

/-! ## The memory map (R298) -/

/-- Where an address of a core's address space leads, with the offset there. -/
inductive Place where
  | rom (off : Nat)
  | localMem (core off : Nat)
  | buffer (off : Nat)
  | xip (off : Nat)
  | reg (addr : Nat)
deriving DecidableEq, Repr

/-- The place of an address as hart `h` sees it; none where the map lists nothing. -/
def place (h a : Nat) : Option Place :=
  let core := (a - 0x08100000) / 0x10000
  if a < 0x8000 then some (.rom a)
  else if inRegion 0x08000000 (lmemSize h) a 1 then some (.localMem h (a - 0x08000000))
  else if inRegion 0x08100000 0x40000 a 1 && decide (a % 0x10000 < lmemSize core) then some (.localMem core (a % 0x10000))
  else if inRegion 0x10000000 0x1000000 a 1 then some (.buffer (a - 0x10000000))
  else if inRegion 0x20000000 0x4000000 a 1 then some (.xip (a - 0x20000000))
  else if inRegion 0x40000000 0x140000 a 1 then some (.reg a)
  else none

/-- The place of `n` bytes from `a`: their first byte's, if the last lies in the same. -/
def placeOf (h a n : Nat) : Option Place :=
  match place h a, place h (a + n - 1) with
  | some (.rom x), some (.rom _) => some (.rom x)
  | some (.localMem c x), some (.localMem d _) => if c = d then some (.localMem c x) else none
  | some (.buffer x), some (.buffer _) => some (.buffer x)
  | some (.xip x), some (.xip _) => some (.xip x)
  | some (.reg x), some (.reg _) => some (.reg x)
  | _, _ => none

/-- The kinds of access. -/
def isFetch (op : Nat) : Bool := op == 6
/-- A load or LR. -/
def isLoad (op : Nat) : Bool := op == 0 || op == 3
/-- An AMO, LR or SC. -/
def isAtomic (op : Nat) : Bool := op == 2 || op == 3 || op == 4

/-- The map permits access `op` at a place. -/
def Place.permits (p : Place) (op : Nat) : Bool :=
  match p with
  | .rom _ => op == 0 || op == 6
  | .xip _ => op == 0 || op == 6
  | .reg _ => op == 0 || op == 1
  | _ => true

/-- The access fault of an access. -/
def accessFault (op : Nat) : Nat := if isFetch op then 1 else if isLoad op then 5 else 7

/-- The address by which a reservation names a block: one core's local memory has two. -/
def Place.block : Place → Nat
  | .rom x => x
  | .localMem c x => 0x08100000 + 0x10000 * c + x
  | .buffer x => 0x10000000 + x
  | .xip x => 0x20000000 + x
  | .reg x => x

/-! ## Physical memory protection (R300) -/

/-- pmpcfg of entry `i`. -/
def Hart.pmpCfg (x : Hart) (i : Nat) : Nat := bitsOf (x.csrOf (0x3A0 + i / 4)).toNat (8 * (i % 4)) 8

/-- pmpaddr of entry `i`. -/
def Hart.pmpAddr (x : Hart) (i : Nat) : Nat := (x.csrOf (0x3B0 + i)).toNat

/-- The number of ones at the low end, at most `fuel`. -/
def trailingOnes : Nat → Nat → Nat
  | 0, _ => 0
  | fuel + 1, v => if v % 2 = 1 then trailingOnes fuel (v / 2) + 1 else 0

/-- The bytes that entry `i` covers: from and up to, not including. -/
def Hart.pmpRange (x : Hart) (i : Nat) : Nat × Nat :=
  let a := x.pmpAddr i
  match bitsOf (x.pmpCfg i) 3 2 with
  | 1 => (if i = 0 then 0 else 4 * x.pmpAddr (i - 1), 4 * a)
  | 2 => (4 * a, 4 * a + 4)
  | 3 =>
    let n := 2 ^ (trailingOnes 32 a + 3)
    (4 * a / n * n, 4 * a / n * n + n)
  | _ => (0, 0)

/-- PMP permits access `need` (1 read, 2 write, 4 execute; any of the bits where `any`) to `n` bytes from `a` in a mode: the
lowest entry that matches any byte decides, and must match every byte; machine mode is bound by locked entries only. -/
def Hart.pmpOk (x : Hart) (machine : Bool) (a n need : Nat) (any : Bool := false) : Bool :=
  match (List.range 16).find? (fun i => decide ((x.pmpRange i).1 < a + n) && decide (a < (x.pmpRange i).2)) with
  | none => machine
  | some i =>
    let r := x.pmpRange i
    let c := x.pmpCfg i
    decide (r.1 ≤ a) && decide (a + n ≤ r.2) &&
      ((machine && !bitOf c 7) || (if any then c &&& need != 0 else c &&& need == need))

/-- The mode in which a data access is checked: mstatus.MPRV puts MPP in place of the mode. -/
def Hart.dataMode (x : Hart) : Bool :=
  let m := (x.csrOf 0x300).toNat
  if bitOf m 17 then bitsOf m 11 2 == 3 else x.machine

/-- What PMP asks of access `op`. -/
def pmpNeed (op : Nat) : Nat := if isFetch op then 4 else if isLoad op then 1 else if op = 2 then 3 else 2

/-! ## What an access does with the word it finds -/

/-- A loaded value, extended to the register. -/
def extend (size : Nat) (sgn : Bool) (v : Nat) : Word :=
  if sgn then BitVec.ofInt 32 (signed (8 * size) v) else BitVec.ofNat 32 v

/-- The result of AMO operation `op`: swap, add, xor, and, or, min, max, minu, maxu. -/
def amo (op : Nat) (old v : Word) : Word :=
  match op with
  | 0 => v
  | 1 => old + v
  | 2 => old ^^^ v
  | 3 => old &&& v
  | 4 => old ||| v
  | 5 => if old.toInt ≤ v.toInt then old else v
  | 6 => if old.toInt ≤ v.toInt then v else old
  | 7 => if old.toNat ≤ v.toNat then old else v
  | _ => if old.toNat ≤ v.toNat then v else old

/-- What access `w` stores when it finds `old`, if it stores. -/
def Waiting.stores (w : Waiting) (old : Nat) : Option (List Byte) :=
  match w.op with
  | 1 => some (leBytes w.size w.value.toNat)
  | 2 => some (leBytes 4 (amo w.arg (BitVec.ofNat 32 old) w.value).toNat)
  | 4 => some (leBytes 4 w.value.toNat)
  | _ => none

/-- What access `w` leaves in its register when it finds `old`, if it writes one; operation 7 is an SC that fails. -/
def Waiting.result (w : Waiting) (old : Nat) : Option Word :=
  match w.op with
  | 0 => some (extend w.size w.signed old)
  | 2 => some (BitVec.ofNat 32 old)
  | 3 => some (BitVec.ofNat 32 old)
  | 4 => some 0
  | 7 => some 1
  | _ => none

/-- An SC of hart `h` at block address `b` stores only under the hart's reservation of the block (R299). -/
def State.scNow (s : State) (h b : Nat) (w : Waiting) : Waiting :=
  if w.op = 4 ∧ (s.hart h).reservation ≠ some (b / 64 * 64) then { w with op := 7 } else w

/-- The end of access `w` of hart `h`, which found `old` at block address `b`: a store breaks the others' reservations, LR
takes one, SC gives it up; the result is written and the pc moves on. A fetch leaves the pc. -/
def State.endAccess (s : State) (h b : Nat) (w : Waiting) (old : Nat) : State :=
  let s := if (w.stores old).isSome then s.breakRes ([0, 1, 2, 3].filter (· != h)) b w.size else s
  let s := match w.result old with | some v => s.setX h w.rd v | none => s
  let x := s.hart h
  let s := s.setHart h { x with
    waiting := none
    reservation := if w.op = 3 then some (b / 64 * 64) else if w.op = 4 ∨ w.op = 7 then none else x.reservation
    prefetched := x.prefetched || isFetch w.op }
  if isFetch w.op then s else s.passed h w.ilen

/-- Access `w` of hart `h` ends in a trap. -/
def State.faultAccess (s : State) (h : Nat) (w : Waiting) (cause : Nat) : State :=
  State.trap (s.setHart h { s.hart h with waiting := none }) h cause w.addr

end Sys2Proof.Machine
end

