-- ==== Sys2Proof/Machine/Cache.lean ====
section
/-! DEFINITION. The program cache (spec/14 R304 to R311): lines and their replacement, the victim buffer, fills, line
maintenance, the cache sweeper, and the control writes that hide or reveal lines. -/

namespace Sys2Proof.Machine

/-! ## Errors of memories other than the buffer (spec/15 R316, R317) -/

/-- A reader meets the errors of `n` bytes from `a` of memory `mem`, whose words have `ws` bytes: they are logged. Answers
whether an uncorrectable one was among them. -/
def State.memCheck (s : State) (mem ws a n reader : Nat) : State × Bool :=
  let l := s.ecc.bad.filter (fun b => b.mem == mem && decide (b.word < a + n) && decide (a < b.word + ws))
  l.foldl (fun (sb : State × Bool) b =>
    if b.double then (sb.1.logUe mem b.word reader b.synd, true) else (sb.1.logCe mem b.word reader b.synd, sb.2)) (s, false)

/-- A write of `n` bytes from `a` ends the errors of the words it touches. -/
def State.memFixed (s : State) (mem ws a n : Nat) : State :=
  { s with ecc := { s.ecc with bad := s.ecc.bad.filter (fun b =>
      !(b.mem == mem && decide (b.word < a + n) && decide (a < b.word + ws))) } }

/-! ## The array (R304) -/

/-- The set of a line. -/
def setOf (base : Nat) : Nat := base / 64 % 256

/-- The place of a line in the array, in the order of ways and sets (log entry 12). -/
def Line.array (l : Line) : Nat := 0x4000 * l.way + 64 * setOf l.base

/-- The line at `base`, if the array holds it. -/
def State.line (s : State) (base : Nat) : Option Line := s.cache.lines.find? (·.base == base)

/-- The entry of the victim buffer at `base`. -/
def State.victim (s : State) (base : Nat) : Option Victim := s.cache.victims.find? (·.base == base)

/-- A line becomes the most recently used. -/
def State.useLine (s : State) (l : Line) : State :=
  { s with cache := { s.cache with lines := l :: s.cache.lines.filter (·.base != l.base) } }

/-- Changes a line in its place in the order of use. -/
def State.modLine (s : State) (base : Nat) (f : Line → Line) : State :=
  { s with cache := { s.cache with lines := s.cache.lines.map (fun l => if l.base == base then f l else l) } }

/-- A line leaves the array, with the errors of its words. -/
def State.dropLine (s : State) (l : Line) : State :=
  State.memFixed { s with cache := { s.cache with lines := s.cache.lines.filter (·.base != l.base) } } 5 8 l.array 64

/-- Changes an entry of the victim buffer. -/
def State.modVictim (s : State) (base : Nat) (f : Victim → Victim) : State :=
  { s with cache := { s.cache with victims := s.cache.victims.map (fun v => if v.base == base then f v else v) } }

/-- An entry leaves the victim buffer. -/
def State.dropVictim (s : State) (base : Nat) : State :=
  { s with cache := { s.cache with victims := s.cache.victims.filter (·.base != base) } }

/-- The words of a line with an uncorrectable error. -/
def State.lineBad (s : State) (l : Line) : List (Nat × Byte) :=
  (s.ecc.bad.filter (fun b => b.mem == 5 && b.double && decide (l.array ≤ b.word) && decide (b.word < l.array + 64))).map
    (fun b => (b.word - l.array, b.synd))

/-- The cache is enabled and may hold lines of the place (R304, R307). -/
def State.cacheable (s : State) (p : Place) : Bool :=
  match p with
  | .buffer x => !s.uncached (x / 0x100000)
  | .xip _ => s.flag Reg.CACHE_CTRL_EN
  | _ => false

/-- A line's bytes are written to the buffer; check bits stay with their words, so a word in error stays one. -/
def State.writeBack (s : State) (base : Nat) (bytes : List Byte) (bad : List (Nat × Byte)) : State :=
  let off := base - 0x10000000
  let s := (s.bump Reg.CACHE_CNT_WB_COUNT).bufWrite off bytes
  { s with ecc := { s.ecc with
      bad := bad.map (fun e => ({ mem := 0, word := off + e.1, double := true, synd := e.2 } : BadWord)) ++ s.ecc.bad } }

/-- A dirty line is checked and written back, and stays, clean. -/
def State.cleanLine (s : State) (l : Line) : State :=
  if l.dirty then
    let bad := s.lineBad l
    ((s.memCheck 5 8 l.array 64 8).1.writeBack l.base l.bytes bad).modLine l.base (fun m => { m with dirty := false })
  else s

/-- A dirty entry of the victim buffer is written back, and stays, clean. -/
def State.cleanVictim (s : State) (v : Victim) : State :=
  if v.dirty then
    let s := s.writeBack v.base v.bytes v.bad
    s.modVictim v.base (fun w => { w with dirty := false, granted := false })
  else s

/-! ## Replacement and the victim buffer (R304, R306, R311) -/

/-- The way in which a miss of core `h` allocates, and the line it replaces: among the ways of its mask an empty one first,
else the least recently used line. -/
def State.pickWay (s : State) (h base : Nat) : Option (Nat × Option Line) :=
  let mask := s.getF Reg.CACHE_WAYMASK_MASK h
  let here := s.cache.lines.filter (fun l => setOf l.base == setOf base && bitOf mask l.way)
  match (List.range 8).find? (fun w => bitOf mask w && !here.any (·.way == w)) with
  | some w => some (w, none)
  | none => here.getLast?.map (fun l => (l.way, some l))

/-- Room in the victim buffer: a clean entry has nothing to write and gives way, the oldest first. None while four wait. -/
def Cache.room (c : Cache) : Option Cache :=
  if c.victims.length < 4 then some c
  else (c.victims.find? (fun v => !v.dirty)).map (fun v => { c with victims := c.victims.erase v })

/-- Makes room for a line of core `h` and answers its way; a line that is replaced enters the victim buffer. -/
def State.makeRoom (s : State) (h base : Nat) : Option (State × Nat) :=
  match s.pickWay h base with
  | none => none
  | some (w, none) => some (s, w)
  | some (w, some l) =>
    s.cache.room.map (fun c =>
      let v : Victim := { base := l.base, dirty := l.dirty, bytes := l.bytes, bad := s.lineBad l }
      let s := (s.memCheck 5 8 l.array 64 8).1
      (State.dropLine { s with cache := { c with victims := c.victims ++ [v] } } l, w))

/-- Installs a line for core `h`, if there is room. -/
def State.install (s : State) (h base : Nat) (bytes : List Byte) (dirty : Bool) (bad : List (Nat × Byte)) : Option State :=
  (s.makeRoom h base).map (fun r =>
    let l : Line := { base := base, way := r.2, dirty := dirty, bytes := bytes }
    let s := r.1.useLine l
    { s with ecc := { s.ecc with
        bad := bad.map (fun e => ({ mem := 5, word := l.array + e.1, double := true, synd := e.2 } : BadWord)) ++ s.ecc.bad } })

/-- A line in the victim buffer is reinstalled: a write-back already granted completes, another is withdrawn (R311). -/
def State.reinstall (s : State) (h : Nat) (v : Victim) : Option State :=
  let s := s.bump Reg.CACHE_CNT_VHIT_COUNT
  let s := if v.dirty && v.granted then s.writeBack v.base v.bytes v.bad else s
  (s.dropVictim v.base).install h v.base v.bytes (v.dirty && !v.granted) v.bad

/-! ## Accesses through the cache (R299, R304, R310) -/

/-- Access `w` of hart `h` on the line `l` that holds block address `b` (R299, spec/15 R323). -/
def State.lineAccess (s : State) (h b : Nat) (l : Line) (w : Waiting) : State :=
  let off := b % 64
  let n := min w.size (64 - off)
  let c := s.memCheck 5 8 (l.array + off) n 8
  let s := c.1.useLine l
  if c.2 then s.faultAccess h w (accessFault w.op)
  else
    let w := s.scNow h b w
    let old := leAt l.bytes off n
    let s := match w.stores old with
      | some bs => (s.modLine l.base (fun m => { m with dirty := true, bytes := overlay m.bytes off bs })).memFixed 5 8 (l.array + off) n
      | none => s
    s.endAccess h b w old

/-- Access `w` of hart `h` at a cacheable place: a hit, a service from the victim buffer, or a miss, whose fill is accepted
and for which the hart waits. -/
def State.cacheAccess (s : State) (h b : Nat) (w : Waiting) : State :=
  let base := b / 64 * 64
  match s.line base with
  | some l => (s.bump Reg.CACHE_CNT_HIT_COUNT).lineAccess h b l w
  | none =>
    match (s.victim base).bind (s.reinstall h) with
    | some t => (match t.line base with | some l => t.lineAccess h b l w | none => t)
    | none => s.setHart h { s.hart h with waiting := some w }

/-- The 64 bytes of memory at `base`, read for a fill, and whether an uncorrectable error was met. -/
def State.fillBytes (s : State) (base : Nat) : State × List Byte × Bool :=
  if 0x20000000 ≤ base then (s, s.norRead (base - 0x20000000) 64, false)
  else
    let c := s.bufCheck (base - 0x10000000) 64 8
    (c.1, c.1.bufRead (base - 0x10000000) 64, c.2)

/-- The block address of access `w` of hart `h`. -/
def blockOf (h : Nat) (w : Waiting) : Nat := match place h w.addr with | some p => p.block | none => w.addr

/-- A cbo.zero of hart `h` that allocates: 64 zero bytes, dirty, without a fill; it waits while there is no room (R308). -/
def State.allocZero (s : State) (h : Nat) (w : Waiting) : State :=
  let base := blockOf h w / 64 * 64
  match s.install h base (List.replicate 64 0) true [] with
  | some t => (t.setHart h { t.hart h with waiting := none }).passed h w.ilen
  | none => s.setHart h { s.hart h with waiting := some w }

/-- The fill that hart `h` waits for completes, unless it finds no room (R304, R310, R311). -/
def State.fill (s : State) (h : Nat) : State :=
  match (s.hart h).waiting with
  | none => s
  | some w =>
    let b := blockOf h w
    let base := b / 64 * 64
    if w.op = 5 then s.allocZero h w
    else
      match s.line base with
      | some l => s.lineAccess h b l w
      | none =>
        match (s.victim base).bind (s.reinstall h) with
        | some t => (match t.line base with | some l => t.lineAccess h b l w | none => t)
        | none =>
          let f := s.fillBytes base
          if f.2.2 then f.1.faultAccess h w (accessFault w.op)
          else
            match f.1.install h base f.2.1 false [] with
            | none => s
            | some t =>
              let t := t.bump Reg.CACHE_CNT_MISS_COUNT
              match t.line base with | some l => t.lineAccess h b l w | none => t

/-- CACHE_FILL_COMPLETE (R304): the fill for hart `h` completes, and the access that waited for it. -/
def execCacheFillComplete (h : Nat) (s : State) : Host.Outcome State Fault Refusal := .next (s.whenLive (·.fill h))

/-- VICTIM_WRITEBACK_COMPLETE (R311): the oldest queued write-back completes, one already granted first, and frees its entry. -/
def execVictimWritebackComplete (s : State) : Host.Outcome State Fault Refusal :=
  .next (s.whenLive (fun s =>
    match (s.cache.victims.find? (fun v => v.dirty && v.granted)).or (s.cache.victims.find? (·.dirty)) with
    | some v => (s.cleanVictim v).dropVictim v.base
    | none => s))

/-! ## Maintenance (R308, R310, R311) -/

/-- A maintenance operation comes after the fills of the line accepted before it: they complete first (R310). None while one
of them finds no room. -/
def State.afterFills (s : State) (base : Nat) : Option State :=
  let waits (s : State) (h : Nat) : Bool := match (s.hart h).waiting with | some w => blockOf h w / 64 * 64 == base | none => false
  let t := s.each [0, 1, 2, 3] (fun s h => if waits s h then s.fill h else s)
  if [0, 1, 2, 3].any (waits t) then none else some t

/-- Clean (1), flush (2), invalidate (3) or zero (4) of the line at `base`, as the sweeper does them: a zero step drops any
copy and writes zeros to memory (R308, R309). -/
def State.maintain (s : State) (op base : Nat) : State :=
  let s := match s.line base with
    | some l =>
      match op with
      | 1 => s.cleanLine l
      | 2 => (s.cleanLine l).dropLine l
      | _ => s.dropLine l
    | none =>
      match s.victim base with
      | some v =>
        match op with
        | 1 => s.cleanVictim v
        | 2 => (s.cleanVictim v).dropVictim base
        | _ => s.dropVictim base
      | none => s
  if op = 4 then s.bufWrite (base - 0x10000000) (List.replicate 64 0) else s

/-- cbo.zero of hart `h` (R308): in the cache where the bank is cacheable, else in memory. -/
def State.cboZero (s : State) (h : Nat) (p : Place) (w : Waiting) : State :=
  let base := p.block / 64 * 64
  let zero : List Byte := List.replicate 64 0
  if !s.cacheable p then
    -- the hart's own store does not break its reservation (R299)
    let keep := (s.hart h).reservation
    let t := s.maintain 4 base
    (t.setHart h { t.hart h with reservation := keep }).passed h w.ilen
  else
    let s := s.breakRes ([0, 1, 2, 3].filter (· != h)) base 64
    match s.line base, s.victim base with
    | some l, _ => (((s.useLine l).modLine base (fun m => { m with dirty := true, bytes := zero })).memFixed 5 8 l.array 64).passed h w.ilen
    | none, some v =>
      (s.modVictim v.base (fun x => { x with dirty := true, granted := false, bytes := zero, bad := [] })).passed h w.ilen
    | none, none => s.allocZero h w

/-- The privilege that menvcfg gives a cache operation in user mode: clean and flush need CBCFE, zero CBZE, invalidate CBIE,
whose value 1 makes it a flush (R297). Answers the operation to do, none where it is an illegal instruction. -/
def Hart.cboMode (x : Hart) (op : Nat) : Option Nat :=
  let m := (x.csrOf 0x30A).toNat
  if x.machine then some op
  else
    match op with
    | 3 => if bitsOf m 4 2 = 0 then none else if bitsOf m 4 2 = 1 then some 2 else some 3
    | 4 => if bitOf m 7 then some 4 else none
    | _ => if bitOf m 6 then some op else none

/-- A cbo.* instruction `ins` of hart `h` on the line that holds `a` (R300, R308); its permissions are the instruction's, also
where menvcfg makes a cbo.inval flush. -/
def State.cbo (s : State) (h a ins : Nat) : State :=
  s.hartCmd h (fun s =>
    let x := s.hart h
    match x.cboMode ins with
    | none => s.trap h 2 0
    | some op =>
      let base := a / 64 * 64
      let ok := if ins ≤ 2 then x.pmpOk x.dataMode base 64 3 true else x.pmpOk x.dataMode base 64 2
      match place h a with
      | some (.buffer o) =>
        if !ok then s.trap h 7 a
        else
          match s.afterFills (0x10000000 + o / 64 * 64) with
          | none => s
          | some s =>
            if op = 4 then s.cboZero h (.buffer o) { addr := a, size := 64, op := 5 }
            else (s.maintain op (0x10000000 + o / 64 * 64)).passed h 4
      | some (.xip o) =>
        if !ok || ins != 3 then s.trap h 7 a
        else
          match s.afterFills (0x20000000 + o / 64 * 64) with
          | none => s
          | some s => (s.maintain 3 (0x20000000 + o / 64 * 64)).passed h 4
      | _ => s.trap h 7 a)

/-- CBO_CLEAN (R308). -/
def execCboClean (h addr : Nat) (s : State) : Host.Outcome State Fault Refusal := .next (s.cbo h addr 1)
/-- CBO_FLUSH (R308). -/
def execCboFlush (h addr : Nat) (s : State) : Host.Outcome State Fault Refusal := .next (s.cbo h addr 2)
/-- CBO_INVAL (R308). -/
def execCboInval (h addr : Nat) (s : State) : Host.Outcome State Fault Refusal := .next (s.cbo h addr 3)
/-- CBO_ZERO (R308). -/
def execCboZero (h addr : Nat) (s : State) : Host.Outcome State Fault Refusal := .next (s.cbo h addr 4)

/-! ## The sweeper (R309) -/

/-- A CRNG_CMD of operation `op` is refused (R309). -/
def State.rangeRefused (s : State) (op : Nat) : Bool :=
  let base := 64 * s.getF Reg.CRNG_BASE_ADDR
  let n := s.getF Reg.CRNG_SIZE_BYTES
  s.cache.sweep.isSome || decide (op < 1) || decide (4 < op) || n == 0 || n % 64 != 0 || decide (0x1000000 < n) ||
    !(inRegion 0x10000000 0x1000000 base n || (op == 3 && inRegion 0x20000000 0x4000000 base n))

/-- A write of CRNG_CMD, a WO field of any writer: the sweeper starts, or REJECT is set. -/
def State.rangeCmd (s : State) (op : Nat) : State :=
  if s.rangeRefused op then s.raise Reg.CACHE_STATUS_REJECT
  else
    let base := 64 * s.getF Reg.CRNG_BASE_ADDR
    State.setF { s with cache := { s.cache with
      sweep := some { op := op, pos := base, last := base + s.getF Reg.CRNG_SIZE_BYTES } } } Reg.CRNG_POS_ADDR 0 base

/-- CACHE_RANGE_CLEAN (R309). -/
def execCacheRangeClean (_src : Nat) (s : State) : Host.Outcome State Fault Refusal := .next (s.whenLive (·.rangeCmd 1))
/-- CACHE_RANGE_FLUSH (R309). -/
def execCacheRangeFlush (_src : Nat) (s : State) : Host.Outcome State Fault Refusal := .next (s.whenLive (·.rangeCmd 2))
/-- CACHE_RANGE_INVALIDATE (R309). -/
def execCacheRangeInvalidate (_src : Nat) (s : State) : Host.Outcome State Fault Refusal := .next (s.whenLive (·.rangeCmd 3))
/-- CACHE_RANGE_ZERO (R309). -/
def execCacheRangeZero (_src : Nat) (s : State) : Host.Outcome State Fault Refusal := .next (s.whenLive (·.rangeCmd 4))

/-- SWEEPER_STEP (R309, R310): 20 SYS cycles have passed; the next line is done. -/
def execSweeperStep (s : State) : Host.Outcome State Fault Refusal :=
  .next (s.whenLive (fun s =>
    match s.cache.sweep with
    | none => s
    | some w =>
      match s.afterFills w.pos with
      | none => s
      | some s =>
        let s := (s.maintain w.op w.pos).setF Reg.CRNG_POS_ADDR 0 (w.pos + 64)
        if w.pos + 64 < w.last then { s with cache := { s.cache with sweep := some { w with pos := w.pos + 64 } } }
        else State.raise { s with cache := { s.cache with sweep := none } } Reg.CACHE_STATUS_DONE))

/-! ## Control (R307) -/

/-- CACHE_CONTROL_WRITE (R307), RWK: CACHE_CTRL, or CACHE_NCBANK (`nc`). Lines stay as they are. -/
def execCacheControlWrite (src : Nat) (nc : Bool) (v : Word) (s : State) : Host.Outcome State Fault Refusal :=
  .next (s.whenLive (fun s => s.genericWrite src (if nc then 0x40060004 else 0x40060000) v))

end Sys2Proof.Machine
end

