-- ==== Sys2Proof/Machine/Registers.lean ====
section
/-! DEFINITION. A register access by address, with the effect of the register (spec/00 R2 to R6): a core's store, a store
through the system window and REGISTER_WRITE all end here, and a register with a row of its own acts through that row's
meaning. The rows that read a register with a read effect. -/

namespace Sys2Proof.Machine

/-- The state that a row's meaning answers. -/
def State.via (s : State) (o : Host.Outcome State Fault Refusal) : State :=
  match o with
  | .next t => t
  | _ => s

/-- A write of the register at `addr` by its access codes, but for field `f`, whose value is a reserved encoding where it is
written (R6). -/
def State.reservedField (s : State) (src addr : Nat) (v : Word) (f : Field) : State :=
  (s.writeFields src addr v ((regFields addr).filter (fun fi => fi.1 != f))).reserved src (regDetail addr)

/-- A write of 1 to enable `f` (element `i`), refused unless BUF runs from source 1 (spec/16 R334). -/
def State.enableWrite (s : State) (src addr : Nat) (v : Word) (f : Field) : State :=
  if bitOf v.toNat f.lo && (f.acc == .rw || privileged src) && !s.onPll 1 then s.runReject src addr
  else s.genericWrite src addr v

/-! ## The blocks -/

/-- SYSCTL (spec/14 R313, spec/16 R345, spec/18 R379). -/
def State.regWrite0 (s : State) (src addr off i : Nat) (v : Word) : State :=
  if off = 0x100 then s.via (execPllEnable src v s)
  else if off = 0x104 then s.via (execClkSrcWrite src v s)
  else if off = 0x200 then if bitOf v.toNat 0 then s.via (execSoftwareReset src s) else s
  else if off = 0x208 then
    if !privileged src then s.denied src (regDetail addr)
    else s.each [0, 1, 2] (fun s h =>
      if bitOf v.toNat h then s.via (execCoreRelease src h s)
      else if bitOf (s.getF Reg.CORE_RUN_RUN) h then s.via (execCoreReset src h s)
      else s)
  else if off = 0x20C then
    let was := s.flag Reg.WDT_CTRL_EN
    let t := s.genericWrite src addr (if was then v ||| 1 else v)
    if !was && t.flag Reg.WDT_CTRL_EN then { t with boot := { t.boot with wdt := 0 } } else t
  else if off = 0x210 then s.via (execWdtKick src v s)
  else if off = 0x228 then s.via (execBootFloorWrite src v s)
  else if off = 0x22C then
    if privileged src then { s with boot := { s.boot with revoke := s.boot.revoke ||| BitVec.ofNat 2 v.toNat } }
    else s.denied src (regDetail addr)
  else if off = 0x244 then
    let s := if bitOf v.toNat 0 then s.via (execResumeApply src s) else s
    if bitOf v.toNat 1 then s.via (execResumeDiscard src s) else s
  else if off = 0x248 then
    let t := s.genericWrite src addr v
    if bitOf v.toNat 0 && s.scanRefused then t.raise Reg.STARTUP_SCAN_REJECT else t
  else if 0x400 ≤ off ∧ off < 0x480 ∧ off % 32 = 0x14 then s.via (execMtimecmpHiWrite src i v s)
  else s.genericWrite src addr v

/-- SP (spec/02 R49, R54): PORT_EN is an enable of R334; cleared, the port closes. -/
def State.regWrite1 (s : State) (src addr off : Nat) (v : Word) : State :=
  if off ≠ 0 then s.genericWrite src addr v
  else
    let was := s.flag Reg.SP_CTRL_PORT_EN
    let t := s.enableWrite src addr v Reg.SP_CTRL_PORT_EN
    let now := t.flag Reg.SP_CTRL_PORT_EN
    if was && !now then t.closePort 1
    else if !was && now && !t.boot.portEverOpen then { t with boot := { t.boot with portEverOpen := true, resume := none } }
    else t

/-- QUEUE (spec/03 R75). -/
def State.regWrite2 (s : State) (src addr off : Nat) (v : Word) : State :=
  if off = 0 then s.enableWrite src addr v Reg.QUEUE_CTRL_FETCH_EN
  else if off = 0x10 ∨ off = 0x20 ∨ off = 0x24 ∨ off = 0x28 then s.via (execPoolConfigWrite src addr v s)
  else if off = 0x58 then s.via (execFwdPost src v s)
  else if off = 0x800 then s.via (execQdbWrite src v s)
  else if 0x1000 ≤ off ∧ off % 16 < 8 then s.via (execQueueConfigWrite src addr v s)
  else s.genericWrite src addr v

/-- TENANT (spec/04 R95). -/
def State.regWrite3 (s : State) (src addr off i : Nat) (v : Word) : State :=
  if off < 0x100 then s.genericWrite src addr v
  else if 0x2000 ≤ off then s.via (execChanRightsWrite src i v s)
  else if 0x1000 ≤ off then s.via (execKeyWrite src (i / 8) (i % 8) v s)
  else if off % 0x80 < 0x40 then s.via (execTenantConfigWrite src i v s)
  else s.via (execWindowConfigWrite src (i / 8) (i % 8) (off % 8 == 4) v s)

/-- ARB and BUF (spec/05 R117): PRIO of the write channels is read-only. -/
def State.regWrite4 (s : State) (src addr off i : Nat) (v : Word) : State :=
  if off = 0 then
    let t := s.genericWrite src addr v
    (if bitOf v.toNat 8 then t.via (execArbCounterClear src t) else t).media
  else if off = 0x14 then s.via (execMirrorRateWrite src v s)
  else if off = 0x20 then s.via (execBufRegionWrite src false v s)
  else if off = 0x24 then s.via (execBufRegionWrite src true v s)
  else if off % 16 = 0 && decide (0x100 ≤ off) && decide (off < 0x1C0) && (i == 2 || i == 3) then
    s.writeFields src addr v ((regFields addr).filter (fun fi => fi.1 != Reg.ARB_CFG_PRIO))
  else s.genericWrite src addr v

/-- ECC (spec/15 R328). -/
def State.regWrite5 (s : State) (src addr off i : Nat) (v : Word) : State :=
  if off = 0x18 then if bitOf v.toNat 0 then s.via (execCeLogPop src s) else s
  else if off = 0x28 then if bitOf v.toNat 0 then s.via (execUeLogPop src s) else s
  else if off = 0x80 then
    match bitsOf v.toNat 8 2 with
    | 1 => s.via (execHaltRepair src (bitsOf v.toNat 0 6) (bitsOf v.toNat 16 12) s)
    | 2 => s.via (execHaltSplit src (bitsOf v.toNat 0 6) s)
    | _ => s.reserved src (regDetail addr)
  else if 0x400 ≤ off then s.via (execRetireMapWrite src i v s)
  else s.genericWrite src addr v

/-- CACHE (spec/14 R313). -/
def State.regWrite6 (s : State) (src addr off : Nat) (v : Word) : State :=
  if off = 0 ∨ off = 4 then s.via (execCacheControlWrite src (off == 4) v s)
  else if off = 0x38 then s.rangeCmd (bitsOf v.toNat 0 3)
  else s.genericWrite src addr v

/-- LOOP (spec/08 R192). Whether a park tears the sector under an open gate is a free value here (log entry 3): the store
does not say where in the sector it falls. -/
def State.regWrite7 (s : State) (src addr off i : Nat) (v : Word) : State :=
  if off = 0 then s.via (execLoopCtrlWrite src v s)
  else if off = 4 then s.via (execLoopSwap src v s)
  else if 0x1000 ≤ off then s.via (execCoefBankWrite src addr v s)
  else if off = 0x100 ∨ off = 0x200 then
    match bitsOf v.toNat 0 3 with
    | 1 => s.via (execActSeek src i s)
    | 2 =>
      let r := s.fresh
      r.1.via (execActPark src i (bitOf r.2.toNat 0) r.1)
    | 3 => s.via (execActAcquire src i s)
    | _ => s.reserved src (regDetail addr)
  else s.genericWrite src addr v

/-- SPN (spec/09 R195, R197, R207, R208, R212). -/
def State.regWrite8 (s : State) (src addr off : Nat) (v : Word) : State :=
  if off = 0 then
    match bitsOf v.toNat 0 3 with
    | 1 => s.via (execSpindleStart src (bitOf v.toNat 4) s)
    | 2 => s.via (execSpindleStop src s)
    | 3 => s.via (execSpindleHeat src (bitOf v.toNat 5) s)
    | _ => s.reserved src (regDetail addr)
  else if off = 8 then (s.genericWrite src addr v).media
  else if off = 0x20 && privileged src && decide (s.getF Reg.CHN_WMIN_RPM ≤ bitsOf v.toNat 16 13) then
    s.reservedField src addr v Reg.SPN_THR_UNLOAD_RPM
  else if off = 0x20 then (s.genericWrite src addr v).unloadCheck true true
  else if off = 0x50 && privileged src && s.spn == 3 && bitsOf v.toNat 0 16 == 0 then
    s.reservedField src addr v Reg.WIND_RREF_R
  else s.genericWrite src addr v

/-- RWC_A and RWC_B (spec/07 R166, R168). -/
def State.regWrite9 (s : State) (src addr off i : Nat) (v : Word) : State :=
  if off = 0 then s.enableWrite src addr v Reg.RWC_CTRL_EN
  else if off = 0x6C then if bitOf v.toNat 0 then s.via (execSectorReadPortGo src i s) else s
  else s.genericWrite src addr v

/-- CHAIN (spec/07 R151, R158, R167, R168). TARGET of an armed angular event stays. -/
def State.regWrite11 (s : State) (src addr off i : Nat) (v : Word) : State :=
  if off = 0x28 && privileged src && decide (bitsOf v.toNat 0 13 ≤ s.getF Reg.SPN_THR_UNLOAD_RPM) then
    s.reservedField src addr v Reg.CHN_WMIN_RPM
  else if off = 0x30 then if bitOf v.toNat 0 then s.via (execTableApply src s) else s
  else if 0x8000 ≤ off then s.via (execBmapWrite src i v s)
  else if 0x7000 ≤ off ∧ off % 16 = 0 then if s.getF Reg.AEV1_STATE i = 1 then s else s.genericWrite src addr v
  else if 0x7000 ≤ off ∧ off % 16 = 4 then
    if bitOf v.toNat 16 then s.via (execAevArm src i v s)
    else s.via (execAevDisarm src i (s.aevFields i v))
  else s.genericWrite src addr v

/-- LEDGER (spec/06 R133, R138, R142). -/
def State.regWrite12 (s : State) (src addr off : Nat) (v : Word) : State :=
  if off = 0 then s.enableWrite src addr v Reg.LDG_CTRL_EN
  else if off = 8 then s.via (execBfreePush src v s)
  else if off = 0x60 ∨ off = 0x64 then s.via (execLdgSysWrite src (off == 0x64) v s)
  else if off = 0x70 then
    match bitsOf v.toNat 0 2 with
    | 1 => s.via (execSrecAppend src s)
    | 2 => s.via (execSrecBegin src (bitsOf v.toNat 4 1) s)
    | _ => s.reserved src (regDetail addr)
  else s.genericWrite src addr v

/-- OVORE (spec/11 R258). -/
def State.regWrite13 (s : State) (src addr off : Nat) (v : Word) : State :=
  if off = 0 ∨ (0x10 ≤ off ∧ off < 0x20) ∨ (0x40 ≤ off ∧ off < 0x80) then s.via (execOvrConfigWrite src addr v s)
  else s.genericWrite src addr v

/-- DICT (spec/12 R264, R272, R273, R283): with EN cleared the controller is silent; a mailbox page lies in its window. -/
def State.regWrite14 (s : State) (src addr off i : Nat) (v : Word) : State :=
  if off = 0 then
    let was := s.flag Reg.DICT_CTRL_EN
    if bitOf v.toNat 0 && !was && privileged src then
      (s.writeFields src addr v [(Reg.DICT_CTRL_AUTO_BOFF, 0)]).via
        (execDictEnable src (s.writeFields src addr v [(Reg.DICT_CTRL_AUTO_BOFF, 0)]))
    else
      let t := s.genericWrite src addr v
      if was && !t.flag Reg.DICT_CTRL_EN then t.lower Reg.DICT_STATUS_NMT else t
  else if off = 0x30 then s.via (execDictFwPost src v s)
  else if 0x40 ≤ off && privileged src && decide (s.getF Reg.WPAGES_PAGES (8 * i + bitsOf v.toNat 1 3) ≤ bitsOf v.toNat 4 12) then
    s.raise Reg.TENANT_STATUS_CFG_REJECT
  else s.genericWrite src addr v

/-- A write of word `v` to the register at `addr` by `src`, on the running logic die. -/
def State.regWrite (s : State) (src addr : Nat) (v : Word) : State :=
  match regFields addr with
  | [] => s
  | (f, i) :: _ =>
    let off := addr % 0x10000
    match f.blk with
    | 0 => s.regWrite0 src addr off i v
    | 1 => s.regWrite1 src addr off v
    | 2 => s.regWrite2 src addr off v
    | 3 => s.regWrite3 src addr off i v
    | 4 => s.regWrite4 src addr off i v
    | 5 => s.regWrite5 src addr off i v
    | 6 => s.regWrite6 src addr off v
    | 7 => s.regWrite7 src addr off i v
    | 8 => s.regWrite8 src addr off v
    | 9 => s.regWrite9 src addr off i v
    | 11 => s.regWrite11 src addr off i v
    | 12 => s.regWrite12 src addr off v
    | 13 => s.regWrite13 src addr off v
    | 14 => s.regWrite14 src addr off i v
    | 15 =>
      let t := s.genericWrite src addr v
      if off = 0 && bitOf v.toNat 0 then t.via (execTimeStart src t) else t
    | 16 =>
      if 0x200 ≤ off ∧ off < 0x400 then s.via (execThresholdSlotWrite src i (off % 16 / 4) v s) else s.genericWrite src addr v
    | 17 => if off = 0 && bitOf v.toNat 0 then s.via (execEvrClear src s) else s
    | 18 => if off = 0 then (s.genericWrite src addr v).relend else s.genericWrite src addr v
    | _ => s.genericWrite src addr v

/-! ## Reads with an effect (R3, R4; spec/13 R285) -/

/-- The effect of a read of one field: a field of code RC clears. -/
def State.readField (s : State) (fi : Field × Nat) : State :=
  if fi.1.acc == .rc then
    if fi.1.view then { s with clk := { s.clk with stopLast := 0 } } else s.setF fi.1 fi.2 0
  else s

/-- A read of the register at `addr`: the word goes to `rdata` (log entry 4), then the fields that a read clears fall. A read
of DMT_LO latches DMT_HI. -/
def State.regRead (s : State) (addr : Nat) : State :=
  let s : State := { s with rdata := s.regWord addr }
  let s := (regFields addr).foldl State.readField s
  if addr = 0x400F0008 then
    { s with time := { s.time with hiLatch := BitVec.ofNat 16 (s.time.dmt.toNat / 2 ^ 32), hiHeld := true } }
  else s

/-! ## Rows -/

/-- REGISTER_WRITE (R2, R3, R6): a write by `src`, a hart (16 plus its number, 4 more in user mode) or the system window. A
hart's access that is not aligned traps. -/
def execRegisterWrite (src addr : Nat) (v : Word) (s : State) : Host.Outcome State Fault Refusal :=
  .next (s.whenLive (fun s =>
    if addr % 4 ≠ 0 then (if 0x10 ≤ src ∧ src < 0x18 then s.trap (src % 4) 7 addr else s)
    else s.regWrite src addr v))

/-- SP_BSY_MAX_READ (spec/02 R54). -/
def execSpBsyMaxRead (s : State) : Host.Outcome State Fault Refusal := .next (s.whenLive (·.regRead 0x40010020))

/-- ARB_STAT_READ (spec/05 R108). -/
def execArbStatRead (n : Nat) (s : State) : Host.Outcome State Fault Refusal :=
  .next (s.whenLive (fun s => s.when' (decide (n < 12)) (·.regRead (0x4004010C + 16 * n))))

/-- SHK_LAST_READ (spec/08 R188). -/
def execShkLastRead (s : State) : Host.Outcome State Fault Refusal := .next (s.whenLive (·.regRead 0x40070014))

/-- ECC_CNT_READ (spec/15 R321). -/
def execEccCntRead (b : Nat) (s : State) : Host.Outcome State Fault Refusal :=
  .next (s.whenLive (fun s => s.when' (decide (b < 16)) (·.regRead (0x40050040 + 4 * b))))

/-- CLK_STOP_READ (spec/16 R338). -/
def execClkStopRead (s : State) : Host.Outcome State Fault Refusal := .next (s.whenLive (·.regRead 0x40000110))

/-- DMT_LO_READ (spec/13 R285). -/
def execDmtLoRead (s : State) : Host.Outcome State Fault Refusal := .next (s.whenLive (·.regRead 0x400F0008))

end Sys2Proof.Machine
end

