-- ==== Sys2Proof/Machine/Cores.lean ====
section
/-! DEFINITION. The accesses of a hart (spec/14 R297 to R305; spec/15 R323): fetches, loads, stores, AMOs, LR and SC, each
checked against the map, its alignment and PMP, and performed at the place that holds the data; FENCE.I. -/

namespace Sys2Proof.Machine

/-- The writer that hart `h` is for R3 and the events: its number and the mode of its data accesses. -/
def State.hartSrc (s : State) (h : Nat) : Nat := if (s.hart h).dataMode then 0x10 + h else 0x14 + h

/-- The write of access `w` to a memory with words of `ws` bytes needs what is there: it reads, or it writes in part. -/
def Waiting.reads (w : Waiting) (ws : Nat) : Bool := !(w.op == 1 || w.op == 4) || decide (w.size < ws)

/-- Access `w` of hart `h` to the local memory of core `c` (R298, R299; R317, R323 of spec/15). -/
def State.localAccess (s : State) (h c x : Nat) (w : Waiting) : State :=
  let b := 0x08100000 + 0x10000 * c + x
  let e := if w.reads 4 then s.memCheck (c + 1) 4 x w.size (if c = h then 12 else 13) else (s, false)
  if e.2 then e.1.faultAccess h w (accessFault w.op)
  else
    let s := e.1
    let w := s.scNow h b w
    let old := leNat (readBytes 0 x w.size (s.lmem c))
    let s := match w.stores old with
      | some bs => (s.lmemWrite c x bs).memFixed (c + 1) 4 x w.size
      | none => s
    s.endAccess h b w old

/-- Access `w` of hart `h` to an uncacheable bank: one read-modify-write within one grant (R96, R299, R323). The hart's own
store does not break its reservation. -/
def State.bankAccess (s : State) (h x : Nat) (w : Waiting) : State :=
  let e := if w.reads 8 then s.bufCheck x w.size 8 else (s, false)
  if e.2 then e.1.faultAccess h w (accessFault w.op)
  else
    let s := e.1
    let w := s.scNow h (0x10000000 + x) w
    let old := leNat (s.bufRead x w.size)
    let keep := (s.hart h).reservation
    let s := match w.stores old with
      | some bs => let t := s.bufWrite x bs
                   t.setHart h { t.hart h with reservation := keep }
      | none => s
    s.endAccess h (0x10000000 + x) w old

/-- Access `w` of hart `h` to a register (R2, R3): a load returns the word and has the read's effect. -/
def State.regAccess (s : State) (h a : Nat) (w : Waiting) : State :=
  if w.op = 0 then
    let t := s.regRead a
    t.endAccess h a w t.rdata.toNat
  else
    let t := s.regWrite (s.hartSrc h) a w.value
    if t.runs h then t.endAccess h a w 0 else t

/-- Access `w` of hart `h` at its place, when the checks have passed. -/
def State.placeAccess (s : State) (h : Nat) (p : Place) (w : Waiting) : State :=
  if s.cacheable p then s.cacheAccess h p.block w
  else
    match p with
    | .rom x => s.endAccess h x w (leNat ((List.range w.size).map (fun i => Config.bootRom (x + i))))
    | .localMem c x => s.localAccess h c x w
    | .buffer x => s.bankAccess h x w
    | .xip x => s.endAccess h p.block w (leNat (s.norRead x w.size))
    | .reg a => s.regAccess h a w

/-- A misaligned access to a place other than a register block raises this exception (R297). -/
def misaligned (op : Nat) : Nat := if isLoad op then 4 else 6

/-- Access `w` of hart `h`: the map and its rights first, then the alignment, then PMP (R297, R298, R300). A register takes
aligned words only (R2). -/
def State.hartAccess (s : State) (h : Nat) (w : Waiting) : State :=
  let x := s.hart h
  match placeOf h w.addr w.size with
  | none => s.faultAccess h w (accessFault w.op)
  | some p =>
    let isReg := match p with | .reg _ => true | _ => false
    let crooked := !isFetch w.op && w.addr % w.size != 0
    if !p.permits w.op || (isReg && (crooked || w.size != 4)) then s.faultAccess h w (accessFault w.op)
    else if crooked then s.faultAccess h w (misaligned w.op)
    else if !x.pmpOk (if isFetch w.op then x.machine else x.dataMode) w.addr w.size (pmpNeed w.op) then
      s.faultAccess h w (accessFault w.op)
    else s.placeAccess h p w

/-- CORE_LOAD (R298, R304; R2): a load of `size` bytes into register `rd`, or an instruction fetch. The pc moves past a
load's `ilen` bytes; a fetch leaves it. -/
def execCoreLoad (h addr size rd ilen : Nat) (sgn fetch : Bool) (s : State) : Host.Outcome State Fault Refusal :=
  .next (s.hartCmd h (fun s =>
    s.hartAccess h { addr := addr, size := size, op := if fetch then 6 else 0, rd := rd, signed := sgn, ilen := ilen }))

/-- CORE_STORE (R298, R304; R2, R3). -/
def execCoreStore (h addr size rs ilen : Nat) (s : State) : Host.Outcome State Fault Refusal :=
  .next (s.hartCmd h (fun s => s.hartAccess h { addr := addr, size := size, op := 1, value := s.xreg h rs, ilen := ilen }))

/-- CORE_AMO (R299): a word is read, changed and written at the place that holds it. -/
def execCoreAmo (h addr op rd rs : Nat) (s : State) : Host.Outcome State Fault Refusal :=
  .next (s.hartCmd h (fun s => s.hartAccess h { addr := addr, size := 4, op := 2, rd := rd, arg := op, value := s.xreg h rs }))

/-- CORE_LR (R299): a word is read and its 64 bytes are reserved. -/
def execCoreLr (h addr rd : Nat) (s : State) : Host.Outcome State Fault Refusal :=
  .next (s.hartCmd h (fun s => s.hartAccess h { addr := addr, size := 4, op := 3, rd := rd }))

/-- CORE_SC (R299): whether it stores is judged where the access is performed: under the reservation of the block the word
is written and `rd` becomes 0; without it nothing is written and `rd` becomes 1. -/
def execCoreSc (h addr rd rs : Nat) (s : State) : Host.Outcome State Fault Refusal :=
  .next (s.hartCmd h (fun s => s.hartAccess h { addr := addr, size := 4, op := 4, rd := rd, value := s.xreg h rs }))

/-- FENCE_I (R297): prefetched instructions are discarded. -/
def execFenceI (h : Nat) (s : State) : Host.Outcome State Fault Refusal :=
  .next (s.hartCmd h (fun s => (s.setHart h { s.hart h with prefetched := false }).passed h 4))

end Sys2Proof.Machine
end

