-- ==== Sys2Proof/Machine/Jtag.lean ====
section
/-! DEFINITION. The JTAG port (spec/16 R342 to R344): the instructions of the TAP, and the read of one word of the frozen
state. The TAP needs no logic-die clock; it works while the rails are up. -/

namespace Sys2Proof.Machine

/-- A command of the TAP: it arises while the rails are up. -/
def State.tapCmd (s : State) (f : State → State) : State := s.when' (decide (s.die ≠ .off)) f

/-- The TAP takes instruction `ir`, whose data register will capture `dr`. -/
def State.setTap (s : State) (ir dr : Nat) : State := { s with tap := { ir := ir, dr := dr } }

/-- The boundary-scan register is selected: its order is Bylvomer's BSDL file's, so what it captures is a free value (log
entry 3). -/
def State.boundary (s : State) (ir : Nat) : State :=
  let r := s.fresh
  r.1.setTap ir r.2.toNat

/-! ## FRZ_READ (R343, R344) -/

/-- The STATUS bits of a read. -/
def frzValid : Nat := 1
/-- A corrected error. -/
def frzCe : Nat := 2
/-- An uncorrectable error. -/
def frzUe : Nat := 4
/-- DENIED. -/
def frzDenied : Nat := 8
/-- UNMAPPED. -/
def frzUnmapped : Nat := 16

/-- CSR `n` of hart `h` as R297 has it; none where it is not implemented. -/
def State.csrView (s : State) (h n : Nat) : Option Word :=
  let count (c : BitVec 64) (high : Bool) : Word := BitVec.ofNat 32 (if high then c.toNat / 2 ^ 32 else c.toNat)
  let kept := [0x300, 0x304, 0x305, 0x306, 0x30A, 0x31A, 0x310, 0x320, 0x340, 0x341, 0x342, 0x343]
  if kept.contains n ∨ (0x3A0 ≤ n ∧ n < 0x3A4) ∨ (0x3B0 ≤ n ∧ n < 0x3C0) then some ((s.hart h).csrOf n)
  else if n = 0x301 then some 0x40101105
  else if n = 0x344 then some (BitVec.ofNat 32 (s.mip h))
  else if n = 0xF11 ∨ n = 0xF12 ∨ n = 0xF15 then some 0
  else if n = 0xF13 then some 0x64100B01
  else if n = 0xF14 then some (BitVec.ofNat 32 h)
  else if n = 0xC01 then some (BitVec.ofNat 32 s.time.dmt.toNat)
  else if n = 0xC81 then some (BitVec.ofNat 32 (s.time.dmt.toNat / 2 ^ 32))
  else if n = 0xB00 ∨ n = 0xC00 then some (count (s.hart h).cycles false)
  else if n = 0xB80 ∨ n = 0xC80 then some (count (s.hart h).cycles true)
  else if n = 0xB02 ∨ n = 0xC02 then some (count (s.hart h).retired false)
  else if n = 0xB82 ∨ n = 0xC82 then some (count (s.hart h).retired true)
  else if (0x323 ≤ n ∧ n < 0x340) ∨ (0xB03 ≤ n ∧ n < 0xB20) ∨ (0xB83 ≤ n ∧ n < 0xBA0) ∨ (0xC03 ≤ n ∧ n < 0xC20) ∨
      (0xC83 ≤ n ∧ n < 0xCA0) then some 0
  else none

/-- The STATUS of a word of memory `mem` with words of `ws` bytes, read without a side effect. -/
def State.frzStatus (s : State) (mem ws a : Nat) : Nat :=
  match s.badWord mem (a / ws * ws) with
  | some b => frzValid + (if b.double then frzUe else frzCe)
  | none => frzValid

/-- A word read from memory: one with an uncorrectable error comes back raw, a free value (log entry 3). -/
def State.frzWord (s : State) (status : Nat) (bytes : List Byte) : State × Word × Nat :=
  if bitOf status 2 then
    let r := s.fresh
    (r.1, r.2, status)
  else (s, BitVec.ofNat 32 (leNat bytes), status)

/-- A word at block address `base`'s line of the cache: the line's, the victim buffer's, else none. -/
def State.frzLine (s : State) (b : Nat) : Option (List Byte × Nat) :=
  let base := b / 64 * 64
  match s.line base with
  | some l => some (slice l.bytes (b % 64) 4, s.frzStatus 5 8 (l.array + b % 64))
  | none => (s.victim base).map (fun v =>
      (slice v.bytes (b % 64) 4, frzValid + (if v.bad.any (fun e => e.1 == b % 64 / 8 * 8) then frzUe else 0)))

/-- The word at `a` of the core view: DATA and STATUS. A core's own local memory at 0x0800_0000 has no core here, so DATA is
a free value (log entry 3). -/
def State.frzCore (s : State) (a : Nat) : State × Word × Nat :=
  match placeOf 0 a 4 with
  | none => (s, 0, frzValid + frzUnmapped)
  | some p =>
    match (if s.cacheable p then s.frzLine p.block else none) with
    | some e => s.frzWord e.2 e.1
    | none =>
      match p with
      | .rom x => s.frzWord frzValid ((List.range 4).map (fun i => Config.bootRom (x + i)))
      | .localMem c x =>
        if a < 0x08100000 then
          let r := s.fresh
          (r.1, r.2, frzValid)
        else s.frzWord (s.frzStatus (c + 1) 4 x) (readBytes 0 x 4 (s.lmem c))
      | .buffer x => s.frzWord (s.frzStatus 0 8 x) (s.bufRead x 4)
      | .xip x => s.frzWord frzValid (s.norRead x 4)
      | .reg x => if inRegion 0x40031000 0x200 x 4 then (s, 0, frzValid + frzDenied) else (s, s.regWord x, frzValid)

/-- The word at `a` (R343): the harts' registers, pc and CSRs, the tag array, else the core view. The layout of the tag
array is the Bylvomer data file's, and an ADDR that is not aligned has no stated result: free values (log entry 3). -/
def State.frz (s : State) (a : Nat) : State × Word × Nat :=
  let h := (a - 0x50000000) / 0x10000
  let off := a % 0x10000
  if a % 4 ≠ 0 then
    let r := s.fresh
    let q := r.1.fresh
    (q.1, r.2, q.2.toNat % 32)
  else if inRegion 0x50000000 0x40000 a 4 then
    if off < 0x80 then (s, s.xreg h (off / 4), frzValid)
    else if off = 0x100 then (s, (s.hart h).pc, frzValid)
    else if inRegion 0x4000 0x4000 off 4 then
      match s.csrView h ((off - 0x4000) / 4) with
      | some v => (s, v, frzValid)
      | none => (s, 0, frzValid + frzUnmapped)
    else (s, 0, frzValid + frzUnmapped)
  else if inRegion 0x50080000 0x2000 a 4 then
    let r := s.fresh
    (r.1, r.2, frzValid)
  else s.frzCore a

/-! ## Rows -/

/-- JTAG_EXTEST (R342): boundary scan while STOPPED is 1; otherwise it acts as BYPASS. -/
def execJtagExtest (s : State) : Host.Outcome State Fault Refusal :=
  .next (s.tapCmd (fun s => if s.clk.stopped then s.boundary 0x00 else s.setTap 0x00 0))

/-- JTAG_IDCODE (R342). -/
def execJtagIdcode (s : State) : Host.Outcome State Fault Refusal := .next (s.tapCmd (·.setTap 0x01 0x164105CB))

/-- JTAG_SAMPLE_PRELOAD (R342). -/
def execJtagSamplePreload (s : State) : Host.Outcome State Fault Refusal := .next (s.tapCmd (·.boundary 0x02))

/-- JTAG_FRZ_STAT (R342). -/
def execJtagFrzStat (s : State) : Host.Outcome State Fault Refusal :=
  .next (s.tapCmd (fun s => s.setTap 0x10
    (b2n s.clk.stopped + 2 * b2n s.clk.frozen + 4 * s.getF Reg.CLK_STATUS_PLL_LOCK + 8 * s.getF Reg.CLK_STATUS_XTAL_RDY)))

/-- JTAG_FRZ_READ (R343, R344): an Update-DR with ADDR `adr`; at least 16 TCK cycles later the next Capture-DR returns ADDR,
DATA and STATUS. While STOPPED is 0 it acts as BYPASS. -/
def execJtagFrzRead (adr : Word) (s : State) : Host.Outcome State Fault Refusal :=
  .next (s.tapCmd (fun s =>
    if s.clk.stopped then
      let r := s.frz adr.toNat
      r.1.setTap 0x11 (adr.toNat * 2 ^ 40 + r.2.1.toNat * 2 ^ 8 + r.2.2)
    else s.setTap 0x11 0))

/-- JTAG_BYPASS (R342). -/
def execJtagBypass (s : State) : Host.Outcome State Fault Refusal := .next (s.tapCmd (·.setTap 0x1F 0))

/-- TAP_RESET (R342, R376): Test-Logic-Reset selects IDCODE; nothing but the TAP is reset. -/
def execTapReset (s : State) : Host.Outcome State Fault Refusal := .next (s.tapCmd (fun s => { s with tap := {} }))

end Sys2Proof.Machine
end

