-- ==== Sys2Proof/Machine/Management.lean ====
section
/-! DEFINITION. Management frames (spec/02 R35, R39, R43, R44; spec/04 R82, R87 to R91; spec/12 R272): the tenants' windows,
the keeper's system window, the aperture and its mailboxes, and the data phase of reads. -/

namespace Sys2Proof.Machine

/-! ## Where an offset leads (R87, R90) -/

/-- The register that an offset of the system window maps (R90). -/
def sysAddr (off : Nat) : Option Nat :=
  if off < 0x4000 then some (0x40030000 + off)
  else if off < 0x5000 then some (0x40020000 + 0x1000 + (off - 0x4000))
  else none

/-- The buffer offset of aperture byte `k` of tenant `t`; none where R89 lets the access go nowhere. -/
def State.aperture (s : State) (t k : Nat) : Option Nat :=
  let x := s.ten t
  let off := 4096 * x.aperPage + k
  if off + 4 ≤ s.winSize t x.aperWin then some (s.winBase t x.aperWin + off) else none

/-- UNPROVISIONED (R82). -/
def State.unprovisioned (s : State) : Bool := !(s.ten 0).keySet

/-! ## Writing (R82, R87 to R90) -/

/-- A word is written through the aperture (R89); one in the tenant's mailbox page may be a request (R272). -/
def State.apertureWrite (s : State) (t k : Nat) (v : Word) : State :=
  match s.aperture t k with
  | none => s.setTen t { s.ten t with aperOut := true }
  | some a =>
    let page := s.mbxPage t
    let mine := s.mbxHeld t && decide (page ≤ a) && decide (a < page + 4096)
    let s := if mine then s.mbxTouched t else s
    let s := (s.bufCheck a 4 0).1.bufWrite a (leBytes 4 v.toNat)
    if mine && a == page + 0xFFC then s.takeMailbox t v else s

/-- SESS_CMD (R79, R81, R87). Its value 0 is reserved (R6); the event's DETAIL names no window offset, so it is a free value
(log entry 3). -/
def State.sessCmd (s : State) (t : Nat) (v : Word) : State :=
  match bitsOf v.toNat 0 2 with
  | 1 => s.via (execSessionChallenge t s)
  | 2 => s.via (execSessionRespond t s)
  | 3 => s.via (execSessionClose t s)
  | _ =>
    let r := s.fresh
    r.1.reserved t r.2.toNat

/-- A word is written at offset `off` of tenant `t`'s window (R87). -/
def State.windowWrite (s : State) (t off : Nat) (v : Word) : State :=
  let x := s.ten t
  if 0x8000 ≤ off then s.apertureWrite t (off - 0x8000) v
  else if 0x20 ≤ off ∧ off < 0x40 then s.setTen t { x with response := sput 0 ((off - 0x20) / 4) v x.response }
  else if off = 0x40 then s.sessCmd t v
  else if off = 0x100 then s.setTen t { x with cause := x.cause &&& ~~~BitVec.ofNat 7 v.toNat }
  else if off = 0x104 then s.setTen t { x with mask := BitVec.ofNat 7 v.toNat }
  else if 0x800 ≤ off ∧ off < 0x820 then
    s.setTen t { x with cqPend := x.cqPend.filter (fun q => !(q / 32 == (off - 0x800) / 4 && bitOf v.toNat (q % 32))) }
  else if off = 0x900 then
    s.setTen t { x with aperWin := bitsOf v.toNat 0 3, aperPage := bitsOf v.toNat 4 12, aperOut := x.aperOut && !bitOf v.toNat 31 }
  else s

/-- A word is written at offset `off` of the system window (R90); until KEY_0 is written only KEY_0 is (R82). -/
def State.systemWrite (s : State) (off : Nat) (v : Word) : State :=
  if s.unprovisioned && !(decide (0x1000 ≤ off) && decide (off < 0x1020)) then
    match sysAddr off with
    | some a => s.denied 0 (regDetail a)
    | none =>
      let r := s.fresh
      r.1.denied 0 r.2.toNat
  else
    match sysAddr off with
    | some a => s.regWrite 0 a v
    | none => s

/-- The words of a frame are written in ascending offset order (R43). -/
def State.mgmtWords (s : State) (t : Nat) (sys : Bool) : Nat → List Word → State
  | _, [] => s
  | off, v :: r => State.mgmtWords (if sys then s.systemWrite off v else s.windowWrite t off v) t sys (off + 4) r

/-! ## Reading (R87 to R89) -/

/-- A value of 32 bits as four bytes of a list, for the words of a page. -/
def wordOf (bs : List Byte) (i : Nat) : Word := BitVec.ofNat 32 (leAt bs (4 * i) 4)

/-- Word `j` of HEADS_n (R87, R88). -/
def State.headWord (s : State) (t n j : Nat) : Word :=
  if s.assigned t n then
    let h := s.heads n
    match j with
    | 0 => h.1
    | 1 => h.2.1
    | 2 => h.2.2.1
    | _ => h.2.2.2
  else 0

/-- The milliseconds that remain of tenant `t`'s lock, by DMT, rounded down (R80); LOCKOUT_EXPIRY alone says that it is over. -/
def State.lockLeft (s : State) (t : Nat) : Nat :=
  let x := s.ten t
  (1000 * x.lockMs - (s.time.dmt - x.lockAt).toNat) / 1000

/-- SESS_STATE (R87). -/
def State.sessState (s : State) (t : Nat) : Word :=
  let x := s.ten t
  let low := x.sess + 4 * b2n (t == 0 && s.unprovisioned) + 16 * min x.fails 15
  BitVec.ofNat 32 (low + if x.sess = 3 then 65536 * min 65535 (s.lockLeft t / 10) else 0)

/-- A word of tenant `t`'s window, and whether an uncorrectable error was met (R87, R89; spec/15 R323). -/
def State.windowRead (s : State) (t off : Nat) : State × Word × Bool :=
  let x := s.ten t
  let plain (v : Word) : State × Word × Bool := (s, v, false)
  if 0x8000 ≤ off then
    match s.aperture t (off - 0x8000) with
    | none => (s.setTen t { x with aperOut := true }, 0, false)
    | some a =>
      let e := s.bufCheck a 4 1
      (e.1, if e.2 then 0 else BitVec.ofNat 32 (e.1.bufWord a), e.2)
  else if off = 0 then plain (s.sessState t)
  else if 0x8 ≤ off ∧ off < 0x10 then plain (wordOf uid ((off - 8) / 4))
  else if 0x10 ≤ off ∧ off < 0x20 then
    plain (match x.nonce with | some n => wordOf (leBytes 16 n.toNat) ((off - 0x10) / 4) | none => 0)
  else if off = 0x100 then plain (BitVec.ofNat 32 x.cause.toNat)
  else if off = 0x104 then plain (BitVec.ofNat 32 x.mask.toNat)
  else if off = 0x108 then plain (BitVec.ofNat 32 (s.getF Reg.TCFG_IRQ_PIN t))
  else if 0x400 ≤ off ∧ off < 0x800 then plain (s.headWord t ((off - 0x400) / 16) (off % 16 / 4))
  else if 0x800 ≤ off ∧ off < 0x820 then
    plain (BitVec.ofNat 32 (((List.range 32).map (fun j =>
      let q := 32 * ((off - 0x800) / 4) + j
      if x.cqPend.contains q && s.qOwner q == some t then 2 ^ j else 0)).sum))
  else if off = 0x900 then plain (BitVec.ofNat 32 (x.aperWin + 16 * x.aperPage + 2 ^ 31 * b2n x.aperOut))
  else plain 0

/-- A word of the system window (R90). -/
def State.systemRead (s : State) (off : Nat) : State × Word × Bool :=
  match sysAddr off with
  | some a => (s, s.regWord a, false)
  | none => (s, 0, false)

/-- The words of a MGMT_READ, each sampled when it is read; after an uncorrectable error the rest are 0 (R44, R323). -/
def State.mgmtRead (s : State) (t : Nat) (sys : Bool) : Nat → Nat → State × List Word × Bool
  | _, 0 => (s, [], false)
  | off, n + 1 =>
    let r := if sys then s.systemRead off else s.windowRead t off
    if r.2.2 then (r.1, List.replicate (n + 1) 0, true)
    else
      let q := State.mgmtRead r.1 t sys (off + 4) n
      (q.1, r.2.1 :: q.2.1, q.2.2)

/-! ## The header (R38 steps 1 and 4, R39) -/

/-- The H1 check of a management frame fails (R39). -/
def State.mgmtBad (s : State) (tid len : Nat) (adr : Word) : Bool :=
  let sys := bitOf adr.toNat 31
  let off := bitsOf adr.toNat 0 16
  len == 0 || decide (128 < len) || bitsOf adr.toNat 16 15 != 0 || off % 4 != 0 || decide (0x10000 < off + 4 * len) ||
    (sys && tid != 0) || (!s.sessionOpen tid && (sys || decide (0x100 < off + 4 * len)))

/-- A management frame of TYPE `ty` is checked and, where it passes, goes on as `f` says. R38 gives it no step at which it
waits for a tag: one whose tenant has none left in its share goes on without (R69, R92; log entry 67). -/
def State.mgmtHeader (s : State) (ty tid chan len : Nat) (adr : Word) (f : State → State) : State :=
  s.header (fun s =>
    if chan ≠ 0 then s.refuse false ty tid chan 6 adr
    else if s.mgmtBad tid len adr then s.refuse true ty tid chan 6 adr
    else f s.takeHeader)

/-- SP_BSY_MAX keeps the longest busy phase (R43). -/
def State.busyFor (s : State) (bsy : Nat) : State :=
  if s.getF Reg.SP_BSY_MAX_TIME < bsy then s.setF Reg.SP_BSY_MAX_TIME 0 (satN 16 bsy) else s

/-- SP_MGMT_WRITE (R39, R42, R43, R48): the whole frame, with its commit edge after `bsy` units of 10 ns. CRC_BAD writes none
of the words. Fewer than LEN words leave the frame in its host-driven phase, where R48 ends it; more are an SP_FRM out of its
frame: it is aborted (log entry 22). -/
def execSpMgmtWrite (tid chan len : Nat) (adr : Word) (data : List Word) (trailer : Word) (bsy : Nat) (s : State) :
    Host.Outcome State Fault Refusal :=
  .next (s.mgmtHeader 2 tid chan len adr (fun s =>
    if data.length < len then
      let f : Frame := { phase := .writing, word0 := headerWord 2 tid 0 0 len, word1 := adr, ty := 2, tid := tid, chan := 0
                         len := len, tag := s.newTag, tagged := s.tagOk 2 (some tid), driven := false }
      s.modPort (fun p => { p with frame := some f })
    else if len < data.length then s.raise Reg.SP_EVENTS_ABORT
    else
      let w0 := headerWord 2 tid 0 0 len
      let s := s.busyFor bsy
      if crc32c (leBytes 4 w0.toNat ++ leBytes 4 adr.toNat ++ wordsBytes data) = trailer then
        (s.mgmtWords tid (bitOf adr.toNat 31) (bitsOf adr.toNat 0 16) data).modPort
          (fun p => { p with out := [statusWord 2 tid 0 len 0, adr] })
      else
        (s.bump Reg.SP_CNT_CRCBAD_COUNT).modPort (fun p => { p with out := [statusWord 2 tid 0 0 3, adr] })))

/-- SP_MGMT_READ (R38, R39, R44): the header; the words follow at SP_READ_DATA_READY. -/
def execSpMgmtRead (tid chan len : Nat) (adr : Word) (s : State) : Host.Outcome State Fault Refusal :=
  .next (s.mgmtHeader 3 tid chan len adr (fun s =>
    let f : Frame := { phase := .reading, word0 := headerWord 3 tid 0 0 len, word1 := adr, ty := 3, tid := tid, chan := 0
                       len := len, tag := s.newTag, tagged := s.tagOk 1 (some tid) }
    s.modPort (fun p => { p with frame := some f, bsyN := false })))

/-! ## The data phase (R44; spec/15 R323) -/

/-- The page `p` as the egress reads it: its bytes up to the first word with an uncorrectable error, and whether one was met. -/
def State.egressPage (s : State) (p : Nat) : State × List Byte × Bool :=
  let a := 4096 * p
  match (s.ueWords 0 a 4096).min? with
  | none => ((s.bufCheck a 4096 1).1, s.bufRead a 4096, false)
  | some w => ((s.bufCheck a (w + 8 - a) 1).1, s.bufRead a (w - a), true)

/-- The bytes of the grains of a READ_STREAM, up to an uncorrectable error, and the page in which one was met: the header
and the page of each grain as the frame was admitted, held until the last beat (R44, R99). -/
def State.egress (s : State) : List (Nat × List Byte) → State × List Byte × Option Nat
  | [] => (s, [], none)
  | (p, h) :: r =>
    let e := s.egressPage p
    if e.2.2 then (e.1, h ++ e.2.1, some p)
    else
      let q := State.egress e.1 r
      (q.1, h ++ e.2.1 ++ q.2.1, q.2.2)

/-- The trailer of read data: the CRC-32C, or its complement after an uncorrectable error. -/
def readTrailer (bytes : List Byte) (bad : Bool) : Word := if bad then ~~~crc32c bytes else crc32c bytes

/-- The words of a READ_STREAM (R44): 1032 for each grain, the trailer and the status; staged grains are consumed (R101),
and one whose page failed is revoked (R323). -/
def State.streamData (s : State) (f : Frame) : State :=
  let e := s.egress (f.pages.zip f.hdrs)
  let s := e.1
  let bad := e.2.2.isSome
  let bytes := e.2.1 ++ List.replicate (4128 * f.len - e.2.1.length) 0
  let out := bytesWords (1032 * f.len) bytes ++
    [readTrailer bytes bad, statusWord 1 f.tid f.chan f.len (if bad then 3 else 0), s.readHead f.chan]
  let s := s.modPort (fun p => { p with frame := none, bsyN := true, out := out })
  let s := if bad then s.bump Reg.SP_CNT_CRCBAD_COUNT else s
  let s := match e.2.2 with | some p => s.revoke (fun t => t.page == p) | none => s
  let used := s.stagings.filter (fun t => t.checked && f.pages.contains t.page)
  used.foldl State.endStaging (s.endReaders f.pages)

/-- The words of a MGMT_READ, the trailer and the status. -/
def State.mgmtData (s : State) (f : Frame) : State :=
  let r := s.mgmtRead f.tid (bitOf f.word1.toNat 31) (bitsOf f.word1.toNat 0 16) f.len
  let bad := r.2.2
  let out := r.2.1 ++ [readTrailer (wordsBytes r.2.1) bad, statusWord 3 f.tid 0 f.len (if bad then 3 else 0), f.word1]
  let s := r.1.modPort (fun p => { p with frame := none, bsyN := true, out := out })
  if bad then s.bump Reg.SP_CNT_CRCBAD_COUNT else s

/-- SP_READ_DATA_READY (R44): the first word of an admitted read is ready after `bsy` units of 10 ns; the read words, the
trailer and the status follow, and the frame ends. -/
def execSpReadDataReady (bsy : Nat) (s : State) : Host.Outcome State Fault Refusal :=
  .next (s.whenLive (fun s =>
    match s.port.frame with
    | some f =>
      if f.phase = .writing then s
      else if f.ty = 1 then (s.busyFor bsy).streamData f
      else (s.busyFor bsy).mgmtData f
    | none => s))

end Sys2Proof.Machine
end

