-- ==== Sys2Proof/Machine/Dispatch.lean ====
section
/-! DEFINITION. One arm for each command: a direct call of its meaning. -/

namespace Sys2Proof.Machine

/-- What a command does to everything but the queue. -/
def exec (i : Instr) (s : State) : Host.Outcome State Fault Refusal :=
  match i with
  | .registerWrite src addr v => Sys2Proof.Machine.execRegisterWrite src addr v s
  | .spBsyMaxRead => Sys2Proof.Machine.execSpBsyMaxRead s
  | .arbStatRead n => Sys2Proof.Machine.execArbStatRead n s
  | .shkLastRead => Sys2Proof.Machine.execShkLastRead s
  | .eccCntRead b => Sys2Proof.Machine.execEccCntRead b s
  | .clkStopRead => Sys2Proof.Machine.execClkStopRead s
  | .dmtLoRead => Sys2Proof.Machine.execDmtLoRead s
  | .spWriteGrains tid chan len seq data trailer => Sys2Proof.Machine.execSpWriteGrains tid chan len seq data trailer s
  | .spReadStream tid chan len seq => Sys2Proof.Machine.execSpReadStream tid chan len seq s
  | .spMgmtWrite tid chan len adr data trailer bsy => Sys2Proof.Machine.execSpMgmtWrite tid chan len adr data trailer bsy s
  | .spMgmtRead tid chan len adr => Sys2Proof.Machine.execSpMgmtRead tid chan len adr s
  | .spDoorbell tid chan len word1 => Sys2Proof.Machine.execSpDoorbell tid chan len word1 s
  | .spNop tid chan len word1 => Sys2Proof.Machine.execSpNop tid chan len word1 s
  | .spReservedTypeHeader word0 word1 => Sys2Proof.Machine.execSpReservedTypeHeader word0 word1 s
  | .spReadDataReady bsy => Sys2Proof.Machine.execSpReadDataReady bsy s
  | .commitEdge queued sq bsy => Sys2Proof.Machine.execCommitEdge queued sq bsy s
  | .spFrameAbort => Sys2Proof.Machine.execSpFrameAbort s
  | .spStallTimeout => Sys2Proof.Machine.execSpStallTimeout s
  | .spStatusLost => Sys2Proof.Machine.execSpStatusLost s
  | .spFrmOutOfTurn => Sys2Proof.Machine.execSpFrmOutOfTurn s
  | .cartridgeRemoval => Sys2Proof.Machine.execCartridgeRemoval s
  | .cartridgeSeated => Sys2Proof.Machine.execCartridgeSeated s
  | .qdbWrite src v => Sys2Proof.Machine.execQdbWrite src v s
  | .queueConfigWrite src addr v => Sys2Proof.Machine.execQueueConfigWrite src addr v s
  | .poolConfigWrite src addr v => Sys2Proof.Machine.execPoolConfigWrite src addr v s
  | .descriptorFetch sq => Sys2Proof.Machine.execDescriptorFetch sq s
  | .readGrains sq => Sys2Proof.Machine.execReadGrains sq s
  | .readGrainsComplete sq => Sys2Proof.Machine.execReadGrainsComplete sq s
  | .queryHead sq => Sys2Proof.Machine.execQueryHead sq s
  | .seal sq => Sys2Proof.Machine.execSeal sq s
  | .openChannel sq => Sys2Proof.Machine.execOpenChannel sq s
  | .closeChannel sq => Sys2Proof.Machine.execCloseChannel sq s
  | .releaseBushel sq => Sys2Proof.Machine.execReleaseBushel sq s
  | .verifyRange sq => Sys2Proof.Machine.execVerifyRange sq s
  | .verifyRangeComplete sq media unreadable => Sys2Proof.Machine.execVerifyRangeComplete sq media unreadable s
  | .flush sq => Sys2Proof.Machine.execFlush sq s
  | .mirrorResync sq => Sys2Proof.Machine.execMirrorResync sq s
  | .readEvents sq => Sys2Proof.Machine.execReadEvents sq s
  | .zeroWindow sq => Sys2Proof.Machine.execZeroWindow sq s
  | .zeroWindowComplete sq => Sys2Proof.Machine.execZeroWindowComplete sq s
  | .setReservation sq => Sys2Proof.Machine.execSetReservation sq s
  | .queuedWriteGrains sq => Sys2Proof.Machine.execQueuedWriteGrains sq s
  | .forwardedOpcode sq => Sys2Proof.Machine.execForwardedOpcode sq s
  | .fwdPost src v => Sys2Proof.Machine.execFwdPost src v s
  | .sessionChallenge tid => Sys2Proof.Machine.execSessionChallenge tid s
  | .sessionRespond tid => Sys2Proof.Machine.execSessionRespond tid s
  | .sessionClose tid => Sys2Proof.Machine.execSessionClose tid s
  | .nonceExpiry tid => Sys2Proof.Machine.execNonceExpiry tid s
  | .lockoutExpiry tid => Sys2Proof.Machine.execLockoutExpiry tid s
  | .tenantConfigWrite src t v => Sys2Proof.Machine.execTenantConfigWrite src t v s
  | .keyWrite src t j v => Sys2Proof.Machine.execKeyWrite src t j v s
  | .chanRightsWrite src n v => Sys2Proof.Machine.execChanRightsWrite src n v s
  | .windowConfigWrite src t w second v => Sys2Proof.Machine.execWindowConfigWrite src t w second v s
  | .bufRegionWrite src wreg v => Sys2Proof.Machine.execBufRegionWrite src wreg v s
  | .mirrorRateWrite src v => Sys2Proof.Machine.execMirrorRateWrite src v s
  | .bankArbitration bank cycles reqs => Sys2Proof.Machine.execBankArbitration bank cycles reqs s
  | .grantCutoff bank presented => Sys2Proof.Machine.execGrantCutoff bank presented s
  | .arbCounterClear src => Sys2Proof.Machine.execArbCounterClear src s
  | .stagingCheckDone token => Sys2Proof.Machine.execStagingCheckDone token s
  | .stagingTimeout token => Sys2Proof.Machine.execStagingTimeout token s
  | .mediaNowRecompute => Sys2Proof.Machine.execMediaNowRecompute s
  | .shedFrameBoundary => Sys2Proof.Machine.execShedFrameBoundary s
  | .deferredRecordForm chan => Sys2Proof.Machine.execDeferredRecordForm chan s
  | .bfreePush src v => Sys2Proof.Machine.execBfreePush src v s
  | .ldgSysWrite src gen v => Sys2Proof.Machine.execLdgSysWrite src gen v s
  | .srecAppend src => Sys2Proof.Machine.execSrecAppend src s
  | .srecBegin src bushel => Sys2Proof.Machine.execSrecBegin src bushel s
  | .systemRecordFormed => Sys2Proof.Machine.execSystemRecordFormed s
  | .scanStart src checkpoint directory => Sys2Proof.Machine.execScanStart src checkpoint directory s
  | .scanComplete media => Sys2Proof.Machine.execScanComplete media s
  | .chainMark period backward index tornA tornB => Sys2Proof.Machine.execChainMark period backward index tornA tornB s
  | .chainSilence tornA tornB => Sys2Proof.Machine.execChainSilence tornA tornB s
  | .zoneMultiplierSettle ch => Sys2Proof.Machine.execZoneMultiplierSettle ch s
  | .tableApply src => Sys2Proof.Machine.execTableApply src s
  | .bmapWrite src b v => Sys2Proof.Machine.execBmapWrite src b v s
  | .writeGateOpen ch => Sys2Proof.Machine.execWriteGateOpen ch s
  | .recordWritten ch => Sys2Proof.Machine.execRecordWritten ch s
  | .preampWriteFault ch low torn => Sys2Proof.Machine.execPreampWriteFault ch low torn s
  | .sectorReadComplete ch edges sync dram decoded => Sys2Proof.Machine.execSectorReadComplete ch edges sync dram decoded s
  | .sectorReadPortGo src ch => Sys2Proof.Machine.execSectorReadPortGo src ch s
  | .aevArm src a v => Sys2Proof.Machine.execAevArm src a v s
  | .aevDisarm src a => Sys2Proof.Machine.execAevDisarm src a s
  | .aevFire a => Sys2Proof.Machine.execAevFire a s
  | .servoSample a sam parity burst y t torn => Sys2Proof.Machine.execServoSample a sam parity burst y t torn s
  | .seekTimeout a => Sys2Proof.Machine.execSeekTimeout a s
  | .lostTimeout a => Sys2Proof.Machine.execLostTimeout a s
  | .spindleSample period shock tornA tornB => Sys2Proof.Machine.execSpindleSample period shock tornA tornB s
  | .actSeek src a => Sys2Proof.Machine.execActSeek src a s
  | .actPark src a torn => Sys2Proof.Machine.execActPark src a torn s
  | .actAcquire src a => Sys2Proof.Machine.execActAcquire src a s
  | .channelSeekTarget ch track head => Sys2Proof.Machine.execChannelSeekTarget ch track head s
  | .loadTimeout a => Sys2Proof.Machine.execLoadTimeout a s
  | .loopSwap src v => Sys2Proof.Machine.execLoopSwap src v s
  | .coefBankWrite src addr v => Sys2Proof.Machine.execCoefBankWrite src addr v s
  | .loopCtrlWrite src v => Sys2Proof.Machine.execLoopCtrlWrite src v s
  | .shockAssert reading tornA tornB => Sys2Proof.Machine.execShockAssert reading tornA tornB s
  | .shockRelease => Sys2Proof.Machine.execShockRelease s
  | .shockHoldEnd a => Sys2Proof.Machine.execShockHoldEnd a s
  | .shockQuietEnd a => Sys2Proof.Machine.execShockQuietEnd a s
  | .spindleStart src dir => Sys2Proof.Machine.execSpindleStart src dir s
  | .spindleStop src => Sys2Proof.Machine.execSpindleStop src s
  | .spindleHeat src auto => Sys2Proof.Machine.execSpindleHeat src auto s
  | .detectDone turning backward rpm8 => Sys2Proof.Machine.execDetectDone turning backward rpm8 s
  | .brakeEnd => Sys2Proof.Machine.execBrakeEnd s
  | .brakeTimeout => Sys2Proof.Machine.execBrakeTimeout s
  | .senseDone times => Sys2Proof.Machine.execSenseDone times s
  | .rampStep crossing => Sys2Proof.Machine.execRampStep crossing s
  | .bemfZeroCrossing interval onTime flyback backward => Sys2Proof.Machine.execBemfZeroCrossing interval onTime flyback backward s
  | .kickBrakeEnd => Sys2Proof.Machine.execKickBrakeEnd s
  | .commutationLost => Sys2Proof.Machine.execCommutationLost s
  | .startTimeout => Sys2Proof.Machine.execStartTimeout s
  | .startGapEnd => Sys2Proof.Machine.execStartGapEnd s
  | .failPauseEnd => Sys2Proof.Machine.execFailPauseEnd s
  | .heaterMeasure r => Sys2Proof.Machine.execHeaterMeasure r s
  | .heatTimeout => Sys2Proof.Machine.execHeatTimeout s
  | .energyMeasure vhold => Sys2Proof.Machine.execEnergyMeasure vhold s
  | .energyReopen => Sys2Proof.Machine.execEnergyReopen s
  | .dlHeartbeat => Sys2Proof.Machine.execDlHeartbeat s
  | .dlActuatorFrame => Sys2Proof.Machine.execDlActuatorFrame s
  | .dlSpindleFrame => Sys2Proof.Machine.execDlSpindleFrame s
  | .dlMeasureFrame seq vhold vin gap => Sys2Proof.Machine.execDlMeasureFrame seq vhold vin gap s
  | .dlStateFrame seq retA retB rampA rampB loadedA loadedB harvest charger tornA tornB gap => Sys2Proof.Machine.execDlStateFrame seq retA retB rampA rampB loadedA loadedB harvest charger tornA tornB gap s
  | .dlPwrfailFrame seq gap => Sys2Proof.Machine.execDlPwrfailFrame seq gap s
  | .powerDieAutoRetract => Sys2Proof.Machine.execPowerDieAutoRetract s
  | .dielinkDown tornA tornB => Sys2Proof.Machine.execDielinkDown tornA tornB s
  | .powerLossVin => Sys2Proof.Machine.execPowerLossVin s
  | .powerLossVhold => Sys2Proof.Machine.execPowerLossVhold s
  | .plPortClose => Sys2Proof.Machine.execPlPortClose s
  | .plQueueEmpty a => Sys2Proof.Machine.execPlQueueEmpty a s
  | .plDrainTimeout tornA tornB => Sys2Proof.Machine.execPlDrainTimeout tornA tornB s
  | .plBothParked => Sys2Proof.Machine.execPlBothParked s
  | .logicDieBrownout => Sys2Proof.Machine.execLogicDieBrownout s
  | .vinValid vhold => Sys2Proof.Machine.execVinValid vhold s
  | .harvestAtNL => Sys2Proof.Machine.execHarvestAtNL s
  | .harvestEnd => Sys2Proof.Machine.execHarvestEnd s
  | .retractComplete a spent => Sys2Proof.Machine.execRetractComplete a spent s
  | .ovrMirrorFrameRx frame => Sys2Proof.Machine.execOvrMirrorFrameRx frame s
  | .ovrSealNoteRx frame => Sys2Proof.Machine.execOvrSealNoteRx frame s
  | .ovrCancelRx frame => Sys2Proof.Machine.execOvrCancelRx frame s
  | .ovrHeartbeatRx frame => Sys2Proof.Machine.execOvrHeartbeatRx frame s
  | .ovrInvalidFrameRx fresh => Sys2Proof.Machine.execOvrInvalidFrameRx fresh s
  | .ovrLinkSilence => Sys2Proof.Machine.execOvrLinkSilence s
  | .ovrHeartbeatSend => Sys2Proof.Machine.execOvrHeartbeatSend s
  | .mirrorFrameQueue chan => Sys2Proof.Machine.execMirrorFrameQueue chan s
  | .catchUpSend chan media => Sys2Proof.Machine.execCatchUpSend chan media s
  | .provTimeout chan => Sys2Proof.Machine.execProvTimeout chan s
  | .ovrConfigWrite src addr v => Sys2Proof.Machine.execOvrConfigWrite src addr v s
  | .nmtStartRemoteNode node => Sys2Proof.Machine.execNmtStartRemoteNode node s
  | .nmtStopRemoteNode node => Sys2Proof.Machine.execNmtStopRemoteNode node s
  | .nmtEnterPreOperational node => Sys2Proof.Machine.execNmtEnterPreOperational node s
  | .nmtResetCommunication node => Sys2Proof.Machine.execNmtResetCommunication node s
  | .nmtResetNode node => Sys2Proof.Machine.execNmtResetNode node s
  | .dictEnable src => Sys2Proof.Machine.execDictEnable src s
  | .canHeartbeatSend => Sys2Proof.Machine.execCanHeartbeatSend s
  | .emcySend => Sys2Proof.Machine.execEmcySend s
  | .canTimeFrame cob data => Sys2Proof.Machine.execCanTimeFrame cob data s
  | .canErrorPassive tec rec => Sys2Proof.Machine.execCanErrorPassive tec rec s
  | .canBusOff => Sys2Proof.Machine.execCanBusOff s
  | .canBusOffRecovery => Sys2Proof.Machine.execCanBusOffRecovery s
  | .canRxOverrun => Sys2Proof.Machine.execCanRxOverrun s
  | .sdoInitiate data => Sys2Proof.Machine.execSdoInitiate data s
  | .sdoSegment data => Sys2Proof.Machine.execSdoSegment data s
  | .sdoTimeout => Sys2Proof.Machine.execSdoTimeout s
  | .bulkWrInit frame => Sys2Proof.Machine.execBulkWrInit frame s
  | .bulkRdInit frame => Sys2Proof.Machine.execBulkRdInit frame s
  | .bulkSeg frame => Sys2Proof.Machine.execBulkSeg frame s
  | .bulkWinAck frame => Sys2Proof.Machine.execBulkWinAck frame s
  | .bulkEnd frame => Sys2Proof.Machine.execBulkEnd frame s
  | .bulkEndAck frame => Sys2Proof.Machine.execBulkEndAck frame s
  | .bulkAbort frame => Sys2Proof.Machine.execBulkAbort frame s
  | .bulkAckTimer => Sys2Proof.Machine.execBulkAckTimer s
  | .bulkTimeout => Sys2Proof.Machine.execBulkTimeout s
  | .dictQueueServe => Sys2Proof.Machine.execDictQueueServe s
  | .dictFwPost src v => Sys2Proof.Machine.execDictFwPost src v s
  | .dictFwTimeout => Sys2Proof.Machine.execDictFwTimeout s
  | .rpdoRx n data => Sys2Proof.Machine.execRpdoRx n data s
  | .tpdoSample => Sys2Proof.Machine.execTpdoSample s
  | .tpdoEventTimer n => Sys2Proof.Machine.execTpdoEventTimer n s
  | .timeStart src => Sys2Proof.Machine.execTimeStart src s
  | .dmtWrap => Sys2Proof.Machine.execDmtWrap s
  | .coreLoad h addr size rd ilen signed fetch => Sys2Proof.Machine.execCoreLoad h addr size rd ilen signed fetch s
  | .coreStore h addr size rs ilen => Sys2Proof.Machine.execCoreStore h addr size rs ilen s
  | .coreAmo h addr op rd rs => Sys2Proof.Machine.execCoreAmo h addr op rd rs s
  | .coreLr h addr rd => Sys2Proof.Machine.execCoreLr h addr rd s
  | .coreSc h addr rd rs => Sys2Proof.Machine.execCoreSc h addr rd rs s
  | .fenceI h => Sys2Proof.Machine.execFenceI h s
  | .cboClean h addr => Sys2Proof.Machine.execCboClean h addr s
  | .cboFlush h addr => Sys2Proof.Machine.execCboFlush h addr s
  | .cboInval h addr => Sys2Proof.Machine.execCboInval h addr s
  | .cboZero h addr => Sys2Proof.Machine.execCboZero h addr s
  | .cacheFillComplete h => Sys2Proof.Machine.execCacheFillComplete h s
  | .victimWritebackComplete => Sys2Proof.Machine.execVictimWritebackComplete s
  | .cacheRangeClean src => Sys2Proof.Machine.execCacheRangeClean src s
  | .cacheRangeFlush src => Sys2Proof.Machine.execCacheRangeFlush src s
  | .cacheRangeInvalidate src => Sys2Proof.Machine.execCacheRangeInvalidate src s
  | .cacheRangeZero src => Sys2Proof.Machine.execCacheRangeZero src s
  | .sweeperStep => Sys2Proof.Machine.execSweeperStep s
  | .cacheControlWrite src nc v => Sys2Proof.Machine.execCacheControlWrite src nc v s
  | .mtimecmpHiWrite src c v => Sys2Proof.Machine.execMtimecmpHiWrite src c v s
  | .machineTimerInterrupt h => Sys2Proof.Machine.execMachineTimerInterrupt h s
  | .scrubStep upsets => Sys2Proof.Machine.execScrubStep upsets s
  | .walkerStep mem word upset double synd => Sys2Proof.Machine.execWalkerStep mem word upset double synd s
  | .grainRepairDone body => Sys2Proof.Machine.execGrainRepairDone body s
  | .ceLogPop src => Sys2Proof.Machine.execCeLogPop src s
  | .ueLogPop src => Sys2Proof.Machine.execUeLogPop src s
  | .retireMapWrite src j v => Sys2Proof.Machine.execRetireMapWrite src j v s
  | .haltRepair src chan page => Sys2Proof.Machine.execHaltRepair src chan page s
  | .haltSplit src chan => Sys2Proof.Machine.execHaltSplit src chan s
  | .xtalReady => Sys2Proof.Machine.execXtalReady s
  | .pllEnable src v => Sys2Proof.Machine.execPllEnable src v s
  | .pllLocked => Sys2Proof.Machine.execPllLocked s
  | .clkSrcWrite src v => Sys2Proof.Machine.execClkSrcWrite src v s
  | .clockSwitchComplete => Sys2Proof.Machine.execClockSwitchComplete s
  | .xtalStopped => Sys2Proof.Machine.execXtalStopped s
  | .freezeAssert => Sys2Proof.Machine.execFreezeAssert s
  | .freezeRelease => Sys2Proof.Machine.execFreezeRelease s
  | .jtagExtest => Sys2Proof.Machine.execJtagExtest s
  | .jtagIdcode => Sys2Proof.Machine.execJtagIdcode s
  | .jtagSamplePreload => Sys2Proof.Machine.execJtagSamplePreload s
  | .jtagFrzStat => Sys2Proof.Machine.execJtagFrzStat s
  | .jtagFrzRead adr => Sys2Proof.Machine.execJtagFrzRead adr s
  | .jtagBypass => Sys2Proof.Machine.execJtagBypass s
  | .tapReset => Sys2Proof.Machine.execTapReset s
  | .sensorSample sensor reading tornA tornB => Sys2Proof.Machine.execSensorSample sensor reading tornA tornB s
  | .thresholdSlotWrite src slot w v => Sys2Proof.Machine.execThresholdSlotWrite src slot w v s
  | .ageMinute => Sys2Proof.Machine.execAgeMinute s
  | .eventRecord => Sys2Proof.Machine.execEventRecord s
  | .coalesceWindowClose code unit => Sys2Proof.Machine.execCoalesceWindowClose code unit s
  | .evrClear src => Sys2Proof.Machine.execEvrClear src s
  | .railsUp => Sys2Proof.Machine.execRailsUp s
  | .bootRomRun image => Sys2Proof.Machine.execBootRomRun image s
  | .coreRelease src h => Sys2Proof.Machine.execCoreRelease src h s
  | .coreReset src h => Sys2Proof.Machine.execCoreReset src h s
  | .resumeApply src => Sys2Proof.Machine.execResumeApply src s
  | .resumeDiscard src => Sys2Proof.Machine.execResumeDiscard src s
  | .bootFloorWrite src v => Sys2Proof.Machine.execBootFloorWrite src v s
  | .resetNAssert => Sys2Proof.Machine.execResetNAssert s
  | .softwareReset src => Sys2Proof.Machine.execSoftwareReset src s
  | .wdtKick src v => Sys2Proof.Machine.execWdtKick src v s
  | .watchdogExpiry => Sys2Proof.Machine.execWatchdogExpiry s
  | .deferredResetEffect => Sys2Proof.Machine.execDeferredResetEffect s
  | .logicDieResetRelease => Sys2Proof.Machine.execLogicDieResetRelease s
  | .ovoreFrameSent => Sys2Proof.Machine.execOvoreFrameSent s
  | .laneTrained lane gained => Sys2Proof.Machine.execLaneTrained lane gained s
  | .dlBadCrcFrame => Sys2Proof.Machine.execDlBadCrcFrame s
  | .canErrorActive => Sys2Proof.Machine.execCanErrorActive s
  | .vaonOutOfRegulation => Sys2Proof.Machine.execVaonOutOfRegulation s

end Sys2Proof.Machine
end

