-- ==== Sys2Proof/WellFormed.lean ====
section
/-! DEFINITION. Well-formed commands: every operand within what the spec's numbering gives it. -/

namespace Sys2Proof

/-- A writer of registers (spec/17 R357): the keeper, a hart in machine mode, a hart in user mode. -/
def srcOk (src : Nat) : Bool := decide (src = 0) || (decide (0x10 ≤ src) && decide (src ≤ 0x17))

/-- A sensor (spec/17 R347): TS0 to TS5, VM0 to VM7, PM0 to PM3. -/
def sensorOk (n : Nat) : Bool := decide (n ≤ 5) || (decide (8 ≤ n) && decide (n ≤ 19))

/-- The operands of a command lie in their ranges. -/
def Instr.wf (i : Instr) : Bool :=
  match i with
  | .registerWrite src addr _ => srcOk src && decide (addr < 2 ^ 32)
  | .spBsyMaxRead => true
  | .arbStatRead n => decide (n < 12)
  | .shkLastRead => true
  | .eccCntRead b => decide (b < 16)
  | .clkStopRead => true
  | .dmtLoRead => true
  | .spWriteGrains tid chan len _ _ _ => decide (tid < 16) && decide (chan < 64) && decide (len < 65536)
  | .spReadStream tid chan len _ => decide (tid < 16) && decide (chan < 64) && decide (len < 65536)
  | .spMgmtWrite tid chan len _ _ _ _ => decide (tid < 16) && decide (chan < 64) && decide (len < 65536)
  | .spMgmtRead tid chan len _ => decide (tid < 16) && decide (chan < 64) && decide (len < 65536)
  | .spDoorbell tid chan len _ => decide (tid < 16) && decide (chan < 64) && decide (len < 65536)
  | .spNop tid chan len _ => decide (tid < 16) && decide (chan < 64) && decide (len < 65536)
  | .spReservedTypeHeader _ _ => true
  | .spReadDataReady _ => true
  | .commitEdge _ sq _ => decide (sq < 256)
  | .spFrameAbort => true
  | .spStallTimeout => true
  | .spStatusLost => true
  | .spFrmOutOfTurn => true
  | .cartridgeRemoval => true
  | .cartridgeSeated => true
  | .qdbWrite src _ => srcOk src
  | .queueConfigWrite src addr _ => srcOk src && decide (addr < 2 ^ 32)
  | .poolConfigWrite src addr _ => srcOk src && decide (addr < 2 ^ 32)
  | .descriptorFetch sq => decide (sq < 256)
  | .readGrains sq => decide (sq < 256)
  | .readGrainsComplete sq => decide (sq < 256)
  | .queryHead sq => decide (sq < 256)
  | .seal sq => decide (sq < 256)
  | .openChannel sq => decide (sq < 256)
  | .closeChannel sq => decide (sq < 256)
  | .releaseBushel sq => decide (sq < 256)
  | .verifyRange sq => decide (sq < 256)
  | .verifyRangeComplete sq _ _ => decide (sq < 256)
  | .flush sq => decide (sq < 256)
  | .mirrorResync sq => decide (sq < 256)
  | .readEvents sq => decide (sq < 256)
  | .zeroWindow sq => decide (sq < 256)
  | .zeroWindowComplete sq => decide (sq < 256)
  | .setReservation sq => decide (sq < 256)
  | .queuedWriteGrains sq => decide (sq < 256)
  | .forwardedOpcode sq => decide (sq < 256)
  | .fwdPost src _ => srcOk src
  | .sessionChallenge tid => decide (tid < 16)
  | .sessionRespond tid => decide (tid < 16)
  | .sessionClose tid => decide (tid < 16)
  | .nonceExpiry tid => decide (tid < 16)
  | .lockoutExpiry tid => decide (tid < 16)
  | .tenantConfigWrite src t _ => srcOk src && decide (t < 16)
  | .keyWrite src t i _ => srcOk src && decide (t < 16) && decide (i < 8)
  | .chanRightsWrite src n _ => srcOk src && decide (n < 64)
  | .windowConfigWrite src t w _ _ => srcOk src && decide (t < 16) && decide (w < 8)
  | .bufRegionWrite src _ _ => srcOk src
  | .mirrorRateWrite src _ => srcOk src
  | .bankArbitration bank _ _ => decide (bank < 16)
  | .grantCutoff bank _ => decide (bank < 16)
  | .arbCounterClear src => srcOk src
  | .stagingCheckDone _ => true
  | .stagingTimeout _ => true
  | .mediaNowRecompute => true
  | .shedFrameBoundary => true
  | .deferredRecordForm chan => decide (chan < 64)
  | .bfreePush src _ => srcOk src
  | .ldgSysWrite src _ _ => srcOk src
  | .srecAppend src => srcOk src
  | .srecBegin src bushel => srcOk src && decide (bushel < 2)
  | .systemRecordFormed => true
  | .scanStart src _ _ => srcOk src
  | .scanComplete _ => true
  | .chainMark period _ _ _ _ => decide (0 < period)
  | .chainSilence _ _ => true
  | .zoneMultiplierSettle ch => decide (ch < 2)
  | .tableApply src => srcOk src
  | .bmapWrite src b _ => srcOk src && decide (b < 8192)
  | .writeGateOpen ch => decide (ch < 2)
  | .recordWritten ch => decide (ch < 2)
  | .preampWriteFault ch _ _ => decide (ch < 2)
  | .sectorReadComplete ch _ _ _ _ => decide (ch < 2)
  | .sectorReadPortGo src ch => srcOk src && decide (ch < 2)
  | .aevArm src a _ => srcOk src && decide (a < 16)
  | .aevDisarm src a => srcOk src && decide (a < 16)
  | .aevFire a => decide (a < 16)
  | .servoSample a _ _ _ _ _ _ => decide (a < 2)
  | .seekTimeout a => decide (a < 2)
  | .lostTimeout a => decide (a < 2)
  | .spindleSample period _ _ _ => decide (0 < period)
  | .actSeek src a => srcOk src && decide (a < 2)
  | .actPark src a _ => srcOk src && decide (a < 2)
  | .actAcquire src a => srcOk src && decide (a < 2)
  | .channelSeekTarget ch track head => decide (ch < 2) && decide (track < 2 ^ 20) && decide (head < 8)
  | .loadTimeout a => decide (a < 2)
  | .loopSwap src _ => srcOk src
  | .coefBankWrite src addr _ => srcOk src && decide (addr < 2 ^ 32)
  | .loopCtrlWrite src _ => srcOk src
  | .shockAssert _ _ _ => true
  | .shockRelease => true
  | .shockHoldEnd a => decide (a < 2)
  | .shockQuietEnd a => decide (a < 2)
  | .spindleStart src _ => srcOk src
  | .spindleStop src => srcOk src
  | .spindleHeat src _ => srcOk src
  | .detectDone _ _ _ => true
  | .brakeEnd => true
  | .brakeTimeout => true
  | .senseDone _ => true
  | .rampStep _ => true
  | .bemfZeroCrossing _ _ _ _ => true
  | .kickBrakeEnd => true
  | .commutationLost => true
  | .startTimeout => true
  | .startGapEnd => true
  | .failPauseEnd => true
  | .heaterMeasure _ => true
  | .heatTimeout => true
  | .energyMeasure _ => true
  | .energyReopen => true
  | .dlHeartbeat => true
  | .dlActuatorFrame => true
  | .dlSpindleFrame => true
  | .dlMeasureFrame _ _ _ _ => true
  | .dlStateFrame _ _ _ _ _ _ _ _ _ _ _ _ => true
  | .dlPwrfailFrame _ _ => true
  | .powerDieAutoRetract => true
  | .dielinkDown _ _ => true
  | .powerLossVin => true
  | .powerLossVhold => true
  | .plPortClose => true
  | .plQueueEmpty a => decide (a < 2)
  | .plDrainTimeout _ _ => true
  | .plBothParked => true
  | .logicDieBrownout => true
  | .vinValid _ => true
  | .harvestAtNL => true
  | .harvestEnd => true
  | .retractComplete a _ => decide (a < 2)
  | .ovrMirrorFrameRx frame => decide (16 ≤ frame.length)
  | .ovrSealNoteRx frame => decide (16 ≤ frame.length)
  | .ovrCancelRx frame => decide (16 ≤ frame.length)
  | .ovrHeartbeatRx frame => decide (16 ≤ frame.length)
  | .ovrInvalidFrameRx _ => true
  | .ovrLinkSilence => true
  | .ovrHeartbeatSend => true
  | .mirrorFrameQueue chan => decide (chan < 64)
  | .catchUpSend chan _ => decide (chan < 64)
  | .provTimeout chan => decide (chan < 64)
  | .ovrConfigWrite src addr _ => srcOk src && decide (addr < 2 ^ 32)
  | .nmtStartRemoteNode _ => true
  | .nmtStopRemoteNode _ => true
  | .nmtEnterPreOperational _ => true
  | .nmtResetCommunication _ => true
  | .nmtResetNode _ => true
  | .dictEnable src => srcOk src
  | .canHeartbeatSend => true
  | .emcySend => true
  | .canTimeFrame _ data => decide (data.length ≤ 8)
  | .canErrorPassive _ _ => true
  | .canBusOff => true
  | .canBusOffRecovery => true
  | .canRxOverrun => true
  | .sdoInitiate data => decide (data.length = 8)
  | .sdoSegment data => decide (data.length = 8)
  | .sdoTimeout => true
  | .bulkWrInit frame => decide (frame.length = 64)
  | .bulkRdInit frame => decide (frame.length = 64)
  | .bulkSeg frame => decide (frame.length = 64)
  | .bulkWinAck frame => decide (frame.length = 64)
  | .bulkEnd frame => decide (frame.length = 64)
  | .bulkEndAck frame => decide (frame.length = 64)
  | .bulkAbort frame => decide (frame.length = 64)
  | .bulkAckTimer => true
  | .bulkTimeout => true
  | .dictQueueServe => true
  | .dictFwPost src _ => srcOk src
  | .dictFwTimeout => true
  | .rpdoRx n data => decide (n < 8) && decide (data.length ≤ 8)
  | .tpdoSample => true
  | .tpdoEventTimer n => decide (n < 8)
  | .timeStart src => srcOk src
  | .dmtWrap => true
  | .coreLoad h addr size rd ilen _ _ => decide (h < 4) && decide (addr < 2 ^ 32) && decide (size = 1 ∨ size = 2 ∨ size = 4) && decide (rd < 32) && decide (ilen = 2 ∨ ilen = 4)
  | .coreStore h addr size rs ilen => decide (h < 4) && decide (addr < 2 ^ 32) && decide (size = 1 ∨ size = 2 ∨ size = 4) && decide (rs < 32) && decide (ilen = 2 ∨ ilen = 4)
  | .coreAmo h addr op rd rs => decide (h < 4) && decide (addr < 2 ^ 32) && decide (op < 9) && decide (rd < 32) && decide (rs < 32)
  | .coreLr h addr rd => decide (h < 4) && decide (addr < 2 ^ 32) && decide (rd < 32)
  | .coreSc h addr rd rs => decide (h < 4) && decide (addr < 2 ^ 32) && decide (rd < 32) && decide (rs < 32)
  | .fenceI h => decide (h < 4)
  | .cboClean h addr => decide (h < 4) && decide (addr < 2 ^ 32)
  | .cboFlush h addr => decide (h < 4) && decide (addr < 2 ^ 32)
  | .cboInval h addr => decide (h < 4) && decide (addr < 2 ^ 32)
  | .cboZero h addr => decide (h < 4) && decide (addr < 2 ^ 32)
  | .cacheFillComplete h => decide (h < 4)
  | .victimWritebackComplete => true
  | .cacheRangeClean src => srcOk src
  | .cacheRangeFlush src => srcOk src
  | .cacheRangeInvalidate src => srcOk src
  | .cacheRangeZero src => srcOk src
  | .sweeperStep => true
  | .cacheControlWrite src _ _ => srcOk src
  | .mtimecmpHiWrite src c _ => srcOk src && decide (c < 4)
  | .machineTimerInterrupt h => decide (h < 4)
  | .scrubStep _ => true
  | .walkerStep mem _ _ _ _ => decide (1 ≤ mem ∧ mem ≤ 6)
  | .grainRepairDone _ => true
  | .ceLogPop src => srcOk src
  | .ueLogPop src => srcOk src
  | .retireMapWrite src i _ => srcOk src && decide (i < 128)
  | .haltRepair src chan page => srcOk src && decide (chan < 64) && decide (page < 4096)
  | .haltSplit src chan => srcOk src && decide (chan < 64)
  | .xtalReady => true
  | .pllEnable src _ => srcOk src
  | .pllLocked => true
  | .clkSrcWrite src _ => srcOk src
  | .clockSwitchComplete => true
  | .xtalStopped => true
  | .freezeAssert => true
  | .freezeRelease => true
  | .jtagExtest => true
  | .jtagIdcode => true
  | .jtagSamplePreload => true
  | .jtagFrzStat => true
  | .jtagFrzRead _ => true
  | .jtagBypass => true
  | .tapReset => true
  | .sensorSample sensor _ _ _ => sensorOk sensor
  | .thresholdSlotWrite src slot w _ => srcOk src && decide (slot < 32) && decide (w < 3)
  | .ageMinute => true
  | .eventRecord => true
  | .coalesceWindowClose _ _ => true
  | .evrClear src => srcOk src
  | .railsUp => true
  | .bootRomRun _ => true
  | .coreRelease src h => srcOk src && decide (h < 4)
  | .coreReset src h => srcOk src && decide (h < 4)
  | .resumeApply src => srcOk src
  | .resumeDiscard src => srcOk src
  | .bootFloorWrite src _ => srcOk src
  | .resetNAssert => true
  | .softwareReset src => srcOk src
  | .wdtKick src _ => srcOk src
  | .watchdogExpiry => true
  | .deferredResetEffect => true
  | .logicDieResetRelease => true
  | .ovoreFrameSent => true
  | .laneTrained lane _ => decide (lane < 2)
  | .dlBadCrcFrame => true
  | .canErrorActive => true
  | .vaonOutOfRegulation => true

end Sys2Proof
end

