-- ==== Sys2Proof/Safety.lean ====
section
/-! DEFINITION. What counts as a safe run, in the terms the statements use: the commands that wait are well formed, and
which parts of the state two states share. -/

namespace Sys2Proof.Machine

/-- The waiting commands are well formed. -/
def State.queueOk (s : State) : Bool := s.pending.all Instr.wf

/-! ## Frames -/

/-- Every register field that lies elsewhere than the listed ones reads the same in both states. -/
def fieldsKept (s t : State) (l : List (Field × Nat)) : Prop :=
  ∀ (f : Field) (i : Nat), (∀ e ∈ l, f.key i ≠ e.1.key e.2) → t.getF f i = s.getF f i

/-- `t` differs from `s` at most in the listed register fields. -/
def onlyFields (s t : State) (l : List (Field × Nat)) : Prop :=
  t = { s with regs := t.regs } ∧ fieldsKept s t l

/-- `t` differs from `s` at most in the listed register fields and in the event recorder. -/
def onlyFieldsEvr (s t : State) (l : List (Field × Nat)) : Prop :=
  t = { s with regs := t.regs, evr := t.evr } ∧ fieldsKept s t l

/-! ## The Stream Port -/

/-- A header has been answered (spec/02 R37): SP_RDY of H0 and of H1, SP_BSY_N of H1, the words that follow and the counter
`cnt`; nothing else has changed. -/
def answered (s t : State) (r0 r1 bsy1 : Bool) (out : List Word) (cnt : Field) : Prop :=
  onlyFields { s with port := { s.port with rdy0 := r0, rdy1 := r1, bsy1 := bsy1, bsyN := true, out := out } } t [(cnt, 0)] ∧
    t.getF cnt = (s.getF cnt + 1) % 2 ^ 32

/-- A header is refused with `code` (spec/02 R37, R46): SP_BSY_N is low in H1, status word 0 and `head` follow. -/
def refusedWith (s t : State) (r0 : Bool) (ty tid chan code : Nat) (head : Word) : Prop :=
  answered s t r0 false false [statusWord ty tid chan 0 code, head] Reg.SP_CNT_REFUSE_COUNT

/-- A header meets HOLD (spec/02 R37): SP_BSY_N stays high in H1. -/
def heldBack (s t : State) (r0 : Bool) : Prop := answered s t r0 false true [] Reg.SP_CNT_HOLD_COUNT

/-- A header may be judged: the port is open and no frame is on it (spec/02 R36, R38). -/
def State.portTurn (s : State) : Bool := s.portOpen && s.port.frame.isNone

/-- The tenant may write the channel: its session is open and it has the write right (spec/04 R83). -/
def State.mayFrame (s : State) (tid n : Nat) : Bool := s.sessionOpen tid && s.mayWrite tid n

/-- Steps 7 and 8 of spec/02 R38 pass: the channel is open and not closed, and not halted. -/
def State.chanReady (s : State) (n : Nat) : Bool := (s.chan n).accepts && !(s.chan n).halted

/-- Step 9 passes: admission is open for the class and the energy credit is there. -/
def State.energyStep (s : State) (n : Nat) : Bool := s.admitOpen (s.chan n).cls && s.energyOk n (s.chan n).frameMax

/-- Step 10 passes: pages, tag and slots are there, the channel is not being shed and no other write to it is in flight. -/
def State.creditStep (s : State) (n : Nat) (owner : Option Nat) : Bool :=
  s.poolsOk n (s.chan n).frameMax owner && !s.beingShed n && !s.writeBusy n

/-! ## Queues and completions -/

/-- Where the next completion entry of queue `cq` goes (spec/03 R55, R60). -/
def State.entryAddr (s : State) (cq : Nat) : Nat := s.qRing cq + 16 * s.getF Reg.QIDX_TAIL cq

/-- The completion queue `cq` is sound: its ring lies in its tenant's window (spec/04 R86), its next entry lies in the buffer,
its depth is one that R56 allows, and no word of the buffer is in error. -/
def State.ringSound (s : State) (cq : Nat) : Bool :=
  s.ringHeld cq && decide (s.entryAddr cq + 16 ≤ 0x1000000) && decide (s.qDepth cq ≤ 4096) && s.ecc.bad.isEmpty

/-- Command `c` has been completed with `code` and its results (spec/03 R60): it is in flight no more, its entry stands in its
completion queue and the tail has advanced. -/
def posted (s t : State) (c : Cmd) (code : Nat) (res0 res1 : Word) (fwd : Bool) : Prop :=
  t.cmds = s.cmds.filter (fun d => d.tag != c.tag) ∧
    t.getF Reg.QIDX_TAIL c.cq = (s.getF Reg.QIDX_TAIL c.cq + 1) % s.qDepth c.cq ∧
    ∀ k < 16, t.bufByte (s.entryAddr c.cq + k) =
      byteAt (entryBytes { cmdId := c.cmdId, res0 := res0, res1 := res1, code := code, irq := c.irq, fwd := fwd } c.sq c.sqHead false
        (s.queue c.cq).phase) k

/-- The buffer outside `n` bytes from `a` and outside the entry of command `c` is as before. -/
def bufKept (s t : State) (c : Cmd) (a n : Nat) : Prop :=
  ∀ x, (x < a ∨ a + n ≤ x) → (x < s.entryAddr c.cq ∨ s.entryAddr c.cq + 16 ≤ x) → t.bufByte x = s.bufByte x

/-- The command of opcode `op` that a row of queue `sq` acts on next: fetched, not begun, held back by no other. -/
def State.turn (s : State) (sq op : Nat) (c : Cmd) : Prop := s.fetched sq op = some c ∧ s.blocked c = false ∧ s.ringSound c.cq = true

/-! ## Registers without an effect of their own -/

/-- A register whose write does no more than its fields' access codes say (spec/00 R3): no row of the table and no other
rule gives it an effect. -/
def plainRegister (addr : Nat) : Bool :=
  let off := addr % 0x10000
  match regFields addr with
  | [] => false
  | (f, _) :: _ =>
    match f.blk with
    | 0 => !(List.contains [0x100, 0x104, 0x200, 0x208, 0x20C, 0x210, 0x228, 0x22C, 0x244, 0x248] off) &&
        !(decide (0x400 ≤ off) && decide (off < 0x480) && off % 32 == 0x14)
    | 1 => off != 0
    | 2 => !(List.contains [0, 0x10, 0x20, 0x24, 0x28, 0x58, 0x800] off) && !(decide (0x1000 ≤ off) && decide (off % 16 < 8))
    | 3 => decide (off < 0x100)
    | 4 => !(List.contains [0, 0x14, 0x20, 0x24, 0x120, 0x130] off)
    | 5 => !(List.contains [0x18, 0x28, 0x80] off) && decide (off < 0x400)
    | 6 => !(List.contains [0, 4, 0x38] off)
    | 7 => !(List.contains [0, 4, 0x100, 0x200] off) && decide (off < 0x1000)
    | 8 => !(List.contains [0, 8, 0x20, 0x50] off)
    | 9 => !(List.contains [0, 0x6C] off)
    | 11 => !(List.contains [0x28, 0x30] off) && decide (off < 0x7000)
    | 12 => !(List.contains [0, 8, 0x60, 0x64, 0x70] off)
    | 13 => decide (0x80 ≤ off) || (decide (4 ≤ off) && decide (off < 0x10)) || (decide (0x20 ≤ off) && decide (off < 0x40))
    | 14 => off != 0 && off != 0x30 && decide (off < 0x40)
    | 15 => off != 0
    | 16 => !(decide (0x200 ≤ off) && decide (off < 0x400))
    | 17 => off != 0
    | 18 => off != 0
    | _ => true

/-- The fields of a register lie apart: no two share a key, and each is at most 32 bits wide. -/
def registerApart (addr : Nat) : Bool :=
  decide ((regFields addr).Pairwise (fun a b => a.1.key a.2 ≠ b.1.key b.2)) && (regFields addr).all (fun e => decide (e.1.w ≤ 32))

/-! ## A stopped device -/

/-- `s` is the stopped device `r` as it stands (spec/16 R335 to R341): STOPPED is 1, and no more than these has moved: time in the always-on
domain, the power die, the TAP and what it reads, FREEZE_N, the crystal, the seating of the cartridge, the port's forced balls and the contents
of the NOR device. No waiting command is a power-on reset: neither RESET_N nor the loss of the rails, nor, past step 7 of a power
loss, the return of VIN (R396). -/
def State.standsAs (s r : State) : Prop :=
  s.clk.stopped = true ∧ (s.die = .running ∨ s.die = .reset) ∧ Instr.resetNAssert ∉ s.pending ∧ Instr.logicDieBrownout ∉ s.pending ∧
    (s.flag Reg.ENG_STATUS_PL_DONE = false ∨ ∀ v, Instr.vinValid v ∉ s.pending) ∧
    s = { r with
      pending := s.pending, freeCtr := s.freeCtr, power := s.power, tap := s.tap, nor := s.nor
      time := { r.time with dmt := s.time.dmt, frac := s.time.frac, epoch := s.time.epoch, wrap := s.time.wrap }
      port := { r.port with seated := s.port.seated, rdy0 := s.port.rdy0, rdy1 := s.port.rdy1, out := s.port.out }
      clk := { r.clk with freezeLow := s.clk.freezeLow, xtalStopped := s.clk.xtalStopped } }

end Sys2Proof.Machine
end

