-- ==== Sys2Proof/Certificates/Slice0/Obligations.lean ====
section
/-! DEFINITION. The statements for the provers, family by family in the order of the opcode table. A statement about a
command says what the next state holds and what stays; the rules cited are those of spec/. -/

section

open Sys2Proof Sys2Proof.Machine

/-! ## The queue and the tick -/

/-- A step takes the command at the front of the queue and answers its meaning on the state with the queue's rest. -/
def Obligations.StepRunsTheFrontCommand : Prop :=
  ∀ (c : Instr) (rest : List Instr) (s : State),
    step { s with pending := c :: rest } = exec c { s with pending := rest }

/-! ## Registers (spec/00 R2 to R6) -/

/-- REGISTER_WRITE to a register without an effect of its own: each field by its access code, and the two events. -/
def Obligations.RegisterWriteByAccessCode : Prop :=
  ∀ (s : State) (src addr : Nat) (v : Word), s.live = true → addr % 4 = 0 → plainRegister addr = true →
    registerApart addr = true →
    ∃ t, exec (.registerWrite src addr v) s = .next t ∧ onlyFieldsEvr s t (regFields addr) ∧
      (∀ (f : Field) (i : Nat), (f, i) ∈ regFields addr →
        match f.acc with
        | .rw => t.getF f i = if f.legal (bitsOf v.toNat f.lo f.w) then bitsOf v.toNat f.lo f.w else s.getF f i
        | .rwk => t.getF f i =
            if privileged src ∧ f.legal (bitsOf v.toNat f.lo f.w) then bitsOf v.toNat f.lo f.w else s.getF f i
        | .w1c => ∀ n < f.w, bitOf (t.getF f i) n = (bitOf (s.getF f i) n && !bitOf v.toNat (f.lo + n))
        | _ => t.getF f i = s.getF f i) ∧
      (let d : State := if (regFields addr).any (fun e => e.1.acc == .rwk) && !privileged src
          then s.denied src (regDetail addr) else s
       t.evr = (if (regFields addr).any (fun e => (e.1.acc == .rw || (e.1.acc == .rwk && privileged src)) &&
            !e.1.legal (bitsOf v.toNat e.1.lo e.1.w)) then d.reserved src (regDetail addr) else d).evr)

/-- REGISTER_WRITE elsewhere: where no register is named it is ignored; one that is not aligned traps the hart that makes it and changes no register.
The six rows that read a register with a read effect: the word read, and what the read changes. -/
def Obligations.RegisterReadsThatClear : Prop :=
  (∀ (s : State) (src addr : Nat) (v : Word), s.live = true →
    (addr % 4 = 0 → regFields addr = [] → exec (.registerWrite src addr v) s = .next s) ∧
    (addr % 4 ≠ 0 → 0x10 ≤ src → src < 0x18 → exec (.registerWrite src addr v) s = .next (s.trap (src % 4) 7 addr)) ∧
    (s.trap (src % 4) 7 addr).regs = s.regs) ∧
  (∀ s : State, s.live = true →
    (∃ t, exec .spBsyMaxRead s = .next t ∧ t.rdata = BitVec.ofNat 32 (s.getF Reg.SP_BSY_MAX_TIME) ∧
      t.getF Reg.SP_BSY_MAX_TIME = 0 ∧ t = { s with regs := t.regs, rdata := t.rdata } ∧
      fieldsKept s t [(Reg.SP_BSY_MAX_TIME, 0)]) ∧
    (∀ n < 12, ∃ t, exec (.arbStatRead n) s = .next t ∧
      t.rdata = BitVec.ofNat 32 (s.getF Reg.ARB_STAT_LWAIT n + 65536 * s.getF Reg.ARB_STAT_CUTS n) ∧
      t.getF Reg.ARB_STAT_LWAIT n = 0 ∧ t = { s with regs := t.regs, rdata := t.rdata } ∧
      fieldsKept s t [(Reg.ARB_STAT_LWAIT, n)]) ∧
    (∃ t, exec .shkLastRead s = .next t ∧ t.getF Reg.SHK_LAST_PEAK = 0 ∧
      t.rdata = BitVec.ofNat 32 (s.getF Reg.SHK_LAST_PEAK) ∧ t = { s with regs := t.regs, rdata := t.rdata } ∧
      fieldsKept s t [(Reg.SHK_LAST_PEAK, 0)]) ∧
    (∀ b < 16, ∃ t, exec (.eccCntRead b) s = .next t ∧
      t.rdata = BitVec.ofNat 32 (s.getF Reg.ECC_CNT_CE b + 65536 * s.getF Reg.ECC_CNT_UE b) ∧
      t.getF Reg.ECC_CNT_CE b = 0 ∧ t.getF Reg.ECC_CNT_UE b = 0 ∧ t = { s with regs := t.regs, rdata := t.rdata } ∧
      fieldsKept s t [(Reg.ECC_CNT_CE, b), (Reg.ECC_CNT_UE, b)]) ∧
    (∃ t, exec .clkStopRead s = .next t ∧ t.rdata = BitVec.ofNat 32 (s.clk.stopLast % 4) ∧ t.clk.stopLast = 0 ∧
      t = { s with rdata := t.rdata, clk := { s.clk with stopLast := 0 } }) ∧
    (∃ t, exec .dmtLoRead s = .next t ∧ t.rdata = BitVec.ofNat 32 (s.time.dmt.toNat % 2 ^ 32) ∧
      t.time.hiLatch.toNat = s.time.dmt.toNat / 2 ^ 32 ∧ t.regWord 0x400F000C = BitVec.ofNat 32 (s.time.dmt.toNat / 2 ^ 32) ∧
      t = { s with rdata := t.rdata, time := { s.time with hiLatch := t.time.hiLatch, hiHeld := true } }))

/-! ## The Stream Port (spec/02) -/

/-- Sequence numbers are compared modulo 2³² (R40), and the CRC-32C of the bytes "123456789" is 0xE306_9283 (R42). -/
def Obligations.SequenceOrderAndCrc : Prop :=
  (∀ x y : Word, seqLt x y = true ↔ 1 ≤ (y.toNat + 2 ^ 32 - x.toNat) % 2 ^ 32 ∧ (y.toNat + 2 ^ 32 - x.toNat) % 2 ^ 32 ≤ 2 ^ 31 - 1) ∧
  (∀ (seq : Word) (len k : Nat), k < len → (readSeqs seq len)[k]? = some (seq + BitVec.ofNat 32 k)) ∧
  crc32c [0x31, 0x32, 0x33, 0x34, 0x35, 0x36, 0x37, 0x38, 0x39] = 0xE3069283

/-- The order in which R38 and R39 turn a WRITE_GRAINS header away, each with its code and with nothing taken. -/
def Obligations.WriteHeaderTurnedAway : Prop :=
  ∀ (s : State) (tid n len : Nat) (seq trailer : Word) (data : List Word), s.portTurn = true →
    (s.mayFrame tid n = false → ∃ t, exec (.spWriteGrains tid n len seq data trailer) s = .next t ∧
      refusedWith s t false 0 tid n 6 0) ∧
    (s.mayFrame tid n = true → (s.chan n).accepts = false → ∃ t,
      exec (.spWriteGrains tid n len seq data trailer) s = .next t ∧ refusedWith s t false 0 tid n 5 0) ∧
    (s.mayFrame tid n = true → (s.chan n).accepts = true → (s.chan n).halted = true → ∃ t,
      exec (.spWriteGrains tid n len seq data trailer) s = .next t ∧ refusedWith s t false 0 tid n 7 (s.chan n).durable) ∧
    (s.mayFrame tid n = true → s.chanReady n = true → s.energyStep n = false → ∃ t,
      exec (.spWriteGrains tid n len seq data trailer) s = .next t ∧ refusedWith s t false 0 tid n 4 (s.chan n).durable) ∧
    (s.mayFrame tid n = true → s.chanReady n = true → s.energyStep n = true → s.creditStep n (some tid) = false → ∃ t,
      exec (.spWriteGrains tid n len seq data trailer) s = .next t ∧ t.port.rdy0 = false ∧ t.port.rdy1 = false ∧ t.port.bsy1 = true ∧
      t.port.out = [] ∧
      t.getF Reg.SP_CNT_HOLD_COUNT = (s.getF Reg.SP_CNT_HOLD_COUNT + 1) % 2 ^ 32 ∧
      t.getF Reg.LDG_EVENTS_NO_BUSHEL =
        (if s.willRoll n (s.chan n).frameMax && s.noBushel then 1 else s.getF Reg.LDG_EVENTS_NO_BUSHEL) ∧
      t = { s with regs := t.regs, port := t.port } ∧
      fieldsKept s t [(Reg.SP_CNT_HOLD_COUNT, 0), (Reg.LDG_EVENTS_NO_BUSHEL, 0)]) ∧
    (s.mayFrame tid n = true → s.chanReady n = true → s.energyStep n = true → s.creditStep n (some tid) = true →
      (len = 0 ∨ (s.chan n).frameMax < len → ∃ t, exec (.spWriteGrains tid n len seq data trailer) s = .next t ∧
        refusedWith s t true 0 tid n 6 0) ∧
      (1 ≤ len → len ≤ (s.chan n).frameMax → seqLt ((s.chan n).durable + 1) seq = true → ∃ t,
        exec (.spWriteGrains tid n len seq data trailer) s = .next t ∧ refusedWith s t true 0 tid n 2 (s.chan n).durable) ∧
      (1 ≤ len → len ≤ (s.chan n).frameMax → seqLe ((s.chan n).durable + 1) seq = false → ∃ t,
        exec (.spWriteGrains tid n len seq data trailer) s = .next t ∧ refusedWith s t true 0 tid n 1 (s.chan n).durable))

/-- An admitted WRITE_GRAINS frame: what is on the port, and that no head, record or channel has changed. -/
def Obligations.WriteFrameAdmitted : Prop :=
  ∀ (s : State) (tid n len : Nat) (trailer : Word) (data : List Word), s.portTurn = true → s.mayFrame tid n = true →
    s.chanReady n = true → s.energyStep n = true → s.creditStep n (some tid) = true → 1 ≤ len → len ≤ (s.chan n).frameMax →
    data.length = 1024 * len → s.spn ≠ 3 →
    ∃ (t : State) (f : Frame), exec (.spWriteGrains tid n len ((s.chan n).durable + 1) data trailer) s = .next t ∧
      t.port.frame = some f ∧ f.phase = .writing ∧ f.driven = true ∧ f.statusLost = false ∧ f.ty = 0 ∧ f.tid = tid ∧ f.chan = n ∧ f.len = len ∧
      f.word1 = (s.chan n).durable + 1 ∧ f.earmark = s.earmarkOf n len ∧ f.trailer = trailer ∧
      f.crc = crc32c (leBytes 4 (headerWord 0 tid n 0 len).toNat ++ leBytes 4 ((s.chan n).durable + 1).toNat ++ wordsBytes data) ∧
      f.pages = (s.takePages len (some tid)).2 ∧
      t.port.rdy0 = true ∧ t.port.rdy1 = true ∧ t.port.bsyN = false ∧
      t.getF Reg.SP_CNT_ACCEPT_COUNT = (s.getF Reg.SP_CNT_ACCEPT_COUNT + 1) % 2 ^ 32 ∧
      t.chans = s.chans ∧ t.rwc = s.rwc ∧ t.cmds = s.cmds ∧ t.bushels = s.bushels ∧ t.evr = s.evr ∧
      fieldsKept s t [(Reg.SP_CNT_ACCEPT_COUNT, 0)]

/-- Admission earmarks within the lendable amount (R24, spec/10 R219, R222): after an admitted frame ENG_COMMIT stands at or below ENG_LEND and has
risen by the earmark and, where it is due, the spin-up charge. -/
def Obligations.AdmissionStaysWithinLend : Prop :=
  ∀ (s : State) (tid n len : Nat) (trailer : Word) (data : List Word), s.portTurn = true → s.mayFrame tid n = true →
    s.chanReady n = true → s.energyStep n = true → s.creditStep n (some tid) = true → 1 ≤ len → len ≤ (s.chan n).frameMax →
    data.length = 1024 * len → s.spn ≠ 3 →
    ∃ t, exec (.spWriteGrains tid n len ((s.chan n).durable + 1) data trailer) s = .next t ∧ t.lend = s.lend ∧
      t.commit = s.commit + s.earmarkOf n len + (if s.needSpinup then s.getF Reg.ENG_SPINUP_E else 0) ∧ t.commit ≤ t.lend

/-- The commit edge of the frame on the port (R43): a wrong CRC or a halted channel leaves the head where it is and gives its code; otherwise
DURABLE_HEAD advances by the frame's grains. The status words carry the outcome and the head. -/
def Obligations.CommitEdgeOutcomes : Prop :=
  ∀ (s : State) (f : Frame) (sq bsy : Nat), s.live = true → s.port.frame = some f → f.phase = .writing → f.ty = 0 → f.driven = true →
    f.statusLost = false →
    (f.crc ≠ f.trailer → ∃ t, exec (.commitEdge false sq bsy) s = .next t ∧ t.port.frame = none ∧ t.port.bsyN = true ∧
      t.port.out = [statusWord 0 f.tid f.chan 0 3, (s.chan f.chan).durable] ∧
      (∀ m, (t.chan m).durable = (s.chan m).durable) ∧
      t.getF Reg.SP_CNT_CRCBAD_COUNT = (s.getF Reg.SP_CNT_CRCBAD_COUNT + 1) % 2 ^ 32) ∧
    (f.crc = f.trailer → ((s.chan f.chan).halted = true ∨ (s.chan f.chan).isOpen = false) → ∃ t,
      exec (.commitEdge false sq bsy) s = .next t ∧ t.port.frame = none ∧
      t.port.out = [statusWord 0 f.tid f.chan 0 7, (s.chan f.chan).durable] ∧ ∀ m, (t.chan m).durable = (s.chan m).durable) ∧
    (f.crc = f.trailer → (s.chan f.chan).halted = false → (s.chan f.chan).isOpen = true → ∃ t,
      exec (.commitEdge false sq bsy) s = .next t ∧ t.port.frame = none ∧
      t.port.out = [statusWord 0 f.tid f.chan f.len 0, (s.chan f.chan).durable + BitVec.ofNat 32 f.pages.length] ∧
      (t.chan f.chan).durable = (s.chan f.chan).durable + BitVec.ofNat 32 f.pages.length ∧
      (t.chan f.chan).lastCommit = s.stamp ∧ ∀ m, m ≠ f.chan → (t.chan m).durable = (s.chan m).durable)

/-- READ_STREAM (R38, R39, R44): the order in which a header is turned away, and the frame of one that is admitted, whose pages are read until its
last beat is sent. The words of an admitted MGMT_READ and of an admitted READ_STREAM are driven when its first word is ready (R44): the frame ends,
the last two words are the status, and a longer busy phase is kept. -/
def Obligations.ReadFramesServed : Prop :=
  (∀ (s : State) (tid n len : Nat) (seq : Word), s.portTurn = true →
    ((s.sessionOpen tid && s.assigned tid n) = false → ∃ t, exec (.spReadStream tid n len seq) s = .next t ∧
      refusedWith s t false 1 tid n 6 0) ∧
    ((s.sessionOpen tid && s.assigned tid n) = true → s.readable n = false → ∃ t,
      exec (.spReadStream tid n len seq) s = .next t ∧ refusedWith s t false 1 tid n 5 0) ∧
    ((s.sessionOpen tid && s.assigned tid n) = true → s.readable n = true → s.tagOk 1 (some tid) = false → ∃ t,
      exec (.spReadStream tid n len seq) s = .next t ∧ heldBack s t false) ∧
    ((s.sessionOpen tid && s.assigned tid n && s.readable n && s.tagOk 1 (some tid)) = true →
      (len = 0 ∨ 16 < len → ∃ t, exec (.spReadStream tid n len seq) s = .next t ∧ refusedWith s t true 1 tid n 6 0) ∧
      (1 ≤ len → len ≤ 16 → (readSeqs seq len).all (fun g => seqLe g (s.readHead n)) = false → ∃ t,
        exec (.spReadStream tid n len seq) s = .next t ∧ refusedWith s t true 1 tid n 2 (s.readHead n)) ∧
      (1 ≤ len → len ≤ 16 → (readSeqs seq len).all (fun g => seqLe g (s.readHead n)) = true →
        (readSeqs seq len).all (fun g => (s.resident n g).isSome) = false → ∃ t,
        exec (.spReadStream tid n len seq) s = .next t ∧ heldBack s t true) ∧
      (1 ≤ len → len ≤ 16 → (readSeqs seq len).all (fun g => seqLe g (s.readHead n)) = true →
        (readSeqs seq len).all (fun g => (s.resident n g).isSome) = true → ∃ (t : State) (f : Frame),
        exec (.spReadStream tid n len seq) s = .next t ∧ t.port.frame = some f ∧ f.phase = .reading ∧ f.ty = 1 ∧ f.tid = tid ∧
        f.chan = n ∧ f.len = len ∧ f.word1 = seq ∧
        f.pages = (readSeqs seq len).filterMap (fun g => (s.resident n g).map (·.1)) ∧ t.port.rdy0 = true ∧ t.port.rdy1 = true ∧ t.port.bsyN = false ∧
        t.pages.map Page.num = s.pages.map Page.num ∧ (∀ p, (t.pages.filter (fun g => g.num == p)).map Page.readers =
          (s.pages.filter (fun g => g.num == p)).map (fun g => g.readers + f.pages.count p)) ∧
        t = { s with regs := t.regs, port := t.port, pages := t.pages } ∧ fieldsKept s t [(Reg.SP_CNT_ACCEPT_COUNT, 0)]))) ∧
  (∀ (s : State) (f : Frame) (bsy : Nat), s.live = true → s.port.frame = some f → f.phase = .reading →
    ∃ (t : State) (bad : Bool) (ws : List Word), exec (.spReadDataReady bsy) s = .next t ∧ t.port.frame = none ∧ t.port.bsyN = true ∧
      (∃ crc, t.port.out = ws ++ [crc, statusWord (if f.ty = 1 then 1 else 3) f.tid (if f.ty = 1 then f.chan else 0) f.len
        (if bad then 3 else 0), if f.ty = 1 then s.readHead f.chan else f.word1] ∧
        (f.ty ≠ 1 → crc = readTrailer (wordsBytes ws) bad)) ∧
      ws.length = (if f.ty = 1 then 1032 * f.len else f.len) ∧
      t.getF Reg.SP_CNT_CRCBAD_COUNT = (s.getF Reg.SP_CNT_CRCBAD_COUNT + b2n bad) % 2 ^ 32 ∧
      (s.ecc.bad = [] → bad = false ∧ t.chans = s.chans ∧ t.rwc = s.rwc ∧ t.cmds = s.cmds ∧ t.buf = s.buf ∧ t.evr = s.evr))

/-- Management headers (R38 step 4, R39) turned away, and the frame of an admitted MGMT_READ. An admitted MGMT_WRITE (R42, R43): with a wrong CRC none
of its words is written; a frame of one word at INT_MASK of the tenant's window sets that mask and nothing else of the tenant's. -/
def Obligations.ManagementFrames : Prop :=
  (∀ (s : State) (tid n len bsy : Nat) (adr trailer : Word) (data : List Word), s.portTurn = true →
    (n ≠ 0 → (∃ t, exec (.spMgmtWrite tid n len adr data trailer bsy) s = .next t ∧ refusedWith s t false 2 tid n 6 adr) ∧
      ∃ t, exec (.spMgmtRead tid n len adr) s = .next t ∧ refusedWith s t false 3 tid n 6 adr) ∧
    (s.mgmtBad tid len adr = true →
      (∃ t, exec (.spMgmtWrite tid 0 len adr data trailer bsy) s = .next t ∧ refusedWith s t true 2 tid 0 6 adr) ∧
      ∃ t, exec (.spMgmtRead tid 0 len adr) s = .next t ∧ refusedWith s t true 3 tid 0 6 adr) ∧
    (s.mgmtBad tid len adr = false → ∃ (t : State) (f : Frame), exec (.spMgmtRead tid 0 len adr) s = .next t ∧
      t.port.frame = some f ∧ f.phase = .reading ∧ f.ty = 3 ∧ f.tid = tid ∧ f.len = len ∧ f.word1 = adr ∧
      t.port.rdy0 = true ∧ t.port.rdy1 = true ∧ t.port.bsyN = false ∧
      t = { s with regs := t.regs, port := t.port } ∧ fieldsKept s t [(Reg.SP_CNT_ACCEPT_COUNT, 0)])) ∧
  (∀ (s : State) (tid len bsy : Nat) (adr trailer : Word) (data : List Word), s.portTurn = true →
    (s.mgmtBad tid len adr = false → data.length = len →
      crc32c (leBytes 4 (headerWord 2 tid 0 0 len).toNat ++ leBytes 4 adr.toNat ++ wordsBytes data) ≠ trailer →
      ∃ t, exec (.spMgmtWrite tid 0 len adr data trailer bsy) s = .next t ∧ t.port.out = [statusWord 2 tid 0 0 3, adr] ∧
        t = { s with regs := t.regs, port := t.port } ∧
        fieldsKept s t [(Reg.SP_CNT_ACCEPT_COUNT, 0), (Reg.SP_CNT_CRCBAD_COUNT, 0), (Reg.SP_BSY_MAX_TIME, 0)] ∧
        t.getF Reg.SP_CNT_CRCBAD_COUNT = (s.getF Reg.SP_CNT_CRCBAD_COUNT + 1) % 2 ^ 32) ∧
    (∀ v : Word, s.sessionOpen tid = true →
      ∃ t, exec (.spMgmtWrite tid 0 1 0x104 [v]
          (crc32c (leBytes 4 (headerWord 2 tid 0 0 1).toNat ++ leBytes 4 (0x104 : Word).toNat ++ wordsBytes [v])) bsy) s = .next t ∧
        t.port.out = [statusWord 2 tid 0 1 0, 0x104] ∧ t.ten tid = { s.ten tid with mask := BitVec.ofNat 7 v.toNat } ∧
        (∀ u, u ≠ tid → t.ten u = s.ten u) ∧ t = { s with regs := t.regs, port := t.port, tenants := t.tenants } ∧
        fieldsKept s t [(Reg.SP_CNT_ACCEPT_COUNT, 0), (Reg.SP_BSY_MAX_TIME, 0)]))

/-- DOORBELL, NOP and reserved headers (R38, R39, R45, R58). While the port is closed every header meets HOLD, whatever its TYPE (R38 step 1, R49).
Aborts, stalls, lost status, SP_FRM out of turn, removal and seating (R36, R48 to R51). -/
def Obligations.OtherFramesAndClosures : Prop :=
  (∀ (s : State) (tid len : Nat) (w0 w1 : Word), s.portTurn = true →
    (∀ n, ∃ t, exec (.spNop tid n len w1) s = .next t ∧ answered s t true true true [] Reg.SP_CNT_ACCEPT_COUNT) ∧
    (6 ≤ bitsOf w0.toNat 29 3 ∨ bitsOf w0.toNat 16 3 ≠ 0 → ∃ t, exec (.spReservedTypeHeader w0 w1) s = .next t ∧
      t.port.out = [statusWord (bitsOf w0.toNat 29 3) (bitsOf w0.toNat 25 4) (bitsOf w0.toNat 19 6) 0 6,
        if bitsOf w0.toNat 29 3 ≤ 1 then 0 else w1] ∧
      t.evr = (s.reserved (bitsOf w0.toNat 25 4) (headerDetail w0)).evr ∧
      t = { s with regs := t.regs, port := t.port, evr := t.evr } ∧ fieldsKept s t [(Reg.SP_CNT_REFUSE_COUNT, 0)]) ∧
    (∀ n, n ≠ 0 ∨ s.sessionOpen tid = false → ∃ t, exec (.spDoorbell tid n len w1) s = .next t ∧
      refusedWith s t false 4 tid n 6 w1) ∧
    (∀ q ix : Nat, q < 256 → ix < 4096 → s.sessionOpen tid = true → s.qOwner q = some tid → ix < s.qDepth q →
      let w : Word := BitVec.ofNat 32 (q + 65536 * ix)
      let gap := (s.getF Reg.QIDX_TAIL q + s.qDepth q - s.getF Reg.QIDX_HEAD q) % s.qDepth q
      let ahead := (ix + s.qDepth q - s.getF Reg.QIDX_HEAD q) % s.qDepth q
      (s.flag Reg.QCFG_EN q = true → s.flag Reg.QCFG_DIR q = false → gap ≤ ahead → ∃ t, exec (.spDoorbell tid 0 0 w) s = .next t ∧
        t.getF Reg.QIDX_TAIL q = ix ∧ t.port.rdy1 = true ∧ t = { s with regs := t.regs, port := t.port } ∧
        fieldsKept s t [(Reg.SP_CNT_ACCEPT_COUNT, 0), (Reg.QIDX_TAIL, q)]) ∧
      (s.flag Reg.QCFG_EN q = true → s.flag Reg.QCFG_DIR q = true → ahead ≤ gap → ∃ t, exec (.spDoorbell tid 0 0 w) s = .next t ∧
        t.getF Reg.QIDX_HEAD q = ix ∧ t.port.rdy1 = true ∧ t = { s with regs := t.regs, port := t.port } ∧
        fieldsKept s t [(Reg.SP_CNT_ACCEPT_COUNT, 0), (Reg.QIDX_HEAD, q)]) ∧
      (s.flag Reg.QCFG_EN q = false ∨ (s.flag Reg.QCFG_DIR q = false ∧ ahead < gap) ∨ (s.flag Reg.QCFG_DIR q = true ∧ gap < ahead) → ∃ t,
        exec (.spDoorbell tid 0 0 w) s = .next t ∧ t.getF Reg.QERR_ERR_DB q = 1 ∧ t.tenants = (s.cause tid 1).tenants ∧
        t = { s with regs := t.regs, port := t.port, tenants := t.tenants } ∧
        fieldsKept s t [(Reg.SP_CNT_ACCEPT_COUNT, 0), (Reg.QERR_ERR_DB, q)]))) ∧
  (∀ (s : State) (tid n len bsy : Nat) (w0 w1 v : Word) (data : List Word), s.live = true → s.portOpen = false →
    s.port.frame = none → ∀ c ∈ [Instr.spWriteGrains tid n len w1 data v, .spReadStream tid n len w1,
      .spMgmtWrite tid n len w1 data v bsy, .spMgmtRead tid n len w1, .spDoorbell tid n len w1, .spNop tid n len w1,
      .spReservedTypeHeader w0 w1],
    ∃ t, exec c s = .next t ∧ heldBack s t false) ∧
  (∀ (s : State) (f : Frame), s.live = true →
    (s.port.frame = some f → f.phase = .writing →
      (∃ t, exec .spFrameAbort s = .next t ∧ t.port.frame = none ∧ t.getF Reg.SP_EVENTS_ABORT = 1 ∧
        ∀ m, (t.chan m).durable = (s.chan m).durable) ∧
      (∃ t, exec .spStallTimeout s = .next t ∧ t.port.frame = none ∧ t.getF Reg.SP_EVENTS_STALL = 1 ∧
        ∀ m, (t.chan m).durable = (s.chan m).durable)) ∧
    (s.port.frame = none → s.port.out ≠ [] → ∃ t, exec .spStatusLost s = .next t ∧ t.port.out = [] ∧
      t.getF Reg.SP_EVENTS_STATUS_LOST = 1 ∧ onlyFields { s with port := { s.port with out := [] } } t [(Reg.SP_EVENTS_STATUS_LOST, 0)]) ∧
    (∃ t, exec .spFrmOutOfTurn s = .next t ∧ t.getF Reg.SP_EVENTS_PROTOCOL = 1 ∧ onlyFields s t [(Reg.SP_EVENTS_PROTOCOL, 0)]) ∧
    (s.port.frame = none → ∃ t, exec .cartridgeRemoval s = .next t ∧ t.port.seated = false ∧ t.portOpen = false ∧
      t.getF Reg.SP_CTRL_PORT_EN = 0 ∧ t.getF Reg.SP_STATUS_CLOSE_CAUSE = 2 ∧ (∀ u < 16, t.sessionOpen u = false) ∧
      (∀ u < 16, s.sessionOpen u = true → (t.ten u).cause = (s.ten u).cause ||| 0x40) ∧
      t = { s with regs := t.regs, tenants := t.tenants, port := { s.port with seated := false } } ∧
      fieldsKept s t [(Reg.SP_CTRL_PORT_EN, 0), (Reg.SP_STATUS_CLOSE_CAUSE, 0)]) ∧
    (s.port.seated = false → ∃ t, exec .cartridgeSeated s = .next t ∧ t.port.seated = true ∧ t.getF Reg.SP_EVENTS_DET_CHANGE = 1 ∧
      onlyFields { s with port := { s.port with seated := true } } t [(Reg.SP_EVENTS_DET_CHANGE, 0)]))

/-! ## Queues and commands (spec/03) -/

/-- Firmware's doorbell (R58): it rings a queue that is firmware's, forwards only; QDB is refused for a tenant's queue. DESCRIPTOR_FETCH (R62 to R64):
a repeated CMD_ID of the replay window posts its stored completion again with REPLAY and is not executed; a descriptor that R63 refuses posts its code
and takes no command; one that passes joins the commands in flight. QUEUED_WRITE_GRAINS and forwarded commands (R66, R68): the copy and its CRC, the
entry of the forward ring, and the completion that firmware posts. -/
def Obligations.CommandsFetchedAndForwarded : Prop :=
  (∀ (s : State) (src q ix : Nat), s.live = true → q < 256 → ix < 4096 →
    let v : Word := BitVec.ofNat 32 (q + 65536 * ix)
    let d := s.qDepth q
    let gap := (s.getF Reg.QIDX_TAIL q + d - s.getF Reg.QIDX_HEAD q) % d
    let ahead := (ix + d - s.getF Reg.QIDX_HEAD q) % d
    (s.flag Reg.QCFG_FW q = false → ∃ t, exec (.qdbWrite src v) s = .next t ∧
      t = { s with evr := (s.denied src (regDetail 0x40020800)).evr }) ∧
    (s.flag Reg.QCFG_FW q = true → s.flag Reg.QCFG_EN q = true → s.flag Reg.QCFG_DIR q = false → ix < d → gap ≤ ahead → ∃ t,
      exec (.qdbWrite src v) s = .next t ∧ t.getF Reg.QIDX_TAIL q = ix ∧ onlyFields s t [(Reg.QIDX_TAIL, q)]) ∧
    (s.flag Reg.QCFG_FW q = true → s.flag Reg.QCFG_EN q = true → s.flag Reg.QCFG_DIR q = true → ix < d → ahead ≤ gap → ∃ t,
      exec (.qdbWrite src v) s = .next t ∧ t.getF Reg.QIDX_HEAD q = ix ∧ onlyFields s t [(Reg.QIDX_HEAD, q)]) ∧
    (s.flag Reg.QCFG_FW q = true → s.flag Reg.QCFG_EN q = false ∨ d ≤ ix → ∃ t,
      exec (.qdbWrite src v) s = .next t ∧ t.getF Reg.QERR_ERR_DB q = 1 ∧ onlyFields s t [(Reg.QERR_ERR_DB, q)])) ∧
  (∀ (s : State) (sq : Nat) (d : List Byte), s.live = true → s.canFetch sq = true → s.outranked sq = false → s.ecc.bad = [] →
    d = s.headDesc sq → s.fetchable sq d = true → s.ringSound (s.getF Reg.QCFG_CQ sq) = true →
    s.getF Reg.QCFG_CQ sq ≠ sq → s.qDepth sq ≤ 4096 →
    (∀ e : Completion, s.storedFor sq d = some e → ∃ t,
      exec (.descriptorFetch sq) s = .next t ∧ t.cmds = s.cmds ∧
      t.getF Reg.QIDX_HEAD sq = (s.getF Reg.QIDX_HEAD sq + 1) % s.qDepth sq ∧
      ∀ k < 16, t.bufByte (s.entryAddr (s.getF Reg.QCFG_CQ sq) + k) =
        byteAt (entryBytes e sq ((s.getF Reg.QIDX_HEAD sq + 1) % s.qDepth sq) true (s.queue (s.getF Reg.QCFG_CQ sq)).phase) k) ∧
    (s.storedFor sq d = none →
      (∀ code, s.examine (s.qOwner sq) d = some code → ∃ (t : State) (r0 r1 : Word),
        exec (.descriptorFetch sq) s = .next t ∧ t.cmds = s.cmds ∧
        t.getF Reg.QIDX_HEAD sq = (s.getF Reg.QIDX_HEAD sq + 1) % s.qDepth sq ∧
        ∀ k < 16, t.bufByte (s.entryAddr (s.getF Reg.QCFG_CQ sq) + k) =
          byteAt (entryBytes { cmdId := dCmdId d, res0 := r0, res1 := r1, code := code } sq
            ((s.getF Reg.QIDX_HEAD sq + 1) % s.qDepth sq) false (s.queue (s.getF Reg.QCFG_CQ sq)).phase) k) ∧
      (s.examine (s.qOwner sq) d = none → dOp d ≠ 0x10 → ∃ (t : State) (c : Cmd),
        exec (.descriptorFetch sq) s = .next t ∧ t.cmds = s.cmds ++ [c] ∧ c.desc = d ∧ c.op = dOp d ∧ c.sq = sq ∧
        c.cmdId = dCmdId d ∧ c.owner = s.qOwner sq ∧ c.cq = s.getF Reg.QCFG_CQ sq ∧ c.running = false ∧
        c.fence = bitOf (dFlags d) 1 ∧ c.irq = bitOf (dFlags d) 0 ∧
        (dOp d = 0x08 → bitOf (dArg d 28 1) 0 = false → c.waits = [(dChan d, (s.chan (dChan d)).durable)]) ∧
        (dOp d = 0x09 → c.target = (s.chan (dChan d)).durable) ∧
        c.pages = (s.allocPages { num := 0, pool := .read, tid := s.qOwner sq } (readPagesOf d)).2 ∧
        t.getF Reg.QIDX_HEAD sq = (s.getF Reg.QIDX_HEAD sq + 1) % s.qDepth sq ∧
        t = { s with regs := t.regs, cmds := t.cmds, pages := t.pages, lastBank := t.lastBank } ∧
        fieldsKept s t [(Reg.QIDX_HEAD, sq)]) ∧
      (s.examine (s.qOwner sq) d = none → dOp d = 0x10 → s.spn ≠ 3 →
        s.writeChecks (s.qOwner sq) (dChan d) (dCount d) (dSeq d) = none → ∃ (t : State) (c : Cmd),
        exec (.descriptorFetch sq) s = .next t ∧ t.cmds = s.cmds ++ [c] ∧ c.desc = d ∧ c.op = 0x10 ∧
        c.earmark = s.earmarkOf (dChan d) (dCount d) ∧ c.pages = (s.takePages (dCount d) (s.qOwner sq)).2 ∧
        t.chans = s.chans ∧ t.rwc = s.rwc ∧ t.buf = s.buf))) ∧
  (∀ (s : State) (sq : Nat), s.live = true → s.canFetch sq = false ∨ s.outranked sq = true → exec (.descriptorFetch sq) s = .next s) ∧
  (∀ (s : State) (sq src : Nat) (c : Cmd), s.live = true →
    (s.turn sq 0x10 c → ∃ t, exec (.queuedWriteGrains sq) s = .next t ∧
      t.cmds = s.cmds.map (fun (d : Cmd) => if d.tag == c.tag then { c with running := true, crc := crc32c (s.bufRead (s.cmdAddr c) (4096 * dCount c.desc)), ends := none } else d) ∧
      t.chans = s.chans ∧ t.regs = s.regs ∧ t.evr = s.evr ∧
      ∀ x, (∀ p ∈ c.pages, x < 4096 * p ∨ 4096 * p + 4096 ≤ x) → t.bufByte x = s.bufByte x) ∧
    (s.cmds.find? (fun c => c.sq == sq && forwarded c.op && !c.running) = some c → s.ecc.bad = [] →
      4096 * s.getF Reg.FWD_BASE_BASE + 128 * s.getF Reg.FWD_CTRL_TAIL + 128 ≤ 0x1000000 → c.desc.length = 64 → ∃ t,
      exec (.forwardedOpcode sq) s = .next t ∧ t.getF Reg.FWD_CTRL_TAIL = (s.getF Reg.FWD_CTRL_TAIL + 1) % 64 ∧
      t.cmds = s.cmds.map (fun (d : Cmd) => if d.tag == c.tag then { c with running := true } else d) ∧
      (∀ k < 64, t.bufByte (4096 * s.getF Reg.FWD_BASE_BASE + 128 * s.getF Reg.FWD_CTRL_TAIL + k) = byteAt c.desc k) ∧
      (∀ x, (x < 4096 * s.getF Reg.FWD_BASE_BASE + 128 * s.getF Reg.FWD_CTRL_TAIL ∨
        4096 * s.getF Reg.FWD_BASE_BASE + 128 * s.getF Reg.FWD_CTRL_TAIL + 128 ≤ x) → t.bufByte x = s.bufByte x) ∧
      fieldsKept s t [(Reg.FWD_CTRL_TAIL, 0)]) ∧
    (∀ tag code : Nat, tag < 1024 → code < 256 → s.cmds.find? (fun c => c.tag == tag && forwarded c.op) = some c →
      s.ringSound c.cq = true →
      (codeDefined code = true → ∃ t, exec (.fwdPost src (BitVec.ofNat 32 (tag + 65536 * code))) s = .next t ∧
        posted s t c code (BitVec.ofNat 32 (s.getF Reg.FWD_RES0_RES0)) (BitVec.ofNat 32 (s.getF Reg.FWD_RES1_RES1)) true ∧
        bufKept s t c 0 0) ∧
      (codeDefined code = false → exec (.fwdPost src (BitVec.ofNat 32 (tag + 65536 * code))) s =
        .next (s.reserved src (noteDetail code)))) ∧
    (∀ tag code : Nat, tag < 1024 → code < 256 → s.cmds.find? (fun c => c.tag == tag && forwarded c.op) = some c →
      codeDefined code = true → s.ringHeld c.cq = false → ∃ t, exec (.fwdPost src (BitVec.ofNat 32 (tag + 65536 * code))) s = .next t ∧
      t.cmds = s.cmds.filter (fun d => d.tag != c.tag) ∧ t.buf = s.buf))

/-- QUEUE_CONFIG_WRITE (R55 to R57): QBASE_n of a disabled queue takes the value; while it is enabled another value, or another field of QCFG_n than
EN, is refused with CFG_REJECT; a queue that is enabled starts empty. Writers without the right change nothing. POOL_CONFIG_WRITE (R70, R71, R97):
CFG_REJECT unless admission and fetching are closed and nothing is in flight; TAG_SPLIT must leave the control pool 64 tags; POOL_SLOTS takes its two
fields. -/
def Obligations.QueuesAndPoolsConfigured : Prop :=
  (∀ (s : State) (src q : Nat) (v : Word), s.live = true → q < 256 →
    (privileged src = false → ∀ k, k = 0 ∨ k = 4 → exec (.queueConfigWrite src (0x40021000 + 16 * q + k) v) s =
      .next (s.denied src (regDetail (0x40021000 + 16 * q + k)))) ∧
    (privileged src = true →
      (s.flag Reg.QCFG_EN q = false → ∃ t, exec (.queueConfigWrite src (0x40021004 + 16 * q) v) s = .next t ∧
        t.getF Reg.QBASE_BASE q = bitsOf v.toNat 12 20 ∧ onlyFields s t [(Reg.QBASE_BASE, q)]) ∧
      (s.flag Reg.QCFG_EN q = true → bitsOf v.toNat 12 20 ≠ s.getF Reg.QBASE_BASE q → ∃ t,
        exec (.queueConfigWrite src (0x40021004 + 16 * q) v) s = .next t ∧ t.getF Reg.QUEUE_STATUS_CFG_REJECT = 1 ∧
        onlyFields s t [(Reg.QUEUE_STATUS_CFG_REJECT, 0)]) ∧
      (s.flag Reg.QCFG_EN q = true → (qcfgRest.any (fun f => s.afterWrite src v f q != s.getF f q)) = true → ∃ t,
        exec (.queueConfigWrite src (0x40021000 + 16 * q) v) s = .next t ∧ t.getF Reg.QUEUE_STATUS_CFG_REJECT = 1 ∧
        onlyFields s t [(Reg.QUEUE_STATUS_CFG_REJECT, 0)]) ∧
      (s.flag Reg.QCFG_EN q = false → bitOf v.toNat 0 = true →
        s.ringOk (fun f => s.afterWrite src v f q) (s.getF Reg.QBASE_BASE q) = true →
        (s.afterWrite src v Reg.QCFG_DIR q = 1 ∨ s.cqOk (fun f => s.afterWrite src v f q) = true) → ∃ t,
        exec (.queueConfigWrite src (0x40021000 + 16 * q) v) s = .next t ∧ t.getF Reg.QCFG_EN q = 1 ∧
        t.getF Reg.QIDX_HEAD q = 0 ∧ t.getF Reg.QIDX_TAIL q = 0 ∧ (t.queue q).phase = true ∧ (t.queue q).replay = [] ∧
        (∀ f ∈ qcfgRest, t.getF f q = s.afterWrite src v f q) ∧ (∀ m, m ≠ q → t.queue m = s.queue m) ∧
        t = { s with regs := t.regs, evr := t.evr, queues := t.queues } ∧
        fieldsKept s t ((Reg.QCFG_EN, q) :: (Reg.QIDX_HEAD, q) :: (Reg.QIDX_TAIL, q) :: qcfgRest.map (fun f => (f, q)))))) ∧
  (∀ (s : State) (src : Nat) (v : Word), s.live = true →
    (privileged src = false → ∃ t, exec (.poolConfigWrite src 0x40020028 v) s = .next t ∧
      t = { s with evr := (s.denied src (regDetail 0x40020028)).evr }) ∧
    (privileged src = true → s.poolsIdle = false → ∀ a ∈ [0x40020010, 0x40020020, 0x40020024, 0x40020028], ∃ t,
      exec (.poolConfigWrite src a v) s = .next t ∧ t.getF Reg.QUEUE_STATUS_CFG_REJECT = 1 ∧
      onlyFields s t [(Reg.QUEUE_STATUS_CFG_REJECT, 0)]) ∧
    (privileged src = true → s.poolsIdle = true →
      (1024 < bitsOf v.toNat 0 11 + bitsOf v.toNat 16 11 + 64 → (regFields 0x40020010).all (fun e => e.1.legal (bitsOf v.toNat e.1.lo e.1.w)) = true →
        ∃ t, exec (.poolConfigWrite src 0x40020010 v) s = .next t ∧
        t = { s with evr := (s.reserved src (regDetail 0x40020010)).evr }) ∧
      (Reg.POOL_SLOTS_A.legal (bitsOf v.toNat 0 11) = true → Reg.POOL_SLOTS_B.legal (bitsOf v.toNat 16 11) = true → ∃ t,
        exec (.poolConfigWrite src 0x40020028 v) s = .next t ∧ t.getF Reg.POOL_SLOTS_A = bitsOf v.toNat 0 11 ∧
        t.getF Reg.POOL_SLOTS_B = bitsOf v.toNat 16 11 ∧ onlyFields s t [(Reg.POOL_SLOTS_A, 0), (Reg.POOL_SLOTS_B, 0)])))

/-- Reads and checks of grains (R65): READ_GRAINS answers NO_CHANNEL or GAP where it must, and otherwise puts one sector read for each grain that is
not resident; VERIFY_RANGE answers NO_CHANNEL or GAP or begins. The ends of READ_GRAINS and VERIFY_RANGE (R65): RESULT0 and RESULT1 by the outcome,
which for VERIFY_RANGE the media decide through the chain and the seals (`State.verified`).
The value of RESULT1 of a read that delivered every grain, and what is free, are the model's choice: log entries 3 and 30. -/
def Obligations.GrainReadCommands : Prop :=
  (∀ (s : State) (sq : Nat) (c : Cmd), s.live = true →
    (s.turn sq 0x01 c →
      (s.hasOpening (dChan c.desc) = false → ∃ t, exec (.readGrains sq) s = .next t ∧ posted s t c 5 0 (dSeq c.desc) false ∧
        bufKept s t c 0 0) ∧
      (s.hasOpening (dChan c.desc) = true →
        (seqsFrom (dSeq c.desc) (dCount c.desc)).all (fun q => seqLe q (s.readHead (dChan c.desc))) = false → ∃ t,
        exec (.readGrains sq) s = .next t ∧ posted s t c 2 0 (dSeq c.desc) false ∧ bufKept s t c 0 0) ∧
      (s.hasOpening (dChan c.desc) = true → c.ends = none → (s.chan (dChan c.desc)).lost = none →
        (∀ q ∈ seqsFrom (dSeq c.desc) (dCount c.desc), seqLe q (s.readHead (dChan c.desc)) = true ∧
          s.releasedFor (dChan c.desc) q c.tag = false ∧ s.resident (dChan c.desc) q = none ∧
          s.flag Reg.BMAP_VALID (s.bushelFor (dChan c.desc) q) = true) → ∃ t,
        exec (.readGrains sq) s = .next t ∧
        t.cmds = s.cmds.map (fun (d : Cmd) => if d.tag == c.tag then { c with running := true } else d) ∧
        (readsOf c.tag (t.rw 0)).length + (readsOf c.tag (t.rw 1)).length =
          (readsOf c.tag (s.rw 0)).length + (readsOf c.tag (s.rw 1)).length + dCount c.desc ∧
        t = { s with cmds := t.cmds, rwc := t.rwc }) ∧
      (s.hasOpening (dChan c.desc) = true → c.ends = none → (s.chan (dChan c.desc)).lost = none → 1 ≤ dCount c.desc →
        (∀ q ∈ seqsFrom (dSeq c.desc) (dCount c.desc), seqLe q (s.readHead (dChan c.desc)) = true ∧
          s.releasedFor (dChan c.desc) q c.tag = false ∧ s.resident (dChan c.desc) q = none) →
        s.flag Reg.BMAP_VALID (s.bushelFor (dChan c.desc) (dSeq c.desc)) = false → ∃ t, exec (.readGrains sq) s = .next t ∧
        t.cmds = s.cmds.map (fun (d : Cmd) =>
          if d.tag == c.tag then { c with running := true, ends := some (0x26, dSeq c.desc) } else d) ∧
        t = { s with cmds := t.cmds, rwc := t.rwc })) ∧
    (s.turn sq 0x07 c →
      (s.hasOpening (dChan c.desc) = false → ∃ t, exec (.verifyRange sq) s = .next t ∧ posted s t c 5 0 (dSeq c.desc) false) ∧
      (s.hasOpening (dChan c.desc) = true →
        seqLe (dSeq c.desc + BitVec.ofNat 32 (dCount c.desc - 1)) (s.heads (dChan c.desc)).2.2.2 = false → ∃ t,
        exec (.verifyRange sq) s = .next t ∧ posted s t c 2 0 (dSeq c.desc) false) ∧
      (s.hasOpening (dChan c.desc) = true → seqLe (dSeq c.desc) (s.heads (dChan c.desc)).2.2.2 = true →
        seqLe (dSeq c.desc + BitVec.ofNat 32 (dCount c.desc - 1)) (s.heads (dChan c.desc)).2.2.2 = true →
        (s.rangeReleased (dChan c.desc) (dSeq c.desc) (dSeq c.desc + BitVec.ofNat 32 (dCount c.desc - 1)) c.tag = true → ∃ t,
          exec (.verifyRange sq) s = .next t ∧ posted s t c 0x24 0 (dSeq c.desc) false) ∧
        (s.rangeReleased (dChan c.desc) (dSeq c.desc) (dSeq c.desc + BitVec.ofNat 32 (dCount c.desc - 1)) c.tag = false → ∃ t,
          exec (.verifyRange sq) s = .next t ∧
          t = { s with cmds := s.cmds.map (fun (d : Cmd) => if d.tag == c.tag then { c with running := true } else d) })))) ∧
  (∀ (s : State) (sq : Nat) (c : Cmd), s.live = true → s.ringSound c.cq = true →
    (s.cmds.find? (fun d => d.sq == sq && d.op == 0x01 && d.running && s.readOver d) = some c →
      (c.ends = none → ∃ t, exec (.readGrainsComplete sq) s = .next t ∧
        posted s t c 0 (BitVec.ofNat 32 (dCount c.desc)) (dSeq c.desc + BitVec.ofNat 32 (dCount c.desc)) false ∧ bufKept s t c 0 0) ∧
      (∀ (code : Nat) (h : Word), c.ends = some (code, h) → ∃ t, exec (.readGrainsComplete sq) s = .next t ∧
        posted s t c code (h - dSeq c.desc) h false ∧ bufKept s t c 0 0)) ∧
    (s.underWay sq 0x07 = some c → ∀ (media : Media) (b : Bool) (v : Nat),
      v = s.verified media (dChan c.desc) (dSeq c.desc) (dCount c.desc) → ∃ (t : State) (r1 : Word),
      exec (.verifyRangeComplete sq media b) s = .next t ∧
      posted s t c (if v = dCount c.desc then 0 else if b then 0x26 else 0x27) (BitVec.ofNat 32 v) r1 false ∧
      (v ≠ dCount c.desc → r1 = dSeq c.desc + BitVec.ofNat 32 v) ∧ v ≤ dCount c.desc ∧ bufKept s t c 0 0))

/-- RELEASE_BUSHEL, READ_EVENTS, ZERO_WINDOW and SET_RESERVATION (R65, R72, R92, R135, R360). QUERY_HEAD, FLUSH and MIRROR_RESYNC (R65, R67): the head
record and the results they post. -/
def Obligations.KeeperAndHeadCommands : Prop :=
  (∀ (s : State) (sq : Nat) (c : Cmd), s.live = true →
    (s.turn sq 0x06 c →
      (s.cmds.takeWhile (fun d => d.tag != c.tag)).any (fun d => (d.op == 0x01 || d.op == 0x07) &&
        dChan d.desc == (s.bushel (dArg c.desc 28 4)).chan) = false →
      (dArg c.desc 28 4 < 2 ∨ (s.bushel (dArg c.desc 28 4)).state ≠ .closed ∨ s.bushelSealed (dArg c.desc 28 4) = false → ∃ t,
        exec (.releaseBushel sq) s = .next t ∧
        posted s t c 0x24 (BitVec.ofNat 32 (dArg c.desc 28 4)) 0 false ∧ t.bushels = s.bushels) ∧
      (2 ≤ dArg c.desc 28 4 → (s.bushel (dArg c.desc 28 4)).state = .closed → s.bushelSealed (dArg c.desc 28 4) = true → ∃ t,
        exec (.releaseBushel sq) s = .next t ∧ posted s t c 0 (BitVec.ofNat 32 (dArg c.desc 28 4)) 0 false ∧
        (t.bushel (dArg c.desc 28 4)).state = .released ∧ ∀ m, m ≠ dArg c.desc 28 4 → t.bushel m = s.bushel m)) ∧
    (s.turn sq 0x0A c → s.cmdAddr c + 16 * dCount c.desc ≤ 0x1000000 → ∃ t, exec (.readEvents sq) s = .next t ∧
      posted s t c 0 (BitVec.ofNat 32 (dCount c.desc)) 0 false ∧ bufKept s t c (s.cmdAddr c) (16 * dCount c.desc) ∧
      ∀ i < dCount c.desc, ∀ k < 16,
        (s.cmdAddr c + 16 * i + k < s.entryAddr c.cq ∨ s.entryAddr c.cq + 16 ≤ s.cmdAddr c + 16 * i + k) →
        t.bufByte (s.cmdAddr c + 16 * i + k) =
          byteAt (entryAt (if dArg c.desc 28 1 = 0 then s.evr.first else s.evr.last) (dArg c.desc 32 2 + i)) k) ∧
    (s.turn sq 0x0B c → exec (.zeroWindow sq) s = .next
      { s with cmds := s.cmds.map (fun (d : Cmd) => if d.tag == c.tag then { c with running := true } else d) }) ∧
    (s.underWay sq 0x0B = some c → s.ringSound c.cq = true → ∀ (t0 w a n : Nat), t0 = dArg c.desc 28 1 → w = dArg c.desc 29 1 →
      a = s.winBase t0 w → n = s.getF Reg.WPAGES_PAGES (8 * t0 + w) → a + 4096 * n ≤ 0x1000000 → ∃ t,
      exec (.zeroWindowComplete sq) s = .next t ∧ posted s t c 0 (BitVec.ofNat 32 n) 0 false ∧ bufKept s t c a (4096 * n) ∧
      ∀ x, a ≤ x → x < a + 4096 * n → (x < s.entryAddr c.cq ∨ s.entryAddr c.cq + 16 ≤ x) → t.bufByte x = 0) ∧
    (s.turn sq 0x0C c →
      ((s.setTen (dArg c.desc 28 1) { s.ten (dArg c.desc 28 1) with share := shareOf c.desc }).sharesFit = true → ∃ t,
        exec (.setReservation sq) s = .next t ∧ (t.ten (dArg c.desc 28 1)).share = shareOf c.desc ∧
        (∀ u, u ≠ dArg c.desc 28 1 → (t.ten u).share = (s.ten u).share) ∧ posted s t c 0 0 0 false) ∧
      ((s.setTen (dArg c.desc 28 1) { s.ten (dArg c.desc 28 1) with share := shareOf c.desc }).sharesFit = false → ∃ t,
        exec (.setReservation sq) s = .next t ∧ (∀ u, (t.ten u).share = (s.ten u).share) ∧ posted s t c 0x29 0 0 false))) ∧
  (∀ (s : State) (sq : Nat) (c : Cmd), s.live = true →
    (s.turn sq 0x02 c → s.hasOpening (dChan c.desc) = true → s.cmdAddr c + 32 ≤ 0x1000000 → ∃ t,
      exec (.queryHead sq) s = .next t ∧ posted s t c 0 (s.heads (dChan c.desc)).1 (s.heads (dChan c.desc)).2.1 false ∧
      bufKept s t c (s.cmdAddr c) 32 ∧
      ∀ k < 32, (s.cmdAddr c + k < s.entryAddr c.cq ∨ s.entryAddr c.cq + 16 ≤ s.cmdAddr c + k) →
        t.bufByte (s.cmdAddr c + k) = byteAt (s.headRecord (dChan c.desc)) k) ∧
    (s.turn sq 0x02 c → s.hasOpening (dChan c.desc) = false → ∃ (t : State) (r0 r1 : Word), exec (.queryHead sq) s = .next t ∧
      posted s t c 5 r0 r1 false ∧ bufKept s t c 0 0) ∧
    (∀ h : Word, s.turn sq 0x08 c → bitOf (dArg c.desc 28 1) 0 = false → (s.chan (dChan c.desc)).everOpened = true →
      (s.chan (dChan c.desc)).halted = false → c.waits = [(dChan c.desc, h)] →
      (seqLe h (s.chan (dChan c.desc)).written = true → ∃ t, exec (.flush sq) s = .next t ∧
        posted s t c 0 h 0 false ∧ bufKept s t c 0 0) ∧
      (seqLe h (s.chan (dChan c.desc)).written = false → ∃ (t : State) (c' : Cmd),
        exec (.flush sq) s = .next t ∧ c'.running = true ∧ c'.waits = c.waits ∧
        t.cmds = s.cmds.map (fun (d : Cmd) => if d.tag == c.tag then c' else d) ∧
        t = { s with cmds := t.cmds, freeCtr := t.freeCtr })) ∧
    (s.turn sq 0x08 c → bitOf (dArg c.desc 28 1) 0 = true →
      (∀ w ∈ c.waits, (s.chan w.1).halted = false ∧ seqLe w.2 (s.chan w.1).written = true) → ∃ (t : State) (r0 : Word),
      exec (.flush sq) s = .next t ∧ posted s t c 0 r0 0 false ∧ bufKept s t c 0 0) ∧
    (s.turn sq 0x09 c →
      (s.owns (dChan c.desc) = false ∨ s.flag Reg.OVR_CTRL_EN = false ∨ ((s.chan (dChan c.desc)).accepts = true ∧
          ((s.chan (dChan c.desc)).halted = true ∨ (s.chan (dChan c.desc)).mirror = false)) → ∃ t,
        exec (.mirrorResync sq) s = .next t ∧ posted s t c 0x24 (s.chan (dChan c.desc)).mirrored 0 false) ∧
      ((s.chan (dChan c.desc)).accepts = false → s.owns (dChan c.desc) = true → s.flag Reg.OVR_CTRL_EN = true → ∃ t,
        exec (.mirrorResync sq) s = .next t ∧
        posted s t c 5 (s.chan (dChan c.desc)).mirrored 0 false) ∧
      ((s.chan (dChan c.desc)).accepts = true → (s.chan (dChan c.desc)).halted = false → (s.chan (dChan c.desc)).mirror = true →
        s.owns (dChan c.desc) = true → s.flag Reg.OVR_CTRL_EN = true →
        (s.linkUp = false → ∃ t, exec (.mirrorResync sq) s = .next t ∧
          posted s t c 0x28 (s.chan (dChan c.desc)).mirrored 0 false) ∧
        (s.linkUp = true → (s.chan (dChan c.desc)).mirrored = (s.chan (dChan c.desc)).durable →
          seqLe c.target (s.chan (dChan c.desc)).mirrored = true → ∃ t,
          exec (.mirrorResync sq) s = .next t ∧ posted s t c 0 (s.chan (dChan c.desc)).mirrored 0 false))))

/-- SEAL (R65, R126, R129): a SEQ already sealed posts the identity of the seal that covers it; one beyond DURABLE_HEAD posts GAP; otherwise a command
seal covering DURABLE_HEAD is formed and queued. OPEN_CHANNEL (R14, R65, R132, R133): the refusals, and the channel, bushel and results of an opening.
CLOSE_CHANNEL (R53, R65, R126): its refusals, its wait behind a write in flight, and the close that begins. -/
def Obligations.ChannelLifeCommands : Prop :=
  (∀ (s : State) (sq : Nat) (c : Cmd), s.live = true → s.turn sq 0x03 c →
    (s.chan (dChan c.desc)).everOpened = true → (s.chan (dChan c.desc)).halted = false →
    (∀ k, seqLe (dSeq c.desc) (s.chan (dChan c.desc)).sealed = true → (s.chan (dChan c.desc)).sealFor (dSeq c.desc) = some k →
      (∀ f, (s.chan (dChan c.desc)).sealsFrom = some f → seqLe (dSeq c.desc) f = false) → ∃ t,
      exec (.seal sq) s = .next t ∧ posted s t c 0 (BitVec.ofNat 32 k.ordinal) k.covers false ∧ bufKept s t c 0 0) ∧
    (seqLe (dSeq c.desc) (s.chan (dChan c.desc)).sealed = false → seqLt (s.chan (dChan c.desc)).durable (dSeq c.desc) = true →
      ∃ (t : State) (r0 r1 : Word), exec (.seal sq) s = .next t ∧ posted s t c 2 r0 r1 false ∧ bufKept s t c 0 0) ∧
    (∀ k, seqLe (dSeq c.desc) (s.chan (dChan c.desc)).sealed = false → seqLt (s.chan (dChan c.desc)).durable (dSeq c.desc) = false →
      (s.chan (dChan c.desc)).sealFor (dSeq c.desc) = none → s.due = [] → s.creditFree (dChan c.desc) = true → s.time.valid = true →
      (s.setCmd { c with running := true, target := dSeq c.desc }).debitOk (s.costOf (s.chan (dChan c.desc)).bushel) = true →
      (s.chan (dChan c.desc)).credit = some k →
      (s.chan (dChan c.desc)).mirror = false → ∃ (t : State) (r : Rec), exec (.seal sq) s = .next t ∧
      t.cmds = s.cmds.map (fun (d : Cmd) => if d.tag == c.tag then { c with running := true, target := dSeq c.desc } else d) ∧
      (t.rw (s.chan (dChan c.desc)).act).wq = (s.rw (s.chan (dChan c.desc)).act).wq ++ [r] ∧ r.kind = .seal ∧ r.reason = 2 ∧
      r.chan = dChan c.desc ∧ r.seq = (s.chan (dChan c.desc)).durable ∧ r.ordinal = (s.chan (dChan c.desc)).ordinal + 1 ∧
      r.bushel = (s.chan (dChan c.desc)).bushel ∧ r.account = .record ∧ r.onCredit = true ∧ r.page = k.page ∧
      (t.chan (dChan c.desc)).ordinal = (s.chan (dChan c.desc)).ordinal + 1 ∧
      (t.chan (dChan c.desc)).covers = (s.chan (dChan c.desc)).durable ∧
      (t.chan (dChan c.desc)).durable = (s.chan (dChan c.desc)).durable ∧
      (∀ m, m ≠ dChan c.desc → t.chan m = s.chan m) ∧ t.regs = s.regs ∧ t.evr = s.evr ∧ t.due = [])) ∧
  (∀ (s : State) (sq : Nat) (c : Cmd), s.live = true → s.turn sq 0x04 c →
    ((s.chan (dChan c.desc)).isOpen = true ∨ s.owns (dChan c.desc) = false → ∃ (t : State) (r0 : Word),
      exec (.openChannel sq) s = .next t ∧ posted s t c 0x24 r0 0 false ∧ bufKept s t c 0 0 ∧ t.chans = s.chans) ∧
    ((s.chan (dChan c.desc)).isOpen = false → s.owns (dChan c.desc) = true → bitOf (dArg c.desc 30 1) 0 = false →
      s.fifoA = [] → s.fifoB = [] → ∃ (t : State) (r0 : Word), exec (.openChannel sq) s = .next t ∧ posted s t c 0x25 r0 0 false ∧
      t.getF Reg.LDG_EVENTS_NO_BUSHEL = 1 ∧
      t.chans = s.chans) ∧
    (∀ (b p : Nat) (rest : List Nat), (s.chan (dChan c.desc)).isOpen = false → s.owns (dChan c.desc) = true →
      bitOf (dArg c.desc 30 1) 0 = false → s.fifoA = b :: rest → s.time.valid = true →
      s.sealCreditOk (dChan c.desc) b = true → s.nextPage = some p →
      s.flag Reg.ARB_STATUS_SHORTFALL = false → ∃ t, exec (.openChannel sq) s = .next t ∧
      posted s t c 0 (BitVec.ofNat 32 b) 0 false ∧ t.fifoA = rest ∧ t.fifoB = s.fifoB ∧
      (t.chan (dChan c.desc)).isOpen = true ∧ (t.chan (dChan c.desc)).halted = false ∧
      (t.chan (dChan c.desc)).durable = dSeq c.desc - 1 ∧ (t.chan (dChan c.desc)).written = dSeq c.desc - 1 ∧
      (t.chan (dChan c.desc)).mirrored = dSeq c.desc - 1 ∧ (t.chan (dChan c.desc)).sealed = dSeq c.desc - 1 ∧
      (t.chan (dChan c.desc)).frameMax = dArg c.desc 28 1 ∧ (t.chan (dChan c.desc)).cls = dArg c.desc 29 1 ∧
      (t.chan (dChan c.desc)).sealEvery = (if dArg c.desc 32 4 = 0 then 256 else dArg c.desc 32 4) ∧
      (t.chan (dChan c.desc)).opening = (s.chan (dChan c.desc)).nextOpening ∧ (t.chan (dChan c.desc)).bushel = b ∧
      (t.chan (dChan c.desc)).chain = chainZero uid (dChan c.desc) (s.chan (dChan c.desc)).nextOpening (dSeq c.desc) ∧
      (t.bushel b).state = .opened ∧ (t.bushel b).gen = (s.bushel b).gen + 1 ∧ (t.bushel b).chan = dChan c.desc ∧
      (∀ m, m ≠ dChan c.desc → t.chan m = s.chan m) ∧ ∀ m, m ≠ b → t.bushel m = s.bushel m)) ∧
  (∀ (s : State) (sq : Nat) (c : Cmd), s.live = true → s.turn sq 0x05 c →
    ((s.chan (dChan c.desc)).accepts = false → ∃ (t : State) (r0 r1 : Word), exec (.closeChannel sq) s = .next t ∧
      posted s t c 5 r0 r1 false ∧ t.chans = s.chans) ∧
    ((s.chan (dChan c.desc)).accepts = true → (s.chan (dChan c.desc)).halted = true → ∃ (t : State) (r0 r1 : Word),
      exec (.closeChannel sq) s = .next t ∧ posted s t c 0x24 r0 r1 false ∧ t.chans = s.chans) ∧
    ((s.chan (dChan c.desc)).accepts = true → (s.chan (dChan c.desc)).halted = false → s.writeBusy (dChan c.desc) = true →
      exec (.closeChannel sq) s = .next s) ∧
    ((s.chan (dChan c.desc)).accepts = true → (s.chan (dChan c.desc)).halted = false → s.writeBusy (dChan c.desc) = false →
      s.due = [] → (s.chan (dChan c.desc)).credit.isSome = true → ∃ t, exec (.closeChannel sq) s = .next t ∧
      (t.chan (dChan c.desc)).closing = true ∧ (t.chan (dChan c.desc)).durable = (s.chan (dChan c.desc)).durable ∧
      t.cmds = s.cmds.map (fun (d : Cmd) => if d.tag == c.tag then { c with running := true } else d) ∧
      (t.sealDue (dChan c.desc) = true ∨ ((t.chan (dChan c.desc)).ordinal = (s.chan (dChan c.desc)).ordinal + 1 ∧
        (t.chan (dChan c.desc)).covers = (s.chan (dChan c.desc)).durable)) ∧ ∀ m, m ≠ dChan c.desc → t.chan m = s.chan m))

/-- Reads, queues and commands run to their effect (R38, R43, R44, R58, R62 to R68, R72, R92, R135, R360): under conditions on the state and the
operands alone each of these rows answers a next state with its own effect: the commit edge advances DURABLE_HEAD; READ_STREAM is admitted and its
data end the frame; firmware's doorbell moves TAIL; a fetched descriptor joins the commands in flight; a queued write is copied, a forwarded command
enters the forward ring and firmware's post ends it; READ_GRAINS, VERIFY_RANGE and ZERO_WINDOW begin, the ends of READ_GRAINS and ZERO_WINDOW post
SUCCESS, and the end of VERIFY_RANGE posts how many grains verified, with the code of the outcome; QUERY_HEAD,
RELEASE_BUSHEL, FLUSH, the MIRROR_RESYNC of a channel that is not behind, READ_EVENTS, SET_RESERVATION and the SEAL of a sealed sequence post SUCCESS;
OPEN_CHANNEL opens the channel; CLOSE_CHANNEL begins to close it. -/
def Obligations.CommandsComplete : Prop :=
  ∀ (s : State), s.live = true →
    (∀ (f : Frame) (sq bsy : Nat), s.port.frame = some f → f.phase = .writing → f.ty = 0 → f.driven = true → f.statusLost = false →
      f.crc = f.trailer → (s.chan f.chan).halted = false → (s.chan f.chan).isOpen = true → ∃ t,
      exec (.commitEdge false sq bsy) s = .next t ∧
      (t.chan f.chan).durable = (s.chan f.chan).durable + BitVec.ofNat 32 f.pages.length) ∧
    (∀ (tid n len : Nat) (seq : Word), s.portTurn = true →
      (s.sessionOpen tid && s.assigned tid n && s.readable n && s.tagOk 1 (some tid)) = true → 1 ≤ len → len ≤ 16 →
      (readSeqs seq len).all (fun g => seqLe g (s.readHead n)) = true → (readSeqs seq len).all (fun g => (s.resident n g).isSome) = true →
      ∃ (t : State) (f : Frame), exec (.spReadStream tid n len seq) s = .next t ∧ t.port.frame = some f ∧ f.phase = .reading ∧
        f.chan = n ∧ f.len = len ∧ f.word1 = seq) ∧
    (∀ (f : Frame) (bsy : Nat), s.port.frame = some f → f.phase = .reading → f.ty = 1 → ∃ t, exec (.spReadDataReady bsy) s = .next t ∧
      t.port.frame = none ∧ t.port.out.length = 1032 * f.len + 3) ∧
    (∀ src q ix : Nat, q < 256 → ix < 4096 → s.flag Reg.QCFG_FW q = true → s.flag Reg.QCFG_EN q = true → s.flag Reg.QCFG_DIR q = false →
      ix < s.qDepth q → (s.getF Reg.QIDX_TAIL q + s.qDepth q - s.getF Reg.QIDX_HEAD q) % s.qDepth q ≤
        (ix + s.qDepth q - s.getF Reg.QIDX_HEAD q) % s.qDepth q → ∃ t,
      exec (.qdbWrite src (BitVec.ofNat 32 (q + 65536 * ix))) s = .next t ∧ t.getF Reg.QIDX_TAIL q = ix) ∧
    (∀ (sq : Nat) (d : List Byte), s.canFetch sq = true → s.outranked sq = false → s.ecc.bad = [] → d = s.headDesc sq → s.qDepth sq ≤ 4096 →
      s.fetchable sq d = true → s.storedFor sq d = none → s.examine (s.qOwner sq) d = none → dOp d ≠ 0x10 → ∃ (t : State) (c : Cmd),
      exec (.descriptorFetch sq) s = .next t ∧ t.cmds = s.cmds ++ [c] ∧ c.desc = d ∧ c.sq = sq ∧
      t.getF Reg.QIDX_HEAD sq = (s.getF Reg.QIDX_HEAD sq + 1) % s.qDepth sq) ∧
    (∀ (sq : Nat) (c : Cmd), s.turn sq 0x10 c → ∃ t, exec (.queuedWriteGrains sq) s = .next t ∧
      t.cmds = s.cmds.map (fun (d : Cmd) => if d.tag == c.tag then
        { c with running := true, crc := crc32c (s.bufRead (s.cmdAddr c) (4096 * dCount c.desc)), ends := none } else d)) ∧
    (∀ (sq : Nat) (c : Cmd), s.cmds.find? (fun c => c.sq == sq && forwarded c.op && !c.running) = some c → s.ecc.bad = [] →
      4096 * s.getF Reg.FWD_BASE_BASE + 128 * s.getF Reg.FWD_CTRL_TAIL + 128 ≤ 0x1000000 → c.desc.length = 64 → ∃ t,
      exec (.forwardedOpcode sq) s = .next t ∧ t.getF Reg.FWD_CTRL_TAIL = (s.getF Reg.FWD_CTRL_TAIL + 1) % 64 ∧
      ∀ k < 64, t.bufByte (4096 * s.getF Reg.FWD_BASE_BASE + 128 * s.getF Reg.FWD_CTRL_TAIL + k) = byteAt c.desc k) ∧
    (∀ (src tag code : Nat) (c : Cmd), tag < 1024 → code < 256 → s.cmds.find? (fun c => c.tag == tag && forwarded c.op) = some c →
      codeDefined code = true → s.ringSound c.cq = true → ∃ t,
      exec (.fwdPost src (BitVec.ofNat 32 (tag + 65536 * code))) s = .next t ∧ t.cmds = s.cmds.filter (fun d => d.tag != c.tag) ∧
      t.getF Reg.QIDX_TAIL c.cq = (s.getF Reg.QIDX_TAIL c.cq + 1) % s.qDepth c.cq) ∧
    (∀ (sq : Nat) (c : Cmd),
      (s.turn sq 0x01 c → s.hasOpening (dChan c.desc) = true → c.ends = none → (s.chan (dChan c.desc)).lost = none →
        (∀ q ∈ seqsFrom (dSeq c.desc) (dCount c.desc), seqLe q (s.readHead (dChan c.desc)) = true ∧
          s.releasedFor (dChan c.desc) q c.tag = false ∧ s.resident (dChan c.desc) q = none ∧
          s.flag Reg.BMAP_VALID (s.bushelFor (dChan c.desc) q) = true) → ∃ t, exec (.readGrains sq) s = .next t ∧
        (readsOf c.tag (t.rw 0)).length + (readsOf c.tag (t.rw 1)).length =
          (readsOf c.tag (s.rw 0)).length + (readsOf c.tag (s.rw 1)).length + dCount c.desc) ∧
      (s.turn sq 0x07 c → s.hasOpening (dChan c.desc) = true → seqLe (dSeq c.desc) (s.heads (dChan c.desc)).2.2.2 = true →
        seqLe (dSeq c.desc + BitVec.ofNat 32 (dCount c.desc - 1)) (s.heads (dChan c.desc)).2.2.2 = true →
        s.rangeReleased (dChan c.desc) (dSeq c.desc) (dSeq c.desc + BitVec.ofNat 32 (dCount c.desc - 1)) c.tag = false → ∃ t,
        exec (.verifyRange sq) s = .next t ∧
        t.cmds = s.cmds.map (fun (d : Cmd) => if d.tag == c.tag then { c with running := true } else d)) ∧
      (s.turn sq 0x0B c → ∃ t, exec (.zeroWindow sq) s = .next t ∧
        t.cmds = s.cmds.map (fun (d : Cmd) => if d.tag == c.tag then { c with running := true } else d)) ∧
      (s.cmds.find? (fun d => d.sq == sq && d.op == 0x01 && d.running && s.readOver d) = some c → s.ringSound c.cq = true →
        c.ends = none → ∃ t, exec (.readGrainsComplete sq) s = .next t ∧
        posted s t c 0 (BitVec.ofNat 32 (dCount c.desc)) (dSeq c.desc + BitVec.ofNat 32 (dCount c.desc)) false) ∧
      (∀ (media : Media) (b : Bool) (v : Nat), s.underWay sq 0x07 = some c → s.ringSound c.cq = true →
        v = s.verified media (dChan c.desc) (dSeq c.desc) (dCount c.desc) → ∃ (t : State) (r1 : Word),
        exec (.verifyRangeComplete sq media b) s = .next t ∧
        posted s t c (if v = dCount c.desc then 0 else if b then 0x26 else 0x27) (BitVec.ofNat 32 v) r1 false) ∧
      (∀ a n : Nat, s.underWay sq 0x0B = some c → s.ringSound c.cq = true → a = s.winBase (dArg c.desc 28 1) (dArg c.desc 29 1) →
        n = s.getF Reg.WPAGES_PAGES (8 * dArg c.desc 28 1 + dArg c.desc 29 1) → a + 4096 * n ≤ 0x1000000 → ∃ t,
        exec (.zeroWindowComplete sq) s = .next t ∧ posted s t c 0 (BitVec.ofNat 32 n) 0 false ∧
        ∀ x, a ≤ x → x < a + 4096 * n → (x < s.entryAddr c.cq ∨ s.entryAddr c.cq + 16 ≤ x) → t.bufByte x = 0) ∧
      (s.turn sq 0x02 c → s.hasOpening (dChan c.desc) = true → s.cmdAddr c + 32 ≤ 0x1000000 → ∃ t,
        exec (.queryHead sq) s = .next t ∧ posted s t c 0 (s.heads (dChan c.desc)).1 (s.heads (dChan c.desc)).2.1 false) ∧
      (s.turn sq 0x06 c → (s.cmds.takeWhile (fun d => d.tag != c.tag)).any (fun d => (d.op == 0x01 || d.op == 0x07) &&
          dChan d.desc == (s.bushel (dArg c.desc 28 4)).chan) = false → 2 ≤ dArg c.desc 28 4 →
        (s.bushel (dArg c.desc 28 4)).state = .closed → s.bushelSealed (dArg c.desc 28 4) = true → ∃ t,
        exec (.releaseBushel sq) s = .next t ∧ posted s t c 0 (BitVec.ofNat 32 (dArg c.desc 28 4)) 0 false ∧
        (t.bushel (dArg c.desc 28 4)).state = .released) ∧
      (∀ h : Word, s.turn sq 0x08 c → bitOf (dArg c.desc 28 1) 0 = false → (s.chan (dChan c.desc)).everOpened = true →
        (s.chan (dChan c.desc)).halted = false → c.waits = [(dChan c.desc, h)] → seqLe h (s.chan (dChan c.desc)).written = true → ∃ t,
        exec (.flush sq) s = .next t ∧ posted s t c 0 h 0 false) ∧
      (s.turn sq 0x09 c → (s.chan (dChan c.desc)).accepts = true → (s.chan (dChan c.desc)).halted = false →
        (s.chan (dChan c.desc)).mirror = true → s.owns (dChan c.desc) = true → s.flag Reg.OVR_CTRL_EN = true → s.linkUp = true →
        (s.chan (dChan c.desc)).mirrored = (s.chan (dChan c.desc)).durable → seqLe c.target (s.chan (dChan c.desc)).mirrored = true → ∃ t,
        exec (.mirrorResync sq) s = .next t ∧ posted s t c 0 (s.chan (dChan c.desc)).mirrored 0 false) ∧
      (s.turn sq 0x0A c → s.cmdAddr c + 16 * dCount c.desc ≤ 0x1000000 → ∃ t, exec (.readEvents sq) s = .next t ∧
        posted s t c 0 (BitVec.ofNat 32 (dCount c.desc)) 0 false) ∧
      (s.turn sq 0x0C c →
        (s.setTen (dArg c.desc 28 1) { s.ten (dArg c.desc 28 1) with share := shareOf c.desc }).sharesFit = true → ∃ t,
        exec (.setReservation sq) s = .next t ∧ (t.ten (dArg c.desc 28 1)).share = shareOf c.desc ∧ posted s t c 0 0 0 false) ∧
      (∀ k : SealId, s.turn sq 0x03 c → (s.chan (dChan c.desc)).everOpened = true → (s.chan (dChan c.desc)).halted = false →
        seqLe (dSeq c.desc) (s.chan (dChan c.desc)).sealed = true → (s.chan (dChan c.desc)).sealFor (dSeq c.desc) = some k →
        (s.chan (dChan c.desc)).sealsFrom = none → ∃ t, exec (.seal sq) s = .next t ∧
        posted s t c 0 (BitVec.ofNat 32 k.ordinal) k.covers false) ∧
      (∀ (b p : Nat) (rest : List Nat), s.turn sq 0x04 c → (s.chan (dChan c.desc)).isOpen = false → s.owns (dChan c.desc) = true →
        bitOf (dArg c.desc 30 1) 0 = false → s.fifoA = b :: rest → s.time.valid = true → s.sealCreditOk (dChan c.desc) b = true →
        s.nextPage = some p → s.flag Reg.ARB_STATUS_SHORTFALL = false → ∃ t, exec (.openChannel sq) s = .next t ∧
        (t.chan (dChan c.desc)).isOpen = true ∧ (t.chan (dChan c.desc)).bushel = b ∧
        (t.chan (dChan c.desc)).durable = dSeq c.desc - 1 ∧ t.fifoA = rest) ∧
      (s.turn sq 0x05 c → (s.chan (dChan c.desc)).accepts = true → (s.chan (dChan c.desc)).halted = false →
        s.writeBusy (dChan c.desc) = false → s.due = [] → (s.chan (dChan c.desc)).credit.isSome = true → ∃ t,
        exec (.closeChannel sq) s = .next t ∧ (t.chan (dChan c.desc)).closing = true ∧
        t.cmds = s.cmds.map (fun (d : Cmd) => if d.tag == c.tag then { c with running := true } else d)))

/-! ## Tenants (spec/04) -/

/-- CHALLENGE and RESPOND (R79, R80): a fresh nonce; a matching response opens the session; the fourth failure in a row locks it for a time that
doubles with each lock, up to 64 s, and every failure is recorded. CLOSE and the two expiries (R79 to R81). -/
def Obligations.SessionLife : Prop :=
  (∀ (s : State) (tid : Nat), s.live = true →
    (s.tenantIs tid = true → (s.ten tid).sess ≠ 2 → (s.ten tid).sess ≠ 3 → ∃ t, exec (.sessionChallenge tid) s = .next t ∧
      t.ten tid = { s.ten tid with sess := 1, nonce := some (Config.freshNonce s.freeCtr) } ∧ (∀ u, u ≠ tid → t.ten u = s.ten u) ∧
      t = { s with freeCtr := s.freeCtr + 1, tenants := t.tenants }) ∧
    ((s.ten tid).sess = 3 → exec (.sessionChallenge tid) s = .next s) ∧
    (∀ nonce, s.tenantIs tid = true → (s.ten tid).sess = 1 → (s.ten tid).nonce = some nonce →
      ((s.ten tid).given = hmac (s.ten tid).key (leBytes 16 nonce.toNat ++ leBytes 1 tid ++ uid) → ∃ t,
        exec (.sessionRespond tid) s = .next t ∧ t.sessionOpen tid = true ∧ (t.ten tid).nonce = none ∧ (t.ten tid).fails = 0 ∧
        (∀ u, u ≠ tid → t.ten u = s.ten u) ∧ t = { s with tenants := t.tenants }) ∧
      ((s.ten tid).given ≠ hmac (s.ten tid).key (leBytes 16 nonce.toNat ++ leBytes 1 tid ++ uid) → ∃ t,
        exec (.sessionRespond tid) s = .next t ∧ t.sessionOpen tid = false ∧ (t.ten tid).nonce = none ∧
        (t.ten tid).fails = (s.ten tid).fails + 1 ∧ t.evr = (s.event 0x10 tid 0 ((s.ten tid).fails + 1)).evr ∧
        ((s.ten tid).run = 3 → (t.ten tid).sess = 3 ∧ (t.ten tid).lockMs = min (1000 * 2 ^ (s.ten tid).locks) 64000 ∧
          (t.ten tid).lockAt = s.time.dmt ∧
          (t.ten tid).locks = (s.ten tid).locks + 1) ∧
        ((s.ten tid).run < 3 → (t.ten tid).sess = 0 ∧ (t.ten tid).run = (s.ten tid).run + 1) ∧
        (∀ u, u ≠ tid → t.ten u = s.ten u) ∧ t = { s with tenants := t.tenants, evr := t.evr }))) ∧
  (∀ (s : State) (tid : Nat), s.live = true →
    ((s.ten tid).sess ≠ 3 → ∃ t, exec (.sessionClose tid) s = .next t ∧ t.ten tid = { s.ten tid with sess := 0, nonce := none } ∧
      (∀ u, u ≠ tid → t.ten u = s.ten u) ∧ t = { s with tenants := t.tenants }) ∧
    (∃ t, exec (.nonceExpiry tid) s = .next t ∧ t.ten tid = { s.ten tid with nonce := none } ∧ (∀ u, u ≠ tid → t.ten u = s.ten u) ∧
      t = { s with tenants := t.tenants }) ∧
    ((s.ten tid).sess = 3 → ∃ t, exec (.lockoutExpiry tid) s = .next t ∧ t.ten tid = { s.ten tid with sess := 0, lockMs := 0 } ∧
      (∀ u, u ≠ tid → t.ten u = s.ten u) ∧ t = { s with tenants := t.tenants }))

/-- TCFG_t and KEY_t (R76 to R78, R81, R82): who may write them, when a tenant may not be disabled, and what disabling it takes from it and leaves to
the others; a key applies whole, at its last word. CHAN_RIGHTS_n, WIN_t_w and WPAGES_t_w (R84, R85): the writer of an open channel stays; an enabled
window lies in the window region and overlaps no other tenant's. -/
def Obligations.TenantTable : Prop :=
  (∀ (s : State) (src u : Nat) (v : Word), s.live = true → u < 16 →
    (privileged src = false → exec (.tenantConfigWrite src u v) s = .next (s.denied src (regDetail (0x40030100 + 0x80 * u))) ∧
      ∀ i < 8, exec (.keyWrite src u i v) s = .next (s.denied src (regDetail (0x40031000 + 0x20 * u + 4 * i)))) ∧
    (privileged src = true →
      (bitOf v.toNat 0 = true → ∃ t, exec (.tenantConfigWrite src u v) s = .next t ∧ t.getF Reg.TCFG_EN u = 1 ∧
        t.getF Reg.TCFG_IRQ_PIN u = bitsOf v.toNat 1 2 ∧ onlyFields s t [(Reg.TCFG_EN, u), (Reg.TCFG_IRQ_PIN, u)]) ∧
      (u ≠ 0 → bitOf v.toNat 0 = false → (∃ n < 64, (s.chan n).isOpen = true ∧ s.mayWrite u n = true) → ∃ t,
        exec (.tenantConfigWrite src u v) s = .next t ∧ t.getF Reg.TENANT_STATUS_CFG_REJECT = 1 ∧
        onlyFields s t [(Reg.TENANT_STATUS_CFG_REJECT, 0)]) ∧
      (u ≠ 0 → bitOf v.toNat 0 = false → s.flag Reg.TCFG_EN u = true → (∀ n < 64, (s.chan n).isOpen = true → s.mayWrite u n = false) →
        (∀ q < 256, s.flag Reg.QCFG_EN q = true → s.qOwner q ≠ some u) → ∃ t, exec (.tenantConfigWrite src u v) s = .next t ∧
        t.getF Reg.TCFG_EN u = 0 ∧ t.sessionOpen u = false ∧ (t.ten u).key = List.replicate 32 0 ∧
        (∀ n < 64, t.assigned u n = false) ∧ (∀ w < 8, t.flag Reg.WIN_EN (8 * u + w) = false) ∧
        (∀ x < 16, x ≠ u → t.ten x = s.ten x ∧ ∀ n < 64, t.assigned x n = s.assigned x n) ∧ t.chans = s.chans ∧ t.cmds = s.cmds) ∧
      (∀ i < 7, ∃ t, exec (.keyWrite src u i v) s = .next t ∧ (t.ten u).key = (s.ten u).key ∧
        (t.ten u).keyStage = sput 0 i v (s.ten u).keyStage ∧ (∀ x, x ≠ u → t.ten x = s.ten x) ∧ t = { s with tenants := t.tenants }) ∧
      (∃ t, exec (.keyWrite src u 7 v) s = .next t ∧
        (t.ten u).key = wordsBytes ((List.range 8).map (fun j => if j = 7 then v else sget 0 j (s.ten u).keyStage)) ∧
        (t.ten u).keySet = true ∧ t.sessionOpen u = false ∧ (∀ x, x ≠ u → t.ten x = s.ten x) ∧ t = { s with tenants := t.tenants }))) ∧
  (∀ (s : State) (src n u w : Nat) (v : Word), s.live = true → n < 64 → u < 16 → w < 8 →
    (privileged src = false →
      exec (.chanRightsWrite src n v) s = .next (s.denied src (regDetail (0x40032000 + 4 * n))) ∧
      exec (.windowConfigWrite src u w true v) s = .next (s.denied src (regDetail (0x40030144 + 0x80 * u + 8 * w)))) ∧
    (privileged src = true →
      ((s.chan n).isOpen = true → bitsOf v.toNat 0 4 ≠ s.getF Reg.CHAN_RIGHTS_WRITER n → ∃ t,
        exec (.chanRightsWrite src n v) s = .next t ∧ t.getF Reg.TENANT_STATUS_CFG_REJECT = 1 ∧
        onlyFields s t [(Reg.TENANT_STATUS_CFG_REJECT, 0)]) ∧
      ((s.chan n).isOpen = false → ∃ t, exec (.chanRightsWrite src n v) s = .next t ∧
        t.getF Reg.CHAN_RIGHTS_WRITER n = bitsOf v.toNat 0 4 ∧ t.getF Reg.CHAN_RIGHTS_WRITER_EN n = bitsOf v.toNat 4 1 ∧
        t.getF Reg.CHAN_RIGHTS_READERS n = bitsOf v.toNat 16 16 ∧
        t = { s with regs := t.regs, stagings := t.stagings, pages := t.pages } ∧
        fieldsKept s t [(Reg.CHAN_RIGHTS_WRITER, n), (Reg.CHAN_RIGHTS_WRITER_EN, n), (Reg.CHAN_RIGHTS_READERS, n)]) ∧
      (bitOf v.toNat 31 = true → s.overlaps u (bitsOf v.toNat 0 12) (s.getF Reg.WPAGES_PAGES (8 * u + w)) = true ∨
          bitsOf v.toNat 0 12 < s.getF Reg.BUF_WREG_LO ∨
          s.getF Reg.BUF_WREG_LAST + 1 < bitsOf v.toNat 0 12 + s.getF Reg.WPAGES_PAGES (8 * u + w) → ∃ t,
        exec (.windowConfigWrite src u w false v) s = .next t ∧ t.getF Reg.TENANT_STATUS_CFG_REJECT = 1 ∧
        onlyFields s t [(Reg.TENANT_STATUS_CFG_REJECT, 0)]) ∧
      (bitOf v.toNat 31 = true → s.overlaps u (bitsOf v.toNat 0 12) (s.getF Reg.WPAGES_PAGES (8 * u + w)) = false →
        s.getF Reg.BUF_WREG_LO ≤ bitsOf v.toNat 0 12 →
        bitsOf v.toNat 0 12 + s.getF Reg.WPAGES_PAGES (8 * u + w) ≤ s.getF Reg.BUF_WREG_LAST + 1 → s.windowUsed u w = false → ∃ t,
        exec (.windowConfigWrite src u w false v) s = .next t ∧ t.getF Reg.WIN_BASE (8 * u + w) = bitsOf v.toNat 0 12 ∧
        t.getF Reg.WIN_EN (8 * u + w) = 1 ∧ onlyFields s t [(Reg.WIN_BASE, 8 * u + w), (Reg.WIN_EN, 8 * u + w)])))

/-! ## Buffer, arbiter, energy and media rates (spec/05, spec/10 R215 to R222) -/

/-- BUF_WREG and ARB_MIRROR_RATE (R97, R111): refused while a window is enabled or the regions would meet, or where the rates would pass the media
floor. GRANT_CUTOFF and CNT_CLR (R106, R108). Stagings (R100, R101, R122): a checked grain becomes a resident only where its record is valid under the
bushel's GEN; a failed check ends its READ_GRAINS as VERIFY_MISMATCH; after a timeout no unrevoked staging has the token. -/
def Obligations.BufferRegionsAndGrants : Prop :=
  (∀ (s : State) (src : Nat) (v : Word), s.live = true → privileged src = true →
    ((∃ i < 128, s.flag Reg.WIN_EN i = true) → ∃ t, exec (.bufRegionWrite src true v) s = .next t ∧
      t.getF Reg.QUEUE_STATUS_CFG_REJECT = 1 ∧ onlyFields s t [(Reg.QUEUE_STATUS_CFG_REJECT, 0)]) ∧
    ((∀ i < 128, s.flag Reg.WIN_EN i = false) →
      regionsMeet (s.getF Reg.BUF_POOL_BASE_PAGE) (bitsOf v.toNat 0 12) (bitsOf v.toNat 16 12) = false → ∃ t,
      exec (.bufRegionWrite src true v) s = .next t ∧ t.getF Reg.BUF_WREG_LO = bitsOf v.toNat 0 12 ∧
      t.getF Reg.BUF_WREG_LAST = bitsOf v.toNat 16 12 ∧ onlyFields s t [(Reg.BUF_WREG_LO, 0), (Reg.BUF_WREG_LAST, 0)]) ∧
    (s.mediaFloor < s.shareSum Share.rate + bitsOf v.toNat 0 24 → ∃ t, exec (.mirrorRateWrite src v) s = .next t ∧
      t.getF Reg.QUEUE_STATUS_CFG_REJECT = 1 ∧ onlyFields s t [(Reg.QUEUE_STATUS_CFG_REJECT, 0)]) ∧
    (s.shareSum Share.rate + bitsOf v.toNat 0 24 ≤ s.mediaFloor → ∃ t, exec (.mirrorRateWrite src v) s = .next t ∧
      t.getF Reg.ARB_MIRROR_RATE_RATE = bitsOf v.toNat 0 24)) ∧
  (∀ (s : State) (b k src : Nat) (g : Request), s.live = true →
    ((s.bank b).grant = some g → ∃ t, exec (.grantCutoff b k) s = .next t ∧ (t.bank b).grant = none ∧
      (t.bank b).reqs = (s.bank b).reqs ++ [{ who := g.who, beats := g.beats - k, late := s.getF Reg.ARB_CFG_CUTOFF g.who }] ∧
      t.getF Reg.ARB_STAT_CUTS g.who = min (s.getF Reg.ARB_STAT_CUTS g.who + 1) 65535 ∧ t.evr = (s.eventC 0x11 g.who b).evr ∧
      t = { s with regs := t.regs, banks := t.banks, evr := t.evr } ∧ fieldsKept s t [(Reg.ARB_STAT_CUTS, g.who)]) ∧
    (∃ t, exec (.arbCounterClear src) s = .next t ∧
      (∀ n < 12, t.getF Reg.ARB_GRANTS_COUNT n = 0 ∧ t.getF Reg.ARB_WAIT_CYCLES n = 0 ∧ t.getF Reg.ARB_STAT_LWAIT n = 0) ∧
      onlyFields s t ((List.range 12).flatMap (fun n =>
        [(Reg.ARB_GRANTS_COUNT, n), (Reg.ARB_WAIT_CYCLES, n), (Reg.ARB_STAT_LWAIT, n)])))) ∧
  (∀ (s : State) (tok : BitVec 16) (g : Staging), s.live = true →
    (s.stagings.find? (fun t => t.token == tok && !t.checked) = some g → g.revoked = false → s.ecc.bad = [] →
      (recordValid (s.bushel g.bushel).gen g.hdr (s.bufRead (4096 * g.page) 4096) = true →
        exec (.stagingCheckDone tok) s = .next
          { s with stagings := s.stagings.map (fun (x : Staging) => if x.token = tok then { x with checked := true } else x) }) ∧
      (∀ c : Cmd, recordValid (s.bushel g.bushel).gen g.hdr (s.bufRead (4096 * g.page) 4096) = false →
        s.cmds.find? (fun d => d.tag == g.tag) = some c → c.ends = none → ∃ t, exec (.stagingCheckDone tok) s = .next t ∧
        t.stagings = s.stagings.filter (fun x => x.token != tok) ∧
        t.cmds = s.cmds.map (fun (d : Cmd) => if d.tag == c.tag then { c with ends := some (0x27, g.seq) } else d) ∧
        t = { s with stagings := t.stagings, cmds := t.cmds, pages := t.pages, rwc := t.rwc })) ∧
    (∃ t, exec (.stagingTimeout tok) s = .next t ∧ t.stagings.any (fun x => x.token == tok && !x.revoked) = false ∧
      t.stagings.filter (fun x => x.token != tok) = s.stagings.filter (fun x => x.token != tok) ∧
      t = { s with stagings := t.stagings, pages := t.pages }))

/-- The arbiter (R103 to R105, R107, R108): among the requests whose sideband is not asserted the highest PRIO wins, and among equals the first in the
rotation that starts just after that level's last grantee; its burst is at most BURST, and the grant and its wait are counted. That the beats beyond
are asked for again is the model's choice (log entry 69). -/
def Obligations.ArbiterPicksByPriority : Prop :=
  ∀ (s : State) (b cycles : Nat) (reqs : List (Nat × Nat × Nat)), s.live = true →
    let pending : List Request :=
      (s.bank b).reqs.map (fun (r : Request) => { r with waited := r.waited + (cycles - r.late), late := 0 }) ++
      (reqs.filter (fun r => decide (r.1 < 12))).map (fun r => ({ who := r.1, beats := r.2.1, waited := min r.2.2 cycles } : Request))
    let free := pending.filter (fun r => !s.flag Reg.ARB_CFG_MASKED r.who)
    (free = [] → ∃ t, exec (.bankArbitration b cycles reqs) s = .next t ∧
      t.bank b = { s.bank b with grant := none, reqs := pending } ∧ t = { s with banks := t.banks }) ∧
    (free ≠ [] → (∀ r ∈ pending, r.who < 12) → ∃ (t : State) (g : Request), exec (.bankArbitration b cycles reqs) s = .next t ∧ g ∈ free ∧
      (t.bank b).grant = some { g with beats := min g.beats (s.getF Reg.ARB_CFG_BURST g.who) } ∧
      (t.bank b).reqs = pending.erase g ++ (if s.getF Reg.ARB_CFG_BURST g.who < g.beats then
        [{ who := g.who, beats := g.beats - s.getF Reg.ARB_CFG_BURST g.who, late := s.getF Reg.ARB_CFG_BURST g.who }] else []) ∧
      (∀ r ∈ free, s.prioOf r.who ≤ s.prioOf g.who ∧ (s.prioOf r.who = s.prioOf g.who →
        rotation (sget 11 (s.prioOf g.who) (s.bank b).ptr) g.who ≤ rotation (sget 11 (s.prioOf g.who) (s.bank b).ptr) r.who)) ∧
      t.getF Reg.ARB_GRANTS_COUNT g.who = (s.getF Reg.ARB_GRANTS_COUNT g.who + 1) % 2 ^ 32 ∧
      t.getF Reg.ARB_WAIT_CYCLES g.who = (s.getF Reg.ARB_WAIT_CYCLES g.who + g.waited) % 2 ^ 32 ∧
      (∀ m, m ≠ b → t.bank m = s.bank m) ∧ t = { s with regs := t.regs, banks := t.banks, cache := t.cache } ∧
      fieldsKept s t [(Reg.ARB_GRANTS_COUNT, g.who), (Reg.ARB_WAIT_CYCLES, g.who), (Reg.ARB_STAT_LWAIT, g.who)])

/-- The measured account (R215, R217, R220): E_CAP from the lowest of the last four measurements, ENG_LEND from it and E_KIN, and admission closed
where ENG_COMMIT exceeds it; the reopening. MEDIA_NOW (R112 to R114): what it is recomputed to, and when a shortfall begins and ends. The shed-frame
boundary (R115): each open channel under reduction gets its quota, with what is left of the last carried over up to FRAME_MAX − 1. -/
def Obligations.EnergyAndMediaMeasured : Prop :=
  (∀ (s : State) (mv v : Nat), s.live = true →
    (((mv :: s.power.vholds).take 4).min? = some v → s.flag Reg.ENG_CTRL_EN = true → ∃ t, exec (.energyMeasure mv) s = .next t ∧
      t.power.vhold = mv ∧ t.power.vholds = (mv :: s.power.vholds).take 4 ∧
      t.getF Reg.ENG_ECAP_E = (if v < s.getF Reg.ENG_VMIN_MV then 0
        else satN 24 (s.getF Reg.ENG_KCAP_K * (v * v - s.getF Reg.ENG_VMIN_MV * s.getF Reg.ENG_VMIN_MV) / (65536 * 1000000))) ∧
      t.getF Reg.ENG_LEND_E = satN 24 (t.getF Reg.ENG_ECAP_E + s.getF Reg.ENG_EKIN_E - 1600) ∧
      t.commit = s.commit ∧ (t.lend < t.commit → t.lendOk = false) ∧ (t.commit ≤ t.lend → t.lendOk = s.lendOk) ∧
      t.chans = s.chans ∧ t.rwc = s.rwc ∧ t.port = s.port) ∧
    (s.lendOk = false → s.flag Reg.ENG_CTRL_EN = true → s.commit + s.getF Reg.ENG_REOPEN_E ≤ s.lend → ∃ t,
      exec .energyReopen s = .next t ∧ t.lendOk = true ∧ t.evr = (s.event 0x33 0 0 (s.lend - s.commit)).evr ∧
      (∀ u < 16, s.sessionOpen u = true → (t.ten u).cause = (s.ten u).cause ||| 0x20) ∧
      (∀ u < 16, s.sessionOpen u = false → t.ten u = s.ten u) ∧
      t = { s with regs := t.regs, evr := t.evr, tenants := t.tenants } ∧ fieldsKept s t [(Reg.ENG_STATUS_LEND_OK, 0)])) ∧
  (∀ s : State, s.live = true → ∃ t, exec .mediaNowRecompute s = .next t ∧
    t.getF Reg.MEDIA_NOW_RATE = satN 24 (s.getF Reg.ZONE_SMIN_GRAINS *
      min (8 * min (s.getF Reg.SPN_NSET_RPM) (s.getF Reg.SPN_CAP_RPM)) (s.getF Reg.CHN_RPM_RPM8) * s.getF Reg.ARB_CTRL_DERATE /
        (8 * 60 * 256) * (b2n (s.available 0) + b2n (s.available 1))) ∧
    (t.flag Reg.ARB_STATUS_SHORTFALL = true ↔ t.getF Reg.MEDIA_NOW_RATE < s.resvSum) ∧
    (s.flag Reg.ARB_STATUS_SHORTFALL = true → t.flag Reg.ARB_STATUS_SHORTFALL = false → t.shed = [] ∧ t.shedIn = [] ∧
      t.getF Reg.ARB_STATUS_MARGIN = 7) ∧
    t.chans = s.chans ∧ t.rwc = s.rwc ∧ t.pages = s.pages ∧ t.buf = s.buf ∧ t.port = s.port ∧ t.cmds = s.cmds) ∧
  (∀ s : State, s.live = true →
    (s.flag Reg.ARB_STATUS_SHORTFALL = false → exec .shedFrameBoundary s = .next s) ∧
    (s.flag Reg.ARB_STATUS_SHORTFALL = true → s.mediaNow < s.resvSum → ∃ t, exec .shedFrameBoundary s = .next t ∧
      t.flag Reg.ARB_STATUS_SHORTFALL = true ∧
      ∀ n < 64, (s.chan n).isOpen = true → (t.shedOf n).quota =
        (if (t.shedOf n).factor < 32768 then (s.shedOf n).basis * (t.shedOf n).factor / 327680 else 0) +
          min (s.shedOf n).quota ((s.chan n).frameMax - 1)))

/-- In a shortfall the FACTORs fit the media (R114): one factor for each class, none above that of the class before it, and the bases they leave
together at most MEDIA_NOW. -/
def Obligations.FactorsFitTheMedia : Prop :=
  ∀ s : State, s.live = true → s.flag Reg.ARB_STATUS_SHORTFALL = true → s.mediaNow < s.resvSum →
    ∃ (t : State) (f0 f1 f2 f3 : Nat), exec .mediaNowRecompute s = .next t ∧ f3 ≤ f2 ∧ f2 ≤ f1 ∧ f1 ≤ f0 ∧ f0 ≤ 32768 ∧
      (∀ n < 64, (s.chan n).isOpen = true → (t.shedOf n).factor = [f0, f1, f2, f3].getD (s.chan n).cls 0 ∧
        (t.shedOf n).basis = (s.shedOf n).basis) ∧
      s.basisSum 0 * f0 + s.basisSum 1 * f1 + s.basisSum 2 * f2 + s.basisSum 3 * f3 ≤ 32768 * t.getF Reg.MEDIA_NOW_RATE

/-! ## The ledger (spec/06) -/

/-- BFREE_PUSH and LDG_SYS (R133, R138): a pushed bushel joins the FIFO of its actuator, a full FIFO keeps what it holds; LDG_SYS stays while a system
record is in flight. System records (R138): the refusals in their order with the state left as it was, and an APPEND whose page, slot and energy are
there, which is formed at once at the place of LDG_SYS. Records that waited are formed once they may be (R131, R138): the part of a system record
command, and a due periodic seal. -/
def Obligations.SystemAndWaitingRecords : Prop :=
  (∀ (s : State) (src : Nat) (v : Word), s.live = true →
    (8192 ≤ v.toNat ∨ s.flag Reg.BMAP_VALID v.toNat = false → ∃ t, exec (.bfreePush src v) s = .next t ∧
      t.getF Reg.CHN_EVENTS_MAP_REJECT = 1 ∧ onlyFields s t [(Reg.CHN_EVENTS_MAP_REJECT, 0)]) ∧
    (v.toNat < 8192 → s.flag Reg.BMAP_VALID v.toNat = true → s.chans.all (fun e => e.2.lost.isNone || e.2.spare.isSome) = true →
      (s.getF Reg.BMAP_HEAD v.toNat < 4 → s.fifoA.length < 16 → exec (.bfreePush src v) s = .next { s with fifoA := s.fifoA ++ [v.toNat] }) ∧
      (4 ≤ s.getF Reg.BMAP_HEAD v.toNat → s.fifoB.length < 16 → exec (.bfreePush src v) s = .next { s with fifoB := s.fifoB ++ [v.toNat] }) ∧
      (s.getF Reg.BMAP_HEAD v.toNat < 4 → 16 ≤ s.fifoA.length →
        exec (.bfreePush src v) s = .next (s.reserved src (regDetail 0x400C0008)))) ∧
    (privileged src = true → s.sysBusy = true → ∀ gen, ∃ t, exec (.ldgSysWrite src gen v) s = .next t ∧
      t.getF Reg.LDG_EVENTS_SREC_REJECT = 1 ∧ onlyFields s t [(Reg.LDG_EVENTS_SREC_REJECT, 0)]) ∧
    (privileged src = true → s.sysBusy = false →
      (∃ t, exec (.ldgSysWrite src false v) s = .next t ∧ t.getF Reg.LDG_SYS_BUSHEL = bitsOf v.toNat 0 1 ∧
        t.getF Reg.LDG_SYS_PLACE = bitsOf v.toNat 16 14 ∧ t = { s with regs := t.regs, bushels := t.bushels } ∧
        fieldsKept s t [(Reg.LDG_SYS_BUSHEL, 0), (Reg.LDG_SYS_PLACE, 0)]) ∧
      (∃ t, exec (.ldgSysWrite src true v) s = .next t ∧ t.getF Reg.LDG_SYS_GEN_GEN = v.toNat ∧
        (t.bushel s.sysBushel).gen = v ∧ t = { s with regs := t.regs, bushels := t.bushels } ∧
        fieldsKept s t [(Reg.LDG_SYS_GEN_GEN, 0)])) ∧
    (privileged src = false → ∃ t, exec (.ldgSysWrite src false v) s = .next t ∧
      t = { s with evr := (s.denied src (regDetail 0x400C0060)).evr })) ∧
  (∀ (s : State) (src b p : Nat), s.live = true →
    (s.sysBusy = true → ∃ t u, exec (.srecAppend src) s = .next t ∧ exec (.srecBegin src b) s = .next u ∧
      t.getF Reg.LDG_SREC_STAT_STATE = 3 ∧ t.getF Reg.LDG_SREC_STAT_REASON = 1 ∧ u.getF Reg.LDG_SREC_STAT_REASON = 1 ∧
      onlyFields s t [(Reg.LDG_SREC_STAT_STATE, 0), (Reg.LDG_SREC_STAT_REASON, 0)] ∧
      onlyFields s u [(Reg.LDG_SREC_STAT_STATE, 0), (Reg.LDG_SREC_STAT_REASON, 0)]) ∧
    (s.sysBusy = false → 16384 < s.getF Reg.LDG_SYS_PLACE + s.getF Reg.LDG_CTRL_TEAR_RSV + 1 → ∃ t,
      exec (.srecAppend src) s = .next t ∧ t.getF Reg.LDG_SREC_STAT_STATE = 3 ∧ t.getF Reg.LDG_SREC_STAT_REASON = 2 ∧
      onlyFields s t [(Reg.LDG_SREC_STAT_STATE, 0), (Reg.LDG_SREC_STAT_REASON, 0)]) ∧
    (s.sysBusy = false → b = s.sysBushel ∨ s.flag Reg.BMAP_VALID b = false → ∃ t, exec (.srecBegin src b) s = .next t ∧
      t.getF Reg.LDG_SREC_STAT_STATE = 3 ∧ t.getF Reg.LDG_SREC_STAT_REASON = 3 ∧
      onlyFields s t [(Reg.LDG_SREC_STAT_STATE, 0), (Reg.LDG_SREC_STAT_REASON, 0)]) ∧
    (s.sysBusy = false → b ≠ s.sysBushel → s.flag Reg.BMAP_VALID b = true → s.flag Reg.LDG_CTRL_EN = true → ∃ t,
      exec (.srecBegin src b) s = .next t ∧ t.getF Reg.LDG_SREC_STAT_STATE = 1 ∧ (t.bushel b).state = .system ∧
      (t.bushel b).gen = (s.bushel b).gen + 1 ∧ (t.bushel b).next = 0 ∧ (∀ m, m ≠ b → t.bushel m = s.bushel m) ∧ t.chans = s.chans) ∧
    (s.sysBusy = false → 1 ≤ s.getF Reg.LDG_CTRL_TEAR_RSV →
      s.getF Reg.LDG_SYS_PLACE + s.getF Reg.LDG_CTRL_TEAR_RSV + 1 ≤ 16384 → s.flag Reg.LDG_CTRL_EN = true →
      s.time.valid = true → s.writePagesOk 1 none = true → s.slotsOk (s.actOf s.sysBushel) 1 none = true →
      s.debitOk (s.costOf s.sysBushel) = true → s.nextPage = some p → ∃ (t : State) (r : Rec), exec (.srecAppend src) s = .next t ∧
      t.getF Reg.LDG_SREC_STAT_STATE = 1 ∧ t.getF Reg.LDG_SREC_STAT_FORMED = 1 ∧
      t.getF Reg.LDG_SYS_PLACE = s.getF Reg.LDG_SYS_PLACE + 1 ∧
      (t.rw (s.actOf s.sysBushel)).wq = (s.rw (s.actOf s.sysBushel)).wq ++ [r] ∧ r.kind = .directory ∧ r.system = true ∧ r.page = p ∧
      r.bushel = s.sysBushel ∧ r.place = s.getF Reg.LDG_SYS_PLACE ∧ r.account = .record ∧
      r.body = s.bufRead (4096 * s.getF Reg.LDG_SREC_SRC_OFFSET) 4096 ∧ t.chans = s.chans ∧
      fieldsKept s t [(Reg.LDG_SREC_STAT_STATE, 0), (Reg.LDG_SREC_STAT_FORMED, 0), (Reg.LDG_SREC_STAT_REASON, 0), (Reg.LDG_SYS_PLACE, 0)])) ∧
  (∀ (s : State) (n p : Nat) (c : SysCmd) (rest : List SysPart) (k : Credit), s.live = true → s.time.valid = true →
    (s.sys = some c → c.parts = .append :: rest → c.formed = false → s.writePagesOk 1 none = true →
      s.slotsOk (s.actOf c.bushel) 1 none = true → s.debitOk (s.costOf c.bushel) = true → s.nextPage = some p → ∃ (t : State) (r : Rec),
      exec .systemRecordFormed s = .next t ∧ t.getF Reg.LDG_SREC_STAT_FORMED = 1 ∧
      (t.rw (s.actOf c.bushel)).wq = (s.rw (s.actOf c.bushel)).wq ++ [r] ∧ r.system = true ∧ r.bushel = c.bushel ∧ r.place = c.place ∧
      t.sys = some { c with parts := rest, formed := true, place := c.place + 1 } ∧
      fieldsKept s t [(Reg.LDG_SREC_STAT_FORMED, 0), (Reg.LDG_SYS_PLACE, 0)]) ∧
    (s.sys = none → s.time.waiting = [] → s.due = [.seal n 1 none] → s.creditFree n = true →
      s.debitOk (s.costOf (s.chan n).bushel) = true → (s.chan n).credit = some k → (s.chan n).mirror = false → ∃ (t : State) (r : Rec),
      exec (.deferredRecordForm n) s = .next t ∧ t.due = [] ∧ (t.rw (s.chan n).act).wq = (s.rw (s.chan n).act).wq ++ [r] ∧
      r.kind = .seal ∧ r.reason = 1 ∧ r.chan = n ∧ r.seq = (s.chan n).durable ∧ r.page = k.page ∧
      (t.chan n).covers = (s.chan n).durable ∧ (t.chan n).ordinal = (s.chan n).ordinal + 1 ∧
      (∀ m, m ≠ n → t.chan m = s.chan m) ∧ t.regs = s.regs ∧ t.evr = s.evr))

/-- A record reaches WRITTEN (R10, R14, R159, spec/07 R170): the gate closes, the count rises, WRITTEN_HEAD follows the grains and SEALED_HEAD the
seals. No command or due record waits here. A write gate (R147, R159): it opens for the record that R159 takes next, which takes the next place of its
bushel. The write-fault input (R147, R160): it tears a record under an open gate before the dram; the record returns to the head of its queue, and the
tear is counted and recorded with its cause and place. -/
def Obligations.WriteGateAndWrittenRecords : Prop :=
  (∀ (s : State) (ch : Nat) (r : Rec), s.live = true → (s.rw ch).gate = some r → r.system = false → r.intake = false →
    s.cmds.filter (·.running) = [] → s.due = [] → ∃ t, exec (.recordWritten ch) s = .next t ∧ (t.rw ch).gate = none ∧
    (t.rw ch).wq = (s.rw ch).wq ∧ t.getF Reg.RWC_CNT_WR_COUNT r.act = (s.getF Reg.RWC_CNT_WR_COUNT r.act + 1) % 2 ^ 32 ∧
    fieldsKept s t [(Reg.RWC_CNT_WR_COUNT, r.act)] ∧ (∀ m, m ≠ r.chan → t.chan m = s.chan m) ∧
    (r.kind = .grain →
      let below := (s.setRw ch { s.rw ch with gate := none }).belowUnwritten r.chan false (s.chan r.chan).durable
      t.chan r.chan = { s.chan r.chan with
        written := seqMax (s.chan r.chan).written (stopBefore (s.chan r.chan).gap (stopBefore (s.chan r.chan).lost below)) }) ∧
    (r.kind = .seal → r.opening = (s.chan r.chan).opening →
      (t.chan r.chan).sealed = seqMax (s.chan r.chan).sealed (stopBefore (s.chan r.chan).gap r.seq) ∧
      (t.chan r.chan).durable = (s.chan r.chan).durable ∧ (t.chan r.chan).written = (s.chan r.chan).written) ∧
    t.evr = s.evr ∧ t.cmds = s.cmds ∧ t.port = s.port) ∧
  (∀ (s : State) (ch : Nat) (r : Rec) (new : Bool), s.live = true → (s.rw ch).gate = none →
    (s.firsts [] (s.rw ch).wq).find? (fun r => !r.system && decide (16384 ≤ s.nextPlace r)) = none →
    s.pickWrite ch = some (r, new) →
    (s.writeGateOk ch r = false → exec (.writeGateOpen ch) s = .next s) ∧
    (s.writeGateOk ch r = true → s.ecc.bad = [] → r.system = false → ∃ t, exec (.writeGateOpen ch) s = .next t ∧
      (t.rw ch).gate = some { r with place := s.nextPlace r, torn := false } ∧
      (t.rw ch).wq = (s.rw ch).wq.filter (fun y => y.form != r.form) ∧
      (t.bushel r.bushel).next = (s.bushel r.bushel).next + 1 ∧
      (t.bushel r.bushel).lastSeq =
        (if r.kind = .grain ∧ (s.bushel r.bushel).state = .opened then r.seq else (s.bushel r.bushel).lastSeq) ∧
      (t.rw ch).sector = s.sectorBits r (s.nextPlace r) ∧
      (∀ m, m ≠ ch → t.rw m = s.rw m) ∧ (∀ m, m ≠ r.bushel → t.bushel m = s.bushel m) ∧
      t = { s with rwc := t.rwc, bushels := t.bushels })) ∧
  (∀ (s : State) (ch : Nat) (r : Rec), s.live = true →
    (∃ t, exec (.preampWriteFault ch false false) s = .next t ∧ (t.rw ch).faultLow = false ∧ t = { s with rwc := t.rwc } ∧
      ∀ m, m ≠ ch → t.rw m = s.rw m) ∧
    ((s.rw ch).gate = none → ∃ t, exec (.preampWriteFault ch true false) s = .next t ∧ (t.rw ch).faultLow = true ∧
      t.getF Reg.RWC_EVENTS_PREAMP_FAULT ch = 1 ∧ t = { s with regs := t.regs, rwc := t.rwc } ∧
      fieldsKept s t [(Reg.RWC_EVENTS_PREAMP_FAULT, ch)]) ∧
    ((s.rw ch).gate = some r → ∃ t, exec (.preampWriteFault ch true true) s = .next t ∧ (t.rw ch).gate = none ∧
      (t.rw ch).wq = { r with torn := true } :: (s.rw ch).wq ∧ t.getF Reg.RWC_EVENTS_TEAR ch = 1 ∧
      t.getF Reg.RWC_CNT_TEAR_COUNT ch = (s.getF Reg.RWC_CNT_TEAR_COUNT ch + 1) % 2 ^ 32 ∧
      t.getF Reg.RWC_TEAR_LAST_CAUSE ch = 6 ∧ t.evr = (s.event 0x22 6 r.place r.bushel).evr ∧ t.chans = s.chans ∧
      t = { s with regs := t.regs, rwc := t.rwc, evr := t.evr }))

/-! ## The chain band and the channels (spec/07) -/

/-- The chain's marks (R143 to R145): the angle counts forward marks, the index after 65,536 of them makes a revolution, and 256 consistent marks with
the index acquire lock. Loss of lock (R144, R162): by silence, reversal or miscount LOCK falls and holdover begins, armed angular events are
cancelled, and the loss and ANGLE_CANCEL are recorded. No gate is open here; WriteFaultTears says what a gate forced off does. -/
def Obligations.ChainAngle : Prop :=
  (∀ (s : State) (period : Nat), s.live = true →
    (s.flag Reg.CHN_CTRL_EN = false → ∀ b i : Bool, exec (.chainMark period b i false false) s = .next s) ∧
    (s.flag Reg.CHN_CTRL_EN = true →
      (s.flag Reg.CHN_STATUS_LOCK = true → ∃ t, exec (.chainMark period false false false false) s = .next t ∧
        t.getF Reg.CHN_ANGLE_MARK = min (s.chain.since + 1) 65535 ∧ t.chain.since = s.chain.since + 1 ∧ t.chain.revs = s.chain.revs ∧
        t.chain.periods = (period :: s.chain.periods).take 256 ∧ t.flag Reg.CHN_STATUS_LOCK = true) ∧
      (s.flag Reg.CHN_STATUS_LOCK = true → s.chain.since = 65535 → ∃ t, exec (.chainMark period false true false false) s = .next t ∧
        t.getF Reg.CHN_ANGLE_MARK = 0 ∧ t.chain.since = 0 ∧ t.chain.revs = s.chain.revs + 1 ∧ t.flag Reg.CHN_STATUS_LOCK = true) ∧
      (s.flag Reg.CHN_STATUS_LOCK = false → 256 ≤ s.chain.good → ∃ t, exec (.chainMark period false true false false) s = .next t ∧
        t.flag Reg.CHN_STATUS_LOCK = true ∧ t.flag Reg.CHN_STATUS_HOLDOVER = false ∧ t.getF Reg.CHN_EVENTS_RELOCK = 1 ∧
        t.getF Reg.CHN_ANGLE_MARK = 0 ∧ t.chain.since = 0))) ∧
  (∀ (s : State) (period : Nat), s.live = true → s.flag Reg.CHN_STATUS_LOCK = true → (s.rw 0).gate = none → (s.rw 1).gate = none →
    (s.bothAtRest = true ∨ 8 * s.getF Reg.SPN_THR_UNLOAD_RPM ≤ s.getF Reg.SPN_EST_RPM8) →
    (∃ t, exec (.chainSilence false false) s = .next t ∧ t.flag Reg.CHN_STATUS_LOCK = false ∧ t.flag Reg.CHN_STATUS_HOLDOVER = true ∧
      t.getF Reg.CHN_EVENTS_STALL = 1 ∧ (∀ a < 16, t.getF Reg.AEV1_STATE a = if s.getF Reg.AEV1_STATE a = 1 then 3 else s.getF Reg.AEV1_STATE a) ∧
      t.evr = ((s.event 0x23 0 0 s.angleFwd).event 0x25 0 (s.scheduled 0 + s.scheduled 1) s.armedAevs.length).evr ∧ t.chain.good = 0) ∧
    (s.flag Reg.CHN_CTRL_EN = true → ∀ i : Bool, ∃ t, exec (.chainMark period true i false false) s = .next t ∧
      t.flag Reg.CHN_STATUS_LOCK = false ∧ t.flag Reg.CHN_STATUS_HOLDOVER = true ∧ t.getF Reg.CHN_EVENTS_REVERSAL = 1 ∧
      (∀ a < 16, t.getF Reg.AEV1_STATE a = if s.getF Reg.AEV1_STATE a = 1 then 3 else s.getF Reg.AEV1_STATE a) ∧
      t.evr = ((s.event 0x24 0 0 s.angleFwd).event 0x25 0 (s.scheduled 0 + s.scheduled 1) s.armedAevs.length).evr) ∧
    (s.flag Reg.CHN_CTRL_EN = true → s.chain.since ≠ 65535 → ∃ t, exec (.chainMark period false true false false) s = .next t ∧
      t.flag Reg.CHN_STATUS_LOCK = false ∧ t.flag Reg.CHN_STATUS_HOLDOVER = true ∧ t.getF Reg.CHN_EVENTS_MISCOUNT = 1 ∧ t.chain.since = 0))

/-- TABLE_APPLY and the bushel map (R151, R158): the first check that fails refuses an apply and leaves the tables in force; an apply that passes puts
the staged tables in force; the entry of an OPEN bushel stays. Sector reads (R164 to R166): a sector that decodes goes to the place in the buffer that
the port names; a BLANK sector ends the read without a retry; a WEAK one goes on with the next enabled step of the ladder; GO starts a read, and is
refused while one is under way. The multiplier settles, and angular events (R147, R167): an event armed at or behind the present angle is LATE, one
ahead is ARMED and fires when the angle reaches it while LOCK is 1, capturing DMT. -/
def Obligations.TablesReadsAndAngularEvents : Prop :=
  (∀ (s : State) (src b : Nat) (v : Word), s.live = true →
    (s.flag Reg.RWC_CTRL_EN 0 = true ∨ s.flag Reg.RWC_CTRL_EN 1 = true → ∃ t, exec (.tableApply src) s = .next t ∧
      t.getF Reg.TABLE_STATUS_FAIL_CAUSE = 1 ∧ t.getF Reg.CHN_EVENTS_ZT_REJECT = 1 ∧
      onlyFields s t [(Reg.TABLE_STATUS_FAIL_CAUSE, 0), (Reg.CHN_EVENTS_ZT_REJECT, 0)]) ∧
    (s.flag Reg.RWC_CTRL_EN 0 = false → s.flag Reg.RWC_CTRL_EN 1 = false →
      (∀ c ∈ [1, 2, 3], s.codeLoaded c = true → s.codeOk c = true) → (∀ z < 32, s.zoneFault z = false) →
      (∀ m < 8192, s.flag Reg.BMAP_VALID m = true → runFault s.stagedTables.zones s.stagedTables.tracks (s.getF Reg.BMAP_ZONE m)
        (s.getF Reg.BMAP_START_TRACK m) = false) → ∃ t, exec (.tableApply src) s = .next t ∧ t.tables = s.stagedTables ∧
      t.getF Reg.TABLE_STATUS_OK = 1 ∧ t.getF Reg.TABLE_STATUS_FAIL_CAUSE = 0 ∧ t.chans = s.chans ∧
      ∀ a, t.rw a = { s.rw a with ratio := (t.rw a).ratio, settled := (t.rw a).settled }) ∧
    (b < 8192 →
      (privileged src = true → (s.bushel b).state = .opened → ∃ t, exec (.bmapWrite src b v) s = .next t ∧
        t.getF Reg.CHN_EVENTS_MAP_REJECT = 1 ∧ onlyFields s t [(Reg.CHN_EVENTS_MAP_REJECT, 0)]) ∧
      (privileged src = true → (s.bushel b).state ≠ .opened → 16 ≤ bitsOf v.toNat 8 20 →
        runFault s.tables.zones s.tables.tracks (bitsOf v.toNat 3 5) (bitsOf v.toNat 8 20) = false → ∃ t,
        exec (.bmapWrite src b v) s = .next t ∧ t.getF Reg.BMAP_HEAD b = bitsOf v.toNat 0 3 ∧ t.getF Reg.BMAP_ZONE b = bitsOf v.toNat 3 5 ∧
        t.getF Reg.BMAP_START_TRACK b = bitsOf v.toNat 8 20 ∧ t.getF Reg.BMAP_VALID b = bitsOf v.toNat 31 1 ∧
        (bitOf v.toNat 31 = true → t.cmds = s.cmds ∧ t.rwc = s.rwc) ∧ t = { s with regs := t.regs, cmds := t.cmds, rwc := t.rwc } ∧
        fieldsKept s t [(Reg.BMAP_HEAD, b), (Reg.BMAP_ZONE, b), (Reg.BMAP_START_TRACK, b), (Reg.BMAP_VALID, b)]) ∧
      (privileged src = false → exec (.bmapWrite src b v) s = .next (s.denied src (regDetail (0x400B8000 + 4 * b)))))) ∧
  (∀ (s : State) (ch src : Nat) (r : Read) (v : Seen), s.live = true → ch < 2 →
    ((s.rw ch).rgate = none → (∀ q, s.readTurn ch = some q → q.again = false) → exec (.sectorReadComplete ch v.edges v.sync v.dram v.toDecoded) s = .next s) ∧
    ((s.rw ch).rgate = some r ∨ ((s.rw ch).rgate = none ∧ s.readTurn ch = some r ∧ r.again = true) →
      (r.what = .port → s.decodes ch r.ladder v = true → s.ecc.bad = [] → r.place + 4128 ≤ 0x1000000 → ∃ t,
        exec (.sectorReadComplete ch v.edges v.sync v.dram v.toDecoded) s = .next t ∧ (∀ k < 4128, t.bufByte (r.place + k) = byteAt v.bytes k) ∧
        (∀ x, x < r.place ∨ r.place + 4128 ≤ x → t.bufByte x = s.bufByte x) ∧ t.flag Reg.RWC_SR_STAT_BUSY ch = false ∧
        t.getF Reg.RWC_SR_STAT_DONE ch = 1 ∧ t.getF Reg.RWC_SR_STAT_CLASS ch = 0 ∧
        t.getF Reg.RWC_CNT_RD_COUNT ch = (s.getF Reg.RWC_CNT_RD_COUNT ch + 1) % 2 ^ 32 ∧ (t.rw ch).rgate = none ∧ t.chans = s.chans) ∧
      (r.what = .port → r.ladder = 0 → s.decodes ch 0 v = false → 2 * v.edges < preBits s.layout.pre16 / 2 - 1 → ∃ t,
        exec (.sectorReadComplete ch v.edges v.sync v.dram v.toDecoded) s = .next t ∧
        t.getF Reg.RWC_SR_STAT_DONE ch = 1 ∧ t.getF Reg.RWC_SR_STAT_CLASS ch = 1 ∧ t.flag Reg.RWC_SR_STAT_BUSY ch = false ∧
        t.buf = s.buf ∧ (t.rw ch).reading = none ∧ (t.rw ch).rgate = none ∧
        t = { s with regs := t.regs, rwc := t.rwc, loops := t.loops }) ∧
      (∀ k, s.decodes ch r.ladder v = false →
        (r.ladder = 0 → preBits s.layout.pre16 / 2 - 1 ≤ 2 * v.edges ∧ (syncFound s.layout 0 v = false ∨ 16 * s.layout.dram16 ≤ 2 * v.dram)) →
        (r.ladder = 5 → r.half = true) → s.nextStep ch r.ladder = some k → ∃ t, exec (.sectorReadComplete ch v.edges v.sync v.dram v.toDecoded) s = .next t ∧
        (t.rw ch).reading = some { r with ladder := k, half := false, samples := true } ∧ (t.rw ch).rgate = none ∧
        t = { s with rwc := t.rwc, loops := t.loops }) ∧
      (r.what = .port → s.decodes ch r.ladder v = false → 1 ≤ r.ladder → (r.ladder = 5 → r.half = true) → s.nextStep ch r.ladder = none →
        ∃ t, exec (.sectorReadComplete ch v.edges v.sync v.dram v.toDecoded) s = .next t ∧ t.getF Reg.RWC_SR_STAT_DONE ch = 1 ∧ t.getF Reg.RWC_SR_STAT_CLASS ch = 3 ∧
        t.flag Reg.RWC_SR_STAT_BUSY ch = false ∧ t.getF Reg.RWC_EVENTS_UNREADABLE ch = 1 ∧ t.buf = s.buf)) ∧
    (s.flag Reg.RWC_SR_STAT_BUSY ch = true → ∃ t, exec (.sectorReadPortGo src ch) s = .next t ∧
      t.getF Reg.RWC_SR_STAT_REJECT ch = 1 ∧ onlyFields s t [(Reg.RWC_SR_STAT_REJECT, ch)]) ∧
    (s.flag Reg.RWC_SR_STAT_BUSY ch = false → s.getF Reg.RWC_SR_LOC_HEAD ch / 4 = ch →
      pagesAll s.fwPage (32 * s.getF Reg.RWC_SR_DEST_OFFSET ch) 4128 = true → s.portTarget ch = true → ∃ t,
      exec (.sectorReadPortGo src ch) s = .next t ∧ t.getF Reg.RWC_SR_STAT_BUSY ch = 1 ∧
      (t.rw ch).reads = (s.rw ch).reads ++ [{ what := .port, place := 32 * s.getF Reg.RWC_SR_DEST_OFFSET ch
                                              head := s.getF Reg.RWC_SR_LOC_HEAD ch, track := s.getF Reg.RWC_SR_LOC_TRACK ch
                                              sector := s.getF Reg.RWC_SR_SECT_SECTOR ch }] ∧
      t = { s with regs := t.regs, rwc := t.rwc } ∧ fieldsKept s t [(Reg.RWC_SR_STAT_BUSY, ch)])) ∧
  (∀ (s : State) (src a : Nat) (v : Word), s.live = true → a < 16 →
    (∃ t, exec (.zoneMultiplierSettle a) s = .next t ∧ t.rw a = { s.rw a with settled := true } ∧ t = { s with rwc := t.rwc } ∧
      ∀ m, m ≠ a → t.rw m = s.rw m) ∧
    (s.getF Reg.AEV1_STATE a ≠ 1 →
      (s.getF Reg.AEV0_TARGET_LO a + 2 ^ 32 * bitsOf v.toNat 0 8 ≤ s.angleFwd → ∃ t, exec (.aevArm src a v) s = .next t ∧
        t.getF Reg.AEV1_STATE a = 3 ∧ t.getF Reg.AEV1_LATE a = 1 ∧ t.getF Reg.AEV1_CORES a = bitsOf v.toNat 8 4 ∧
        onlyFields s t [(Reg.AEV1_TARGET_HI, a), (Reg.AEV1_CORES, a), (Reg.AEV1_ARM, a), (Reg.AEV1_STATE, a), (Reg.AEV1_LATE, a)]) ∧
      (s.angleFwd < s.getF Reg.AEV0_TARGET_LO a + 2 ^ 32 * bitsOf v.toNat 0 8 → ∃ t, exec (.aevArm src a v) s = .next t ∧
        t.getF Reg.AEV1_STATE a = 1 ∧ t.getF Reg.AEV1_LATE a = 0 ∧ t.getF Reg.AEV1_TARGET_HI a = bitsOf v.toNat 0 8 ∧
        onlyFields s t [(Reg.AEV1_TARGET_HI, a), (Reg.AEV1_CORES, a), (Reg.AEV1_ARM, a), (Reg.AEV1_STATE, a), (Reg.AEV1_LATE, a)])) ∧
    (∃ t, exec (.aevDisarm src a) s = .next t ∧ t.getF Reg.AEV1_STATE a = 0 ∧ t.getF Reg.AEV1_ARM a = 0 ∧ t.getF Reg.AEV1_LATE a = 0 ∧
      onlyFields s t [(Reg.AEV1_ARM, a), (Reg.AEV1_STATE, a), (Reg.AEV1_LATE, a)]) ∧
    (s.getF Reg.AEV1_STATE a = 1 → s.flag Reg.CHN_STATUS_LOCK = true → s.aevTarget a ≤ s.angleFwd → ∃ t,
      exec (.aevFire a) s = .next t ∧ t.getF Reg.AEV1_STATE a = 2 ∧
      t.getF Reg.AEV2_DMT_LO a + 2 ^ 32 * t.getF Reg.AEV3_DMT_HI a = s.time.dmt.toNat ∧
      onlyFields s t [(Reg.AEV1_STATE, a), (Reg.AEV2_DMT_LO, a), (Reg.AEV3_DMT_HI, a)]))

/-! ## The loop engine (spec/08) -/

/-- SERVO_SAMPLE in TRACK (R171, R175, R178, R186, R187): a wedge found inside the servo window and near its prediction moves the position by the observer's law; a missed one is counted and
raises write inhibit; the fourth in a row loses position. No write gate is open and no target or bank waits here. SERVO_SAMPLE in ACQUIRE or LOST
(R187): consistent wedges are counted, a missed one starts the count anew, and after ACQ_N of them position is regained in TRACK with the reference at
it. -/
def Obligations.ServoSamples : Prop :=
  (∀ (s : State) (a burst : Nat) (o : Int) (sam : Option Int) (parity torn : Bool) (y t : Word), s.live = true → a < 2 →
    s.actState a = 3 → s.swap = [] → (s.rw a).gate = none → (s.loop a).replan = none → (s.loop a).held = none →
    (s.loop a).want = (s.loop a).jog →
    (let pv := s.predict a t.toNat
     let m := clampI ((y.toNat : Int) - (s.loop a).jog) 0 4294967295
     let e := satI 32 (m - pv.1)
     s.flag Reg.CHN_STATUS_LOCK = true → o.natAbs ≤ 256 * s.getF Reg.WINDOW_SV_WIN a →
      (s.loop a).headNew = false → burstOk (s.loop a).burst burst = true → e ≤ 256 * (s.getF Reg.WINDOW_MISS_DEV a : Int) →
      -(256 * (s.getF Reg.WINDOW_MISS_DEV a : Int)) ≤ e → ∃ u, exec (.servoSample a (some o) true burst y t torn) s = .next u ∧
      u.getF Reg.ACT_POS_P a = (clampI (roundShift (pv.1 * (2 ^ 20 : Nat) + s.coef a 1 * e) 20) 0 4294967295).toNat ∧
      u.getF Reg.ACT_PES_PES a = unsigned 16 (satI 16 (satI 32 (m - (s.loop a).rPos))) ∧
      u.getF Reg.ACT_STATE_MISS a = 0 ∧ u.getF Reg.CNT_MISS_COUNT a = s.getF Reg.CNT_MISS_COUNT a ∧ u.actState a = 3 ∧
      (∀ m, m ≠ a → u.loop m = s.loop m) ∧ u = { s with regs := u.regs, loops := u.loops }) ∧
    (sam = none ∨ parity = false → s.getF Reg.ACT_STATE_MISS a < 3 → 1 ≤ s.getF Reg.COUNTS_WR_N a → ∃ u,
      exec (.servoSample a sam parity burst y t torn) s = .next u ∧ u.getF Reg.ACT_STATE_MISS a = s.getF Reg.ACT_STATE_MISS a + 1 ∧
      u.getF Reg.CNT_MISS_COUNT a = (s.getF Reg.CNT_MISS_COUNT a + 1) % 2 ^ 32 ∧
      u.getF Reg.ACT_POS_P a = (s.predict a t.toNat).1.toNat ∧ u.getF Reg.ACT_STATE_WINH a = 1 ∧ u.getF Reg.ACT_STATE_ON_TRK_WR a = 0 ∧
      u.actState a = 3 ∧ (∀ m, m ≠ a → u.loop m = s.loop m) ∧ u = { s with regs := u.regs, loops := u.loops }) ∧
    (sam = none ∨ parity = false → s.getF Reg.ACT_STATE_MISS a = 3 → ∃ u, exec (.servoSample a sam parity burst y t torn) s = .next u ∧
      u.actState a = 6 ∧ u.getF Reg.CNT_LOST_COUNT a = (s.getF Reg.CNT_LOST_COUNT a + 1) % 2 ^ 32 ∧
      bitOf (u.getF Reg.LOOP_EVENTS_LOST) a = true ∧ u.getF Reg.ACT_STATE_WINH a = 1 ∧ u.getF Reg.ACT_STATE_ON_TRK_RD a = 0 ∧
      u.getF Reg.ACT_STATE_ON_TRK_WR a = 0 ∧ u.chans = s.chans ∧ u.rw a = { s.rw a with rgate := none } ∧ ∀ m, m ≠ a → u.rw m = s.rw m)) ∧
  (∀ (s : State) (a burst : Nat) (o : Int) (parity torn : Bool) (y t : Word), s.live = true → a < 2 → (s.actState a = 2 ∨ s.actState a = 6) → s.swap = [] →
    (s.rw a).gate = none →
    (1 ≤ s.getF Reg.COUNTS_ACQ_N a → ∃ u, exec (.servoSample a none parity burst y t torn) s = .next u ∧ (u.loop a).acq = 0 ∧
      (u.loop a).p = (s.predict a t.toNat).1 ∧ u.actState a = s.actState a ∧ u.getF Reg.ACT_STATE_WINH a = 1 ∧
      u.getF Reg.CNT_MISS_COUNT a = (s.getF Reg.CNT_MISS_COUNT a + 1) % 2 ^ 32 ∧ u = { s with regs := u.regs, loops := u.loops }) ∧
    (s.flag Reg.CHN_STATUS_LOCK = true → o.natAbs ≤ 256 * s.servoWindow a → burstOk (s.loop a).burst burst = true →
      ((s.loop a).acq = 0 ∨ ((y.toNat : Int) - (s.predict a t.toNat).1 ≤ 256 * (s.getF Reg.WINDOW_MISS_DEV a : Int) ∧
        (s.predict a t.toNat).1 - (y.toNat : Int) ≤ 256 * (s.getF Reg.WINDOW_MISS_DEV a : Int))) →
      ((s.loop a).acq + 1 < s.getF Reg.COUNTS_ACQ_N a → ∃ u, exec (.servoSample a (some o) true burst y t torn) s = .next u ∧
        (u.loop a).acq = (s.loop a).acq + 1 ∧ (u.loop a).p = y.toNat ∧ u.actState a = s.actState a ∧ u.getF Reg.ACT_STATE_MISS a = 0 ∧
        u = { s with regs := u.regs, loops := u.loops }) ∧
      (s.getF Reg.COUNTS_ACQ_N a ≤ (s.loop a).acq + 1 → ∃ u, exec (.servoSample a (some o) true burst y t torn) s = .next u ∧
        u.actState a = 3 ∧ (u.loop a).rPos = y.toNat ∧ (u.loop a).target = y.toNat ∧ (u.loop a).rVel = 0 ∧ (u.loop a).acq = 0 ∧
        u.chans = s.chans ∧ u.rw a = { s.rw a with ratio := (u.rw a).ratio, settled := (u.rw a).settled })))

/-- Targets (R147, R179, R181): a SEEK command is refused while the channel drives the actuator, for a head of the other actuator and in IDLE, PARKED
and RETRACT; a target is held in LOST and ACQUIRE and taken at the next sample in TRACK, SEEK and SETTLE; SEEK_TIMEOUT. Retracting and loading (R187,
R190, R191): PARK and LOST_TIMEOUT ask the power die for a retract and drop the target; ACQUIRE asks for a load, or is refused; LOAD_TIMEOUT. -/
def Obligations.SeeksParksAndLoads : Prop :=
  (∀ (s : State) (src a track head : Nat), s.live = true → a < 2 →
    (s.flag Reg.RWC_CTRL_EN a = true ∨ s.getF Reg.SEEK_TGT_HEAD a / 4 ≠ a ∨ s.actState a ≤ 1 ∨ s.actState a = 7 → ∃ t,
      exec (.actSeek src a) s = .next t ∧ t.getF Reg.LOOP_EVENTS_SEEK_REJECT = 1 ∧ onlyFields s t [(Reg.LOOP_EVENTS_SEEK_REJECT, 0)]) ∧
    (s.flag Reg.RWC_CTRL_EN a = false → s.getF Reg.SEEK_TGT_HEAD a / 4 = a →
      let goal := (s.getF Reg.SEEK_TGT_TRACK a, s.getF Reg.SEEK_TGT_HEAD a % 4)
      (s.actState a = 2 ∨ s.actState a = 6 → exec (.actSeek src a) s =
        .next ((s.setLoop a { s.loop a with held := some goal }).headTo a goal.2 goal.1)) ∧
      (3 ≤ s.actState a → s.actState a ≤ 5 → (s.loop a).replan = none → 0 ≤ (s.loop a).target → (s.loop a).target ≠ 4096 * (goal.1 : Int) →
        exec (.actSeek src a) s = .next ((s.setLoop a { s.loop a with replan := some goal, want := 0 }).headTo a goal.2 goal.1))) ∧
    (s.flag Reg.RWC_CTRL_EN a = true → s.actState a = 2 ∨ s.actState a = 6 → ∃ t, exec (.channelSeekTarget a track head) s = .next t ∧
      (t.loop a).held = some (track, head % 4) ∧ (∀ m, m ≠ a → t.loop m = s.loop m) ∧
      (s.tables.zones ≠ [] → maker head track = false →
        (s.tables.zones.filter (fun y => decide (y.1 ≤ track))).length - 1 ≠ s.getF Reg.RWC_STATUS_ZONE a →
        (t.rw a).settled = false ∧
        t.getF Reg.RWC_STATUS_ZONE a = ((s.tables.zones.filter (fun y => decide (y.1 ≤ track))).length - 1) % 32) ∧
      t = { s with regs := t.regs, loops := t.loops, rwc := t.rwc } ∧ fieldsKept s t [(Reg.RWC_STATUS_ZONE, a)]) ∧
    (s.actState a = 4 ∨ s.actState a = 5 → (s.loop a).seekFailed = false → s.getF Reg.COUNTS_SEEK_TMO a ≤ (s.loop a).seekCount → ∃ t,
      exec (.seekTimeout a) s = .next t ∧ t.getF Reg.LOOP_EVENTS_SEEK_FAIL = 1 ∧ (t.loop a).seekFailed = true ∧
      t.evr = (s.event 0x26 a 0 ((s.loop a).target / 4096).toNat).evr ∧ t.actState a = s.actState a ∧
      t = { s with regs := t.regs, loops := t.loops, evr := t.evr } ∧ fieldsKept s t [(Reg.LOOP_EVENTS_SEEK_FAIL, 0)]) ∧
    ((s.loop a).seekCount < s.getF Reg.COUNTS_SEEK_TMO a → exec (.seekTimeout a) s = .next s)) ∧
  (∀ (s : State) (src a : Nat) (torn : Bool), s.live = true → a < 2 →
    (2 ≤ s.actState a → s.actState a < 7 → (s.rw a).gate = none → ∃ t, exec (.actPark src a torn) s = .next t ∧ t.actState a = 7 ∧
      (t.loop a).retReq = true ∧ (t.loop a).loadReq = false ∧ (t.loop a).held = none ∧ (t.loop a).replan = none ∧ (t.loop a).profile = [] ∧
      (∀ m, m ≠ a → t.loop m = s.loop m) ∧ t.chans = s.chans ∧ t.buf = s.buf) ∧
    (s.actState a = 7 ∨ (s.actState a ≤ 1 ∧ (s.loop a).loadReq = false) → exec (.actPark src a torn) s = .next s) ∧
    (s.actState a = 2 ∨ s.actState a = 6 → ∃ t, exec (.lostTimeout a) s = .next t ∧ t.actState a = 7 ∧ (t.loop a).retReq = true ∧
      (∀ m, m ≠ a → t.loop m = s.loop m) ∧ t = { s with regs := t.regs, loops := t.loops, rwc := t.rwc }) ∧
    (s.actState a = 1 → s.atSpeed = true → s.flag Reg.DL_STATUS_DOWN = false → s.parkHeld a = false →
      exec (.actAcquire src a) s = .next (s.setLoop a { s.loop a with loadReq := true, retReq := false })) ∧
    (s.actState a ≠ 1 ∨ s.atSpeed = false ∨ s.flag Reg.DL_STATUS_DOWN = true ∨ s.parkHeld a = true → ∃ t,
      exec (.actAcquire src a) s = .next t ∧ t.getF Reg.LOOP_EVENTS_SEEK_REJECT = 1 ∧ onlyFields s t [(Reg.LOOP_EVENTS_SEEK_REJECT, 0)]) ∧
    ((s.loop a).loadReq = true → ∃ t, exec (.loadTimeout a) s = .next t ∧ (t.loop a).loadReq = false ∧
      sget false a t.power.retract = true ∧ sget false a t.power.loadReq = false ∧ t.getF Reg.LOOP_EVENTS_SEEK_FAIL = 1 ∧
      t.evr = (s.event 0x26 a 0 0).evr ∧ t = { s with regs := t.regs, loops := t.loops, power := t.power, evr := t.evr } ∧
      fieldsKept s t [(Reg.LOOP_EVENTS_SEEK_FAIL, 0)]))

/-- Banks and enables (R184, R185, R191, R192, spec/16 R334): a swap waits for the sample of each loop named; only an inactive bank is written;
enabling a loop puts its actuator in PARKED, and one whose actuator is not at rest stays enabled. Shock (R160, R188): SHOCK_N low drops the write
flags and raises write inhibit of both actuators at once, tearing an open gate before its dram; its release records the peak; the hold and quiet
periods end after their samples. -/
def Obligations.BanksEnablesAndShock : Prop :=
  (∀ (s : State) (src k w : Nat) (v : Word), s.live = true →
    (s.swap ≠ [] ∨ bitsOf v.toNat 0 3 = 0 → ∃ t, exec (.loopSwap src v) s = .next t ∧ t.getF Reg.LOOP_EVENTS_SWAP_REJECT = 1 ∧
      onlyFields s t [(Reg.LOOP_EVENTS_SWAP_REJECT, 0)]) ∧
    (s.swap = [] → bitsOf v.toNat 0 3 ≠ 0 →
      exec (.loopSwap src v) s = .next { s with swap := [0, 1, 2].filter (bitOf (bitsOf v.toNat 0 3)), swapClear := bitOf v.toNat 3 }) ∧
    (k < 6 → w < 36 →
      (privileged src = false → exec (.coefBankWrite src (0x40071000 + 512 * k + 4 * w) v) s =
        .next (s.denied src (regDetail (0x40071000 + 512 * k + 4 * w)))) ∧
      (privileged src = true → s.swap ≠ [] ∨ b2n (bitOf (s.getF Reg.LOOP_BANKS_ACTIVE) (k / 2)) = k % 2 → ∃ t,
        exec (.coefBankWrite src (0x40071000 + 512 * k + 4 * w) v) s = .next t ∧ t.getF Reg.LOOP_EVENTS_BANK_REJECT = 1 ∧
        onlyFields s t [(Reg.LOOP_EVENTS_BANK_REJECT, 0)]) ∧
      (privileged src = true → s.swap = [] → b2n (bitOf (s.getF Reg.LOOP_BANKS_ACTIVE) (k / 2)) ≠ k % 2 → ∃ t,
        exec (.coefBankWrite src (0x40071000 + 512 * k + 4 * w) v) s = .next t ∧
        t.getF Reg.COEF_WORD (36 * k + w) = (if w = 7 then v.toNat % 2 ^ 16
          else if 13 ≤ w ∧ w ≤ 15 then s.getF Reg.COEF_WORD (36 * k + w) else v.toNat) ∧
        onlyFields s t [(Reg.COEF_WORD, 36 * k + w)])) ∧
    (privileged src = false → exec (.loopCtrlWrite src v) s = .next (s.denied src (regDetail 0x40070000))) ∧
    (privileged src = true → s.onPll 2 = false → bitsOf v.toNat 0 3 ≠ 0 →
      exec (.loopCtrlWrite src v) s = .next (s.runReject src 0x40070000)) ∧
    (privileged src = true → s.onPll 2 = true → s.getF Reg.LOOP_CTRL_EN = 0 → s.actState 0 = 0 → s.actState 1 = 0 → ∃ t,
      exec (.loopCtrlWrite src v) s = .next t ∧ t.getF Reg.LOOP_CTRL_EN = bitsOf v.toNat 0 3 ∧ t.actState 0 = b2n (bitOf v.toNat 0) ∧
      t.actState 1 = b2n (bitOf v.toNat 1) ∧
      (∀ m, t.loop m = s.loop m ∨ t.loop m = { s.loop m with uPrev := 0 }) ∧ t = { s with regs := t.regs, loops := t.loops } ∧
      fieldsKept s t [(Reg.LOOP_CTRL_EN, 0), (Reg.ACT_STATE_STATE, 0), (Reg.ACT_STATE_STATE, 1)]) ∧
    (privileged src = true → s.getF Reg.LOOP_CTRL_EN = 7 → bitsOf v.toNat 0 3 = 0 → 2 ≤ s.actState 0 → 2 ≤ s.actState 1 → ∃ t,
      exec (.loopCtrlWrite src v) s = .next t ∧ t.getF Reg.LOOP_CTRL_EN = 3 ∧ t.getF Reg.LOOP_EVENTS_BANK_REJECT = 1 ∧
      onlyFields s t [(Reg.LOOP_CTRL_EN, 0), (Reg.LOOP_EVENTS_BANK_REJECT, 0)])) ∧
  (∀ (s : State) (reading : BitVec 16) (a n : Nat) (r : Rec) (tornA tornB : Bool), s.live = true → a < 2 →
    ((s.rw 0).gate = none → (s.rw 1).gate = none → ∃ t, exec (.shockAssert reading tornA tornB) s = .next t ∧ t.shock.low = true ∧
      t.shock.peak = (signed 16 reading.toNat).natAbs ∧ (∀ m < 2, t.getF Reg.ACT_STATE_ON_TRK_WR m = 0 ∧ t.getF Reg.ACT_STATE_WINH m = 1 ∧
        t.loop m = { s.loop m with shockHold := some 0, shockQuiet := some 0 }) ∧
      t = { s with regs := t.regs, loops := t.loops, shock := t.shock } ∧ fieldsKept s t [(Reg.ACT_STATE_ON_TRK_WR, 0),
        (Reg.ACT_STATE_ON_TRK_WR, 1), (Reg.ACT_STATE_WINH, 0), (Reg.ACT_STATE_WINH, 1)]) ∧
    ((s.rw 0).gate = some r → (s.rw 1).gate = none → ∃ t, exec (.shockAssert reading true tornB) s = .next t ∧ (t.rw 0).gate = none ∧
      (t.rw 0).wq = { r with torn := true } :: (s.rw 0).wq ∧ t.getF Reg.RWC_TEAR_LAST_CAUSE 0 = 5) ∧
    (s.shock.low = true → ∃ t, exec .shockRelease s = .next t ∧ t.shock = { s.shock with low := false } ∧
      t.getF Reg.SHK_LAST_PEAK = s.shock.peak % 2 ^ 16 ∧ t.evr = (s.event 0x29 0 0 s.shock.peak).evr ∧
      t = { s with regs := t.regs, shock := t.shock, evr := t.evr } ∧ fieldsKept s t [(Reg.SHK_LAST_PEAK, 0)]) ∧
    ((s.loop a).shockHold = some n → s.shock.low = false → s.getF Reg.SHK_CTRL_SHK_HOLD ≤ n →
      exec (.shockHoldEnd a) s = .next (s.setLoop a { s.loop a with shockHold := none })) ∧
    ((s.loop a).shockHold = some n → n < s.getF Reg.SHK_CTRL_SHK_HOLD → exec (.shockHoldEnd a) s = .next s) ∧
    ((s.loop a).shockQuiet = some n → s.shock.low = false → s.getF Reg.SHK_CTRL_SHK_QUIET ≤ n → (s.rw a).gate = none → ∃ t,
      exec (.shockQuietEnd a) s = .next t ∧ t.loop a = { s.loop a with shockQuiet := none } ∧
      t = { s with regs := t.regs, loops := t.loops } ∧ (s.actState a = 3 → (s.loop a).jog = 0 → (s.loop a).want = 0 → (s.loop a).shockHold = none →
        s.getF Reg.COUNTS_WR_N a ≤ (s.loop a).pesHist.length →
        (∀ x ∈ (s.loop a).pesHist, x.1 ≤ s.getF Reg.LIM_WR_WR_LIM a ∧ x.2 = false) → t.getF Reg.ACT_STATE_ON_TRK_WR a = 1)) ∧
    ((s.loop a).shockQuiet = some n → n < s.getF Reg.SHK_CTRL_SHK_QUIET → exec (.shockQuietEnd a) s = .next s))

/-! ## The spindle (spec/09) -/

/-- SPINDLE_SAMPLE (R176, R207): the speed loop's command from the measured period, AT_SPEED after AT_N samples near N_SET, and both actuators
retracted below UNLOAD_RPM. Commutation and heating (R198, R203, R205 to R209): the speed estimate of the zero crossings, of a coasting rotor too, and
the hand-off to the speed loop, commutation lost, the kick brake, the winding temperature and the ends of heating. -/
def Obligations.SpindleSampledAndHeated : Prop :=
  (∀ (s : State) (period : Nat) (shock : BitVec 16) (tornA tornB : Bool), s.live = true → s.swap = [] →
    s.getF Reg.ENG_STATUS_PL_STEP = 0 → s.flag Reg.CHN_STATUS_LOCK = true →
    (s.rw 0).gate = none → (s.rw 1).gate = none →
    (bitOf (s.getF Reg.LOOP_CTRL_EN) 2 = true →
      let e : Int := (s.nSet : Int) * 65536 - roundDiv 60000000000000 period
      let lim : Int := s.iClamp 2 * 65536
      let i := clampI (roundShift (s.spl.i * (2 ^ 20 : Nat) + s.coef 2 5 * e) 20) (-lim) lim
      let m : Int := s.getF Reg.SPD_ILIM_I_LIM_S
      ∃ t, exec (.spindleSample period shock tornA tornB) s = .next t ∧ t.spl.i = i ∧
        t.spl.u = satI 16 (clampI (roundShift (satI 64 (s.coef 2 4 * e + i * (2 ^ 20 : Nat) + s.feedFwd)) 36) (-m) m) ∧
        t.getF Reg.SPD_CMD_CMD = unsigned 16 t.spl.u ∧ t.chans = s.chans) ∧
    (s.atSpeed = false → s.spn = 7 → 256 * ((s.getF Reg.CHN_RPM_RPM8 : Int) - 8 * (s.nSet : Int)).natAbs ≤ 8 * s.nSet →
      s.getF Reg.SPN_THR2_AT_N ≤ s.spindle.atCount + 1 → ∃ t, exec (.spindleSample period shock tornA tornB) s = .next t ∧
      t.atSpeed = true ∧ t.getF Reg.SPN_EVENTS_AT_SPEED_UP = 1 ∧ t.power.spinup = none) ∧
    (s.getF Reg.CHN_RPM_RPM8 < 8 * s.getF Reg.SPN_THR_UNLOAD_RPM → ∃ t,
      exec (.spindleSample period shock tornA tornB) s = .next t ∧
      ∀ a < 2, t.actState a = (if s.actState a ≤ 1 then s.actState a else 7) ∧
        (2 ≤ s.actState a → s.actState a < 7 → (t.loop a).retReq = true))) ∧
  (∀ (s : State) (interval onTime r : Nat) (back : Bool), s.live = true →
    let ended : Nat := if s.spindle.autoStart = true then (if s.bothAtRest = true then 5 else 1) else 0
    (s.spn ≤ 4 ∨ 9 ≤ s.spn → s.flag Reg.CHN_STATUS_LOCK = true → s.bothAtRest = true → s.spindle.crossings = [] →
      0 < s.getF Reg.SPN_MOTOR_POLE_PAIRS * interval → ∃ t, exec (.bemfZeroCrossing interval onTime false back) s = .next t ∧
      t.getF Reg.SPN_EST_RPM8 = satN 16 (80000000000 / (s.getF Reg.SPN_MOTOR_POLE_PAIRS * interval)) ∧ t.spn = s.spn ∧
      t.flag Reg.SPN_STATE_DIR_NOW = back ∧ t = { s with regs := t.regs, spindle := { s.spindle with crossings := [interval] } }) ∧
    (s.spn = 8 → s.bothAtRest = true → s.spindle.crossings = [] → 0 < s.getF Reg.SPN_MOTOR_POLE_PAIRS * interval →
      satN 16 (80000000000 / (s.getF Reg.SPN_MOTOR_POLE_PAIRS * interval)) < 8 * s.getF Reg.SPN_DET_CATCH_MIN → ∃ t,
      exec (.bemfZeroCrossing interval onTime false back) s = .next t ∧ t.spn = 8 ∧ t.spindle.stopBrake = true) ∧
    (s.spn = 6 → s.bothAtRest = true → s.spindle.dir = false → s.spindle.crossings = [] →
      s.narrow onTime = false ∨ s.flag Reg.SPN_MOTOR_NARROW = true →
      0 < s.getF Reg.SPN_MOTOR_POLE_PAIRS * interval → 1 ≤ s.getF Reg.SPN_MOTOR_SKIP_MAX →
      let est := satN 16 (80000000000 / (s.getF Reg.SPN_MOTOR_POLE_PAIRS * interval))
      ∃ t, exec (.bemfZeroCrossing interval onTime false back) s = .next t ∧ t.getF Reg.SPN_EST_RPM8 = est ∧
        t.getF Reg.CNT_DIST_COUNT = (s.getF Reg.CNT_DIST_COUNT + b2n (s.narrow onTime)) % 2 ^ 32 ∧
        (8 * s.getF Reg.SPN_THR_HANDOFF_RPM ≤ est → t.spn = 7 ∧ t.flag Reg.SPN_STATE_HANDED = true ∧
          t.spl.u = s.getF Reg.SPN_IRUN_SYNC_I) ∧
        (est < 8 * s.getF Reg.SPN_THR_HANDOFF_RPM → t.spn = 6) ∧ t = { s with regs := t.regs, spindle := t.spindle, spl := t.spl }) ∧
    (s.spn = 6 ∨ s.spn = 7 → exec (.bemfZeroCrossing interval onTime true back) s = .next s) ∧
    (s.spn = 6 ∨ s.spn = 7 → s.narrow onTime = true → s.flag Reg.SPN_MOTOR_NARROW = false → s.spindle.crossings ≠ [] →
      s.getF Reg.SPN_MOTOR_SKIP_MAX ≤ s.spindle.predicted + 1 → ∃ t, exec (.bemfZeroCrossing interval onTime false back) s = .next t ∧ t.spn = 1 ∧ t.getF Reg.SPN_EVENTS_COMM_LOST = 1 ∧
      t.getF Reg.CNT_SKIP_COUNT = (s.getF Reg.CNT_SKIP_COUNT + 1) % 2 ^ 32) ∧
    (s.spn = 6 ∨ s.spn = 7 → ∃ t, exec .commutationLost s = .next t ∧ t.spn = 1 ∧ t.getF Reg.SPN_EVENTS_COMM_LOST = 1 ∧
      t.getF Reg.CNT_COMM_LOST_COUNT = (s.getF Reg.CNT_COMM_LOST_COUNT + 1) % 2 ^ 32 ∧
      t.evr = (s.event 0x2D 0 0 (s.getF Reg.SPN_EST_RPM8)).evr ∧ t.flag Reg.SPN_STATE_HANDED = false ∧
      t = { s with regs := t.regs, spindle := t.spindle, evr := t.evr }) ∧
    (s.spn = 2 → s.spindle.brake = .kick → ∃ t, exec .kickBrakeEnd s = .next t ∧ t.spn = 5 ∧
      t.spindle.vector = (s.spindle.guess + 3) % 6 ∧ t = { s with regs := t.regs, spindle := t.spindle }) ∧
    (s.spn = 3 → s.getF Reg.WIND_RREF_R ≠ 0 →
      let num : Int := ((satN 16 r : Int) - s.getF Reg.WIND_RREF_R) * 100000
      let temp := unsigned 16 (satI 16 (400 + 16 * num / (393 * (s.getF Reg.WIND_RREF_R : Int))))
      (num < (s.getI Reg.SPN_HEAT_HEAT_TGT - 25) * (393 * (s.getF Reg.WIND_RREF_R : Int)) → ∃ t, exec (.heaterMeasure r) s = .next t ∧
        t.getF Reg.WIND_R = satN 16 r ∧ t.getF Reg.WIND_T = temp ∧ onlyFields s t [(Reg.WIND_R, 0), (Reg.WIND_T, 0)]) ∧
      ((s.getI Reg.SPN_HEAT_HEAT_TGT - 25) * (393 * (s.getF Reg.WIND_RREF_R : Int)) ≤ num → ∃ t, exec (.heaterMeasure r) s = .next t ∧
        t.spn = ended ∧ (s.bothAtRest = true → t.evr = (s.event 0x2E 1 0 temp).evr) ∧ t.getF Reg.WIND_T = temp)) ∧
    (s.spn = 3 → ∃ t, exec .heatTimeout s = .next t ∧ t.spn = ended ∧
      t.getF Reg.SPN_EVENTS_HEAT_TIMEOUT = 1 ∧ (s.bothAtRest = true → t.evr = (s.event 0x2E 3 0 (s.getF Reg.WIND_T)).evr)))

/-- The spindle commands (R197, R199, R200, R208, R209): START from OFF or FAIL begins a set of attempts in DETECT, ends heating, is refused in STOP
and HARVEST and against the rotation; STOP needs empty queues and both actuators at rest; HEAT needs OFF and a reference. The start (R199 to R204):
what detection leads to, the ends of braking, the vector that sensing gives, the forced steps into SYNC, and an attempt that fails. That START is rejected
in OFF and FAIL under power loss, and that SPN_EST reads 0 in FAIL, are the model's choices (log entry 42). -/
def Obligations.SpindleStarts : Prop :=
  (∀ (s : State) (src : Nat) (dir auto : Bool), s.live = true →
    (s.isReversal dir = false →
      (s.spn = 0 ∨ s.spn = 10 → s.inLoss = false → ∃ t, exec (.spindleStart src dir) s = .next t ∧ t.spn = 1 ∧ t.getF Reg.SPN_STATE_TRY = 1 ∧
        t.getF Reg.CNT_START_COUNT = (s.getF Reg.CNT_START_COUNT + 1) % 2 ^ 32 ∧ t.spindle.dir = dir ∧ t.spindle.forHeat = false ∧
        t = { s with regs := t.regs, spindle := t.spindle }) ∧
      (s.spn = 0 ∨ s.spn = 10 → s.inLoss = true → ∃ t, exec (.spindleStart src dir) s = .next t ∧
        t.getF Reg.SPN_EVENTS_CMD_REJECT = 1 ∧ onlyFields s t [(Reg.SPN_EVENTS_CMD_REJECT, 0)]) ∧
      (s.spn = 3 → ∃ t, exec (.spindleStart src dir) s = .next t ∧
        t.spn = (if s.bothAtRest = true then 5 else 1) ∧
        (s.bothAtRest = true → t.spindle.vector = if dir = true then 4 else 2) ∧
        t.evr = (s.event 0x2E 4 0 (s.getF Reg.WIND_T)).evr) ∧
      (s.spn = 8 ∨ s.spn = 9 → ∃ t, exec (.spindleStart src dir) s = .next t ∧ t.getF Reg.SPN_EVENTS_CMD_REJECT = 1 ∧
        onlyFields s t [(Reg.SPN_EVENTS_CMD_REJECT, 0)]) ∧
      (s.spn = 1 ∨ s.spn = 2 ∨ s.spn = 4 ∨ s.spn = 5 ∨ s.spn = 6 ∨ s.spn = 7 → exec (.spindleStart src dir) s = .next s)) ∧
    (s.isReversal dir = true → 8 * s.getF Reg.SPN_THR2_REV_MAX_RPM < s.getF Reg.SPN_EST_RPM8 ∨ s.bothAtRest = false → ∃ t,
      exec (.spindleStart src dir) s = .next t ∧ t.getF Reg.SPN_EVENTS_REV_REJECT = 1 ∧ onlyFields s t [(Reg.SPN_EVENTS_REV_REJECT, 0)]) ∧
    (s.records = [] → s.bothAtRest = true →
      (s.spn = 7 → ∃ t, exec (.spindleStop src) s = .next t ∧ t.spn = 8 ∧ t.flag Reg.SPN_STATE_HANDED = false ∧
        t = { s with regs := t.regs, spindle := t.spindle }) ∧
      (s.spn = 4 ∨ s.spn = 5 ∨ s.spn = 6 ∨ s.spn = 10 → ∃ t, exec (.spindleStop src) s = .next t ∧ t.spn = 2 ∧ t.spindle.brake = .off ∧
        t = { s with regs := t.regs, spindle := t.spindle }) ∧
      (s.spn = 3 → ∃ t, exec (.spindleStop src) s = .next t ∧ t.spn = 0 ∧ t.flag Reg.SPN_STATE_HEATING = false ∧
        t.evr = (s.event 0x2E 4 0 (s.getF Reg.WIND_T)).evr)) ∧
    (s.records ≠ [] ∨ s.bothAtRest = false ∨ s.spn ≤ 2 ∨ s.spn = 8 ∨ s.spn = 9 → ∃ t, exec (.spindleStop src) s = .next t ∧
      t.getF Reg.SPN_EVENTS_CMD_REJECT = 1 ∧ onlyFields s t [(Reg.SPN_EVENTS_CMD_REJECT, 0)]) ∧
    (s.spn = 0 → s.getF Reg.WIND_RREF_R ≠ 0 → s.inLoss = false → ∃ t, exec (.spindleHeat src auto) s = .next t ∧ t.spn = 1 ∧ t.flag Reg.SPN_STATE_HEATING = true ∧
      t.getF Reg.SPN_STATE_TRY = 1 ∧ t.spindle.forHeat = true ∧ t.spindle.autoStart = auto ∧
      t = { s with regs := t.regs, spindle := t.spindle }) ∧
    (s.spn ≠ 0 ∨ s.getF Reg.WIND_RREF_R = 0 ∨ s.inLoss = true → ∃ t, exec (.spindleHeat src auto) s = .next t ∧ t.getF Reg.SPN_EVENTS_CMD_REJECT = 1 ∧
      onlyFields s t [(Reg.SPN_EVENTS_CMD_REJECT, 0)])) ∧
  (∀ (s : State) (back : Bool) (rpm8 v : Nat) (times : List Nat), s.live = true →
    (s.spn = 1 → ((s.spindle.forHeat = true → 100 * s.heldPages < s.getF Reg.SPN_HEAT_HOLD_END * s.getF Reg.POOL_HOLD_HOLD) →
        (s.inLoss && s.spindle.spent) = false → ∃ t, exec (.detectDone false back rpm8) s = .next t ∧ t.getF Reg.SPN_EST_RPM8 = 0 ∧
        t.getF Reg.SPN_STATE_DET = 0 ∧
        t.spn = (if s.spindle.forHeat = true then 3 else if s.bothAtRest = true then (if s.spindle.heated = true then 5 else 4) else 1) ∧
        (s.bothAtRest = true → t = { s with regs := t.regs, spindle := t.spindle })) ∧
      (back = s.spindle.dir → 8 * s.getF Reg.SPN_DET_CATCH_MIN ≤ satN 16 rpm8 → s.spindle.forHeat = false → ∃ t,
        exec (.detectDone true back rpm8) s = .next t ∧ t.spn = 6 ∧ t.getF Reg.SPN_STATE_DET = 1 ∧ t.getF Reg.SPN_EVENTS_CAUGHT = 1 ∧
        t.getF Reg.SPN_EST_RPM8 = satN 16 rpm8 ∧ (s.bothAtRest = true → t.evr = (s.event 0x2A 0 0 (satN 16 rpm8)).evr)) ∧
      (back = s.spindle.dir → 8 * s.getF Reg.SPN_DET_CATCH_MIN ≤ satN 16 rpm8 → s.spindle.forHeat = true → ∃ t,
        exec (.detectDone true back rpm8) s = .next t ∧ t.spn = 2 ∧ t.spindle.brake = .detect ∧ t.getF Reg.SPN_STATE_DET = 1) ∧
      (back ≠ s.spindle.dir ∨ satN 16 rpm8 < 8 * s.getF Reg.SPN_DET_CATCH_MIN → ∃ t, exec (.detectDone true back rpm8) s = .next t ∧
        t.spn = 2 ∧ t.spindle.brake = .detect ∧ t.getF Reg.SPN_STATE_DET = (if back = s.spindle.dir then 2 else 3) ∧
        (s.bothAtRest = true → t = { s with regs := t.regs, spindle := t.spindle }))) ∧
    (s.spn = 8 ∨ (s.spn = 2 ∧ s.spindle.brake = .off) → ∃ t, exec .brakeEnd s = .next t ∧ t.spn = 0 ∧ t.getF Reg.SPN_EST_RPM8 = 0 ∧
      t.flag Reg.SPN_STATE_HANDED = false ∧ (s.bothAtRest = true → t = { s with regs := t.regs, spindle := t.spindle })) ∧
    (s.spn = 2 → s.spindle.brake = .detect → ∃ t, exec .brakeEnd s = .next t ∧ t.spn = 1 ∧ t.getF Reg.SPN_EST_RPM8 = 0) ∧
    (s.spn = 8 ∨ (s.spn = 2 ∧ s.spindle.gapWait = false ∧ s.spindle.brake = .detect) → ∃ t, exec .brakeTimeout s = .next t ∧ t.spn = 10 ∧
      t.spindle.starting = false ∧ t.getF Reg.SPN_EST_RPM8 = 0 ∧
      (s.bothAtRest = true → t = { s with regs := t.regs, spindle := t.spindle })) ∧
    (s.spn = 4 → times.length = 6 → v < 6 → (∀ k < 6, times.getD v 0 ≤ times.getD k 0) → (∀ k < v, times.getD v 0 < times.getD k 0) → ∃ t,
      exec (.senseDone times) s = .next t ∧ t.spn = 5 ∧ t.spindle.vector = (if s.spindle.dir then v + 4 else v + 2) % 6 ∧
      t.spindle.rampI = min (s.getF Reg.SPN_IRUN_RAMP_I + s.getF Reg.SPN_IRUN_RAMP_I / 8 * (s.getF Reg.SPN_STATE_TRY - 1))
        (s.getF Reg.SPD_ILIM_I_LIM_S) ∧ t = { s with regs := t.regs, spindle := t.spindle }) ∧
    (s.spn = 5 → 1 ≤ s.getF Reg.SPN_START_SYNC_N →
      (∃ t, exec (.rampStep true) s = .next t ∧ t.spindle.vector = (s.spindle.vector + if s.spindle.dir then 5 else 1) % 6 ∧
        t.spindle.good = s.spindle.good + 1 ∧ t.spn = (if s.getF Reg.SPN_START_SYNC_N ≤ s.spindle.good + 1 then 6 else 5) ∧
        t = { s with regs := t.regs, spindle := t.spindle }) ∧
      (∃ t, exec (.rampStep false) s = .next t ∧ t.spn = 5 ∧ t.spindle.good = 0 ∧ t = { s with spindle := t.spindle })) ∧
    (s.spn = 4 ∨ s.spn = 5 → s.inLoss = true → ∃ t, exec .startTimeout s = .next t ∧ t.spn = 10 ∧
      t.getF Reg.SPN_EVENTS_START_FAIL = 1 ∧ (s.bothAtRest = true → t.evr = s.evr)) ∧
    (s.spn = 4 ∨ s.spn = 5 → s.inLoss = false →
      (s.getF Reg.SPN_STATE_TRY < s.getF Reg.SPN_START_START_TRIES → ∃ t, exec .startTimeout s = .next t ∧ t.spn = 2 ∧
        t.spindle.brake = .gap ∧ t.getF Reg.SPN_STATE_TRY = (s.getF Reg.SPN_STATE_TRY + 1) % 8 ∧
        t = { s with regs := t.regs, spindle := t.spindle }) ∧
      (s.getF Reg.SPN_START_START_TRIES ≤ s.getF Reg.SPN_STATE_TRY → ∃ t, exec .startTimeout s = .next t ∧ t.spn = 10 ∧
        t.getF Reg.SPN_EVENTS_START_FAIL = 1 ∧ (s.bothAtRest = true → t.evr = (s.event 0x2C 0 0 (s.getF Reg.CNT_RETRY_COUNT)).evr))) ∧
    (s.spn = 2 → s.spindle.brake = .gap → s.spindle.gapWait = true → ∃ t, exec .startGapEnd s = .next t ∧ t.spn = 1 ∧
      t.getF Reg.CNT_RETRY_COUNT = (s.getF Reg.CNT_RETRY_COUNT + 1) % 2 ^ 32 ∧ t = { s with regs := t.regs, spindle := t.spindle }) ∧
    (s.spn = 10 → s.spindle.starting = true → s.power.vinValid = true → ∃ t, exec .failPauseEnd s = .next t ∧ t.spn = 1 ∧
      t.getF Reg.SPN_STATE_TRY = 1 ∧ t.spindle.dir = s.spindle.dir ∧ t = { s with regs := t.regs, spindle := t.spindle }))

/-! ## The die link and power loss (spec/10) -/

/-- What the logic die sends (R223, R224): every frame carries the SEQ that stood and advances it (the places of the fields of a PAYLOAD are log entry
71's); the power die takes the coil commands of an ACTUATOR frame within the budget,
scaled by one factor (toward 0: log entry 40) where they exceed it, and the sequencer's state from a SPINDLE frame, unless it holds the bridge after a
loss (R231). What the logic die receives (R190, R191, R224, R226): a MEASURE frame gives VHOLD and VIN; SEQ gaps are counted; a valid frame brings the
link back; a STATE frame parks a retracting loop, gives ACQUIRE to one whose heads are loaded and RETRACT to one that the power die retracts. Silence
on the link (R225, R226): the power die retracts both actuators and releases the bridge; the logic die closes admission, raises DOWN and gives RETRACT
to both loops. -/
def Obligations.DieLinkFrames : Prop :=
  (∀ s : State, s.live = true →
    exec .dlHeartbeat s = .next { s with dl := { s.dl with tx := s.dl.tx + 1, out := dlFrame 1 s.dl.tx 0 } } ∧
    exec .dlBadCrcFrame s = .next (s.bump Reg.DL_CNT_CRC_COUNT) ∧
    (s.power.autoRetract = false → (∀ a < 2, sget false a s.power.retract = false ∧ (s.loop a).retReq = false) → ∃ t,
      exec .dlActuatorFrame s = .next t ∧ t.dl = { s.dl with
        tx := s.dl.tx + 1
        out := dlFrame 2 s.dl.tx (actPayload (s.loop 0).uPrev (s.loop 1).uPrev false false (s.loop 0).loadReq (s.loop 1).loadReq
          ((s.loop 0).loadReq || (s.loop 1).loadReq)) } ∧
      (∀ a < 2, sget false a t.power.loadReq = ((s.loop a).loadReq && s.atSpeed)) ∧
      ((s.loop 0).uPrev.natAbs + (s.loop 1).uPrev.natAbs ≤ s.getF Reg.ENG_ACT_SUM_MAX →
        (∀ a < 2, sget 0 a t.power.coil = (s.loop a).uPrev) ∧ t.regs = s.regs) ∧
      (s.getF Reg.ENG_ACT_SUM_MAX < (s.loop 0).uPrev.natAbs + (s.loop 1).uPrev.natAbs →
        t.getF Reg.ENG_EVENTS_ACT_CLIP = 1 ∧ t.getF Reg.ENG_ACT_CNT_CLIP = satN 16 (s.getF Reg.ENG_ACT_CNT_CLIP + 1) ∧
        ∀ a < 2, sget 0 a t.power.coil = Int.tdiv ((s.loop a).uPrev * (s.getF Reg.ENG_ACT_SUM_MAX : Int))
          (((s.loop 0).uPrev.natAbs + (s.loop 1).uPrev.natAbs : Nat) : Int)) ∧
      t = { s with regs := t.regs, dl := t.dl, power := t.power, loops := t.loops }) ∧
    (∀ a < 2, (s.loop a).retReq = true → ∃ t, exec .dlActuatorFrame s = .next t ∧ sget false a t.power.retract = true ∧
      sget 0 a t.power.coil = 0 ∧ sget false a t.power.loadReq = false ∧ (t.loop a).retReq = false) ∧
    (∃ t, exec .dlSpindleFrame s = .next t ∧ (t.power.drain = true ↔ s.records ≠ []) ∧
      (s.power.harvest = false → s.power.driveNL = false → s.spn ≠ 9 → t.power.bridge = (if s.spn = 8 ∧ s.spindle.stopBrake = true then 2
          else if s.spn = 6 ∧ s.spindle.dir = true ∧ 8 * s.getF Reg.SPN_THR_HANDOFF_RPM ≤ s.getF Reg.SPN_EST_RPM8 then 0 else s.spn) ∧
        (t.power.heater = true ↔ s.spn = 3) ∧
        (s.spn = 7 → t.power.spinCmd = s.spl.u) ∧ (s.spn = 0 → t.power.spinCmd = 0)) ∧
      (s.power.driveNL = true → s.records ≠ [] → t.power = { s.power with drain := true }) ∧
      (s.power.driveNL = true → s.records = [] → t.power.driveNL = false ∧ t.power.harvest = true ∧ t.power.bridge = 9) ∧
      t.dl.tx = s.dl.tx + 1 ∧ t.dl.out = dlFrame 3 s.dl.tx (spinPayload s.spinCurrent s.bridgeState (s.spn == 3) (!s.queuesEmpty)) ∧
      t = { s with dl := t.dl, power := t.power })) ∧
  (∀ (s : State) (seq : Byte) (vhold vin gap a : Nat), s.live = true → a < 2 →
    (∃ t, exec (.dlMeasureFrame seq vhold vin gap) s = .next t ∧ t.getF Reg.ENG_VOLT_VHOLD = satN 16 vhold ∧
      t.getF Reg.ENG_VOLT_VIN = satN 16 vin ∧ t.power.vhold = vhold ∧ t.power.vin = vin ∧
      t.power.vinValid = (s.power.vinValid && decide (10 * s.getF Reg.ENG_PL2_VIN_FAIL + 200 ≤ vin)) ∧ t.flag Reg.DL_STATUS_UP = true ∧
      t.flag Reg.DL_STATUS_DOWN = false ∧ t.dl.rx = seq ∧ t.dl.rxSeen = true ∧
      t.getF Reg.DL_CNT_GAP_COUNT = (if s.dl.rxSeen = true ∧ seq ≠ s.dl.rx + 1 then (s.getF Reg.DL_CNT_GAP_COUNT + 1) % 2 ^ 32
        else s.getF Reg.DL_CNT_GAP_COUNT) ∧
      (s.flag Reg.DL_STATUS_DOWN = true → s.getF Reg.ENG_STATUS_PL_STEP = 0 → t.power.admClosed = false ∧
        t.evr = (s.event 0x35 0 0 (s.getF Reg.DL_CNT_CRC_COUNT)).evr) ∧
      (s.flag Reg.DL_STATUS_DOWN = false → t.power.admClosed = s.power.admClosed ∧ t.evr = s.evr) ∧
      t = { s with regs := t.regs, dl := t.dl, evr := t.evr, power := t.power }) ∧
    (∀ harvest charger : Bool,
      let frame (ret ramp loaded : Bool) : Instr := .dlStateFrame seq (ret && decide (a = 0)) (ret && decide (a = 1))
        (ramp && decide (a = 0)) (ramp && decide (a = 1)) (loaded && decide (a = 0)) (loaded && decide (a = 1)) harvest charger true true gap;
      (s.actState a ≠ 7 → (s.rw a).gate = none → ∃ t, exec (frame true false false) s = .next t ∧ t.actState a = 7 ∧
        t.actState (1 - a) = s.actState (1 - a) ∧ (t.loop a).loadReq = false ∧ (t.loop a).retReq = false ∧ (t.loop a).held = none) ∧
      (s.actState a = 7 → ∃ t, exec (frame false true false) s = .next t ∧ t.actState a = b2n (bitOf (s.getF Reg.LOOP_CTRL_EN) a) ∧ t.flag Reg.ACT_STATE_LOADED a = false ∧
        t.actState (1 - a) = s.actState (1 - a)) ∧
      (s.actState a = 1 → (s.loop a).loadReq = true → ∃ t, exec (frame false false true) s = .next t ∧ t.actState a = 2 ∧
        t.flag Reg.ACT_STATE_LOADED a = true ∧ (t.loop a).loadReq = false ∧ t.actState (1 - a) = s.actState (1 - a)))) ∧
  (∀ (s : State) (tornA tornB : Bool),
    (s.power.vaon = true → ∃ t, exec .powerDieAutoRetract s = .next t ∧ t.power.autoRetract = true ∧
      (∀ a < 2, sget false a t.power.retract = true) ∧ t.power.coil = [] ∧ t.power.loadReq = [] ∧ t.power.spinCmd = 0 ∧
      (t.power.harvest = true ↔ s.lossStands = true) ∧ t.power.bridge = (if s.lossStands = true then 9 else 0) ∧ t = { s with power := t.power }) ∧
    (s.live = true → s.flag Reg.DL_STATUS_DOWN = false → (s.rw 0).gate = none → (s.rw 1).gate = none → ∃ t,
      exec (.dielinkDown tornA tornB) s = .next t ∧ t.flag Reg.DL_STATUS_DOWN = true ∧ t.flag Reg.DL_STATUS_UP = false ∧
      t.power.admClosed = true ∧ (∀ a < 2, t.actState a = 7) ∧ t.chans = s.chans) ∧
    (s.live = true → s.flag Reg.DL_STATUS_DOWN = true → exec (.dielinkDown tornA tornB) s = .next s))

/-- Power loss begins (R228 to R230): VIN or an armed VHOLD fails, the power die stops the charger, disarms the test and rectifies a turning spindle;
PWRFAIL closes admission and raises PL_ACTIVE; its repeats change nothing of the sequence, and a new detection begins it again (R232); step 3 closes the
port. -/
def Obligations.PowerLossBegins : Prop :=
  ∀ (s : State) (seq : Byte) (gap : Nat), s.flag Reg.DL_STATUS_DOWN = false →
    (s.lossStands = true → exec .powerLossVin s = .next s) ∧ (s.power.armed = false → exec .powerLossVhold s = .next s) ∧
    (s.lossStands = false → (s.power.loss = some .vhold → s.power.vinValid = true) → ∃ t, exec .powerLossVin s = .next t ∧ t.power.loss = some .vin ∧ t.power.charger = false ∧
      t.power.armed = false ∧ t.power.vinValid = false ∧ t.power.harvest = s.classTurning ∧
      t.power.bridge = (if s.classTurning = true then 9 else s.power.bridge) ∧ t = { s with power := t.power }) ∧
    (s.power.armed = true → ∃ t, exec .powerLossVhold s = .next t ∧ t.power.loss = some .vhold ∧ t.power.charger = false ∧
      t.power.armed = false ∧ t = { s with power := t.power }) ∧
    (s.live = true → s.flag Reg.ENG_STATUS_PL_ACTIVE = false → s.flag Reg.ENG_STATUS_PL_DONE = false →
      s.power.told = false → s.getF Reg.ENG_STATUS_PL_STEP = 0 → s.chans.all (fun e => e.2.lost.isNone) = true → s.sys = none → ∃ t,
      exec (.dlPwrfailFrame seq gap) s = .next t ∧ t.power.told = true ∧ t.getF Reg.ENG_STATUS_PL_STEP = 2 ∧ t.flag Reg.ENG_STATUS_PL_ACTIVE = true ∧
      t.getF Reg.ENG_EVENTS_POWER_LOSS = 1 ∧ t.power.admClosed = true ∧ t.flag Reg.ENG_STATUS_RETURN = false) ∧
    (s.live = true → s.flag Reg.ENG_STATUS_PL_ACTIVE = true → s.flag Reg.ENG_STATUS_PL_DONE = false → s.power.told = false →
      s.chans.all (fun e => e.2.lost.isNone) = true → s.sys = none → ∃ t, exec (.dlPwrfailFrame seq gap) s = .next t ∧
      t.getF Reg.ENG_STATUS_PL_STEP = 2 ∧ t.flag Reg.ENG_STATUS_PL_ACTIVE = true ∧ t.getF Reg.ENG_EVENTS_POWER_LOSS = 1) ∧
    (s.live = true → s.power.told = true ∨ s.flag Reg.ENG_STATUS_PL_DONE = true → ∃ t, exec (.dlPwrfailFrame seq gap) s = .next t ∧
      t.getF Reg.ENG_STATUS_PL_STEP = s.getF Reg.ENG_STATUS_PL_STEP ∧ t.getF Reg.ENG_STATUS_PL_ACTIVE = s.getF Reg.ENG_STATUS_PL_ACTIVE ∧
      t.chans = s.chans ∧
      t = { s with regs := t.regs, dl := t.dl }) ∧
    (s.live = true → s.getF Reg.ENG_STATUS_PL_STEP = 1 ∨ s.getF Reg.ENG_STATUS_PL_STEP = 2 → ∃ t, exec .plPortClose s = .next t ∧
      t.getF Reg.ENG_STATUS_PL_STEP = 4 ∧ t.portOpen = false) ∧
    (s.live = true → s.getF Reg.ENG_STATUS_PL_STEP = 0 → exec .plPortClose s = .next s)

/-- Power loss ends (R230 to R232, R396): an empty queue retracts its actuator or, with VIN back, ends the sequence; what DRAIN_MAX abandons is
recorded; parked and empty is PL_DONE; the bucks stop at brownout. VIN returns, harvest and retract (R229, R231, R232, R234, R396): the charger runs
and the least VHOLD arms the test; the drive at N_L, the release of the bridge, and a completed retract that leaves its loop PARKED. -/
def Obligations.PowerLossEndsAndReturns : Prop :=
  (∀ (s : State) (a : Nat) (tornA tornB : Bool), s.live = true → a < 2 →
    (4 ≤ s.getF Reg.ENG_STATUS_PL_STEP → s.getF Reg.ENG_STATUS_PL_STEP ≤ 6 → (s.rw a).records = [] →
      (s.inLoss = true → s.power.vinValid = true → s.spn ≠ 9 → s.boot.pending = none → ∃ t, exec (.plQueueEmpty a) s = .next t ∧
        t.getF Reg.ENG_STATUS_RETURN = 1 ∧ t.getF Reg.ENG_STATUS_PL_STEP = 0 ∧ t.flag Reg.ENG_STATUS_PL_ACTIVE = false ∧
        t.power.loss = none ∧ t.power.admClosed = s.flag Reg.DL_STATUS_DOWN ∧ t.power.charger = true ∧ t.evr = (s.event 0x31 0 0 s.lend).evr ∧
        t = { s with regs := t.regs, evr := t.evr, power := t.power, dict := t.dict }) ∧
      (s.power.vinValid = false → 2 ≤ s.actState a → s.actState a < 7 → ∃ t, exec (.plQueueEmpty a) s = .next t ∧ t.actState a = 7 ∧
        t.getF Reg.ENG_STATUS_PL_STEP = max (s.getF Reg.ENG_STATUS_PL_STEP) 5 ∧ (t.loop a).retReq = true ∧ t.chans = s.chans)) ∧
    (4 ≤ s.getF Reg.ENG_STATUS_PL_STEP → s.getF Reg.ENG_STATUS_PL_STEP ≤ 5 → s.inLoss = true → (s.rw 0).gate = none →
      (s.rw 1).gate = none → s.records ≠ [] → ∃ t, exec (.plDrainTimeout tornA tornB) s = .next t ∧ t.records = [] ∧
      t.getF Reg.ENG_STATUS_PL_STEP = 6 ∧ t.getF Reg.ENG_EVENTS_DRAIN_ABANDONED = 1 ∧ t.power.lost = true ∧
      ∀ m < 2, (s.rw m).wq ≠ [] → 2 ≤ s.actState m → t.actState m = 7) ∧
    (s.getF Reg.ENG_STATUS_PL_STEP = 5 ∨ s.getF Reg.ENG_STATUS_PL_STEP = 6 → s.bothAtRest = true → s.records = [] →
      s.inLoss = true → s.power.vinValid = false → ∃ t, exec .plBothParked s = .next t ∧ t.getF Reg.ENG_STATUS_PL_STEP = 7 ∧
      t.getF Reg.ENG_STATUS_PL_DONE = 1 ∧ (s.power.lost = false → t.boot.resume.isSome = true) ∧
      (s.power.lost = true → t.boot.resume = s.boot.resume)) ∧
    (∃ t, exec .logicDieBrownout s = .next t ∧ t.die = .off ∧ t.power.rails = false ∧ t.buf = s.buf ∧ t.nor = s.nor ∧
      t.cmds = [] ∧ t.chans = [] ∧ t.time.dmt = s.time.dmt)) ∧
  (∀ (s : State) (a vhold : Nat) (spent : Bool), a < 2 →
    (15000 ≤ vhold → s.flag Reg.ENG_STATUS_PL_DONE = false → s.spn ≠ 9 → ∃ t, exec (.vinValid vhold) s = .next t ∧ t.power.vinValid = true ∧
      t.power.charger = true ∧ t.power.armed = true ∧ t = { s with power := t.power }) ∧
    (vhold < 15000 → s.power.loss = some .vhold → ∃ t, exec (.vinValid vhold) s = .next t ∧ t.power.vinValid = s.power.vinValid ∧
      t.power.charger = true ∧ t = { s with power := t.power }) ∧
    (s.power.harvest = true → s.power.drain = true → exec .harvestAtNL s = .next { s with power := { s.power with
      harvest := false, driveNL := true, spinCmd := s.getF Reg.SPN_IRUN_SYNC_I } }) ∧
    (s.power.harvest = false ∨ s.power.drain = false → exec .harvestAtNL s = .next s) ∧
    (s.power.harvest = true ∨ s.power.driveNL = true → exec .harvestEnd s = .next { s with power := { s.power with
      harvest := false, driveNL := false, bridge := 0, spinCmd := 0 } }) ∧
    (s.live = true → s.actState a = 7 → ∃ t, exec (.retractComplete a spent) s = .next t ∧
      t.actState a = b2n (bitOf (s.getF Reg.LOOP_CTRL_EN) a) ∧ (t.loop a).uPrev = 0 ∧
      sget false a t.power.retract = false ∧ sget 0 a t.power.coil = 0 ∧ t.flag Reg.ACT_STATE_LOADED a = false ∧
      (spent = true → t.getF Reg.ENG_EVENTS_RET_FLOOR = 1) ∧ t.chans = s.chans ∧
      t = { s with regs := t.regs, power := t.power, spindle := t.spindle, loops := t.loops }))

/-! ## The Ovore link (spec/11) -/

/-- A MIRROR frame (R246, R249): a provisional grain that follows takes the credit's page and waits for its COMMIT note; without a credit it is
answered by a CONFIRM note with LAG; nothing is received while EN is 0. A CONFIRM moves MIRRORED_HEAD forward only (R15), and not on a halted channel
(R325). A SEAL_NOTE frame (R251): a copy of the next seal that verifies is confirmed and joins the intake's records; one that does not halts the intake. CANCEL, HEARTBEAT and invalid frames (R244, R246, R249, R250, R253, R255): the
provisional grains covered are dropped; a HEARTBEAT counts toward the link, brings GRANT and CONFIRM notes, and takes the link down where EN is 0 or
the OWNED masks meet; too many invalid frames take it down. -/
def Obligations.PartnerFramesReceived : Prop :=
  (∀ (s : State) (f : List Byte) (z p : Nat) (rest : List (Nat × Nat)), s.live = true →
    (s.flag Reg.OVR_CTRL_EN = false → exec (.ovrMirrorFrameRx f) s = .next s ∧ exec (.ovrSealNoteRx f) s = .next s ∧
      exec (.ovrCancelRx f) s = .next s ∧ exec (.ovrHeartbeatRx f) s = .next s) ∧
    (let n := (byteAt f 19).toNat % 64
     let seq := BitVec.ofNat 32 (leAt f 20 4)
     s.flag Reg.OVR_CTRL_EN = true → s.ovrValid 1 f = true → bitOf (byteAt f 2).toNat 0 = false → (byteAt f 18).toNat = 1 →
      s.linkUp = true → (s.intake n).isOpen = true →
      ((s.intake n).outstanding = [] → ∃ t, exec (.ovrMirrorFrameRx f) s = .next t ∧
        t.ovr.notes = s.ovr.notes ++ [noteBytes 6 n 1 (s.intake n).confirmed (leBytes 2 (s.intake n).opening.toNat)] ∧
        t.getF Reg.OVR_CNT_RX_COUNT = (s.getF Reg.OVR_CNT_RX_COUNT + 1) % 2 ^ 32 ∧ t.ovr.prov = s.ovr.prov ∧
        t = { s with regs := t.regs, ovr := t.ovr }) ∧
      ((s.intake n).outstanding = (z, p) :: rest → p < 4096 → s.ecc.bad = [] → s.getF Reg.ENG_STATUS_PL_STEP < 3 →
        (s.intake n).halted = false → BitVec.ofNat 16 (leAt f 34 2) = (s.intake n).opening → s.pendingOf n = [] →
        (s.intake n).received = (s.intake n).confirmed → seq = (s.intake n).confirmed + 1 → ∃ (t : State) (g : Prov),
        exec (.ovrMirrorFrameRx f) s = .next t ∧ g.chan = n ∧ g.kind = 1 ∧ g.seq = seq ∧ g.page = p ∧ g.cost = z ∧ g.committed = false ∧
        g.hdr = slice f 16 28 ∧ t.pendingOf n = [g] ∧ (t.intake n).received = seq ∧ (t.intake n).outstanding = rest ∧
        (t.intake n).confirmed = (s.intake n).confirmed ∧ (∀ k < 4096, t.bufByte (4096 * p + k) = byteAt f (48 + k)) ∧
        (∀ x, x < 4096 * p ∨ 4096 * p + 4096 ≤ x → t.bufByte x = s.bufByte x) ∧ t.chans = s.chans))) ∧
  (∀ (s : State) (f : List Byte) (z p : Nat) (rest : List (Nat × Nat)), s.live = true →
    let n := (byteAt f 19).toNat % 64
    let body := slice f 48 164
    s.flag Reg.OVR_CTRL_EN = true → s.ovrValid 2 f = true → s.linkUp = true → (s.intake n).isOpen = true →
      (s.intake n).outstanding = (z, p) :: rest → p < 4096 → s.ecc.bad = [] → s.getF Reg.ENG_STATUS_PL_STEP < 3 →
      (s.intake n).halted = false → (s.intake n).truncated = false → BitVec.ofNat 16 (leAt f 34 2) = (s.intake n).opening →
      s.pendingOf n = [] → (s.intake n).received = (s.intake n).confirmed → BitVec.ofNat 32 (leAt f 20 4) = (s.intake n).confirmed →
      (s.intake n).ordinal < leAt body 0 4 →
      (s.sealCopyOk (s.intake n) (slice f 16 32) body = true → (s.intake n).act < 2 → ∃ (t : State) (r : Rec),
        exec (.ovrSealNoteRx f) s = .next t ∧ r ∈ (t.rw (s.intake n).act).wq ∧ r.kind = .seal ∧ r.intake = true ∧ r.chan = n ∧ r.page = p ∧
        r.ordinal = leAt body 0 4 ∧ (t.intake n).ordinal = leAt body 0 4 ∧ (t.intake n).sealChain = slice body 60 32 ∧
        (t.intake n).halted = false ∧ t.chans = s.chans) ∧
      (s.sealCopyOk (s.intake n) (slice f 16 32) body = false → ∃ t, exec (.ovrSealNoteRx f) s = .next t ∧ (t.intake n).halted = true ∧
        t.getF Reg.OVR_EVENTS_CHAIN_MISMATCH = 1 ∧ t.pendingOf n = [] ∧ t.chans = s.chans ∧ t.rwc = s.rwc)) ∧
  (∀ (s : State) (f : List Byte), s.live = true → s.flag Reg.OVR_CTRL_EN = true →
    (let n := (byteAt f 16).toNat % 64
     s.ovrValid 3 f = true → BitVec.ofNat 16 (leAt f 18 2) = (s.intake n).opening → ∃ t, exec (.ovrCancelRx f) s = .next t ∧
      t.ovr.prov = s.ovr.prov.filter (fun g => !(g.chan == n && (g.kind == 1 && !g.committed &&
        decide ((g.seq - BitVec.ofNat 32 (leAt f 20 4)).toNat < (byteAt f 17).toNat)))) ∧ t.chans = s.chans ∧ t.rwc = s.rwc ∧
      t.getF Reg.OVR_CNT_RX_COUNT = (s.getF Reg.OVR_CNT_RX_COUNT + 1) % 2 ^ 32) ∧
    (s.ovrValid 4 f = true → s.linkUp = true → masksMeet (slice f 16 8) s.ownMask = false → bitOf (byteAt f 24).toNat 0 = true →
      bitOf (byteAt f 24).toNat 1 = false →
      (byteAt f 25 = 0 → ∃ t, exec (.ovrHeartbeatRx f) s = .next t ∧
        t.ovr = { s.ovr with fseqRx := byteAt f 1, rxSeen := true, good := min 3 (s.ovr.good + 1) } ∧ t = { s with regs := t.regs, ovr := t.ovr } ∧
        fieldsKept s t [(Reg.OVR_CNT_RX_COUNT, 0), (Reg.OVR_CNT_GAP_COUNT, 0)]) ∧
      (∀ n < 64, byteAt f 25 = 1 → (byteAt f 33).toNat = n → (s.chan n).isOpen = true → (s.chan n).mirror = true →
        (byteAt f 32 = 5 → ∃ t, exec (.ovrHeartbeatRx f) s = .next t ∧ (t.own n).granted = BitVec.ofNat 32 (leAt f 36 4) ∧
          (∀ m, m ≠ n → t.own m = s.own m) ∧ t.chans = s.chans) ∧
        (byteAt f 32 = 6 → bitOf (byteAt f 34).toNat 0 = false → BitVec.ofNat 16 (leAt f 40 2) = (s.chan n).opening →
          s.cmds.filter (·.running) = [] → ∃ t, exec (.ovrHeartbeatRx f) s = .next t ∧
          t.chan n = (if (s.chan n).halted then s.chan n else
            { s.chan n with mirrored := seqMax (s.chan n).mirrored (seqMin (BitVec.ofNat 32 (leAt f 36 4)) (s.chan n).durable) }) ∧
          (t.own n).lagging = (s.own n).lagging ∧ ∀ m, m ≠ n → t.chan m = s.chan m))) ∧
    (s.ovrValid 4 f = true → s.linkUp = true → s.mirroredOwn = [] → s.cmds.filter (fun c => c.op == 0x09 && c.running) = [] →
      (masksMeet (slice f 16 8) s.ownMask = true → ∃ t, exec (.ovrHeartbeatRx f) s = .next t ∧ t.linkUp = false ∧
        t.getF Reg.OVR_EVENTS_OVERLAP = 1 ∧ t.getF Reg.OVR_STATUS_LAST_CAUSE = 3) ∧
      (masksMeet (slice f 16 8) s.ownMask = false → bitOf (byteAt f 24).toNat 0 = false → ∃ t, exec (.ovrHeartbeatRx f) s = .next t ∧
        t.linkUp = false ∧ t.getF Reg.OVR_STATUS_LAST_CAUSE = 4 ∧ t.ovr.good = 0)) ∧
    (∀ fresh : Bool, let k := if fresh then 1 else s.ovr.errs + 1
      (k ≤ s.getF Reg.OVR_CTRL_ERR_LIM → ∃ t, exec (.ovrInvalidFrameRx fresh) s = .next t ∧ t.ovr = { s.ovr with errs := k, good := 0 } ∧
        t.getF Reg.OVR_CNT_BAD_COUNT = (s.getF Reg.OVR_CNT_BAD_COUNT + 1) % 2 ^ 32 ∧ t = { s with regs := t.regs, ovr := t.ovr } ∧
        fieldsKept s t [(Reg.OVR_CNT_BAD_COUNT, 0)]) ∧
      (s.getF Reg.OVR_CTRL_ERR_LIM < k → s.linkUp = true → s.mirroredOwn = [] → s.cmds.filter (fun c => c.op == 0x09 && c.running) = [] →
        ∃ t, exec (.ovrInvalidFrameRx fresh) s = .next t ∧ t.linkUp = false ∧ t.getF Reg.OVR_STATUS_LAST_CAUSE = 2)))

/-- The link's state (R241, R253, R255): silence takes it down and drops its queues; lane training with three good HEARTBEATs brings it up, for every
tenant that exists. Provisional grains time out, and the link's settings (R238, R250, spec/16 R334): the partner's identity, the OWNED mask and the
key are written only by a privileged writer while EN is 0. The owner's frames (R245 to R247, R257): a due HEARTBEAT, the live MIRROR frame of a grain
whose page is filled, the catch-up of a lagging channel, the end of a frame on the lanes. -/
def Obligations.LinkStateAndOwnerFrames : Prop :=
  (∀ (s : State) (lane : Nat) (gained : Bool), s.live = true →
    (s.linkUp = false → exec .ovrLinkSilence s = .next { s with ovr := { s.ovr with good := 0 } }) ∧
    (s.linkUp = true → s.mirroredOwn = [] → s.cmds.filter (fun c => c.op == 0x09 && c.running) = [] → ∃ t,
      exec .ovrLinkSilence s = .next t ∧ t.linkUp = false ∧ t.getF Reg.OVR_STATUS_LAST_CAUSE = 1 ∧ t.ovr.txq = [] ∧ t.ovr.notes = [] ∧
      t.ovr.good = 0 ∧ t.evr = (s.event 0x40 1 0 (s.getF Reg.OVR_CNT_BAD_COUNT)).evr ∧ t.chans = s.chans ∧ t.rwc = s.rwc ∧
      (∀ u < 16, s.flag Reg.TCFG_EN u = true → (t.ten u).cause = (s.ten u).cause ||| 0x10)) ∧
    (s.linkUp = true ∨ s.flag Reg.OVR_CTRL_EN = false ∨ s.ovr.good < 3 → ∃ t, exec (.laneTrained lane gained) s = .next t ∧
      t.flag (if lane = 0 then Reg.OVR_STATUS_TRAINED0 else Reg.OVR_STATUS_TRAINED1) = gained ∧ t = { s with regs := t.regs } ∧
      fieldsKept s t [(if lane = 0 then Reg.OVR_STATUS_TRAINED0 else Reg.OVR_STATUS_TRAINED1, 0)]) ∧
    (s.linkUp = false → s.flag Reg.OVR_CTRL_EN = true → s.flag Reg.OVR_STATUS_TRAINED1 = true → 3 ≤ s.ovr.good → s.mirroredOwn = [] →
      s.openIntakes = [] → ∃ t, exec (.laneTrained 0 true) s = .next t ∧ t.linkUp = true ∧ t.evr = (s.event 0x41 0 0 0).evr ∧
      (∀ u < 16, s.flag Reg.TCFG_EN u = true → (t.ten u).cause = (s.ten u).cause ||| 0x10) ∧ t.chans = s.chans)) ∧
  (∀ (s : State) (src n i : Nat) (v : Word) (g : Prov), s.live = true →
    (s.pendingOf n = [g] → g.kind = 1 → g.committed = false → ∃ t, exec (.provTimeout n) s = .next t ∧ t.pendingOf n = [] ∧
      t.getF Reg.OVR_EVENTS_PROV_TIMEOUT = 1 ∧ t.evr = (s.event 0x42 n 0 g.seq.toNat).evr ∧ t.chans = s.chans) ∧
    (s.pendingOf n = [] → exec (.provTimeout n) s = .next s) ∧
    (privileged src = true → s.onPll 3 = false → bitOf v.toNat 0 = true →
      exec (.ovrConfigWrite src 0x400D0000 v) s = .next (s.runReject src 0x400D0000)) ∧
    (i < 16 → (privileged src = false → exec (.ovrConfigWrite src (0x400D0040 + 4 * i) v) s =
        .next (s.denied src (regDetail (0x400D0040 + 4 * i)))) ∧
      (privileged src = true → s.flag Reg.OVR_CTRL_EN = true → ∃ t, exec (.ovrConfigWrite src (0x400D0040 + 4 * i) v) s = .next t ∧
        t.getF Reg.OVR_EVENTS_CFG_REJECT = 1 ∧ onlyFields s t [(Reg.OVR_EVENTS_CFG_REJECT, 0)]) ∧
      (privileged src = true → s.flag Reg.OVR_CTRL_EN = false → ∃ t, exec (.ovrConfigWrite src (0x400D0040 + 4 * i) v) s = .next t ∧
        t.getF Reg.OVR_PEER_KEY_KEY i = v.toNat ∧ onlyFields s t [(Reg.OVR_PEER_KEY_KEY, i)])) ∧
    (i < 2 → privileged src = true → s.flag Reg.OVR_CTRL_EN = false →
      (∃ t, exec (.ovrConfigWrite src (0x400D0010 + 4 * i) v) s = .next t ∧ t.getF Reg.OVR_PEER_UID_UID i = v.toNat ∧
        onlyFields s t [(Reg.OVR_PEER_UID_UID, i)]) ∧
      ((∀ b < 32, bitOf v.toNat b = bitOf (s.getF Reg.OVR_OWN_MASK i) b ∨
          ((s.chan (32 * i + b)).isOpen = false ∧ (s.intake (32 * i + b)).isOpen = false)) → ∃ t,
        exec (.ovrConfigWrite src (0x400D0018 + 4 * i) v) s = .next t ∧ t.getF Reg.OVR_OWN_MASK i = v.toNat ∧
        onlyFields s t [(Reg.OVR_OWN_MASK, i)]) ∧
      (∀ b < 32, bitOf v.toNat b ≠ bitOf (s.getF Reg.OVR_OWN_MASK i) b → (s.chan (32 * i + b)).isOpen = true → ∃ t,
        exec (.ovrConfigWrite src (0x400D0018 + 4 * i) v) s = .next t ∧ t.getF Reg.OVR_EVENTS_CFG_REJECT = 1 ∧
        onlyFields s t [(Reg.OVR_EVENTS_CFG_REJECT, 0)]))) ∧
  (∀ (s : State) (n p : Nat) (fr : Frame) (media : List Byte), s.live = true →
    (s.openIntakes = [] →
      (s.lanesIdle = true → ∃ t, exec .ovrHeartbeatSend s = .next t ∧ t.ovr.beating = true ∧ t.ovr.notes = s.ovr.notes.drop 8 ∧
        t.ovr.fseqTx = s.ovr.fseqTx + 1 ∧ byteAt t.ovr.out 0 = 4 ∧ byteAt t.ovr.out 1 = s.ovr.fseqTx ∧ t.ovr.txq = s.ovr.txq ∧
        t = { s with ovr := t.ovr }) ∧
      (s.lanesIdle = false → exec .ovrHeartbeatSend s = .next { s with ovr := { s.ovr with beatDue := true } })) ∧
    (s.port.frame = some fr → fr.phase = .writing → fr.ty = 0 → fr.chan = n → fr.pages[fr.mirrored]? = some p →
      s.liveMirror n = true → s.ecc.bad = [] →
      (s.ovrCredit n ≠ 0 → ∃ (t : State) (x : OvrFrame), exec (.mirrorFrameQueue n) s = .next t ∧ x.ty = 1 ∧ x.chan = n ∧
        x.seq = fr.word1 + BitVec.ofNat 32 fr.mirrored ∧ x.committed = false ∧ x.page = some p ∧
        (t.ovr.sending = some x ∨ x ∈ t.ovr.txq) ∧ (t.own n).sent = (s.own n).sent + 1 ∧
        t.port.frame = some { fr with mirrored := fr.mirrored + 1 } ∧ t.chans = s.chans) ∧
      (s.ovrCredit n = 0 → ∃ t, exec (.mirrorFrameQueue n) s = .next t ∧ (t.own n).lagging = true ∧
        (t.own n).pos = (s.chan n).mirrored ∧ t = { s with ovr := t.ovr })) ∧
    (s.catching n = false → exec (.catchUpSend n media) s = .next s) ∧
    (s.catching n = true → (s.own n).pos = (s.chan n).durable → (s.own n).extras.length ≤ (s.own n).posX → (s.own n).search = false → s.writeBusy n = false → ∃ t,
      exec (.catchUpSend n media) s = .next t ∧ (t.own n).lagging = false ∧ t = { s with ovr := t.ovr }) ∧
    (∀ r : Rec, s.catching n = true → (s.own n).pos ≠ (s.chan n).durable → (s.own n).extras[(s.own n).posX]? = none →
      s.ovrCredit n ≠ 0 → (s.chan n).lost = none → s.residentRec n ((s.own n).pos + 1) = some r → s.ecc.bad = [] → ∃ t,
      exec (.catchUpSend n []) s = .next t ∧ (t.own n).pos = (s.own n).pos + 1 ∧ (t.own n).sent = (s.own n).sent + 1 ∧
      t.chans = s.chans) ∧
    (s.lanesIdle = true → exec .ovoreFrameSent s = .next s) ∧
    (s.ovr.beating = true → s.ovr.beatDue = false → s.ovr.txq = [] → ∃ t, exec .ovoreFrameSent s = .next t ∧
      t.ovr = { s.ovr with beating := false } ∧ t.getF Reg.OVR_CNT_TX_COUNT = (s.getF Reg.OVR_CNT_TX_COUNT + 1) % 2 ^ 32 ∧
      t = { s with regs := t.regs, ovr := t.ovr } ∧ fieldsKept s t [(Reg.OVR_CNT_TX_COUNT, 0)]))

/-! ## The CAN node and the object dictionary (spec/12) -/

/-- NMT (R263 to R266): a command for the node or for all is obeyed while the controller is on the bus; a reset of communication drops the transfers,
sends the boot-up message and enters Pre-operational; DICT_ENABLE; the heartbeat. Bus states and emergencies (R260, R262, R267): error counters,
bus-off and its recovery, each with the EMCY that falls due; a frame that comes when 32 wait in the receive FIFO is lost with OVERRUN; the oldest EMCY
due is sent on the COB-ID of 0x1014. -/
def Obligations.CanNodeAndBus : Prop :=
  (∀ (s : State) (src node : Nat), s.live = true →
    let c : State := { s with dict := { s.dict with out := [] } }
    (s.canOn = true → s.rxWaiting < 32 → node = 0 ∨ node = s.nodeId →
      exec (.nmtStartRemoteNode node) s = .next (c.setF Reg.DICT_STATUS_NMT 0 0x05) ∧
      exec (.nmtStopRemoteNode node) s = .next (c.dropTransfers.setF Reg.DICT_STATUS_NMT 0 0x04) ∧
      exec (.nmtEnterPreOperational node) s = .next (c.setF Reg.DICT_STATUS_NMT 0 0x7F) ∧
      (∃ t u, exec (.nmtResetCommunication node) s = .next t ∧ exec (.nmtResetNode node) s = .next u ∧
        t.getF Reg.DICT_STATUS_NMT = 0x7F ∧ t.dict.sdo = none ∧ t.dict.bulk = none ∧ t.dict.tpdo = [] ∧
        t.nodeId = (s.obj 0x2000 1 + s.pins.strap) % 128 ∧ t.dict.out = [({ cob := 0x700 + t.nodeId, data := [0] } : CanFrame)] ∧
        t = { s with regs := t.regs, dict := t.dict } ∧ u.getF Reg.CORE_EV_NMT_RESET = 1 ∧ u.getF Reg.DICT_STATUS_NMT = 0x7F ∧
        u.dict = t.dict)) ∧
    (s.canOn = true → 32 ≤ s.rxWaiting → ∃ t, exec (.nmtStartRemoteNode node) s = .next t ∧ t.getF Reg.DICT_EVENTS_OVERRUN = 1 ∧
      t = { s with regs := t.regs, dict := t.dict } ∧ fieldsKept s t [(Reg.DICT_EVENTS_OVERRUN, 0)]) ∧
    (s.canOn = false ∨ (s.rxWaiting < 32 ∧ node ≠ 0 ∧ node ≠ s.nodeId) → exec (.nmtStartRemoteNode node) s = .next c ∧
      exec (.nmtStopRemoteNode node) s = .next c ∧ exec (.nmtEnterPreOperational node) s = .next c ∧
      exec (.nmtResetCommunication node) s = .next c ∧ exec (.nmtResetNode node) s = .next c) ∧
    (privileged src = false → exec (.dictEnable src) s = .next (c.denied src (regDetail 0x400E0000))) ∧
    (privileged src = true → s.flag Reg.DICT_CTRL_EN = false → s.getF Reg.DICT_STATUS_BUS ≠ 2 → ∃ t, exec (.dictEnable src) s = .next t ∧
      t.flag Reg.DICT_CTRL_EN = true ∧ t.getF Reg.DICT_STATUS_NMT = 0x7F ∧ t.nodeId = (s.obj 0x2000 1 + s.pins.strap) % 128 ∧
      t.dict.out = [({ cob := 0x700 + t.nodeId, data := [0] } : CanFrame)] ∧ t = { s with regs := t.regs, dict := t.dict }) ∧
    (s.canOn = true → s.getF Reg.DICT_STATUS_NMT ≠ 0 → s.obj 0x1017 0 ≠ 0 → ∃ t, exec .canHeartbeatSend s = .next t ∧
      t.dict.out = [({ cob := 0x700 + s.nodeId, data := leBytes 1 (s.getF Reg.DICT_STATUS_NMT) } : CanFrame)] ∧
      t = { s with dict := { s.dict with out := t.dict.out } })) ∧
  (∀ (s : State) (tec rec : Byte) (e : Emcy) (rest : List Emcy), s.live = true → s.nmtUp = true →
    (s.canOn = true →
      (∃ t, exec (.canErrorPassive tec rec) s = .next t ∧ t.getF Reg.DICT_STATUS_BUS = 1 ∧ t.getF Reg.CAN_ERR_TEC = tec.toNat ∧
        t.getF Reg.CAN_ERR_REC = rec.toNat ∧ t.dict.emcyDue = s.dict.emcyDue ++
          [({ code := 0x8120, b3 := 0xFF, detail := BitVec.ofNat 32 (tec.toNat + 256 * rec.toNat) } : Emcy)] ∧
        t = { s with regs := t.regs, dict := t.dict }) ∧
      (s.getF Reg.DICT_STATUS_BUS = 1 → ∃ t, exec .canErrorActive s = .next t ∧ t.getF Reg.DICT_STATUS_BUS = 0 ∧
        t.getF Reg.CAN_ERR_TEC < 128 ∧ t.getF Reg.CAN_ERR_REC < 128 ∧ t.dict.emcyDue = s.dict.emcyDue) ∧
      (∃ t, exec .canBusOff s = .next t ∧ t.getF Reg.DICT_STATUS_BUS = 2 ∧ t.getF Reg.DICT_EVENTS_BUS_OFF = 1 ∧
        fieldsKept s t [(Reg.DICT_STATUS_BUS, 0), (Reg.DICT_EVENTS_BUS_OFF, 0), (Reg.CAN_ERR_TEC, 0)]) ∧
      (∃ t, exec .canRxOverrun s = .next t ∧ t.getF Reg.DICT_EVENTS_OVERRUN = 1 ∧
        t.dict.emcyDue = s.dict.emcyDue ++ [({ code := 0x8110, b3 := 0xFF, detail := 0 } : Emcy)] ∧
        fieldsKept s t [(Reg.DICT_EVENTS_OVERRUN, 0)]) ∧
      (s.emcyFree = true → s.dict.emcyDue = e :: rest → s.obj 0x1014 0 < 2 ^ 31 → ∃ (t : State) (b : Byte), exec .emcySend s = .next t ∧
        t.dict.emcyDue = rest ∧ t.dict.emcyLast = some s.time.dmt ∧ t.dict.out =
          [({ cob := s.obj 0x1014 0 % 2048, data := leBytes 2 e.code ++ [b, e.b3] ++ leBytes 4 e.detail.toNat } : CanFrame)] ∧ t = { s with dict := t.dict }) ∧
      (s.emcyFree = true → s.dict.emcyDue = [] → s.dict.active = [] →
        exec .emcySend s = .next { s with dict := { s.dict with out := [] } })) ∧
    (s.flag Reg.DICT_CTRL_EN = true → s.getF Reg.DICT_STATUS_BUS = 2 → s.flag Reg.DICT_CTRL_AUTO_BOFF = true → ∃ t,
      exec .canBusOffRecovery s = .next t ∧ t.getF Reg.DICT_STATUS_BUS = 0 ∧ t.getF Reg.CAN_ERR_TEC = 0 ∧ t.getF Reg.CAN_ERR_REC = 0 ∧
      t.dict.emcyDue = s.dict.emcyDue ++ [({ code := 0x8140, b3 := 0xFF, detail := 0 } : Emcy)]))

/-- CAN_TIME_FRAME (R268, spec/13 R291): the wall time of an accepted frame. A difference of 1 to 999 µs ahead, with no anchor due, is slewed away;
one of a second and more begins a new epoch with OFS = M − t; a frame on another COB-ID is not taken. START and the wrap of DMT (R287, R290, R293,
R395): START acts once after a reset: it opens the epoch after the retained one, sets DMT_VALID and forms an anchor of cause 1; a wrap opens a new
epoch with an anchor of cause 6, or is latched while there is no valid DMT. -/
def Obligations.TimeFramesAndStart : Prop :=
  (∀ (s : State) (cob : Nat) (data : List Byte), s.live = true → s.canOn = true → s.nmtUp = true → s.rxWaiting < 32 →
    let m : Nat := leAt data 4 2 * 86400000000 + leAt data 0 4 % 2 ^ 28 * 1000
    let d : Int := (m : Int) - s.wall
    (s.obj 0x1012 0 % 2048 ≠ cob → exec (.canTimeFrame cob data) s = .next { s with dict := { s.dict with out := [] } }) ∧
    (2 ^ 31 ≤ s.obj 0x1012 0 → s.obj 0x1012 0 % 2048 = cob → data.length = 6 → s.time.valid = true → s.getF Reg.ENG_STATUS_PL_STEP = 0 →
      s.time.master = true →
      (0 < d → d < 1000 → (s.time.dmt - s.time.lastAnchorDmt).toNat < s.getF Reg.TIME_CTRL_ANCHOR_S * 1000000 → ∃ t,
        exec (.canTimeFrame cob data) s = .next t ∧ t.time = { s.time with slew := d.toNat, slewAcc := 0 } ∧
        t = { s with time := t.time, dict := { s.dict with out := [] } }) ∧
      (1000000 ≤ d → s.time.waiting.length < 8 → ∃ t, exec (.canTimeFrame cob data) s = .next t ∧
        t.time.epoch = nextEpoch s.time.epoch ∧ t.time.ofs = (m : Int) - s.time.dmt.toNat ∧ t.time.slew = 0 ∧
        t.getF Reg.TIME_EVENTS_STEP_FWD = 1 ∧ t.time.dmt = s.time.dmt))) ∧
  (∀ (s : State) (src : Nat),
    (s.live = true → s.time.started = true → exec (.timeStart src) s = .next s) ∧
    (s.live = true → s.time.started = false → s.time.retained = true → s.time.wrap = none → ∃ t, exec (.timeStart src) s = .next t ∧
      t.time.started = true ∧ t.time.valid = true ∧ t.time.master = false ∧ t.time.epoch = nextEpoch s.time.epoch ∧
      t.time.anchorNo = s.time.anchorNo + 1 ∧ t.time.lastCause = 1 ∧ t.time.dmt = s.time.dmt ∧ t.chans = s.chans) ∧
    (s.live = true → s.time.started = false → s.time.retained = false → s.time.anchorNo = 0 → s.time.wrap = none → ∃ t,
      exec (.timeStart src) s = .next t ∧ t.time.valid = true ∧ t.time.epoch = 1 ∧ t.time.anchorNo = 1) ∧
    (s.live = true → s.time.valid = true → ∃ t, exec .dmtWrap s = .next t ∧ t.time.dmt = 0 ∧ t.time.epoch = nextEpoch s.time.epoch ∧
      t.time.master = false ∧ t.time.anchorNo = s.time.anchorNo + 1 ∧ t.time.lastCause = 6 ∧ t.getF Reg.TIME_EVENTS_ROLL = 1 ∧
      t = { s with regs := t.regs, evr := t.evr, time := t.time } ∧
      fieldsKept s t [(Reg.TIME_EVENTS_ROLL, 0), (Reg.TIME_EVENTS_ANCHOR_FULL, 0)]) ∧
    (s.live = false → ∃ t, exec .dmtWrap s = .next t ∧ t.time.dmt = 0 ∧ t.time.epoch = nextEpoch s.time.epoch ∧
      t.time.wrap = some { dmt := 0, oldEpoch := s.time.epoch, newEpoch := nextEpoch s.time.epoch, told := false } ∧
      t = { s with time := t.time }))

/-- The SDO server (R269): what an initiate queues or answers, a new initiate's abort of a transfer in progress, the segments of a write and of a
read, and the time-out. -/
def Obligations.SdoTransfers : Prop :=
  ∀ (s : State) (data : List Byte) (x : Sdo), s.live = true → s.canOn = true → s.nmtUp = true → s.rxWaiting < 32 →
    let cmd := (byteAt data 0).toNat
    let i := leAt data 1 2
    let j := (byteAt data 3).toNat
    let abort (i j code : Nat) : List CanFrame :=
      [{ cob := 0x580 + s.nodeId, data := leBytes 1 0x80 ++ leBytes 2 i ++ leBytes 1 j ++ leBytes 4 code }]
    (s.dict.sdo = none →
      (cmd / 32 = 1 → bitOf cmd 1 = true → bitOf cmd 0 = true → ∃ t, exec (.sdoInitiate data) s = .next t ∧
        t.dict.queue = s.dict.queue ++
          [({ src := .sdo, index := i, sub := j, write := true, data := slice data 4 (4 - bitsOf cmd 2 2), tag := 0x60 } : DictReq)] ∧
        t.dict.out = [] ∧ t = { s with dict := t.dict }) ∧
      (cmd / 32 = 2 → ∃ t, exec (.sdoInitiate data) s = .next t ∧ t.dict.queue = s.dict.queue ++
        [({ src := .sdo, index := i, sub := j, write := false } : DictReq)] ∧
        t.dict.sdo = none ∧ t.dict.out = [] ∧ t = { s with dict := t.dict }) ∧
      (cmd / 32 = 0 ∨ cmd / 32 = 3 ∨ 5 ≤ cmd / 32 → ∃ t, exec (.sdoInitiate data) s = .next t ∧
        t.dict.out = abort i j 0x05040001 ∧ t.dict.queue = s.dict.queue ∧ t = { s with dict := t.dict }) ∧
      (cmd / 32 ≠ 4 → ∃ t, exec (.sdoSegment data) s = .next t ∧ t.dict.out = abort 0 0 0x05040001 ∧ t = { s with dict := t.dict })) ∧
    (s.dict.sdo = some x → cmd / 32 = 2 → ∃ t, exec (.sdoInitiate data) s = .next t ∧ t.dict.out = abort x.index x.sub 0x05040001 ∧
      t.dict.sdo = none ∧ t.dict.queue = s.dict.queue ++ [({ src := .sdo, index := i, sub := j, write := false } : DictReq)] ∧
      t = { s with dict := t.dict }) ∧
    (s.dict.sdo = some x → bitOf cmd 4 = x.toggle →
      (x.write = true → cmd / 32 = 0 → bitOf cmd 0 = true → ∃ t, exec (.sdoSegment data) s = .next t ∧
        t.dict.queue = s.dict.queue ++
          [({ src := .sdo, index := x.index, sub := x.sub, write := true, data := x.data ++ slice data 1 (7 - bitsOf cmd 1 3)
              tag := BitVec.ofNat 8 (0x20 + 16 * b2n x.toggle) } : DictReq)] ∧ t.dict.sdo = none ∧ t = { s with dict := t.dict }) ∧
      (x.write = true → cmd / 32 = 0 → bitOf cmd 0 = false → ∃ t, exec (.sdoSegment data) s = .next t ∧
        t.dict.sdo = some { x with data := x.data ++ slice data 1 (7 - bitsOf cmd 1 3), toggle := !x.toggle } ∧
        t.dict.queue = s.dict.queue ∧ t = { s with dict := t.dict }) ∧
      (x.write = false → cmd / 32 = 3 → 7 < x.data.length → ∃ t, exec (.sdoSegment data) s = .next t ∧
        t.dict.out = [({ cob := 0x580 + s.nodeId, data := leBytes 1 (16 * b2n x.toggle) ++ x.data.take 7 } : CanFrame)] ∧
        t.dict.sdo = some { x with data := x.data.drop 7, toggle := !x.toggle } ∧ t = { s with dict := t.dict }) ∧
      (x.write = false → cmd / 32 = 3 → x.data.length = 7 → x.left = 0 → ∃ t, exec (.sdoSegment data) s = .next t ∧
        t.dict.out = [({ cob := 0x580 + s.nodeId, data := leBytes 1 (16 * b2n x.toggle + 1) ++ x.data } : CanFrame)] ∧
        t.dict.sdo = none ∧ t = { s with dict := t.dict })) ∧
    (s.dict.sdo = some x → ∃ t, exec .sdoTimeout s = .next t ∧ t.dict.sdo = none ∧
      t.dict.out = abort x.index x.sub 0x05040000 ∧ t = { s with dict := t.dict }) ∧
    (s.dict.sdo = none → exec .sdoTimeout s = .next { s with dict := { s.dict with out := [] } })

/-- The bulk SDO's write (R270, R271): the initiate, segments in order and the end whose CRC passes, which queues the write; the acknowledge timer,
the abort and the time-out. The bulk SDO's read (R271): the initiate queues it; an acknowledged window gives the next, and after the last segment the
END with its CRC; END_ACK ends the transfer. -/
def Obligations.BulkTransfers : Prop :=
  (∀ (s : State) (f : List Byte) (x : Bulk), s.live = true → s.canOn = true → s.nmtUp = true → s.rxWaiting < 32 →
    let i := leAt f 2 2
    let j := leAt f 4 1
    (s.dict.bulk = none → byteAt f 0 = 0x10 → unusedZero f [8, 9, 10, 11] = true →
      s.access .bulk i j true = none →
      (dictEntry i j).any (fun e => !e.lengthBad (leAt f 8 4) && leAt f 8 4 != 0 && decide (leAt f 8 4 ≤ 16384)) = true →
      ∃ t, exec (.bulkWrInit f) s = .next t ∧ t.dict.bulk =
        some { tag := byteAt f 1, index := i, sub := j, write := true, size := leAt f 8 4, blksize := s.obj 0x2001 3 } ∧ t.dict.out.length = 1 ∧
        (∀ y ∈ t.dict.out, y.fd = true ∧ y.cob = s.obj 0x2001 2 ∧ byteAt y.data 0 = 0x20 ∧ byteAt y.data 1 = byteAt f 1) ∧ t = { s with dict := t.dict }) ∧
    (s.dict.bulk = some x → x.tag = byteAt f 1 → x.index = i → x.sub = j → x.write = true → x.waiting = false →
      (byteAt f 0 = 0x30 → unusedZero f (5 :: 6 :: (List.range 56).map (· + 8)) = true → x.lastSeen = false → byteAt f 6 = 0 →
        leAt f 5 1 = x.seq + 1 → x.seq + 1 < x.blksize → x.data.length + 56 ≤ x.size → f.length = 64 → ∃ t, exec (.bulkSeg f) s = .next t ∧
        t.dict.bulk = some { x with data := x.data ++ slice f 8 56, seq := x.seq + 1, lastSeen := false } ∧ t.dict.out = [] ∧
        t = { s with dict := t.dict }) ∧
      (byteAt f 0 = 0x40 → unusedZero f [8, 9, 10, 11] = true → x.lastSeen = true → x.data.length = x.size →
        ((crc32c x.data).toNat = leAt f 8 4 → ∃ t, exec (.bulkEnd f) s = .next t ∧ t.dict.queue = s.dict.queue ++
          [({ src := .bulk, index := x.index, sub := x.sub, write := true, data := x.data, tag := x.tag } : DictReq)] ∧
          t.dict.bulk = some { x with waiting := true } ∧ t = { s with dict := t.dict }) ∧
        ((crc32c x.data).toNat ≠ leAt f 8 4 → ∃ t, exec (.bulkEnd f) s = .next t ∧ t.dict.bulk = none ∧ t.dict.out.length = 1 ∧
          (∀ y ∈ t.dict.out, byteAt y.data 0 = 0x7F) ∧ t = { s with dict := t.dict }))) ∧
    (s.dict.bulk = some x → x.write = true → x.waiting = false → x.lastSeen = false → ∃ t, exec .bulkAckTimer s = .next t ∧
      t.dict.bulk = some { x with base := x.base + x.seq, seq := 0 } ∧ t.dict.out.length = 1 ∧
      (∀ y ∈ t.dict.out, byteAt y.data 0 = 0x31) ∧ t = { s with dict := t.dict }) ∧
    (s.dict.bulk = some x → x.tag = byteAt f 1 → byteAt f 0 = 0x7F → unusedZero f [8, 9, 10, 11] = true → ∃ t,
      exec (.bulkAbort f) s = .next t ∧ t.dict.bulk = none ∧ t.dict.out = [] ∧ t = { s with dict := t.dict }) ∧
    (s.dict.bulk = some x → x.waiting = false → ∃ t, exec .bulkTimeout s = .next t ∧ t.dict.bulk = none ∧ t.dict.out.length = 1 ∧
      (∀ y ∈ t.dict.out, byteAt y.data 0 = 0x7F ∧ byteAt y.data 1 = x.tag) ∧ t = { s with dict := t.dict })) ∧
  (∀ (s : State) (f : List Byte) (x : Bulk), s.live = true → s.canOn = true → s.nmtUp = true → s.rxWaiting < 32 →
    (s.dict.bulk = none → byteAt f 0 = 0x11 → unusedZero f [8, 9, 10, 11, 12] = true →
      s.access .bulk (leAt f 2 2) (leAt f 4 1) false = none → (dictEntry (leAt f 2 2) (leAt f 4 1)).any (·.dom) = true →
      1 ≤ leAt f 12 1 → leAt f 12 1 ≤ 16 → ∃ t, exec (.bulkRdInit f) s = .next t ∧ t.dict.queue = s.dict.queue ++
        [({ src := .bulk, index := leAt f 2 2, sub := leAt f 4 1, write := false, offset := leAt f 8 4, tag := byteAt f 1 } : DictReq)] ∧
      t.dict.out = [] ∧ (t.dict.bulk.map (·.waiting)) = some true ∧ t = { s with dict := t.dict }) ∧
    (s.dict.bulk = some x → x.tag = byteAt f 1 → x.index = leAt f 2 2 → x.sub = leAt f 4 1 → x.write = false →
      (x.waiting = false → x.ended = false → byteAt f 0 = 0x31 → unusedZero f [5, 12] = true → 1 ≤ leAt f 12 1 → leAt f 12 1 ≤ 16 →
        leAt f 5 1 ≤ x.seq →
        (bulkSegs x.size ≤ x.base + leAt f 5 1 → ∃ t, exec (.bulkWinAck f) s = .next t ∧ t.dict.out.length = 1 ∧
          (∀ y ∈ t.dict.out, byteAt y.data 0 = 0x40 ∧ leAt y.data 8 4 = (crc32c x.data).toNat) ∧
          t.dict.bulk = some { x with base := x.base + leAt f 5 1, blksize := leAt f 12 1, seq := 0, ended := true } ∧
          t = { s with dict := t.dict }) ∧
        (x.base + leAt f 5 1 < bulkSegs x.size → ∃ t, exec (.bulkWinAck f) s = .next t ∧
          t.dict.out.length = min (leAt f 12 1) (bulkSegs x.size - (x.base + leAt f 5 1)) ∧
          (∀ k, k < t.dict.out.length → (t.dict.out.getD k { cob := 0, data := [] }).cob = s.obj 0x2001 2 ∧
            (t.dict.out.getD k { cob := 0, data := [] }).fd = true ∧
            byteAt (t.dict.out.getD k { cob := 0, data := [] }).data 0 = 0x30 ∧
            leAt (t.dict.out.getD k { cob := 0, data := [] }).data 5 1 = k + 1) ∧ t = { s with dict := t.dict })) ∧
      (x.ended = true → byteAt f 0 = 0x41 → unusedZero f [] = true → ∃ t, exec (.bulkEndAck f) s = .next t ∧ t.dict.bulk = none ∧
        t.dict.out = [] ∧ t = { s with dict := t.dict })))

/-- The dictionary queue and firmware (R276, R278, R279): a request of the SDO server that is served but in Stopped: an F entry is presented to firmware,
another is written and confirmed; firmware's post and its time-out end its request. PDOs (R280, R281): an RPDO in Operational queues a write for each mapped
entry, one too short is EMCY 0x8210; a TPDO not yet sent is sent at a sample, and at its event timer. -/
def Obligations.DictionaryAndProcessData : Prop :=
  (∀ (s : State) (src : Nat) (v : Word) (r : DictReq) (rest : List DictReq) (e : DEntry), s.live = true → s.canOn = true →
    s.getF Reg.DICT_STATUS_NMT ≠ 0x04 → r.src = .sdo → r.mute = false → s.dict.refusing = false →
    let cob := 0x580 + s.nodeId
    (s.dict.fw = none → s.dict.queue = [] → exec .dictQueueServe s = .next { s with dict := { s.dict with out := [] } }) ∧
    (s.dict.fw = none → s.dict.queue = r :: rest → s.access .sdo r.index r.sub r.write = none → dictEntry r.index r.sub = some e →
      (e.fw = true → r.write = false → ∃ t, exec .dictQueueServe s = .next t ∧ t.dict.fw = some r ∧ t.dict.queue = rest ∧
        t.getF Reg.DICT_FW_REQ_PENDING = 1 ∧ t.getF Reg.DICT_FW_REQ_INDEX = r.index % 2 ^ 16 ∧
        t.getF Reg.DICT_FW_REQ_SUB = r.sub % 256 ∧ t.getF Reg.DICT_FW_REQ_WRITE = 0 ∧ t.dict.out = []) ∧
      (e.fw = false → r.write = true → s.writeCheckD e r.index r.sub r.data = none → r.index ≠ 0x2002 → r.index ≠ 0x4000 →
        r.index ≠ 0x4300 → r.tag = 0x60 → ∃ t, exec .dictQueueServe s = .next t ∧
        t.obj r.index r.sub = leNat r.data ∧ t.dict.queue = rest ∧ t.dict.sdo = s.dict.sdo ∧
        t.dict.out = [({ cob := cob, data := leBytes 1 0x60 ++ leBytes 2 r.index ++ leBytes 1 r.sub ++ [0, 0, 0, 0] } : CanFrame)] ∧
        t = { s with dict := t.dict })) ∧
    (s.dict.fw = some r →
      (v ≠ 0 → ∃ t, exec (.dictFwPost src v) s = .next t ∧ t.dict.fw = none ∧ t.flag Reg.DICT_FW_REQ_PENDING = false ∧ t.dict.sdo = s.dict.sdo ∧
        t.dict.out = [({ cob := cob, data := leBytes 1 0x80 ++ leBytes 2 r.index ++ leBytes 1 r.sub ++ leBytes 4 v.toNat } : CanFrame)] ∧
        t = { s with regs := t.regs, dict := t.dict } ∧ fieldsKept s t [(Reg.DICT_FW_REQ_PENDING, 0)]) ∧
      (∃ t, exec .dictFwTimeout s = .next t ∧ t.dict.fw = none ∧ t.getF Reg.DICT_EVENTS_FW_TIMEOUT = 1 ∧
        t.evr = (s.event 0x18 0 0 (256 * r.index + r.sub)).evr ∧ t.dict.sdo = s.dict.sdo ∧
        t.dict.out = [({ cob := cob, data := leBytes 1 0x80 ++ leBytes 2 r.index ++ leBytes 1 r.sub ++ leBytes 4 0x08000000 } : CanFrame)])) ∧
    (s.dict.fw = none → exec (.dictFwPost src v) s = .next { s with dict := { s.dict with out := [] } })) ∧
  (∀ (s : State) (n : Nat) (data : List Byte), s.live = true → n < 8 →
    (s.canOn = true → s.rxWaiting < 32 → s.getF Reg.DICT_STATUS_NMT = 0x05 → s.obj (0x1400 + n) 1 < 2 ^ 31 →
      (((s.mapped (0x1600 + n)).map (· % 256 / 8)).sum ≤ data.length → ∃ t, exec (.rpdoRx n data) s = .next t ∧
        t.dict.queue = s.dict.queue ++ rpdoReqs (s.mapped (0x1600 + n)) data ∧ t = { s with dict := t.dict }) ∧
      (data.length < ((s.mapped (0x1600 + n)).map (· % 256 / 8)).sum → ∃ t, exec (.rpdoRx n data) s = .next t ∧
        t.dict.queue = s.dict.queue ∧ t.dict.emcyDue = s.dict.emcyDue ++
          [({ code := 0x8210, b3 := BitVec.ofNat 8 (n + 1), detail := BitVec.ofNat 32 data.length } : Emcy)] ∧
        t = { s with dict := t.dict })) ∧
    (s.rxWaiting < 32 → s.getF Reg.DICT_STATUS_NMT ≠ 0x05 → exec (.rpdoRx n data) s = .next { s with dict := { s.dict with out := [] } }) ∧
    (s.tpdoOn n = true → (sget {} n s.dict.tpdo).sent = false → ∃ t, exec .tpdoSample s = .next t ∧
      sget {} n t.dict.tpdo = { sent := true, last := s.tpdoBytes n, sentAt := s.time.dmt } ∧ t = { s with dict := t.dict }) ∧
    (s.tpdoOn n = true → s.obj (0x1800 + n) 5 ≠ 0 → ∃ t, exec (.tpdoEventTimer n) s = .next t ∧
      t.dict.out = [({ cob := s.obj (0x1800 + n) 1 % 2048, data := s.tpdoBytes n } : CanFrame)] ∧
      sget {} n t.dict.tpdo = { sent := true, last := s.tpdoBytes n, sentAt := s.time.dmt } ∧ t = { s with dict := t.dict }))

/-! ## Evidence time (spec/13) -/

/-! ## Harts and the program cache (spec/14) -/

/-- A hart's accesses to its local memory (R297 to R299): what a load, a fetch, a store, an AMO, LR and SC read, write and leave; the pc moves past
the instruction; the other harts, the buffer and the registers stay. -/
def Obligations.LocalMemoryAccesses : Prop :=
  ∀ (s : State) (h x size rd rs ilen op : Nat) (sgn : Bool), s.live = true → s.runs h = true → h < 4 → s.ecc.bad = [] →
    x + size ≤ lmemSize h → (size = 1 ∨ size = 2 ∨ size = 4) → x % size = 0 →
    let old := leNat (readBytes 0 x size (s.lmem h))
    let ok (need : Nat) : Prop := (s.hart h).pmpOk (s.hart h).dataMode (0x08000000 + x) size need = true
    let stored (t : State) (v : Nat) : Prop := readBytes 0 x size (t.lmem h) = leBytes size v ∧
      (∀ y, y < x ∨ x + size ≤ y → sget 0 y (t.lmem h) = sget 0 y (s.lmem h)) ∧ (∀ m < 4, m ≠ h → t.lmem m = s.lmem m) ∧
      t.buf = s.buf ∧ t.regs = s.regs ∧ t.cache = s.cache
    let block := (0x08100000 + 0x10000 * h + x) / 64 * 64
    (ok 1 → ∃ t, exec (.coreLoad h (0x08000000 + x) size rd ilen sgn false) s = .next t ∧
      t.xreg h rd = (if rd = 0 then 0 else extend size sgn old) ∧ (∀ i, i ≠ rd → t.xreg h i = s.xreg h i) ∧
      (t.hart h).pc = (s.hart h).pc + BitVec.ofNat 32 ilen ∧ (t.hart h).reservation = (s.hart h).reservation ∧
      (∀ m, m ≠ h → t.hart m = s.hart m) ∧ t = { s with harts := t.harts }) ∧
    ((s.hart h).pmpOk (s.hart h).machine (0x08000000 + x) size 4 = true → ∃ t,
      exec (.coreLoad h (0x08000000 + x) size rd ilen sgn true) s = .next t ∧ (t.hart h).prefetched = true ∧ (t.hart h).pc = (s.hart h).pc ∧
      (∀ i, t.xreg h i = s.xreg h i) ∧ t = { s with harts := t.harts }) ∧
    (ok 2 → ∃ t, exec (.coreStore h (0x08000000 + x) size rs ilen) s = .next t ∧ stored t (s.xreg h rs).toNat ∧
      (t.hart h).pc = (s.hart h).pc + BitVec.ofNat 32 ilen ∧ (∀ i, t.xreg h i = s.xreg h i) ∧
      ∀ m < 4, m ≠ h → (s.hart m).reservation = some block → (t.hart m).reservation = none) ∧
    (size = 4 →
      (ok 3 → ∃ t, exec (.coreAmo h (0x08000000 + x) op rd rs) s = .next t ∧
        stored t (amo op (BitVec.ofNat 32 old) (s.xreg h rs)).toNat ∧ t.xreg h rd = (if rd = 0 then 0 else BitVec.ofNat 32 old) ∧
        (t.hart h).pc = (s.hart h).pc + 4 ∧ (∀ i, i ≠ rd → t.xreg h i = s.xreg h i)) ∧
      (ok 1 → ∃ t, exec (.coreLr h (0x08000000 + x) rd) s = .next t ∧ (t.hart h).reservation = some block ∧
        t.xreg h rd = (if rd = 0 then 0 else BitVec.ofNat 32 old) ∧ (t.hart h).pc = (s.hart h).pc + 4 ∧ t = { s with harts := t.harts }) ∧
      (ok 2 → (s.hart h).reservation = some block → ∃ t, exec (.coreSc h (0x08000000 + x) rd rs) s = .next t ∧
        stored t (s.xreg h rs).toNat ∧ t.xreg h rd = 0 ∧ (t.hart h).reservation = none ∧ (t.hart h).pc = (s.hart h).pc + 4) ∧
      (ok 2 → (s.hart h).reservation ≠ some block → ∃ t, exec (.coreSc h (0x08000000 + x) rd rs) s = .next t ∧
        t.xreg h rd = (if rd = 0 then 0 else 1) ∧ (t.hart h).reservation = none ∧ (t.hart h).pc = (s.hart h).pc + 4 ∧
        t = { s with harts := t.harts }))

/-- Traps and interrupts (R297, R301, R303), FENCE.I: a misaligned or unmapped access traps with its cause and address, the pc saved and machine mode
entered; a timer interrupt enabled at its compare value is taken; a hart that does not run takes no command. -/
def Obligations.TrapsAndInterrupts : Prop :=
  ∀ (s : State) (h a rd rs ilen : Nat) (v : Word) (sgn : Bool), s.live = true → h < 4 →
    let trapped (t : State) (cause tval : Word) : Prop := (t.hart h).csrOf 0x341 = (s.hart h).pc ∧ (t.hart h).csrOf 0x342 = cause ∧
      (t.hart h).csrOf 0x343 = tval ∧ (t.hart h).machine = true ∧
      (t.hart h).csrOf 0x300 = trapStatus ((s.hart h).csrOf 0x300) (s.hart h).machine ∧ (∀ i, t.xreg h i = s.xreg h i) ∧
      (∀ m, m ≠ h → t.hart m = s.hart m) ∧ t = { s with harts := t.harts }
    (s.runs h = true →
      (placeOf h a 4 = none → (∃ t, exec (.coreLoad h a 4 rd ilen sgn false) s = .next t ∧ trapped t 5 (BitVec.ofNat 32 a) ∧
          (t.hart h).pc = (s.hart h).csrOf 0x305 &&& 0xFFFFFFFC) ∧
        (∃ t, exec (.coreStore h a 4 rs ilen) s = .next t ∧ trapped t 7 (BitVec.ofNat 32 a)) ∧
        (∃ t, exec (.coreLoad h a 4 rd ilen sgn true) s = .next t ∧ trapped t 1 (BitVec.ofNat 32 a))) ∧
      (∀ o, placeOf h a 4 = some (.buffer o) → a % 4 ≠ 0 →
        (∃ t, exec (.coreLoad h a 4 rd ilen sgn false) s = .next t ∧ trapped t 4 (BitVec.ofNat 32 a)) ∧
        (∃ t, exec (.coreStore h a 4 rs ilen) s = .next t ∧ trapped t 6 (BitVec.ofNat 32 a)) ∧
        (∃ t, exec (.coreLr h a rd) s = .next t ∧ trapped t 4 (BitVec.ofNat 32 a))) ∧
      (∃ t, exec (.fenceI h) s = .next t ∧ t.hart h = { s.hart h with prefetched := false, pc := (s.hart h).pc + 4, retired := (s.hart h).retired + 1 } ∧
        (∀ m, m ≠ h → t.hart m = s.hart m) ∧ t = { s with harts := t.harts }) ∧
      (∀ k, s.mtip h = true → s.pendingInt h = some k → ∃ t, exec (.machineTimerInterrupt h) s = .next t ∧
        trapped t (0x80000000 + BitVec.ofNat 32 k) 0 ∧ ((s.hart h).csrOf 0x305 &&& 3 = 0 → (t.hart h).pc = (s.hart h).csrOf 0x305 &&& 0xFFFFFFFC)) ∧
      (s.mtip h = false → exec (.machineTimerInterrupt h) s = .next s)) ∧
    (s.runs h = false → exec (.coreLoad h a 4 rd ilen sgn false) s = .next s ∧ exec (.coreStore h a 4 rs ilen) s = .next s ∧
      exec (.coreAmo h a 0 rd rs) s = .next s ∧ exec (.coreLr h a rd) s = .next s ∧ exec (.coreSc h a rd rs) s = .next s ∧
      exec (.fenceI h) s = .next s ∧ exec (.cboClean h a) s = .next s ∧ exec (.cboFlush h a) s = .next s ∧
      exec (.cboInval h a) s = .next s ∧ exec (.cboZero h a) s = .next s ∧ exec (.machineTimerInterrupt h) s = .next s) ∧
    (privileged rs = true → ∃ t, exec (.mtimecmpHiWrite rs h v) s = .next t ∧
      (t.timecmp h).toNat = 2 ^ 32 * v.toNat + (s.getF Reg.MTIMECMP_LO_CMP h) % 2 ^ 32 ∧ t.getF Reg.MTIMECMP_HI_CMP h = v.toNat ∧
      (∀ m, m ≠ h → t.timecmp m = s.timecmp m) ∧ t = { s with regs := t.regs, mtimecmp := t.mtimecmp } ∧
      fieldsKept s t [(Reg.MTIMECMP_HI_CMP, h)]) ∧
    (privileged rs = false → exec (.mtimecmpHiWrite rs h v) s = .next (s.denied rs (regDetail (0x40000414 + 0x20 * h))))

/-- The cache operations of a hart (R308): clean writes a dirty line back and keeps it, flush writes it back and drops it, invalidate drops it
unwritten, zero fills it; in user mode without the right of menvcfg they are illegal instructions. -/
def Obligations.CacheBlockOperations : Prop :=
  ∀ (s : State) (h o : Nat) (l : Line), s.live = true → s.runs h = true → h < 4 → (∀ m < 4, (s.hart m).waiting = none) → s.ecc.bad = [] →
    o < 0x1000000 →
    let base := 0x10000000 + o / 64 * 64
    let past (t : State) : Prop := (t.hart h).pc = (s.hart h).pc + 4
    ((s.hart h).machine = true → (s.hart h).pmpOk (s.hart h).dataMode base 64 3 true = true → s.line base = some l → l.dirty = true →
      l.bytes.length = 64 →
      (∃ t, exec (.cboClean h (0x10000000 + o)) s = .next t ∧ (∀ k < 64, t.bufByte (o / 64 * 64 + k) = byteAt l.bytes k) ∧
        (∀ y, y < o / 64 * 64 ∨ o / 64 * 64 + 64 ≤ y → t.bufByte y = s.bufByte y) ∧ t.line base = some { l with dirty := false } ∧
        t.getF Reg.CACHE_CNT_WB_COUNT = (s.getF Reg.CACHE_CNT_WB_COUNT + 1) % 2 ^ 32 ∧ past t) ∧
      (∃ t, exec (.cboFlush h (0x10000000 + o)) s = .next t ∧ (∀ k < 64, t.bufByte (o / 64 * 64 + k) = byteAt l.bytes k) ∧
        (∀ y, y < o / 64 * 64 ∨ o / 64 * 64 + 64 ≤ y → t.bufByte y = s.bufByte y) ∧ t.line base = none ∧ past t)) ∧
    ((s.hart h).machine = true → (s.hart h).pmpOk (s.hart h).dataMode base 64 2 = true → s.line base = some l →
      (∃ t, exec (.cboInval h (0x10000000 + o)) s = .next t ∧ t.line base = none ∧ t.buf = s.buf ∧ t.regs = s.regs ∧ past t) ∧
      (s.uncached (o / 0x100000) = false → ∃ t,
        exec (.cboZero h (0x10000000 + o)) s = .next t ∧ t.buf = s.buf ∧ past t ∧
        t.line base = some { l with dirty := true, bytes := List.replicate 64 0 })) ∧
    ((s.hart h).machine = true → (s.hart h).pmpOk (s.hart h).dataMode base 64 2 = true → s.line base = none → s.victim base = none →
      s.uncached (o / 0x100000) = true → ∃ t, exec (.cboZero h (0x10000000 + o)) s = .next t ∧
      (∀ k < 64, t.bufByte (o / 64 * 64 + k) = 0) ∧ (∀ y, y < o / 64 * 64 ∨ o / 64 * 64 + 64 ≤ y → t.bufByte y = s.bufByte y) ∧ past t) ∧
    ((s.hart h).machine = false → (s.hart h).csrOf 0x30A = 0 → ∃ t, exec (.cboClean h (0x10000000 + o)) s = .next t ∧
      exec (.cboFlush h (0x10000000 + o)) s = .next t ∧ exec (.cboInval h (0x10000000 + o)) s = .next t ∧
      exec (.cboZero h (0x10000000 + o)) s = .next t ∧ (t.hart h).csrOf 0x342 = 2 ∧ (t.hart h).csrOf 0x341 = (s.hart h).pc ∧
      t = { s with harts := t.harts })

/-- Fills, write-backs and the sweeper (R304, R307, R309, R311): a fill installs its line and completes the load that waits; a queued write-back
reaches the buffer; a range command is refused or starts the sweeper, which does a line at each step; the control writes. -/
def Obligations.CacheFillsAndSweeps : Prop :=
  ∀ (s : State) (h o src : Nat) (w : Waiting) (x : Victim) (g : Sweep) (v : Word), s.live = true →
    (h < 4 → (s.hart h).waiting = some w → w.op = 0 → w.addr = 0x10000000 + o → o + w.size ≤ 0x1000000 → o % 64 + w.size ≤ 64 →
      1 ≤ w.size → s.cache.lines = [] → s.cache.victims = [] → s.ecc.bad = [] → bitOf (s.getF Reg.CACHE_WAYMASK_MASK h) 0 = true → ∃ t,
      exec (.cacheFillComplete h) s = .next t ∧ (t.hart h).waiting = none ∧
      t.xreg h w.rd = (if w.rd = 0 then 0 else extend w.size w.signed (leAt (s.bufRead (o / 64 * 64) 64) (o % 64) w.size)) ∧
      t.line (0x10000000 + o / 64 * 64) = some { base := 0x10000000 + o / 64 * 64, way := 0, bytes := s.bufRead (o / 64 * 64) 64 } ∧
      t.getF Reg.CACHE_CNT_MISS_COUNT = (s.getF Reg.CACHE_CNT_MISS_COUNT + 1) % 2 ^ 32 ∧
      (t.hart h).pc = (s.hart h).pc + BitVec.ofNat 32 w.ilen ∧ t.buf = s.buf) ∧
    ((s.hart h).waiting = none → exec (.cacheFillComplete h) s = .next s) ∧
    (s.cache.victims = [x] → x.dirty = true → x.bad = [] → s.ecc.bad = [] → x.base = 0x10000000 + o → o + 64 ≤ 0x1000000 →
      x.bytes.length = 64 → ∃ t, exec .victimWritebackComplete s = .next t ∧ t.cache.victims = [] ∧
      (∀ k < 64, t.bufByte (o + k) = byteAt x.bytes k) ∧ (∀ y, y < o ∨ o + 64 ≤ y → t.bufByte y = s.bufByte y) ∧
      t.getF Reg.CACHE_CNT_WB_COUNT = (s.getF Reg.CACHE_CNT_WB_COUNT + 1) % 2 ^ 32 ∧ t.cache.lines = s.cache.lines) ∧
    (s.cache.victims = [] → exec .victimWritebackComplete s = .next s) ∧
    (∀ (op : Nat) (c : Instr), (op, c) ∈ [(1, Instr.cacheRangeClean src), (2, .cacheRangeFlush src), (3, .cacheRangeInvalidate src),
        (4, .cacheRangeZero src)] →
      (s.rangeRefused op = true → ∃ t, exec c s = .next t ∧ t.getF Reg.CACHE_STATUS_REJECT = 1 ∧
        onlyFields s t [(Reg.CACHE_STATUS_REJECT, 0)]) ∧
      (s.rangeRefused op = false → ∃ t, exec c s = .next t ∧
        (let b := 64 * s.getF Reg.CRNG_BASE_ADDR; t.cache.sweep = some { op := op, pos := b, last := b + s.getF Reg.CRNG_SIZE_BYTES }) ∧
        t.getF Reg.CRNG_POS_ADDR = 64 * s.getF Reg.CRNG_BASE_ADDR % 2 ^ 32 ∧ t = { s with regs := t.regs, cache := t.cache })) ∧
    (s.cache.sweep = none → exec .sweeperStep s = .next s) ∧
    (s.cache.sweep = some g → (∀ m < 4, (s.hart m).waiting = none) → s.line g.pos = none → s.victim g.pos = none → g.op ≠ 4 → ∃ t,
      exec .sweeperStep s = .next t ∧ t.getF Reg.CRNG_POS_ADDR = (g.pos + 64) % 2 ^ 32 ∧
      (g.pos + 64 < g.last → t.cache.sweep = some { g with pos := g.pos + 64 } ∧ fieldsKept s t [(Reg.CRNG_POS_ADDR, 0)]) ∧
      (g.last ≤ g.pos + 64 → t.cache.sweep = none ∧ t.getF Reg.CACHE_STATUS_DONE = 1) ∧ t = { s with regs := t.regs, cache := t.cache }) ∧
    (privileged src = true →
      (∃ t, exec (.cacheControlWrite src false v) s = .next t ∧ t.getF Reg.CACHE_CTRL_EN = bitsOf v.toNat 0 1 ∧
        onlyFields s t [(Reg.CACHE_CTRL_EN, 0)]) ∧
      (∃ t, exec (.cacheControlWrite src true v) s = .next t ∧ t.getF Reg.CACHE_NCBANK_NC = bitsOf v.toNat 0 16 ∧
        onlyFields s t [(Reg.CACHE_NCBANK_NC, 0)]))

/-! ## Stored data protection (spec/15) -/

/-- Scrubber, walkers and logs (R316 to R322): an error strikes a word; the scrubber corrects a single error in what it reads, logs and counts it and
moves on; a walker logs what it cannot correct; the logs are popped; the map of retired pages is a privileged register. -/
def Obligations.ScrubbedAndLogged : Prop :=
  ∀ (s : State) (src word mem i : Nat) (synd : Byte) (v : Word) (b : BadWord), s.live = true →
    (s.scrubOn = false → s.ecc.bad = [] → ∃ t, exec (.scrubStep [(word, false, synd)]) s = .next t ∧
      t.ecc = { s.ecc with bad := [({ mem := 0, word := word / 8 * 8 % 0x1000000, double := false, synd := synd } : BadWord)] } ∧
      t = { s with ecc := t.ecc }) ∧
    (let a := s.ecc.scrubAt
     let n := 32 * s.getF Reg.ARB_CFG_BURST 9
     s.scrubOn = true → a / 4096 < 4096 → s.retired (a / 4096) = false → a + n < 4096 * (a / 4096 + 1) → s.ecc.bad = [b] → b.mem = 0 →
      b.double = false → a ≤ b.word → b.word < a + n → s.ecc.ce = [] → ∃ t, exec (.scrubStep []) s = .next t ∧ t.ecc.bad = [] ∧
      t.ecc.scrubAt = a + n ∧ t.ecc.ce.length = 1 ∧ t.getF Reg.ECC_EVENTS_CE = 1 ∧
      t.getF Reg.ECC_CNT_CE (b.word / 0x100000) = satN 16 (s.getF Reg.ECC_CNT_CE (b.word / 0x100000) + 1) ∧
      t.getF Reg.ECC_STATUS_SCRUB_PAGE = a / 4096 ∧ t.buf = s.buf ∧ t.chans = s.chans) ∧
    (s.scrubOn = true → mem ≠ 0 → mem ≠ 5 → s.ecc.bad = [] →
      (∃ t, exec (.walkerStep mem word true false synd) s = .next t ∧ t.ecc.bad = [] ∧ t.getF Reg.ECC_EVENTS_CE = 1 ∧
        t.ecc.ue = s.ecc.ue ∧ t.chans = s.chans) ∧
      (∃ t, exec (.walkerStep mem word true true synd) s = .next t ∧
        t.ecc.bad = [({ mem := mem, word := word, double := true, synd := synd } : BadWord)] ∧ t.getF Reg.ECC_EVENTS_UE = 1 ∧
        t.evr = (s.event 0x50 mem 14 word).evr ∧ t.ecc.ce = s.ecc.ce ∧ t.chans = s.chans) ∧
      exec (.walkerStep mem word false false synd) s = .next s) ∧
    exec (.ceLogPop src) s = .next { s with ecc := { s.ecc with ce := s.ecc.ce.drop 1 } } ∧
    exec (.ueLogPop src) s = .next { s with ecc := { s.ecc with ue := s.ecc.ue.drop 1 } } ∧
    (privileged src = true → i < 128 → ∃ t, exec (.retireMapWrite src i v) s = .next t ∧ t.getF Reg.ECC_RETIRE_MAP i = v.toNat ∧
      onlyFields s t [(Reg.ECC_RETIRE_MAP, i)]) ∧
    (privileged src = false → exec (.retireMapWrite src i v) s = .next (s.denied src (regDetail (0x40050400 + 4 * i))))

/-- Repair and halt of a grain (R324 to R327): a digest match puts the grain back, none halts the channel at it; HALT_CMD repairs the halted grain
from a page whose hash matches, or splits the channel into a new opening in its spare bushel. -/
def Obligations.GrainsRepairedOrLost : Prop :=
  ∀ (s : State) (src n page b : Nat) (body : List Byte) (r : Repair) (rest : List Repair) (g : Rec) (q : Word), s.live = true → n < 64 →
    let res (t : State) (st reason : Nat) : Prop := t.getF Reg.ECC_HALT_RES_STATE = st ∧ t.getF Reg.ECC_HALT_RES_REASON = reason
    (s.ecc.repairs = [] → exec (.grainRepairDone body) s = .next s) ∧
    (s.ecc.repairs = r :: rest → s.records.find? (fun x => x.kind == .grain && x.page == r.page) = some g → r.page < 4096 →
      (body.length = 4096 → sha256 body = g.digest → s.ecc.bad = [] → ∃ t, exec (.grainRepairDone body) s = .next t ∧
        (∀ k < 4096, t.bufByte (4096 * r.page + k) = byteAt body k) ∧ t.ecc.repairs = rest ∧ t.getF Reg.ECC_EVENTS_REPAIRED = 1 ∧
        t.evr = (s.event 0x16 r.chan g.opening.toNat r.seq.toNat).evr ∧ t.chans = s.chans ∧ t.rwc = s.rwc) ∧
      (body = [] → r.intake = false → r.chan = n → (s.chan n).lost = none → ∃ t, exec (.grainRepairDone body) s = .next t ∧
        (t.chan n).halted = true ∧ (t.chan n).lost = some r.seq ∧ t.getF Reg.ECC_HALT_SEQ_SEQ n = r.seq.toNat ∧
        t.getF Reg.ECC_EVENTS_HALT = 1 ∧ (∀ m, m ≠ n → t.chan m = s.chan m) ∧ t.buf = s.buf)) ∧
    ((s.chan n).lost = none → ∃ t u, exec (.haltRepair src n page) s = .next t ∧ exec (.haltSplit src n) s = .next u ∧ res t 3 1 ∧ res u 3 1 ∧
      onlyFields s t [(Reg.ECC_HALT_RES_STATE, 0), (Reg.ECC_HALT_RES_REASON, 0)] ∧
      onlyFields s u [(Reg.ECC_HALT_RES_STATE, 0), (Reg.ECC_HALT_RES_REASON, 0)]) ∧
    ((s.chan n).lost = some q →
      (s.residentRec n q = some g → s.fwPage page = true → s.ecc.bad = [] → (s.chan n).cut = false → sha256 (s.bufRead (4096 * page) 4096) = g.digest → ∃ t,
        exec (.haltRepair src n page) s = .next t ∧ res t 2 0 ∧ (t.chan n).halted = false ∧ (t.chan n).lost = none ∧
        t.getF Reg.ECC_HALT_SEQ_SEQ n = 0 ∧ ∀ m, m ≠ n → t.chan m = s.chan m) ∧
      (s.residentRec n q = some g → s.fwPage page = true → s.ecc.bad = [] → sha256 (s.bufRead (4096 * page) 4096) ≠ g.digest → ∃ t,
        exec (.haltRepair src n page) s = .next t ∧ res t 3 2 ∧
        onlyFields s t [(Reg.ECC_HALT_RES_STATE, 0), (Reg.ECC_HALT_RES_REASON, 0)]) ∧
      ((s.chan n).spare = none → ∃ t, exec (.haltSplit src n) s = .next t ∧ res t 3 3 ∧
        onlyFields s t [(Reg.ECC_HALT_RES_STATE, 0), (Reg.ECC_HALT_RES_REASON, 0)]) ∧
      ((s.chan n).spare = some b → (s.chan n).cut = false → s.records = [] → s.cmds.filter (·.running) = [] → ∃ t, exec (.haltSplit src n) s = .next t ∧ res t 2 0 ∧
        (t.chan n).opening = (s.chan n).nextOpening ∧ (t.chan n).firstSeq = q + 1 ∧ (t.chan n).bushel = b ∧ (t.chan n).halted = false ∧
        (t.chan n).lost = none ∧ (t.chan n).durable = (s.chan n).durable ∧ t.getF Reg.ECC_HALT_SEQ_SEQ n = 0))

/-! ## Clocks, freeze and the frozen state (spec/16) -/

/-- The PLL and the sources (R331, R333, R334): EN does not clear while a domain runs from the PLL; a change of sources is refused without lock,
during a switch, and for a domain in use; a switch ends with CUR as requested. -/
def Obligations.ClockSourcesChosen : Prop :=
  ∀ (s : State) (src : Nat) (v : Word), s.live = true →
    let old := s.getF Reg.CLK_SRC_SRC
    let new := bitsOf v.toNat 0 5
    let changes (d : Nat) : Prop := bitOf old d ≠ bitOf new d
    let refused : Prop := (new ≠ 0 ∧ s.getF Reg.CLK_STATUS_PLL_LOCK = 0) ∨ s.clk.switching ≠ [] ∨
      (changes 1 ∧ (s.getF Reg.SP_CTRL_PORT_EN ≠ 0 ∨ s.getF Reg.QUEUE_CTRL_FETCH_EN ≠ 0 ∨ s.getF Reg.LDG_CTRL_EN ≠ 0 ∨
        s.getF Reg.RWC_CTRL_EN 0 ≠ 0 ∨ s.getF Reg.RWC_CTRL_EN 1 ≠ 0)) ∨
      (changes 2 ∧ s.getF Reg.LOOP_CTRL_EN ≠ 0) ∨ (changes 3 ∧ s.getF Reg.OVR_CTRL_EN ≠ 0)
    (privileged src = false → exec (.pllEnable src v) s = .next (s.denied src (regDetail 0x40000100)) ∧
      exec (.clkSrcWrite src v) s = .next (s.denied src (regDetail 0x40000104))) ∧
    (privileged src = true →
      (bitOf v.toNat 0 = true → ∃ t, exec (.pllEnable src v) s = .next t ∧ t.getF Reg.CLK_PLL_EN = 1 ∧
        onlyFields s t [(Reg.CLK_PLL_EN, 0)]) ∧
      (bitOf v.toNat 0 = false → s.getF Reg.CLK_STATUS_CUR ≠ 0 → ∃ t, exec (.pllEnable src v) s = .next t ∧
        t.getF Reg.CLK_EVENTS_PLL_REJECT = 1 ∧ onlyFields s t [(Reg.CLK_EVENTS_PLL_REJECT, 0)]) ∧
      (bitOf v.toNat 0 = false → s.getF Reg.CLK_STATUS_CUR = 0 → ∃ t, exec (.pllEnable src v) s = .next t ∧
        t.getF Reg.CLK_PLL_EN = 0 ∧ t.getF Reg.CLK_STATUS_PLL_LOCK = 0 ∧
        onlyFields s t [(Reg.CLK_PLL_EN, 0), (Reg.CLK_STATUS_PLL_LOCK, 0)]) ∧
      (new = old → exec (.clkSrcWrite src v) s = .next s) ∧
      (new ≠ old → refused → ∃ t, exec (.clkSrcWrite src v) s = .next t ∧ t.getF Reg.CLK_EVENTS_SW_REJECT = 1 ∧
        onlyFields s t [(Reg.CLK_EVENTS_SW_REJECT, 0)]) ∧
      (new ≠ old → ¬refused → ∃ t, exec (.clkSrcWrite src v) s = .next t ∧ t.getF Reg.CLK_SRC_SRC = new ∧
        (∀ d < 5, d ∈ t.clk.switching ↔ changes d) ∧ fieldsKept s t [(Reg.CLK_SRC_SRC, 0)] ∧
        t = { s with regs := t.regs, clk := { s.clk with switching := t.clk.switching } })) ∧
    (s.getF Reg.CLK_PLL_EN ≠ 0 →
      (∃ t, exec .pllLocked s = .next t ∧ t.getF Reg.CLK_STATUS_PLL_LOCK = 1 ∧ onlyFields s t [(Reg.CLK_STATUS_PLL_LOCK, 0)]) ∧
      (∃ t, exec .clockSwitchComplete s = .next t ∧ t.clk.switching = [] ∧
        (∀ d < 5, bitOf (t.getF Reg.CLK_STATUS_CUR) d = if d ∈ s.clk.switching then bitOf old d else bitOf (s.getF Reg.CLK_STATUS_CUR) d) ∧
        fieldsKept s t [(Reg.CLK_STATUS_CUR, 0)] ∧ t = { s with regs := t.regs, clk := { s.clk with switching := [] } })) ∧
    (s.getF Reg.CLK_PLL_EN = 0 → exec .pllLocked s = .next s ∧
      ∃ t, exec .clockSwitchComplete s = .next t ∧ ∀ d < 5, d ∈ s.clk.switching → bitOf old d = true → d ∈ t.clk.switching ∧
        bitOf (t.getF Reg.CLK_STATUS_CUR) d = bitOf (s.getF Reg.CLK_STATUS_CUR) d)

/-- The stop gate (R335, R336, R338, R340, R341): a freeze, or a lost reference under the PLL, stops the logic die, drives the port to HOLD, drops
an open write gate with its record queued again, and captures DMT and cause; a stopped device takes no second stop, and releasing FREEZE_N restarts nothing. Leaving a reset (R330, R338, R340, R377,
R384): the counted crystal ends power-on reset and sets XTAL_RDY, and with TEST_EN high the logic die stays in reset; a stop not yet told is recorded
as CLOCK_STOPPED at the first cycle; with FREEZE_N low the device freezes again at once. -/
def Obligations.StopFreezeAndRelease : Prop :=
  (∀ s : State,
    let closed (t : State) (cause : Nat) : Prop := t.clk.stopped = true ∧ t.clk.frozen = (cause == 1) ∧ t.clk.stopLast = cause ∧
      t.clk.stopDmt = s.time.dmt ∧ t.clk.unreported = true ∧ t.live = false ∧
      t.port = { s.port with rdy0 := false, rdy1 := false, bsy1 := true, bsyN := true, out := [] } ∧
      t.ovr = { s.ovr with out := [], lane0 := [], lane1 := [] } ∧ t.dict = { s.dict with out := [] } ∧
      (∀ a < 2, ((s.rw a).gate = none → t.rw a = s.rw a) ∧ ∀ r, (s.rw a).gate = some r →
        t.rw a = { s.rw a with gate := none, sector := [], wq := { r with torn := true } :: (s.rw a).wq }) ∧
      t = { s with clk := t.clk, port := t.port, ovr := t.ovr, dict := t.dict, rwc := t.rwc }
    (s.die = .running ∨ s.die = .reset → s.clk.stopped = false → s.clk.xtalStopped = false → ∃ t,
      exec .freezeAssert s = .next t ∧ closed t 1 ∧ t.clk.freezeLow = true ∧ t.clk.switching = s.clk.switching ∧
      (Instr.resetNAssert ∉ s.pending → Instr.logicDieBrownout ∉ s.pending → (∀ v, Instr.vinValid v ∉ s.pending) → t.standsAs t)) ∧
    (s.clk.stopped = true ∨ s.die = .powerOn → exec .freezeAssert s = .next { s with clk := { s.clk with freezeLow := true } }) ∧
    exec .freezeRelease s = .next { s with clk := { s.clk with freezeLow := false } } ∧
    (s.die = .running → s.clk.stopped = false → s.getF Reg.CLK_PLL_EN ≠ 0 → ∃ t, exec .xtalStopped s = .next t ∧ closed t 2 ∧
      t.clk.xtalStopped = true) ∧
    (s.clk.stopped = true ∨ s.getF Reg.CLK_PLL_EN = 0 → exec .xtalStopped s = .next { s with clk := { s.clk with xtalStopped := true } })) ∧
  (∀ s : State, s.clk.stopped = false → s.time.wrap = none →
    let freed : State := { s with die := .running, pins := { s.pins with resetLow := false } }
    let ready : State := { freed with clk := { s.clk with xtalStopped := false } }
    let told (u t : State) : Prop := t.clk.unreported = false ∧ (s.clk.unreported = false → t.evr = s.evr) ∧
      (s.clk.unreported = true → t.evr = (u.event 0x52 s.clk.stopLast (s.clk.stopDmt.toNat / 2 ^ 32) (s.clk.stopDmt.toNat % 2 ^ 32)).evr)
    (s.die = .powerOn → s.pins.testEn = false → s.clk.freezeLow = false → ∃ t, exec .xtalReady s = .next t ∧ t.getF Reg.CLK_STATUS_XTAL_RDY = 1 ∧
      t.live = true ∧ told ready t ∧ fieldsKept s t [(Reg.CLK_STATUS_XTAL_RDY, 0)] ∧
      t = { ready with regs := t.regs, evr := t.evr, clk := { ready.clk with unreported := false } }) ∧
    (s.die = .powerOn → s.pins.testEn = true → ∃ t, exec .xtalReady s = .next t ∧ t.die = .powerOn ∧ t.live = false ∧
      t.evr = s.evr ∧ t.getF Reg.CLK_STATUS_XTAL_RDY = 1) ∧
    (s.die = .powerOn → s.pins.testEn = false → s.clk.freezeLow = true → ∃ t, exec .xtalReady s = .next t ∧ t.die = .running ∧ t.clk.stopped = true ∧
      t.clk.stopLast = 1 ∧ t.clk.stopDmt = s.time.dmt ∧ t.evr = s.evr) ∧
    (s.die = .reset → s.clk.xtalStopped = false → s.clk.freezeLow = false → ∃ t, exec .logicDieResetRelease s = .next t ∧
      t.live = true ∧ told freed t ∧ t = { freed with evr := t.evr, clk := { s.clk with unreported := false } }) ∧
    (s.die = .reset → s.clk.xtalStopped = false → s.clk.freezeLow = true → ∃ t, exec .logicDieResetRelease s = .next t ∧
      t.die = .running ∧ t.clk.stopped = true ∧ t.clk.stopLast = 1) ∧
    (s.die ≠ .powerOn → exec .xtalReady s = .next s) ∧ (s.die ≠ .reset → exec .logicDieResetRelease s = .next s))

/-- The TAP (R342 to R344, R376): what each instruction selects; EXTEST and FRZ_READ act as BYPASS while the device runs; a read of the frozen state
gives harts, CSRs, registers and buffer without a side effect, and 0 with DENIED for key material. -/
def Obligations.FrozenStateRead : Prop :=
  ∀ s : State, s.die ≠ .off →
    let tap (ir dr : Nat) : State := { s with tap := { ir := ir, dr := dr } }
    let reads (a : Nat) (v : Word) (st : Nat) : Prop :=
      exec (.jtagFrzRead (BitVec.ofNat 32 a)) s = .next (tap 0x11 (a * 2 ^ 40 + v.toNat * 2 ^ 8 + st))
    exec .jtagIdcode s = .next (tap 0x01 0x164105CB) ∧ exec .tapReset s = .next (tap 0x01 0x164105CB) ∧
    exec .jtagBypass s = .next (tap 0x1F 0) ∧
    exec .jtagFrzStat s = .next (tap 0x10 (b2n s.clk.stopped + 2 * b2n s.clk.frozen + 4 * s.getF Reg.CLK_STATUS_PLL_LOCK +
      8 * s.getF Reg.CLK_STATUS_XTAL_RDY)) ∧
    (∃ t, exec .jtagSamplePreload s = .next t ∧ t.tap.ir = 0x02 ∧ t = { s with tap := t.tap, freeCtr := t.freeCtr }) ∧
    (s.clk.stopped = false → exec .jtagExtest s = .next (tap 0x00 0) ∧ ∀ a, exec (.jtagFrzRead a) s = .next (tap 0x11 0)) ∧
    (s.clk.stopped = true →
      (∃ t, exec .jtagExtest s = .next t ∧ t.tap.ir = 0x00 ∧ t = { s with tap := t.tap, freeCtr := t.freeCtr }) ∧
      (∀ h < 4, (∀ i < 32, reads (0x50000000 + 0x10000 * h + 4 * i) (s.xreg h i) 1) ∧
        reads (0x50000100 + 0x10000 * h) (s.hart h).pc 1 ∧
        reads (0x50004000 + 0x10000 * h + 4 * 0x341) ((s.hart h).csrOf 0x341) 1 ∧
        reads (0x50004000 + 0x10000 * h + 4 * 0xF14) (BitVec.ofNat 32 h) 1 ∧
        reads (0x50004000 + 0x10000 * h + 4 * 0xB00) (BitVec.ofNat 32 (s.hart h).cycles.toNat) 1 ∧
        reads (0x50004000 + 0x10000 * h + 4 * 0x100) 0 17) ∧
      (∀ k < 128, reads (0x40031000 + 4 * k) 0 9) ∧
      (∀ k, 4 * k < 0x31000 ∨ (0x31200 ≤ 4 * k ∧ 4 * k < 0x140000) → reads (0x40000000 + 4 * k) (s.regWord (0x40000000 + 4 * k)) 1) ∧
      (∀ o, o % 4 = 0 → o < 0x1000000 → s.cache.lines = [] → s.cache.victims = [] → s.ecc.bad = [] →
        reads (0x10000000 + o) (BitVec.ofNat 32 (leNat (s.bufRead o 4))) 1) ∧
      (∀ k, 0x40140000 + 4 * k < 0x50000000 → reads (0x40140000 + 4 * k) 0 17))

/-! ## Monitors and the event recorder (spec/17) -/

/-- A sample reaches its slots (R346 to R348): a rising slot asserts at the N-th consecutive sample at or above T + H and deasserts at the N-th at or
below T − H, a falling one the other way; a sample between the two breaks every run; the reading is held. What a crossing does (R348, R350): CROSS and
its coalesced event; a park slot retracts its actuators; no slot on the sensor, and a sample only replaces the reading. -/
def Obligations.SamplesAndCrossings : Prop :=
  (∀ (s : State) (sensor k : Nat) (reading : BitVec 16) (tornA tornB : Bool), s.live = true → k < 32 →
    s.getF Reg.THR0_EN k ≠ 0 → s.getF Reg.THR0_SENSOR k = sensor → 1 ≤ s.slotN k → (s.rw 0).gate = none → (s.rw 1).gate = none → ∃ t,
      exec (.sensorSample sensor reading tornA tornB) s = .next t ∧
      (let x : Int := if sensor < 8 ∨ 16 ≤ sensor then reading.toInt else (reading.toNat : Int)
       let hi : Prop := s.getI Reg.THR0_LEVEL k + (s.getF Reg.THR1_HYST k : Int) ≤ x
       let lo : Prop := x ≤ s.getI Reg.THR0_LEVEL k - (s.getF Reg.THR1_HYST k : Int)
       let n := s.slotN k
       (s.getF Reg.THR0_DIR k = 0 →
         (hi → (t.slot k).up = min ((s.slot k).up + 1) n) ∧ (¬hi → (t.slot k).up = 0) ∧
         (lo → (t.slot k).down = min ((s.slot k).down + 1) n) ∧ (¬lo → (t.slot k).down = 0) ∧
         ((s.slot k).asserted = false → ((t.slot k).asserted = true ↔ hi ∧ n ≤ (s.slot k).up + 1)) ∧
         ((s.slot k).asserted = true → ((t.slot k).asserted = false ↔ lo ∧ n ≤ (s.slot k).down + 1))) ∧
       (s.getF Reg.THR0_DIR k ≠ 0 →
         ((s.slot k).asserted = false → ((t.slot k).asserted = true ↔ lo ∧ n ≤ (s.slot k).up + 1)) ∧
         ((s.slot k).asserted = true → ((t.slot k).asserted = false ↔ hi ∧ n ≤ (s.slot k).down + 1)))) ∧
      (∀ m < 32, s.getF Reg.THR0_SENSOR m ≠ sensor → t.slot m = s.slot m) ∧
      t.getF Reg.SPN_CAP_RPM = ((t.assertedFor 1).map (fun m => t.getF Reg.THR2_ARG m)).foldl min 7200 ∧
      (sensor < 6 → t.getF Reg.TS_READING sensor = reading.toNat) ∧
      (8 ≤ sensor → sensor < 16 → t.getF Reg.VM_READING (sensor - 8) = reading.toNat) ∧
      (16 ≤ sensor → sensor < 20 → t.getF Reg.PM_READING (sensor - 16) = reading.toNat) ∧ t.buf = s.buf ∧ t.chans = s.chans) ∧
  (∀ (s : State) (sensor k : Nat) (reading : BitVec 16), s.live = true → k < 32 → s.mon.slots = [] → s.getF Reg.SPN_CAP_RPM = 7200 →
    (∀ m < 32, m ≠ k → s.getF Reg.THR0_EN m = 0) → (sensor < 6 ∨ (8 ≤ sensor ∧ sensor < 20)) →
    let cell := if sensor < 6 then (Reg.TS_READING, sensor) else if sensor < 16 then (Reg.VM_READING, sensor - 8) else (Reg.PM_READING, sensor - 16)
    (s.getF Reg.THR0_EN k = 0 ∨ s.getF Reg.THR0_SENSOR k ≠ sensor → ∃ t, exec (.sensorSample sensor reading false false) s = .next t ∧
      t.getF cell.1 cell.2 = reading.toNat ∧ fieldsKept s t [cell] ∧ t = { s with regs := t.regs, mon := t.mon }) ∧
    (s.getF Reg.THR0_EN k ≠ 0 → s.getF Reg.THR0_SENSOR k = sensor → s.slotN k = 1 → s.getF Reg.THR0_DIR k = 0 →
      s.getI Reg.THR0_LEVEL k + (s.getF Reg.THR1_HYST k : Int) ≤ sensorValue sensor reading →
      (s.getF Reg.THR0_ACTION k = 0 → ∃ t, exec (.sensorSample sensor reading false false) s = .next t ∧ (t.slot k).asserted = true ∧
        t.getF Reg.MON_EVENTS_CROSS = 1 ∧ t.evr = (s.eventC 0x60 k (reading.toNat + 2 ^ 16 * sensor + 2 ^ 24)).evr ∧
        fieldsKept s t [cell, (Reg.MON_EVENTS_CROSS, 0)] ∧ t = { s with regs := t.regs, mon := t.mon, evr := t.evr }) ∧
      (∀ a < 2, s.getF Reg.THR0_ACTION k = 2 → bitOf (s.getF Reg.THR2_ARG k) a = true → s.getF Reg.ENG_STATUS_PL_STEP = 0 →
        2 ≤ s.actState a → s.actState a < 7 → (s.rw 0).gate = none → (s.rw 1).gate = none → ∃ t,
        exec (.sensorSample sensor reading false false) s = .next t ∧ t.actState a = 7 ∧ (t.loop a).retReq = true ∧
        t.parkHeld a = true ∧ t.getF Reg.MON_EVENTS_CROSS = 1 ∧ t.chans = s.chans ∧ t.buf = s.buf) ∧
      (s.getF Reg.THR0_ACTION k = 1 → s.getF Reg.THR2_ARG k < 7200 → ∃ t, exec (.sensorSample sensor reading false false) s = .next t ∧
        t.getF Reg.SPN_CAP_RPM = s.getF Reg.THR2_ARG k ∧ t.getF Reg.MEDIA_NOW_RATE = t.mediaNow ∧ t.chans = s.chans)))

/-- Threshold slots are written (R347): machine mode only; an enabled slot takes only the clearing of EN, which withdraws its action; ARG keeps its
range; a slot starts deasserted. Silicon age (R353, R354): the minute's highest reading adds 1 to its bin and the bin's weight to MON_AGE; a mark
passed is recorded. -/
def Obligations.SlotsWrittenAndAge : Prop :=
  (∀ (s : State) (src k w : Nat) (v : Word), s.live = true → k < 32 → w < 3 →
    let addr := 0x40100200 + 16 * k + 4 * w
    (privileged src = false → exec (.thresholdSlotWrite src k w v) s = .next (s.denied src (regDetail addr))) ∧
    (privileged src = true → s.getF Reg.THR0_EN k ≠ 0 → w ≠ 0 ∨ bitOf v.toNat 15 = true → ∃ t,
      exec (.thresholdSlotWrite src k w v) s = .next t ∧ t.getF Reg.MON_EVENTS_CFG_REJECT = 1 ∧
      onlyFields s t [(Reg.MON_EVENTS_CFG_REJECT, 0)]) ∧
    (privileged src = true → s.getF Reg.THR0_EN k = 0 ∨ bitOf v.toNat 15 = false →
      ∃ t, exec (.thresholdSlotWrite src k 0 v) s = .next t ∧ t.getF Reg.THR0_EN k = bitsOf v.toNat 15 1 ∧ t.slot k = {} ∧
        t.getF Reg.THR0_DIR k = bitsOf v.toNat 5 1 ∧ t.getF Reg.THR0_LEVEL k = bitsOf v.toNat 16 16 ∧
        (bitsOf v.toNat 0 5 ≤ 5 ∨ (8 ≤ bitsOf v.toNat 0 5 ∧ bitsOf v.toNat 0 5 ≤ 19) → t.getF Reg.THR0_SENSOR k = bitsOf v.toNat 0 5) ∧
        (bitsOf v.toNat 6 3 ≤ 3 → t.getF Reg.THR0_ACTION k = bitsOf v.toNat 6 3) ∧ (∀ m, m ≠ k → t.slot m = s.slot m) ∧
        t.getF Reg.SPN_CAP_RPM = ((t.assertedFor 1).map (fun m => t.getF Reg.THR2_ARG m)).foldl min 7200) ∧
    (privileged src = true → s.getF Reg.THR0_EN k = 0 →
      (1 ≤ bitsOf v.toNat 16 12 → ∃ t, exec (.thresholdSlotWrite src k 1 v) s = .next t ∧ t.getF Reg.THR1_HYST k = bitsOf v.toNat 0 12 ∧
        t.getF Reg.THR1_DWELL k = bitsOf v.toNat 16 12 ∧ onlyFields s t [(Reg.THR1_HYST, k), (Reg.THR1_DWELL, k)]) ∧
      (let arg := bitsOf v.toNat 0 13
       let ok : Prop := (s.getF Reg.THR0_ACTION k = 1 → 3600 ≤ arg ∧ arg ≤ 7200) ∧ (s.getF Reg.THR0_ACTION k = 2 → 1 ≤ arg ∧ arg ≤ 3) ∧
         (s.getF Reg.THR0_ACTION k ≠ 1 → s.getF Reg.THR0_ACTION k ≠ 2 → arg = 0)
       (ok → ∃ t, exec (.thresholdSlotWrite src k 2 v) s = .next t ∧ t.getF Reg.THR2_ARG k = arg ∧ onlyFields s t [(Reg.THR2_ARG, k)]) ∧
       (¬ok → exec (.thresholdSlotWrite src k 2 v) s = .next (s.reserved src (regDetail (0x40100208 + 16 * k))))))) ∧
  (∀ (s : State) (x lo hi : Int) (b w : Nat), s.live = true →
    (s.mon.minuteMax = none → exec .ageMinute s = .next s) ∧
    (s.mon.minuteMax = some x → lo ≤ x → x < hi → (lo, hi, b, w) ∈ ([(-32768, 880, 0, 17), (880, 1200, 1, 72), (1200, 1520, 2, 256),
        (1520, 1680, 3, 459), (1680, 1840, 4, 798), (1840, 2000, 5, 1350), (2000, 2160, 6, 2225), (2160, 32768, 7, 8695)] :
          List (Int × Int × Nat × Nat)) → ∃ t, exec .ageMinute s = .next t ∧ t.mon = { s.mon with minuteMax := none } ∧
      t.getF Reg.MON_LIFE_MINUTES b = min (s.getF Reg.MON_LIFE_MINUTES b + 1) 0xFFFFFFFF ∧
      t.getF Reg.MON_AGE_AGE = min (s.getF Reg.MON_AGE_AGE + w) 0xFFFFFFFF ∧
      (let crossed (m : Nat) : Prop := s.getF Reg.MON_AGE_AGE < m ∧ m ≤ s.getF Reg.MON_AGE_AGE + w
       ((∀ m ∈ ([1345536000, 2152857600, 2691072000] : List Nat), ¬crossed m) →
         onlyFields { s with mon := t.mon } t [(Reg.MON_LIFE_MINUTES, b), (Reg.MON_AGE_AGE, 0)]) ∧
       ∀ p m : Nat, (p, m) ∈ ([(50, 1345536000), (80, 2152857600), (100, 2691072000)] : List (Nat × Nat)) → crossed m →
         t.getF Reg.MON_EVENTS_AGE_MARK = 1 ∧ t.evr = (s.event 0x61 p 0 (t.getF Reg.MON_AGE_AGE)).evr)))

/-- The recorder (R355, R356, R359, R361): the intake feeds both areas and the total; drops are told once there is room; a repeat within its window is
counted, and the window's close records the count; a clear leaves its own entry. -/
def Obligations.EventsRecorded : Prop :=
  ∀ (s : State) (src : Nat) (e : Event) (rest : List Event) (w : Window), s.live = true →
    (s.evr.intake = [] → exec .eventRecord s = .next s) ∧
    (s.evr.intake = e :: rest →
      let kept : Recorder := { s.evr with
        intake := rest, first := if s.evr.first.length < 256 then s.evr.first ++ [e] else s.evr.first
        last := (if s.evr.last.length < 1024 then s.evr.last else s.evr.last.drop 1) ++ [e]
        total := if s.evr.total = 0xFFFFFFFF then 0xFFFFFFFF else s.evr.total + 1 }
      (s.evr.dropped = 0 → exec .eventRecord s = .next { s with evr := kept }) ∧
      (0 < s.evr.dropped → s.evr.dropped < 65536 → rest.length < 32 → exec .eventRecord s = .next { s with evr := { kept with
        dropped := 0, intake := rest ++ [{ stamp := s.stamp, code := 0x01, aux := BitVec.ofNat 16 s.evr.dropped }] } })) ∧
    (s.evr.windows = [] → exec (.coalesceWindowClose w.code w.unit) s = .next s) ∧
    (s.evr.windows = [w] → w.count = 0 → exec (.coalesceWindowClose w.code w.unit) s = .next { s with evr := { s.evr with windows := [] } }) ∧
    (s.evr.windows = [w] → 0 < w.count → w.count < 65536 → s.evr.intake.length < 32 →
      exec (.coalesceWindowClose w.code w.unit) s = .next { s with evr := { s.evr with
        windows := [{ w with count := 0 }], intake := s.evr.intake ++ [{ w.last with aux := BitVec.ofNat 16 w.count }] } }) ∧
    (let clear : Event := { stamp := s.stamp, code := 0x00, unit := BitVec.ofNat 8 src, detail := s.evr.total }
     exec (.evrClear src) s = .next { s with evr := { s.evr with first := [clear], last := [clear], total := 1, droppedTotal := 0 } }) ∧
    (machineMode src = false →
      let d : Event := { stamp := s.stamp, code := 0x02, unit := BitVec.ofNat 8 src, aux := 1, detail := 0x200 }
      (s.evr.windows = [w] → w.code = 0x02 → w.unit = BitVec.ofNat 8 src → exec (.softwareReset src) s = .next { s with evr := { s.evr with
        windows := [{ w with count := w.count + 1, last := d }] } }) ∧
      (s.evr.windows = [] → s.evr.intake.length < 32 → exec (.softwareReset src) s = .next { s with evr := { s.evr with
        windows := [{ code := 0x02, unit := BitVec.ofNat 8 src, last := d }], intake := s.evr.intake ++ [d] } }) ∧
      (s.evr.windows.length = 16 → (∀ x ∈ s.evr.windows, x.code ≠ 0x02) → s.evr.intake.length < 32 → exec (.softwareReset src) s =
        .next { s with evr := { s.evr with intake := s.evr.intake ++ [d] } }) ∧
      (s.evr.windows.length = 16 → (∀ x ∈ s.evr.windows, x.code ≠ 0x02) → s.evr.intake.length = 32 → s.evr.droppedTotal.toNat < 65535 →
        exec (.softwareReset src) s = .next { s with evr := { s.evr with
          dropped := s.evr.dropped + 1, droppedTotal := s.evr.droppedTotal + 1 } }))

/-! ## Start-up and reset (spec/18) -/

/-- Rails and retention (R288, R355, R364, R365): the rails start the logic die in power-on reset; a domain that has lost its contents comes up with
EVENTS_CLEARED alone; out of regulation it loses time, events, Warden's memory, the resume table and CLK_STOP. The boot ROM (R366 to R369): it sets
the PLL and the sources, judges both slots, and starts the valid image of the higher version, slot A on a tie: its entries, the harts they release,
Warden at ENTRY_3; with no valid slot Warden waits. Harts and the floor (R368, R376, R378): CORE_RUN releases a hart at its entry and holds it in
reset; bit 3 stays; BOOT_FLOOR only rises, 64 times. -/
def Obligations.BootAndHarts : Prop :=
  (∀ s : State,
    (s.die = .off → s.power.vaon = true → exec .railsUp s = .next { s with die := .powerOn, power := { s.power with rails := true } }) ∧
    (s.die = .off → s.power.vaon = false →
      let p : Power := { s.power with
        rails := true, vaon := true, loss := none, autoRetract := false, armed := false, vinValid := true, charger := true }
      exec .railsUp s = .next { s with die := .powerOn, power := p, evr := { intake := [{ code := 0x00, unit := 0x30 }] } }) ∧
    (s.die = .off → ∃ t, exec .vaonOutOfRegulation s = .next t ∧ t.power = { s.power with vaon := false } ∧ t.time = {} ∧ t.evr = {} ∧
      t.lmem3 = [] ∧ t.boot = { s.boot with resume := none } ∧ t.clk = { s.clk with stopLast := 0, stopDmt := 0, unreported := false } ∧
      t = { s with power := t.power, time := t.time, evr := t.evr, lmem3 := t.lmem3, boot := t.boot, clk := t.clk }) ∧
    (s.die ≠ .off → exec .railsUp s = .next s ∧ exec .vaonOutOfRegulation s = .next s)) ∧
  (∀ (s : State) (image : List (Nat × Byte)), s.live = true → s.boot.ran = false → s.boot.waiting = false → ∃ t,
    exec (.bootRomRun image) s = .next t ∧ (image = [] → t.nor = s.nor) ∧
    (let m : State := { s with nor := t.nor }
     let a := m.slotFail 0
     let b := m.slotFail 0x1000000
     let ver (base : Nat) : Nat := leAt (m.norRead base 512) 16 4
     let started (slot base : Nat) : Prop := t.boot = { s.boot with ran := true } ∧ t.getF Reg.BOOT_STATUS_SLOT = slot ∧
       t.getF Reg.BOOT_VERSION_VERSION = ver base ∧
       (∀ h < 4, t.getF Reg.BOOT_ENTRY_ENTRY h = leAt (m.norRead base 512) (20 + 4 * h) 4) ∧
       (∀ h < 3, bitOf (t.getF Reg.CORE_RUN_RUN) h = (t.getF Reg.BOOT_ENTRY_ENTRY h != 0)) ∧ bitOf (t.getF Reg.CORE_RUN_RUN) 3 = true ∧
       (∀ h < 4, h = 3 ∨ t.getF Reg.BOOT_ENTRY_ENTRY h ≠ 0 → t.hart h = { pc := BitVec.ofNat 32 (t.getF Reg.BOOT_ENTRY_ENTRY h) }) ∧
       (∀ x, sectionsOf (m.norRead base 512) = [x] → x.copy = true → 0x10000000 ≤ x.dest → s.ecc.bad = [] →
         ∀ k < x.len, t.bufByte (x.dest - 0x10000000 + k) = byteAt (m.norRead (base + x.src) x.len) k)
     t.getF Reg.CLK_PLL_EN = 1 ∧ t.getF Reg.CLK_STATUS_PLL_LOCK = 1 ∧ t.getF Reg.CLK_SRC_SRC = 19 ∧ t.getF Reg.CLK_STATUS_CUR = 19 ∧
     t.getF Reg.BOOT_STATUS_FAIL_A = a ∧ t.getF Reg.BOOT_STATUS_FAIL_B = b ∧ (∀ n < 12, t.getF Reg.ARB_CFG_MASKED n = 0) ∧
     (leAt (m.norRead 0 512) 0 4 ≠ 0x48544E4B → a = 1) ∧
     (a ≠ 0 → b ≠ 0 → t.boot = { s.boot with waiting := true } ∧ t.harts = s.harts ∧ t.buf = s.buf) ∧
     (a = 0 → b ≠ 0 ∨ ver 0x1000000 ≤ ver 0 → started 1 0) ∧ (b = 0 → a ≠ 0 ∨ ver 0 < ver 0x1000000 → started 2 0x1000000)) ∧
    t.chans = s.chans ∧ t.time = s.time ∧ t.evr = s.evr ∧ t.power = s.power ∧ t.tenants = s.tenants ∧ t.spindle = s.spindle) ∧
  (∀ (s : State) (src h : Nat) (v : Word), s.live = true →
    (privileged src = false → exec (.coreRelease src h) s = .next (s.denied src (regDetail 0x40000208)) ∧
      exec (.coreReset src h) s = .next (s.denied src (regDetail 0x40000208)) ∧
      exec (.bootFloorWrite src v) s = .next (s.denied src (regDetail 0x40000228))) ∧
    (privileged src = true → s.getF Reg.CORE_RUN_RUN < 16 →
      (h < 3 → bitOf (s.getF Reg.CORE_RUN_RUN) h = false → ∃ t, exec (.coreRelease src h) s = .next t ∧
        t.getF Reg.CORE_RUN_RUN = s.getF Reg.CORE_RUN_RUN + 2 ^ h ∧ t.hart h = { pc := BitVec.ofNat 32 (s.getF Reg.BOOT_ENTRY_ENTRY h) } ∧
        (∀ m, m ≠ h → t.hart m = s.hart m) ∧ t = { s with regs := t.regs, harts := t.harts } ∧ fieldsKept s t [(Reg.CORE_RUN_RUN, 0)]) ∧
      (h < 3 → bitOf (s.getF Reg.CORE_RUN_RUN) h = true → exec (.coreRelease src h) s = .next s ∧ ∃ t,
        exec (.coreReset src h) s = .next t ∧ t.getF Reg.CORE_RUN_RUN = s.getF Reg.CORE_RUN_RUN - 2 ^ h ∧ t.hart h = {} ∧
        (∀ m, m ≠ h → t.hart m = s.hart m) ∧ t = { s with regs := t.regs, harts := t.harts } ∧ fieldsKept s t [(Reg.CORE_RUN_RUN, 0)]) ∧
      (3 ≤ h → exec (.coreRelease src h) s = .next s ∧ exec (.coreReset src h) s = .next s)) ∧
    (privileged src = true → s.boot.floor.toNat < v.toNat → s.boot.raises < 64 →
      exec (.bootFloorWrite src v) s = .next { s with boot := { s.boot with floor := v, raises := s.boot.raises + 1 } }) ∧
    (privileged src = true → v.toNat ≤ s.boot.floor.toNat ∨ 64 ≤ s.boot.raises → exec (.bootFloorWrite src v) s = .next s))

/-- The resume table (R372, R373): APPLY restores settings, keys and reservations, reopens each saved channel for the scan to verify and sets APPLIED;
it acts once; DISCARD drops the table; both need machine mode. The recovery scan (R139, R141, R371, R374): SCAN is ignored without ledger, tables,
valid time or after a scan; an accepted one opens what the checkpoint lists and takes
its other entries, with the next opening of a channel that an entry gives (R132, R136); a listed bushel without a header is closed and reported, one whose run
verifies gives its channel its heads, a resumed channel that passes goes on. -/
def Obligations.ResumeAndScan : Prop :=
  (∀ (s : State) (src tid : Nat) (key : List Byte) (share : Share) (r : Resume) (x : SavedChan), s.live = true →
    (machineMode src = false → exec (.resumeApply src) s = .next (s.denied src (regDetail 0x40000244)) ∧
      exec (.resumeDiscard src) s = .next (s.denied src (regDetail 0x40000244))) ∧
    (machineMode src = true →
      exec (.resumeDiscard src) s = .next { s with boot := { s.boot with resume := none } } ∧
      (s.boot.resume = none → exec (.resumeApply src) s = .next s) ∧
      (s.boot.resume = some r → ∃ t, exec (.resumeApply src) s = .next t ∧ t.boot.resume = none ∧ t.getF Reg.RES_STATUS_APPLIED = 1 ∧
        t.boot.checkpoint = r.checkpoint ∧ t.time.anchorNo = max s.time.anchorNo r.anchor ∧ t.time.dmt = s.time.dmt ∧ t.buf = s.buf ∧
        (∀ n < 64, t.getF Reg.CHAN_RIGHTS_WRITER n =
          (sget (Reg.CHAN_RIGHTS_WRITER.reset n) (Reg.CHAN_RIGHTS_WRITER.key n) r.fields).toNat) ∧
        (r.keys = [(tid, key)] → (t.ten tid).key = key ∧ (t.ten tid).keySet = true) ∧
        (r.shares = [(tid, share)] → (t.ten tid).share = share) ∧ (∀ k, (t.ten k).sess = (s.ten k).sess) ∧
        (r.chans = [] → t.chans = s.chans) ∧
        (r.chans = [x] → (t.chan x.num).resumed = true ∧ (t.chan x.num).isOpen = x.chan.isOpen ∧ (t.chan x.num).durable = x.chan.durable ∧
          (t.chan x.num).savedHead = x.chan.durable ∧ (t.chan x.num).savedChain = x.chan.chain ∧ (t.chan x.num).opening = x.chan.opening ∧
          (t.chan x.num).promised = x.place ∧ (t.bushel x.chan.bushel).state = .opened ∧ (t.bushel x.chan.bushel).next = x.place ∧
          (t.bushel x.chan.bushel).chan = x.num ∧ ∀ m, m ≠ x.num → t.chan m = s.chan m)))) ∧
  (∀ (s : State) (src ck b g n o : Nat) (media : List (Nat × Nat × List Byte)) (e : DirEntry) (r : ScanRes) (f : Found), s.live = true →
    let refused : Prop := s.getF Reg.LDG_CTRL_EN = 0 ∨ s.getF Reg.TABLE_STATUS_OK = 0 ∨ s.time.valid = false ∨ s.boot.scanDone = true ∨
      s.boot.scan.isSome = true
    (refused → ∃ t, exec (.scanStart src ck [{ bushel := b, gen := BitVec.ofNat 32 g, state := 1, chan := n, opening := BitVec.ofNat 16 o }, e]) s = .next t ∧ t.getF Reg.STARTUP_SCAN_REJECT = 1 ∧
      onlyFields s t [(Reg.STARTUP_SCAN_REJECT, 0)]) ∧
    (¬refused → e.state ≠ 1 → e.bushel ≠ b → (s.bushel e.bushel).state ≠ .opened → ∃ t, exec (.scanStart src ck [{ bushel := b, gen := BitVec.ofNat 32 g, state := 1, chan := n, opening := BitVec.ofNat 16 o }, e]) s = .next t ∧
      (t.bushel e.bushel).gen = e.gen ∧ (e.state = 2 → (t.bushel e.bushel).state = .closed) ∧
      (e.state = 2 → e.intake = false → (s.chan e.chan).isOpen = false → (s.chan e.chan).nextOpening = 0 →
        (t.chan e.chan).nextOpening = e.opening + 1)) ∧
    (¬refused → ∃ t, exec (.scanStart src ck [{ bushel := b, gen := BitVec.ofNat 32 g, state := 1, chan := n, opening := BitVec.ofNat 16 o }]) s = .next t ∧ t.boot.scan.isSome = true ∧ t.boot.checkpoint = ck ∧
      (t.bushel b).state = .opened ∧ (t.bushel b).gen = BitVec.ofNat 32 g ∧ (t.bushel b).chan = n ∧ (∀ c, c ≠ b → t.bushel c = s.bushel c) ∧
      t = { s with boot := t.boot, bushels := t.bushels }) ∧
    (s.boot.scan = none → exec (.scanComplete media) s = .next s) ∧
    (s.cmds = [] → s.getF Reg.ENG_STATUS_LEND_OK = 0 →
      (s.boot.scan = some { listed := [(b, BitVec.ofNat 32 g, n, BitVec.ofNat 16 o, false)] } → (∀ m < 64, (s.chan m).resumed = false) →
        (s.scanOf media b (BitVec.ofNat 32 g) = none → ∃ t, exec (.scanComplete media) s = .next t ∧ t.boot.scan = none ∧ t.boot.scanDone = true ∧
          ((s.bushel b).state = .opened → (t.bushel b).state = .closed) ∧ t.evr = (s.event 0x21 n (BitVec.ofNat 16 o).toNat b).evr ∧
          t.chans = s.chans) ∧
        (s.scanOf media b (BitVec.ofNat 32 g) = some r → r.run.bad = false → r.rolled = false → r.lostNext = none →
          (byteAt r.header.hdr 3).toNat % 64 = n → ∃ t, exec (.scanComplete media) s = .next t ∧ t.boot.scanDone = true ∧
          (t.chan n).isOpen = !r.closed ∧ (t.chan n).halted = false ∧ (t.chan n).durable = r.run.head ∧
          (t.chan n).frameMax = (byteAt r.header.body 9).toNat ∧ (t.chan n).opening = BitVec.ofNat 16 (leAt r.header.body 12 2) ∧
          (t.chan n).firstSeq = BitVec.ofNat 32 (leAt r.header.body 16 4) ∧ (t.chan n).bushel = r.bushel ∧ ∀ m, m ≠ n → t.chan m = s.chan m)) ∧
      (s.boot.scan = some { listed := [] } → (∀ m < 64, (s.chan m).resumed = decide (m = n)) → n < 64 → ∃ t,
        exec (.scanComplete media) s = .next t ∧ t.boot.scanDone = true ∧ (s.resumeOk media n = true →
          s.placeAt media (s.chan n).bushel (s.chan n).gen (sget 0 n s.boot.sealPlaces) = some f → (t.chan n).resumed = false ∧
          (t.chan n).durable = (s.chan n).durable ∧ (t.bushel (s.chan n).bushel).next = sget 0 n s.boot.sealPlaces + 1 ∧
          ∀ m, m ≠ n → t.chan m = s.chan m))))

/-- A reset is asked for (R376, R377): RESET_N, software and the watchdog begin the deferred sequence, which is no power loss, or wait while
a power-loss sequence runs; further requests merge; the watchdog's count, its kick word and its enable. A reset takes effect (R341, R356, R377, R378): a deferred one at step 7 with the intake empty, keeping
the retirement map, the life counters and the lockouts; a stopped device by RESET_N at once, keeping none of these; channels, commands, sessions,
keys, harts and registers are cleared, always-on contents and memories kept. -/
def Obligations.ResetsAskedAndTaken : Prop :=
  (∀ (s : State) (src : Nat) (v : Word), s.live = true →
    let asked (u t : State) (cause : Nat) : Prop := t.boot = { s.boot with pending := some cause } ∧ t.power.loss = s.power.loss ∧
      t.power.admClosed = true ∧ t.getF Reg.ENG_STATUS_PL_STEP = 2 ∧ t.getF Reg.ENG_STATUS_PL_ACTIVE = s.getF Reg.ENG_STATUS_PL_ACTIVE ∧
      t.getF Reg.ENG_STATUS_PL_DONE = 0 ∧ t.evr = s.evr ∧ t.die = s.die ∧ t.power.charger = s.power.charger ∧ t.chans = s.chans ∧ t.pins = u.pins
    let low : State := { s with pins := { s.pins with resetLow := true } }
    let out : Prop := s.getF Reg.WDT_CTRL_EN ≠ 0 ∧ 1000 * s.getF Reg.WDT_CTRL_TIMEOUT_MS ≤ s.boot.wdt
    (s.boot.pending = none → s.getF Reg.ENG_STATUS_PL_STEP = 0 → s.chans.all (fun e => e.2.lost.isNone) = true → s.sys = none →
      (machineMode src = true → ∃ t, exec (.softwareReset src) s = .next t ∧ asked s t 2) ∧
      (∃ t, exec .resetNAssert s = .next t ∧ asked low t 1) ∧
      (out → ∃ t, exec .watchdogExpiry s = .next t ∧ asked s t 3)) ∧
    (s.boot.pending = none → s.getF Reg.ENG_STATUS_PL_STEP ≠ 0 →
      (machineMode src = true → exec (.softwareReset src) s = .next { s with boot := { s.boot with pending := some 2 } }) ∧
      exec .resetNAssert s = .next { low with boot := { s.boot with pending := some 1 } } ∧
      (out → exec .watchdogExpiry s = .next { s with boot := { s.boot with pending := some 3 } })) ∧
    (s.boot.pending.isSome = true →
      (machineMode src = true → exec (.softwareReset src) s = .next s) ∧ exec .resetNAssert s = .next low ∧ exec .watchdogExpiry s = .next s) ∧
    (machineMode src = false → exec (.softwareReset src) s = .next (s.denied src (regDetail 0x40000200))) ∧
    (¬out → exec .watchdogExpiry s = .next s) ∧
    (v = 0x6410 → exec (.wdtKick src v) s = .next { s with boot := { s.boot with wdt := 0 } }) ∧
    (v ≠ 0x6410 → exec (.wdtKick src v) s = .next s)) ∧
  (∀ (s : State) (cause : Nat),
    let cleared (t : State) : Prop := t.chans = [] ∧ t.cmds = [] ∧ t.records = [] ∧ t.pages = [] ∧ t.harts = [] ∧ t.cache = {} ∧
      t.queues = [] ∧ t.evr.intake = [] ∧ t.evr.windows = [] ∧ t.boot.pending = none ∧ t.boot.ran = false ∧ t.time.valid = false ∧
      (∀ k, (t.ten k).sess ≠ 2 ∧ (t.ten k).keySet = false ∧ (t.ten k).key = List.replicate 32 0) ∧ t.getF Reg.CLK_STATUS_CUR = 0 ∧
      t.getF Reg.CORE_RUN_RUN = 8 ∧ t.getF Reg.SP_CTRL_PORT_EN = 0 ∧ t.getF Reg.ENG_STATUS_PL_STEP = 0
    let held (t : State) : Prop := t.buf = s.buf ∧ t.lmem0 = s.lmem0 ∧ t.lmem1 = s.lmem1 ∧ t.lmem2 = s.lmem2 ∧ t.lmem3 = s.lmem3 ∧ t.nor = s.nor ∧
      t.time.dmt = s.time.dmt ∧ t.time.epoch = s.time.epoch ∧ t.time.anchorNo = s.time.anchorNo ∧ t.evr.first = s.evr.first ∧
      t.evr.last = s.evr.last ∧ t.evr.total = s.evr.total ∧ t.clk.stopLast = s.clk.stopLast ∧ t.clk.stopDmt = s.clk.stopDmt ∧
      t.boot.resume = s.boot.resume ∧ t.boot.floor = s.boot.floor ∧ t.time.retained = s.power.vaon ∧ t.pending = s.pending
    (s.live = true → s.boot.pending = some cause → s.getF Reg.ENG_STATUS_PL_STEP = 7 → s.evr.intake = [] → s.evr.dropped = 0 → ∃ t,
      exec .deferredResetEffect s = .next t ∧ cleared t ∧ held t ∧ t.die = .reset ∧ t.boot.lastSrc = cause ∧
      (∀ i < 128, t.getF Reg.ECC_RETIRE_MAP i = s.getF Reg.ECC_RETIRE_MAP i) ∧ t.getF Reg.MON_AGE_AGE = s.getF Reg.MON_AGE_AGE ∧
      (∀ b < 8, t.getF Reg.MON_LIFE_MINUTES b = s.getF Reg.MON_LIFE_MINUTES b) ∧
      t.getF Reg.CLK_STATUS_XTAL_RDY = s.getF Reg.CLK_STATUS_XTAL_RDY ∧ (∀ k < 16, (t.ten k).fails = (s.ten k).fails ∧
        (t.ten k).lockMs = (s.ten k).lockMs ∧ (t.ten k).lockAt = (s.ten k).lockAt ∧ ((t.ten k).sess = 3 ↔ (s.ten k).sess = 3))) ∧
    (s.boot.pending = none ∨ s.getF Reg.ENG_STATUS_PL_STEP ≠ 7 ∨ s.evr.intake ≠ [] → exec .deferredResetEffect s = .next s) ∧
    (s.clk.stopped = true → ∃ t, exec .resetNAssert s = .next t ∧ cleared t ∧ held t ∧ t.die = .powerOn ∧ t.boot.lastSrc = 0 ∧
      t.clk.stopped = false ∧ t.pins.resetLow = true ∧ (∀ i < 128, t.getF Reg.ECC_RETIRE_MAP i = 0) ∧ t.getF Reg.MON_AGE_AGE = 0 ∧
      t.getF Reg.CLK_STATUS_XTAL_RDY = 0 ∧ ∀ k, (t.ten k).fails = 0 ∧ (t.ten k).sess = 0))

/-! ## Reset values and the stopped device -/

/-- The part's identity (R9): DEVICE_ID and GRADE hold their values in every state, so under every reset source; the identity object carries the same
part and stepping. -/
def Obligations.PartIdentity : Prop :=
  ∀ s : State, s.regWord 0x40000000 = 0x64100B01 ∧ s.regWord 0x40000004 = (if Config.gradeAuto then 1 else 0) ∧
    (s.regWord 0x40000000).toNat / 2 ^ 16 = 0x6410 ∧ (s.regWord 0x40000000).toNat / 2 ^ 8 % 2 ^ 8 = 0x0B ∧
    (s.regWord 0x40000000).toNat % 2 ^ 8 = 0x01 ∧ s.dictNum 0x1018 2 = 0x6410 ∧ s.dictNum 0x1018 3 = 0x0B * 2 ^ 16 + 0x01

/-- What reset leaves (R288, R332, R352, R355, R364, R378, R379): the sources on XTAL, Warden alone released, the slots of R352, no session, no
channel, nothing waiting, EVENTS_CLEARED in the intake; the same slots, sources and release under every reset. -/
def Obligations.ResetState : Prop :=
  let slot (s : State) (k sensor dir level hyst dwell action arg en : Nat) : Prop := s.getF Reg.THR0_SENSOR k = sensor ∧ s.getF Reg.THR0_DIR k = dir ∧
    s.getF Reg.THR0_LEVEL k = level ∧ s.getF Reg.THR1_HYST k = hyst ∧ s.getF Reg.THR1_DWELL k = dwell ∧ s.getF Reg.THR0_ACTION k = action ∧
    s.getF Reg.THR2_ARG k = arg ∧ s.getF Reg.THR0_EN k = en
  let fresh (s : State) : Prop := s.getF Reg.CLK_STATUS_CUR = 0 ∧ s.getF Reg.CLK_SRC_SRC = 0 ∧ s.getF Reg.CLK_PLL_EN = 0 ∧
    s.getF Reg.CORE_RUN_RUN = 8 ∧ s.getF Reg.SP_CTRL_PORT_EN = 0 ∧ s.getF Reg.DICT_CTRL_EN = 0 ∧ s.getF Reg.LDG_CTRL_EN = 0 ∧
    s.getF Reg.WDT_CTRL_EN = 0 ∧ s.getF Reg.WDT_CTRL_TIMEOUT_MS = 2000 ∧ s.getF Reg.SPN_CAP_RPM = 7200 ∧
    slot s 0 0 0 1680 32 8 0 0 1 ∧ slot s 1 2 0 2000 32 8 1 3600 1 ∧ slot s 2 2 0 2240 32 8 2 3 1 ∧ slot s 3 0 0 2000 32 8 2 3 1 ∧
    slot s 4 5 1 0 32 8 3 0 1 ∧ (∀ k < 32, 5 ≤ k → slot s k 0 0 0 0 0 0 0 0) ∧ s.mon = {} ∧ s.chans = [] ∧ s.cmds = [] ∧ s.queues = [] ∧
    s.harts = [] ∧ s.cache = {} ∧ s.boot.ran = false ∧ s.boot.scanDone = false ∧ s.boot.pending = none ∧ s.time.valid = false ∧
    s.time.started = false ∧ s.evr.windows = [] ∧ s.evr.dropped = 0
  fresh State.reset ∧ State.reset.die = .running ∧ State.reset.live = true ∧ State.reset.getF Reg.CLK_STATUS_XTAL_RDY = 1 ∧
    State.reset.pending = [] ∧ State.reset.evr.intake = [{ code := 0x00, unit := 0x30 }] ∧ State.reset.evr.first = [] ∧
    State.reset.time.epoch = 0 ∧ State.reset.time.retained = false ∧ State.reset.boot.resume = none ∧ State.reset.boot.lastSrc = 0 ∧
    Memory.wf 0 State.reset.buf = true ∧ Memory.wf 0xFF State.reset.nor = true ∧ Memory.wf 0 State.reset.lmem0 = true ∧
    ∀ (s : State) (on : Bool) (cause : Nat), fresh (s.logicReset on cause)

/-- A stopped device stands still (R335, R337, R341): whatever is commanded, short of a power-on reset, and however much time passes, nothing of the
logic die moves. -/
def Obligations.StoppedStandsStill : Prop :=
  ∀ r s t : State, s.standsAs r → step s = .next t → t.standsAs r

end
end

