-- ==== Sys2Proof/Laws/Tables.lean ====
section
/-! SUPPORT. The laws of the tables by number and of the byte memories: read after write, and the canonical form kept. -/

namespace Sys2Proof.Machine

variable {α : Type}

theorem sget_append_of_not_mem (d : α) (k : Nat) (l r : Sparse α) (h : ∀ e ∈ l, e.1 ≠ k) :
    sget d k (l ++ r) = sget d k r := by
  induction l with
  | nil => rfl
  | cons e l ih =>
    have h1 : k ≠ e.1 := fun c => h e (by simp) c.symm
    simp only [List.cons_append, sget, h1, if_false]
    exact ih (fun x hx => h x (by simp [hx]))

theorem sget_of_not_mem (d : α) (k : Nat) (l : Sparse α) (h : ∀ e ∈ l, e.1 ≠ k) : sget d k l = d := by
  have := sget_append_of_not_mem d k l [] h
  simpa [sget] using this

theorem sget_append_left (d : α) (k : Nat) (l r : Sparse α) (h : ∀ e ∈ r, e.1 ≠ k) :
    sget d k (l ++ r) = sget d k l := by
  induction l with
  | nil => simpa [sget] using sget_of_not_mem d k r h
  | cons e l ih =>
    simp only [List.cons_append, sget]
    split
    · rfl
    · exact ih

theorem sget_filter (d : α) (k : Nat) (p : Nat → Bool) (l : Sparse α) (h : p k = true) :
    sget d k (l.filter (fun e => p e.1)) = sget d k l := by
  induction l with
  | nil => rfl
  | cons e l ih =>
    by_cases he : p e.1 = true
    · simp only [List.filter_cons, he, if_true, sget, ih]
    · have hk : k ≠ e.1 := by rintro rfl; exact he h
      simp only [List.filter_cons, he, sget, hk, if_false]
      simpa using ih

/-- Outside the keys that a splice replaces a table reads as before. -/
theorem sget_splice_ne (d : α) (a n k : Nat) (new l : Sparse α) (hk : k < a ∨ a + n ≤ k)
    (hn : ∀ e ∈ new, a ≤ e.1 ∧ e.1 < a + n) : sget d k (splice a n new l) = sget d k l := by
  have hnew : ∀ e ∈ new, e.1 ≠ k := fun e he => by have := hn e he; omega
  unfold splice
  rcases hk with hk | hk
  · rw [List.append_assoc, sget_append_left, sget_filter d k (fun x => decide (x < a)) l (by simpa using hk)]
    intro e he
    rcases List.mem_append.1 he with h | h
    · exact hnew e h
    · have := (List.mem_filter.1 h).2
      simp at this; omega
  · rw [sget_append_of_not_mem, sget_filter d k (fun x => decide (a + n ≤ x)) l (by simpa using hk)]
    intro e he
    rcases List.mem_append.1 he with h | h
    · have := (List.mem_filter.1 h).2
      simp at this; omega
    · exact hnew e h

/-- A table reads what was put. -/
@[simp] theorem sget_sput_self [DecidableEq α] (d v : α) (k : Nat) (l : Sparse α) : sget d k (sput d k v l) = v := by
  unfold sput splice
  have hlow : ∀ e ∈ l.filter (fun e => decide (e.1 < k)), e.1 ≠ k := by
    intro e he
    have := (List.mem_filter.1 he).2
    simp at this; omega
  rw [List.append_assoc, sget_append_of_not_mem d k _ _ hlow]
  split
  · rename_i h
    subst h
    simp only [List.nil_append]
    apply sget_of_not_mem
    intro e he
    have := (List.mem_filter.1 he).2
    simp at this; omega
  · simp [sget]

/-- Another entry stays. -/
theorem sget_sput_ne [DecidableEq α] (d d' v : α) (j k : Nat) (l : Sparse α) (h : j ≠ k) :
    sget d' j (sput d k v l) = sget d' j l := by
  apply sget_splice_ne
  · omega
  · intro e he
    split at he
    · simp at he
    · simp at he; subst he; simp

/-! ## The canonical form -/

/-- Keys rise and no entry equals its default, as a proposition. -/
theorem tableOk_iff [DecidableEq α] (d : Nat → α) (l : Sparse α) :
    tableOk d l = true ↔ (l.Pairwise (fun x y => x.1 < y.1) ∧ ∀ e ∈ l, e.2 ≠ d e.1) := by
  induction l with
  | nil => simp [tableOk]
  | cons e l ih =>
    cases l with
    | nil => simp [tableOk]
    | cons f l =>
      simp only [tableOk, Bool.and_eq_true, decide_eq_true_eq, ih]
      constructor
      · rintro ⟨⟨h1, h2⟩, h3, h4⟩
        refine ⟨List.pairwise_cons.2 ⟨?_, h3⟩, ?_⟩
        · intro x hx
          rcases List.mem_cons.1 hx with rfl | hx
          · exact h2
          · exact lt_trans h2 ((List.pairwise_cons.1 h3).1 x hx)
        · intro x hx
          rcases List.mem_cons.1 hx with rfl | hx
          · exact h1
          · exact h4 x hx
      · rintro ⟨h3, h4⟩
        have h5 := List.pairwise_cons.1 h3
        exact ⟨⟨h4 e (by simp), h5.1 f (by simp)⟩, h5.2, fun x hx => h4 x (by simp [hx])⟩

/-- A splice of canonical entries into a canonical table is canonical. -/
theorem tableOk_splice [DecidableEq α] (d : Nat → α) (a n : Nat) (new l : Sparse α) (hl : tableOk d l = true)
    (hn : tableOk d new = true) (hr : ∀ e ∈ new, a ≤ e.1 ∧ e.1 < a + n) : tableOk d (splice a n new l) = true := by
  rw [tableOk_iff] at *
  obtain ⟨l1, l2⟩ := hl
  obtain ⟨n1, n2⟩ := hn
  constructor
  · unfold splice
    rw [List.pairwise_append, List.pairwise_append]
    refine ⟨⟨l1.filter _, n1, ?_⟩, l1.filter _, ?_⟩
    · intro x hx y hy
      have := (List.mem_filter.1 hx).2
      have := hr y hy
      simp at *; omega
    · intro x hx y hy
      have h2 := (List.mem_filter.1 hy).2
      rcases List.mem_append.1 hx with h | h
      · have h1 := (List.mem_filter.1 h).2
        simp at *; omega
      · have := hr x h
        simp at *; omega
  · intro e he
    unfold splice at he
    simp only [List.mem_append, List.mem_filter] at he
    rcases he with (h | h) | h
    · exact l2 e h.1
    · exact n2 e h
    · exact l2 e h.1

/-- Putting an entry keeps the canonical form. -/
theorem tableOk_sput [DecidableEq α] (d : α) (k : Nat) (v : α) (l : Sparse α) (h : tableOk (fun _ => d) l = true) :
    tableOk (fun _ => d) (sput d k v l) = true := by
  apply tableOk_splice _ _ _ _ _ h
  · split
    · rfl
    · simpa [tableOk]
  · intro e he
    split at he
    · simp at he
    · simp at he; subst he; simp

/-! ## Byte memories -/

theorem cellsOf_range (d : Byte) (a : Nat) (bs : List Byte) : ∀ e ∈ cellsOf d a bs, a ≤ e.1 ∧ e.1 < a + bs.length := by
  induction bs generalizing a with
  | nil => simp [cellsOf]
  | cons b r ih =>
    intro e he
    simp only [cellsOf] at he
    split at he
    · have := ih (a + 1) e he
      simp only [List.length_cons]; omega
    · rcases List.mem_cons.1 he with rfl | he
      · simp
      · have := ih (a + 1) e he
        simp only [List.length_cons]; omega

theorem tableOk_cellsOf (d : Byte) (a : Nat) (bs : List Byte) : tableOk (fun _ => d) (cellsOf d a bs) = true := by
  rw [tableOk_iff]
  induction bs generalizing a with
  | nil => simp [cellsOf]
  | cons b r ih =>
    simp only [cellsOf]
    split
    · exact ih (a + 1)
    · refine ⟨List.pairwise_cons.2 ⟨?_, (ih (a + 1)).1⟩, ?_⟩
      · intro x hx
        have := cellsOf_range d (a + 1) r x hx
        simp; omega
      · intro x hx
        rcases List.mem_cons.1 hx with rfl | hx
        · simpa
        · exact (ih (a + 1)).2 x hx

/-- Storing bytes keeps the canonical form of a memory. -/
theorem Memory.wf_writeBytes (d : Byte) (a : Nat) (bs : List Byte) (m : List Host.Cell) (h : Memory.wf d m = true) :
    Memory.wf d (writeBytes d a bs m) = true :=
  tableOk_splice _ _ _ _ _ h (tableOk_cellsOf d a bs) (cellsOf_range d a bs)

/-- Outside the stored bytes a memory reads as before. -/
theorem sget_writeBytes_ne (d d' : Byte) (a k : Nat) (bs : List Byte) (m : List Host.Cell) (h : k < a ∨ a + bs.length ≤ k) :
    sget d' k (writeBytes d a bs m) = sget d' k m :=
  sget_splice_ne d' a bs.length k _ m h (cellsOf_range d a bs)

theorem sget_cellsOf (d : Byte) (a i : Nat) (bs : List Byte) (h : i < bs.length) : sget d (a + i) (cellsOf d a bs) = bs[i] := by
  induction bs generalizing a i with
  | nil => simp at h
  | cons b r ih =>
    cases i with
    | zero =>
      simp only [cellsOf]
      split
      · rename_i hb
        simp only [Nat.add_zero, List.getElem_cons_zero, hb]
        apply sget_of_not_mem
        intro e he
        have := cellsOf_range d (a + 1) r e he
        omega
      · simp [sget]
    | succ i =>
      have h' : i < r.length := by simpa using h
      have e : a + (i + 1) = a + 1 + i := by omega
      simp only [cellsOf, e, List.getElem_cons_succ]
      split
      · exact ih (a + 1) i h'
      · simp only [sget]
        rw [if_neg (by omega)]
        exact ih (a + 1) i h'

/-- A stored byte reads back. -/
theorem sget_writeBytes_self (d : Byte) (a i : Nat) (bs : List Byte) (m : List Host.Cell) (h : i < bs.length) :
    sget d (a + i) (writeBytes d a bs m) = bs[i] := by
  unfold writeBytes splice
  rw [List.append_assoc, sget_append_of_not_mem, sget_append_left, sget_cellsOf d a i bs h]
  · intro e he
    have := (List.mem_filter.1 he).2
    simp at this; omega
  · intro e he
    have := (List.mem_filter.1 he).2
    simp at this; omega

end Sys2Proof.Machine
end

