-- ==== Sys2Proof/Laws/Memory.lean ====
section
/-! SUPPORT. Every operation on a memory keeps its canonical form, and what each leaves as it was. -/

namespace Sys2Proof.Machine

variable (s : State)

@[simp] theorem State.breakRes_buf (l : List Nat) (a n : Nat) : (s.breakRes l a n).buf = s.buf := by
  unfold State.breakRes; split <;> rfl

@[simp] theorem State.kept_length (a : Nat) (bs : List Byte) : (s.kept a bs).length = bs.length := by
  simp only [State.kept]; split <;> simp

/-- What storing bytes in the buffer gives: some bytes stored from the same place, no more of them. -/
theorem State.bufWrite_buf (a : Nat) (bs : List Byte) :
    ∃ cs : List Byte, cs.length ≤ bs.length ∧ (s.bufWrite a bs).buf = writeBytes 0 a cs s.buf := by
  unfold State.bufWrite
  simp only []
  generalize hu : (if s.uncached (a / 0x100000) then s.breakRes [0, 1, 2, 3] (0x10000000 + a) (bs.take (0x1000000 - a)).length else s) = u
  have hb : u.buf = s.buf := by subst hu; split <;> simp
  split
  · exact ⟨bs.take (0x1000000 - a), by simp, by simp [hb]⟩
  · exact ⟨u.kept a (bs.take (0x1000000 - a)), by simp, by simp [hb]⟩

theorem State.bufWrite_wf (a : Nat) (bs : List Byte) (h : Memory.wf 0 s.buf = true) : Memory.wf 0 (s.bufWrite a bs).buf = true := by
  obtain ⟨cs, -, e⟩ := s.bufWrite_buf a bs
  rw [e]; exact Memory.wf_writeBytes 0 a cs s.buf h

/-- Outside the stored bytes the buffer reads as before. -/
theorem State.bufByte_bufWrite_ne (a k : Nat) (bs : List Byte) (h : k < a ∨ a + bs.length ≤ k) :
    (s.bufWrite a bs).bufByte k = s.bufByte k := by
  obtain ⟨cs, hl, e⟩ := s.bufWrite_buf a bs
  rw [State.bufByte, e]; exact sget_writeBytes_ne 0 0 a k cs s.buf (by omega)

/-- Zeroing a range of the buffer keeps its form. -/
theorem State.bufZero_wf (a n : Nat) (h : Memory.wf 0 s.buf = true) : Memory.wf 0 (s.bufZero a n).buf = true :=
  tableOk_splice _ _ _ _ _ h (by simp [tableOk]) (by simp)

/-- Storing bytes in a local memory keeps its form and leaves the others. -/
theorem State.lmemWrite_wf (h a m : Nat) (bs : List Byte) (w : Memory.wf 0 (s.lmem m) = true) (wh : Memory.wf 0 (s.lmem h) = true) :
    Memory.wf 0 ((s.lmemWrite h a bs).lmem m) = true := by
  have hw := Memory.wf_writeBytes 0 a bs (s.lmem h) wh
  unfold State.lmemWrite State.setLmem
  split <;> (unfold State.lmem at *; split <;> simp_all)

/-- Placing an image in the NOR device keeps its form. -/
theorem nor_wf (image : List (Nat × Byte)) (m : List Host.Cell) (h : Memory.wf 0xFF m = true) :
    Memory.wf 0xFF (image.foldl (fun (m : List Host.Cell) e => if e.1 < 0x4000000 then sput 0xFF e.1 e.2 m else m) m) = true := by
  induction image generalizing m with
  | nil => exact h
  | cons e r ih =>
    rw [List.foldl_cons]
    apply ih
    split
    · exact tableOk_sput 0xFF e.1 e.2 m h
    · exact h

end Sys2Proof.Machine
end

