-- ==== Sys2Proof/Laws/Records.lean ====
section
/-! SUPPORT. Lengths of byte strings, and that a record formed as R120 says is valid as R122
says, and a link frame with its CRC as R241 says. -/

namespace Sys2Proof.Machine

@[simp] theorem leBytes_length (n v : Nat) : (leBytes n v).length = n := by
  induction n generalizing v with
  | zero => rfl
  | succ n ih => simp [leBytes, ih]

@[simp] theorem beBytes_length (n v : Nat) : (beBytes n v).length = n := by simp [beBytes]

theorem leNat_leBytes (n v : Nat) (h : v < 256 ^ n) : leNat (leBytes n v) = v := by
  induction n generalizing v with
  | zero => simp at h; simp [leBytes, leNat, h]
  | succ n ih =>
    have : v / 256 < 256 ^ n := Nat.div_lt_of_lt_mul (by rw [pow_succ] at h; omega)
    simp [leBytes, leNat, ih _ this]; omega

@[simp] theorem sha256_length (m : List Byte) : (sha256 m).length = 32 := by simp [sha256]

theorem slice_append_right (l r : List Byte) (i n : Nat) (hi : l.length = i) (hn : r.length = n) : slice (l ++ r) i n = r := by
  subst hi; subst hn; simp [slice]

theorem slice_append_left (l r : List Byte) (i n : Nat) (h : i + n ≤ l.length) : slice (l ++ r) i n = slice l i n := by
  have hd : ((l ++ r).drop i).take n = (l.drop i).take n := by
    rw [List.drop_append_of_le_length (by omega), List.take_append_of_le_length (by simp; omega)]
  simp [slice, hd]

theorem hdr28_length (k : Kind) (cc : Nat) (seq : Word) (st : Stamp) (f t : Nat) (o : BitVec 16) (body : List Byte) :
    (hdr28 k cc seq st f t o body).length = 28 := by simp [hdr28]

/-- A record formed under a generation is valid under it. -/
theorem recordValid_fullHdr (gen : Word) (k : Kind) (cc : Nat) (seq : Word) (st : Stamp) (f t : Nat) (o : BitVec 16) (body : List Byte) :
    recordValid gen (fullHdr gen (hdr28 k cc seq st f t o body)) body = true := by
  have hl := hdr28_length k cc seq st f t o body
  have h28 : slice (fullHdr gen (hdr28 k cc seq st f t o body)) 28 4 =
      leBytes 4 (crc32c (leBytes 4 gen.toNat ++ hdr28 k cc seq st f t o body)).toNat :=
    slice_append_right _ _ _ _ hl (by simp)
  have h0 : slice (fullHdr gen (hdr28 k cc seq st f t o body)) 0 28 = hdr28 k cc seq st f t o body := by
    rw [fullHdr, slice_append_left _ _ _ _ (by omega)]
    simp only [slice, List.drop_zero]
    rw [List.take_of_length_le (by omega), hl]; simp
  have h20 : slice (fullHdr gen (hdr28 k cc seq st f t o body)) 20 8 = (sha256 body).take 8 := by
    rw [fullHdr, slice_append_left _ _ _ _ (by omega), hdr28]
    exact slice_append_right _ _ _ _ (by simp) (by simp)
  have hm : leNat (slice (fullHdr gen (hdr28 k cc seq st f t o body)) 0 2) = 0x51D7 := by
    simp [fullHdr, hdr28, leBytes, slice, leNat]
  have hk : byteAt (fullHdr gen (hdr28 k cc seq st f t o body)) 2 = BitVec.ofNat 8 k.code := by
    simp [byteAt, fullHdr, hdr28, leBytes]
  simp only [recordValid, leAt, hm, hk, h20, h0, h28]
  rw [leNat_leBytes _ _ (by simpa using (crc32c _).isLt)]
  cases k <;> simp [Kind.code]

/-- A frame whose CRC was formed over the rest of it is valid (R241). -/
theorem ovrValid_of_crc (s : State) (ty : Nat) (b : List Byte) (hl : b.length + 4 = ovrLen ty) (h0 : (byteAt b 0).toNat = ty)
    (hu : slice b 4 8 = s.peerUid) (h12 : 12 ≤ b.length) : s.ovrValid ty (b ++ leBytes 4 (crc32c b).toNat) = true := by
  have hb : byteAt (b ++ leBytes 4 (crc32c b).toNat) 0 = byteAt b 0 := by
    exact List.getD_append _ _ _ _ (by omega)
  have hc : leAt (b ++ leBytes 4 (crc32c b).toNat) b.length 4 = (crc32c b).toNat := by
    rw [leAt, slice_append_right _ _ _ _ rfl (by simp), leNat_leBytes _ _ (by simpa using (crc32c b).isLt)]
  have hs : slice (b ++ leBytes 4 (crc32c b).toNat) 4 8 = s.peerUid := by rw [slice_append_left _ _ _ _ (by omega), hu]
  have hn : ovrLen ty - 4 = b.length := by omega
  simp [State.ovrValid, hb, h0, hs, hl, hn, hc]

/-- A scan that finds no record after the header ends with what the header began. -/
theorem scanFrom_nil (s : State) (media : Media) (n b : Nat) (gen : Word) (h : Found) (r : Run)
    (hw : (s.walk media b gen 16384 (h.place + 1) 0).1 = []) (hb : r.bad = false) :
    (s.scanFrom media n b gen h r).run.bad = false ∧ (s.scanFrom media n b gen h r).rolled = false ∧
      (s.scanFrom media n b gen h r).lostNext = none ∧ (s.scanFrom media n b gen h r).header = h := by
  cases n <;> simp [State.scanFrom, hw, hb, afterMoved, movedBad]

/-- A header record at place 0 is the header of its bushel (R119). -/
theorem headerAt_first (s : State) (media : Media) (b : Nat) (gen : Word) (f : Found) (h : s.placeAt media b gen 0 = some f)
    (hk : f.kind = 5) : s.headerAt media b gen = some f := by
  simp [State.headerAt, List.range_succ_eq_map, h, hk]

end Sys2Proof.Machine
end

