-- ==== Sys2Proof/Laws/State.lean ====
section
/-! SUPPORT. What each named update of the state leaves as it was: one lemma per update and field, so that no proof unfolds a
record update. -/

namespace Sys2Proof.Machine

variable (s : State)

/-! ### setF changes regs -/

@[simp] theorem State.setF_pending (f : Field) (i v : Nat) : (s.setF f i v).pending = s.pending := rfl
@[simp] theorem State.setF_rdata (f : Field) (i v : Nat) : (s.setF f i v).rdata = s.rdata := rfl
@[simp] theorem State.setF_freeCtr (f : Field) (i v : Nat) : (s.setF f i v).freeCtr = s.freeCtr := rfl
@[simp] theorem State.setF_formed (f : Field) (i v : Nat) : (s.setF f i v).formed = s.formed := rfl
@[simp] theorem State.setF_die (f : Field) (i v : Nat) : (s.setF f i v).die = s.die := rfl
@[simp] theorem State.setF_time (f : Field) (i v : Nat) : (s.setF f i v).time = s.time := rfl
@[simp] theorem State.setF_evr (f : Field) (i v : Nat) : (s.setF f i v).evr = s.evr := rfl
@[simp] theorem State.setF_port (f : Field) (i v : Nat) : (s.setF f i v).port = s.port := rfl
@[simp] theorem State.setF_queues (f : Field) (i v : Nat) : (s.setF f i v).queues = s.queues := rfl
@[simp] theorem State.setF_cmds (f : Field) (i v : Nat) : (s.setF f i v).cmds = s.cmds := rfl
@[simp] theorem State.setF_tenants (f : Field) (i v : Nat) : (s.setF f i v).tenants = s.tenants := rfl
@[simp] theorem State.setF_buf (f : Field) (i v : Nat) : (s.setF f i v).buf = s.buf := rfl
@[simp] theorem State.setF_pages (f : Field) (i v : Nat) : (s.setF f i v).pages = s.pages := rfl
@[simp] theorem State.setF_lastBank (f : Field) (i v : Nat) : (s.setF f i v).lastBank = s.lastBank := rfl
@[simp] theorem State.setF_stagings (f : Field) (i v : Nat) : (s.setF f i v).stagings = s.stagings := rfl
@[simp] theorem State.setF_nextToken (f : Field) (i v : Nat) : (s.setF f i v).nextToken = s.nextToken := rfl
@[simp] theorem State.setF_banks (f : Field) (i v : Nat) : (s.setF f i v).banks = s.banks := rfl
@[simp] theorem State.setF_shed (f : Field) (i v : Nat) : (s.setF f i v).shed = s.shed := rfl
@[simp] theorem State.setF_shedIn (f : Field) (i v : Nat) : (s.setF f i v).shedIn = s.shedIn := rfl
@[simp] theorem State.setF_admits (f : Field) (i v : Nat) : (s.setF f i v).admits = s.admits := rfl
@[simp] theorem State.setF_critSeen (f : Field) (i v : Nat) : (s.setF f i v).critSeen = s.critSeen := rfl
@[simp] theorem State.setF_chans (f : Field) (i v : Nat) : (s.setF f i v).chans = s.chans := rfl
@[simp] theorem State.setF_fifoA (f : Field) (i v : Nat) : (s.setF f i v).fifoA = s.fifoA := rfl
@[simp] theorem State.setF_fifoB (f : Field) (i v : Nat) : (s.setF f i v).fifoB = s.fifoB := rfl
@[simp] theorem State.setF_bushels (f : Field) (i v : Nat) : (s.setF f i v).bushels = s.bushels := rfl
@[simp] theorem State.setF_due (f : Field) (i v : Nat) : (s.setF f i v).due = s.due := rfl
@[simp] theorem State.setF_sys (f : Field) (i v : Nat) : (s.setF f i v).sys = s.sys := rfl
@[simp] theorem State.setF_rwc (f : Field) (i v : Nat) : (s.setF f i v).rwc = s.rwc := rfl
@[simp] theorem State.setF_chain (f : Field) (i v : Nat) : (s.setF f i v).chain = s.chain := rfl
@[simp] theorem State.setF_tables (f : Field) (i v : Nat) : (s.setF f i v).tables = s.tables := rfl
@[simp] theorem State.setF_loops (f : Field) (i v : Nat) : (s.setF f i v).loops = s.loops := rfl
@[simp] theorem State.setF_spl (f : Field) (i v : Nat) : (s.setF f i v).spl = s.spl := rfl
@[simp] theorem State.setF_swap (f : Field) (i v : Nat) : (s.setF f i v).swap = s.swap := rfl
@[simp] theorem State.setF_swapClear (f : Field) (i v : Nat) : (s.setF f i v).swapClear = s.swapClear := rfl
@[simp] theorem State.setF_shock (f : Field) (i v : Nat) : (s.setF f i v).shock = s.shock := rfl
@[simp] theorem State.setF_spindle (f : Field) (i v : Nat) : (s.setF f i v).spindle = s.spindle := rfl
@[simp] theorem State.setF_power (f : Field) (i v : Nat) : (s.setF f i v).power = s.power := rfl
@[simp] theorem State.setF_dl (f : Field) (i v : Nat) : (s.setF f i v).dl = s.dl := rfl
@[simp] theorem State.setF_ovr (f : Field) (i v : Nat) : (s.setF f i v).ovr = s.ovr := rfl
@[simp] theorem State.setF_dict (f : Field) (i v : Nat) : (s.setF f i v).dict = s.dict := rfl
@[simp] theorem State.setF_harts (f : Field) (i v : Nat) : (s.setF f i v).harts = s.harts := rfl
@[simp] theorem State.setF_mtimecmp (f : Field) (i v : Nat) : (s.setF f i v).mtimecmp = s.mtimecmp := rfl
@[simp] theorem State.setF_lmem0 (f : Field) (i v : Nat) : (s.setF f i v).lmem0 = s.lmem0 := rfl
@[simp] theorem State.setF_lmem1 (f : Field) (i v : Nat) : (s.setF f i v).lmem1 = s.lmem1 := rfl
@[simp] theorem State.setF_lmem2 (f : Field) (i v : Nat) : (s.setF f i v).lmem2 = s.lmem2 := rfl
@[simp] theorem State.setF_lmem3 (f : Field) (i v : Nat) : (s.setF f i v).lmem3 = s.lmem3 := rfl
@[simp] theorem State.setF_nor (f : Field) (i v : Nat) : (s.setF f i v).nor = s.nor := rfl
@[simp] theorem State.setF_cache (f : Field) (i v : Nat) : (s.setF f i v).cache = s.cache := rfl
@[simp] theorem State.setF_ecc (f : Field) (i v : Nat) : (s.setF f i v).ecc = s.ecc := rfl
@[simp] theorem State.setF_clk (f : Field) (i v : Nat) : (s.setF f i v).clk = s.clk := rfl
@[simp] theorem State.setF_tap (f : Field) (i v : Nat) : (s.setF f i v).tap = s.tap := rfl
@[simp] theorem State.setF_mon (f : Field) (i v : Nat) : (s.setF f i v).mon = s.mon := rfl
@[simp] theorem State.setF_boot (f : Field) (i v : Nat) : (s.setF f i v).boot = s.boot := rfl
@[simp] theorem State.setF_pins (f : Field) (i v : Nat) : (s.setF f i v).pins = s.pins := rfl

/-! ### setChan changes chans -/

@[simp] theorem State.setChan_pending (n : Nat) (x : Chan) : (s.setChan n x).pending = s.pending := rfl
@[simp] theorem State.setChan_regs (n : Nat) (x : Chan) : (s.setChan n x).regs = s.regs := rfl
@[simp] theorem State.setChan_rdata (n : Nat) (x : Chan) : (s.setChan n x).rdata = s.rdata := rfl
@[simp] theorem State.setChan_freeCtr (n : Nat) (x : Chan) : (s.setChan n x).freeCtr = s.freeCtr := rfl
@[simp] theorem State.setChan_formed (n : Nat) (x : Chan) : (s.setChan n x).formed = s.formed := rfl
@[simp] theorem State.setChan_die (n : Nat) (x : Chan) : (s.setChan n x).die = s.die := rfl
@[simp] theorem State.setChan_time (n : Nat) (x : Chan) : (s.setChan n x).time = s.time := rfl
@[simp] theorem State.setChan_evr (n : Nat) (x : Chan) : (s.setChan n x).evr = s.evr := rfl
@[simp] theorem State.setChan_port (n : Nat) (x : Chan) : (s.setChan n x).port = s.port := rfl
@[simp] theorem State.setChan_queues (n : Nat) (x : Chan) : (s.setChan n x).queues = s.queues := rfl
@[simp] theorem State.setChan_cmds (n : Nat) (x : Chan) : (s.setChan n x).cmds = s.cmds := rfl
@[simp] theorem State.setChan_tenants (n : Nat) (x : Chan) : (s.setChan n x).tenants = s.tenants := rfl
@[simp] theorem State.setChan_buf (n : Nat) (x : Chan) : (s.setChan n x).buf = s.buf := rfl
@[simp] theorem State.setChan_pages (n : Nat) (x : Chan) : (s.setChan n x).pages = s.pages := rfl
@[simp] theorem State.setChan_lastBank (n : Nat) (x : Chan) : (s.setChan n x).lastBank = s.lastBank := rfl
@[simp] theorem State.setChan_stagings (n : Nat) (x : Chan) : (s.setChan n x).stagings = s.stagings := rfl
@[simp] theorem State.setChan_nextToken (n : Nat) (x : Chan) : (s.setChan n x).nextToken = s.nextToken := rfl
@[simp] theorem State.setChan_banks (n : Nat) (x : Chan) : (s.setChan n x).banks = s.banks := rfl
@[simp] theorem State.setChan_shed (n : Nat) (x : Chan) : (s.setChan n x).shed = s.shed := rfl
@[simp] theorem State.setChan_shedIn (n : Nat) (x : Chan) : (s.setChan n x).shedIn = s.shedIn := rfl
@[simp] theorem State.setChan_admits (n : Nat) (x : Chan) : (s.setChan n x).admits = s.admits := rfl
@[simp] theorem State.setChan_critSeen (n : Nat) (x : Chan) : (s.setChan n x).critSeen = s.critSeen := rfl
@[simp] theorem State.setChan_fifoA (n : Nat) (x : Chan) : (s.setChan n x).fifoA = s.fifoA := rfl
@[simp] theorem State.setChan_fifoB (n : Nat) (x : Chan) : (s.setChan n x).fifoB = s.fifoB := rfl
@[simp] theorem State.setChan_bushels (n : Nat) (x : Chan) : (s.setChan n x).bushels = s.bushels := rfl
@[simp] theorem State.setChan_due (n : Nat) (x : Chan) : (s.setChan n x).due = s.due := rfl
@[simp] theorem State.setChan_sys (n : Nat) (x : Chan) : (s.setChan n x).sys = s.sys := rfl
@[simp] theorem State.setChan_rwc (n : Nat) (x : Chan) : (s.setChan n x).rwc = s.rwc := rfl
@[simp] theorem State.setChan_chain (n : Nat) (x : Chan) : (s.setChan n x).chain = s.chain := rfl
@[simp] theorem State.setChan_tables (n : Nat) (x : Chan) : (s.setChan n x).tables = s.tables := rfl
@[simp] theorem State.setChan_loops (n : Nat) (x : Chan) : (s.setChan n x).loops = s.loops := rfl
@[simp] theorem State.setChan_spl (n : Nat) (x : Chan) : (s.setChan n x).spl = s.spl := rfl
@[simp] theorem State.setChan_swap (n : Nat) (x : Chan) : (s.setChan n x).swap = s.swap := rfl
@[simp] theorem State.setChan_swapClear (n : Nat) (x : Chan) : (s.setChan n x).swapClear = s.swapClear := rfl
@[simp] theorem State.setChan_shock (n : Nat) (x : Chan) : (s.setChan n x).shock = s.shock := rfl
@[simp] theorem State.setChan_spindle (n : Nat) (x : Chan) : (s.setChan n x).spindle = s.spindle := rfl
@[simp] theorem State.setChan_power (n : Nat) (x : Chan) : (s.setChan n x).power = s.power := rfl
@[simp] theorem State.setChan_dl (n : Nat) (x : Chan) : (s.setChan n x).dl = s.dl := rfl
@[simp] theorem State.setChan_ovr (n : Nat) (x : Chan) : (s.setChan n x).ovr = s.ovr := rfl
@[simp] theorem State.setChan_dict (n : Nat) (x : Chan) : (s.setChan n x).dict = s.dict := rfl
@[simp] theorem State.setChan_harts (n : Nat) (x : Chan) : (s.setChan n x).harts = s.harts := rfl
@[simp] theorem State.setChan_mtimecmp (n : Nat) (x : Chan) : (s.setChan n x).mtimecmp = s.mtimecmp := rfl
@[simp] theorem State.setChan_lmem0 (n : Nat) (x : Chan) : (s.setChan n x).lmem0 = s.lmem0 := rfl
@[simp] theorem State.setChan_lmem1 (n : Nat) (x : Chan) : (s.setChan n x).lmem1 = s.lmem1 := rfl
@[simp] theorem State.setChan_lmem2 (n : Nat) (x : Chan) : (s.setChan n x).lmem2 = s.lmem2 := rfl
@[simp] theorem State.setChan_lmem3 (n : Nat) (x : Chan) : (s.setChan n x).lmem3 = s.lmem3 := rfl
@[simp] theorem State.setChan_nor (n : Nat) (x : Chan) : (s.setChan n x).nor = s.nor := rfl
@[simp] theorem State.setChan_cache (n : Nat) (x : Chan) : (s.setChan n x).cache = s.cache := rfl
@[simp] theorem State.setChan_ecc (n : Nat) (x : Chan) : (s.setChan n x).ecc = s.ecc := rfl
@[simp] theorem State.setChan_clk (n : Nat) (x : Chan) : (s.setChan n x).clk = s.clk := rfl
@[simp] theorem State.setChan_tap (n : Nat) (x : Chan) : (s.setChan n x).tap = s.tap := rfl
@[simp] theorem State.setChan_mon (n : Nat) (x : Chan) : (s.setChan n x).mon = s.mon := rfl
@[simp] theorem State.setChan_boot (n : Nat) (x : Chan) : (s.setChan n x).boot = s.boot := rfl
@[simp] theorem State.setChan_pins (n : Nat) (x : Chan) : (s.setChan n x).pins = s.pins := rfl

/-! ### setTen changes tenants -/

@[simp] theorem State.setTen_pending (n : Nat) (x : Tenant) : (s.setTen n x).pending = s.pending := rfl
@[simp] theorem State.setTen_regs (n : Nat) (x : Tenant) : (s.setTen n x).regs = s.regs := rfl
@[simp] theorem State.setTen_rdata (n : Nat) (x : Tenant) : (s.setTen n x).rdata = s.rdata := rfl
@[simp] theorem State.setTen_freeCtr (n : Nat) (x : Tenant) : (s.setTen n x).freeCtr = s.freeCtr := rfl
@[simp] theorem State.setTen_formed (n : Nat) (x : Tenant) : (s.setTen n x).formed = s.formed := rfl
@[simp] theorem State.setTen_die (n : Nat) (x : Tenant) : (s.setTen n x).die = s.die := rfl
@[simp] theorem State.setTen_time (n : Nat) (x : Tenant) : (s.setTen n x).time = s.time := rfl
@[simp] theorem State.setTen_evr (n : Nat) (x : Tenant) : (s.setTen n x).evr = s.evr := rfl
@[simp] theorem State.setTen_port (n : Nat) (x : Tenant) : (s.setTen n x).port = s.port := rfl
@[simp] theorem State.setTen_queues (n : Nat) (x : Tenant) : (s.setTen n x).queues = s.queues := rfl
@[simp] theorem State.setTen_cmds (n : Nat) (x : Tenant) : (s.setTen n x).cmds = s.cmds := rfl
@[simp] theorem State.setTen_buf (n : Nat) (x : Tenant) : (s.setTen n x).buf = s.buf := rfl
@[simp] theorem State.setTen_pages (n : Nat) (x : Tenant) : (s.setTen n x).pages = s.pages := rfl
@[simp] theorem State.setTen_lastBank (n : Nat) (x : Tenant) : (s.setTen n x).lastBank = s.lastBank := rfl
@[simp] theorem State.setTen_stagings (n : Nat) (x : Tenant) : (s.setTen n x).stagings = s.stagings := rfl
@[simp] theorem State.setTen_nextToken (n : Nat) (x : Tenant) : (s.setTen n x).nextToken = s.nextToken := rfl
@[simp] theorem State.setTen_banks (n : Nat) (x : Tenant) : (s.setTen n x).banks = s.banks := rfl
@[simp] theorem State.setTen_shed (n : Nat) (x : Tenant) : (s.setTen n x).shed = s.shed := rfl
@[simp] theorem State.setTen_shedIn (n : Nat) (x : Tenant) : (s.setTen n x).shedIn = s.shedIn := rfl
@[simp] theorem State.setTen_admits (n : Nat) (x : Tenant) : (s.setTen n x).admits = s.admits := rfl
@[simp] theorem State.setTen_critSeen (n : Nat) (x : Tenant) : (s.setTen n x).critSeen = s.critSeen := rfl
@[simp] theorem State.setTen_chans (n : Nat) (x : Tenant) : (s.setTen n x).chans = s.chans := rfl
@[simp] theorem State.setTen_fifoA (n : Nat) (x : Tenant) : (s.setTen n x).fifoA = s.fifoA := rfl
@[simp] theorem State.setTen_fifoB (n : Nat) (x : Tenant) : (s.setTen n x).fifoB = s.fifoB := rfl
@[simp] theorem State.setTen_bushels (n : Nat) (x : Tenant) : (s.setTen n x).bushels = s.bushels := rfl
@[simp] theorem State.setTen_due (n : Nat) (x : Tenant) : (s.setTen n x).due = s.due := rfl
@[simp] theorem State.setTen_sys (n : Nat) (x : Tenant) : (s.setTen n x).sys = s.sys := rfl
@[simp] theorem State.setTen_rwc (n : Nat) (x : Tenant) : (s.setTen n x).rwc = s.rwc := rfl
@[simp] theorem State.setTen_chain (n : Nat) (x : Tenant) : (s.setTen n x).chain = s.chain := rfl
@[simp] theorem State.setTen_tables (n : Nat) (x : Tenant) : (s.setTen n x).tables = s.tables := rfl
@[simp] theorem State.setTen_loops (n : Nat) (x : Tenant) : (s.setTen n x).loops = s.loops := rfl
@[simp] theorem State.setTen_spl (n : Nat) (x : Tenant) : (s.setTen n x).spl = s.spl := rfl
@[simp] theorem State.setTen_swap (n : Nat) (x : Tenant) : (s.setTen n x).swap = s.swap := rfl
@[simp] theorem State.setTen_swapClear (n : Nat) (x : Tenant) : (s.setTen n x).swapClear = s.swapClear := rfl
@[simp] theorem State.setTen_shock (n : Nat) (x : Tenant) : (s.setTen n x).shock = s.shock := rfl
@[simp] theorem State.setTen_spindle (n : Nat) (x : Tenant) : (s.setTen n x).spindle = s.spindle := rfl
@[simp] theorem State.setTen_power (n : Nat) (x : Tenant) : (s.setTen n x).power = s.power := rfl
@[simp] theorem State.setTen_dl (n : Nat) (x : Tenant) : (s.setTen n x).dl = s.dl := rfl
@[simp] theorem State.setTen_ovr (n : Nat) (x : Tenant) : (s.setTen n x).ovr = s.ovr := rfl
@[simp] theorem State.setTen_dict (n : Nat) (x : Tenant) : (s.setTen n x).dict = s.dict := rfl
@[simp] theorem State.setTen_harts (n : Nat) (x : Tenant) : (s.setTen n x).harts = s.harts := rfl
@[simp] theorem State.setTen_mtimecmp (n : Nat) (x : Tenant) : (s.setTen n x).mtimecmp = s.mtimecmp := rfl
@[simp] theorem State.setTen_lmem0 (n : Nat) (x : Tenant) : (s.setTen n x).lmem0 = s.lmem0 := rfl
@[simp] theorem State.setTen_lmem1 (n : Nat) (x : Tenant) : (s.setTen n x).lmem1 = s.lmem1 := rfl
@[simp] theorem State.setTen_lmem2 (n : Nat) (x : Tenant) : (s.setTen n x).lmem2 = s.lmem2 := rfl
@[simp] theorem State.setTen_lmem3 (n : Nat) (x : Tenant) : (s.setTen n x).lmem3 = s.lmem3 := rfl
@[simp] theorem State.setTen_nor (n : Nat) (x : Tenant) : (s.setTen n x).nor = s.nor := rfl
@[simp] theorem State.setTen_cache (n : Nat) (x : Tenant) : (s.setTen n x).cache = s.cache := rfl
@[simp] theorem State.setTen_ecc (n : Nat) (x : Tenant) : (s.setTen n x).ecc = s.ecc := rfl
@[simp] theorem State.setTen_clk (n : Nat) (x : Tenant) : (s.setTen n x).clk = s.clk := rfl
@[simp] theorem State.setTen_tap (n : Nat) (x : Tenant) : (s.setTen n x).tap = s.tap := rfl
@[simp] theorem State.setTen_mon (n : Nat) (x : Tenant) : (s.setTen n x).mon = s.mon := rfl
@[simp] theorem State.setTen_boot (n : Nat) (x : Tenant) : (s.setTen n x).boot = s.boot := rfl
@[simp] theorem State.setTen_pins (n : Nat) (x : Tenant) : (s.setTen n x).pins = s.pins := rfl

/-! ### setQueue changes queues -/

@[simp] theorem State.setQueue_pending (n : Nat) (x : Queue) : (s.setQueue n x).pending = s.pending := rfl
@[simp] theorem State.setQueue_regs (n : Nat) (x : Queue) : (s.setQueue n x).regs = s.regs := rfl
@[simp] theorem State.setQueue_rdata (n : Nat) (x : Queue) : (s.setQueue n x).rdata = s.rdata := rfl
@[simp] theorem State.setQueue_freeCtr (n : Nat) (x : Queue) : (s.setQueue n x).freeCtr = s.freeCtr := rfl
@[simp] theorem State.setQueue_formed (n : Nat) (x : Queue) : (s.setQueue n x).formed = s.formed := rfl
@[simp] theorem State.setQueue_die (n : Nat) (x : Queue) : (s.setQueue n x).die = s.die := rfl
@[simp] theorem State.setQueue_time (n : Nat) (x : Queue) : (s.setQueue n x).time = s.time := rfl
@[simp] theorem State.setQueue_evr (n : Nat) (x : Queue) : (s.setQueue n x).evr = s.evr := rfl
@[simp] theorem State.setQueue_port (n : Nat) (x : Queue) : (s.setQueue n x).port = s.port := rfl
@[simp] theorem State.setQueue_cmds (n : Nat) (x : Queue) : (s.setQueue n x).cmds = s.cmds := rfl
@[simp] theorem State.setQueue_tenants (n : Nat) (x : Queue) : (s.setQueue n x).tenants = s.tenants := rfl
@[simp] theorem State.setQueue_buf (n : Nat) (x : Queue) : (s.setQueue n x).buf = s.buf := rfl
@[simp] theorem State.setQueue_pages (n : Nat) (x : Queue) : (s.setQueue n x).pages = s.pages := rfl
@[simp] theorem State.setQueue_lastBank (n : Nat) (x : Queue) : (s.setQueue n x).lastBank = s.lastBank := rfl
@[simp] theorem State.setQueue_stagings (n : Nat) (x : Queue) : (s.setQueue n x).stagings = s.stagings := rfl
@[simp] theorem State.setQueue_nextToken (n : Nat) (x : Queue) : (s.setQueue n x).nextToken = s.nextToken := rfl
@[simp] theorem State.setQueue_banks (n : Nat) (x : Queue) : (s.setQueue n x).banks = s.banks := rfl
@[simp] theorem State.setQueue_shed (n : Nat) (x : Queue) : (s.setQueue n x).shed = s.shed := rfl
@[simp] theorem State.setQueue_shedIn (n : Nat) (x : Queue) : (s.setQueue n x).shedIn = s.shedIn := rfl
@[simp] theorem State.setQueue_admits (n : Nat) (x : Queue) : (s.setQueue n x).admits = s.admits := rfl
@[simp] theorem State.setQueue_critSeen (n : Nat) (x : Queue) : (s.setQueue n x).critSeen = s.critSeen := rfl
@[simp] theorem State.setQueue_chans (n : Nat) (x : Queue) : (s.setQueue n x).chans = s.chans := rfl
@[simp] theorem State.setQueue_fifoA (n : Nat) (x : Queue) : (s.setQueue n x).fifoA = s.fifoA := rfl
@[simp] theorem State.setQueue_fifoB (n : Nat) (x : Queue) : (s.setQueue n x).fifoB = s.fifoB := rfl
@[simp] theorem State.setQueue_bushels (n : Nat) (x : Queue) : (s.setQueue n x).bushels = s.bushels := rfl
@[simp] theorem State.setQueue_due (n : Nat) (x : Queue) : (s.setQueue n x).due = s.due := rfl
@[simp] theorem State.setQueue_sys (n : Nat) (x : Queue) : (s.setQueue n x).sys = s.sys := rfl
@[simp] theorem State.setQueue_rwc (n : Nat) (x : Queue) : (s.setQueue n x).rwc = s.rwc := rfl
@[simp] theorem State.setQueue_chain (n : Nat) (x : Queue) : (s.setQueue n x).chain = s.chain := rfl
@[simp] theorem State.setQueue_tables (n : Nat) (x : Queue) : (s.setQueue n x).tables = s.tables := rfl
@[simp] theorem State.setQueue_loops (n : Nat) (x : Queue) : (s.setQueue n x).loops = s.loops := rfl
@[simp] theorem State.setQueue_spl (n : Nat) (x : Queue) : (s.setQueue n x).spl = s.spl := rfl
@[simp] theorem State.setQueue_swap (n : Nat) (x : Queue) : (s.setQueue n x).swap = s.swap := rfl
@[simp] theorem State.setQueue_swapClear (n : Nat) (x : Queue) : (s.setQueue n x).swapClear = s.swapClear := rfl
@[simp] theorem State.setQueue_shock (n : Nat) (x : Queue) : (s.setQueue n x).shock = s.shock := rfl
@[simp] theorem State.setQueue_spindle (n : Nat) (x : Queue) : (s.setQueue n x).spindle = s.spindle := rfl
@[simp] theorem State.setQueue_power (n : Nat) (x : Queue) : (s.setQueue n x).power = s.power := rfl
@[simp] theorem State.setQueue_dl (n : Nat) (x : Queue) : (s.setQueue n x).dl = s.dl := rfl
@[simp] theorem State.setQueue_ovr (n : Nat) (x : Queue) : (s.setQueue n x).ovr = s.ovr := rfl
@[simp] theorem State.setQueue_dict (n : Nat) (x : Queue) : (s.setQueue n x).dict = s.dict := rfl
@[simp] theorem State.setQueue_harts (n : Nat) (x : Queue) : (s.setQueue n x).harts = s.harts := rfl
@[simp] theorem State.setQueue_mtimecmp (n : Nat) (x : Queue) : (s.setQueue n x).mtimecmp = s.mtimecmp := rfl
@[simp] theorem State.setQueue_lmem0 (n : Nat) (x : Queue) : (s.setQueue n x).lmem0 = s.lmem0 := rfl
@[simp] theorem State.setQueue_lmem1 (n : Nat) (x : Queue) : (s.setQueue n x).lmem1 = s.lmem1 := rfl
@[simp] theorem State.setQueue_lmem2 (n : Nat) (x : Queue) : (s.setQueue n x).lmem2 = s.lmem2 := rfl
@[simp] theorem State.setQueue_lmem3 (n : Nat) (x : Queue) : (s.setQueue n x).lmem3 = s.lmem3 := rfl
@[simp] theorem State.setQueue_nor (n : Nat) (x : Queue) : (s.setQueue n x).nor = s.nor := rfl
@[simp] theorem State.setQueue_cache (n : Nat) (x : Queue) : (s.setQueue n x).cache = s.cache := rfl
@[simp] theorem State.setQueue_ecc (n : Nat) (x : Queue) : (s.setQueue n x).ecc = s.ecc := rfl
@[simp] theorem State.setQueue_clk (n : Nat) (x : Queue) : (s.setQueue n x).clk = s.clk := rfl
@[simp] theorem State.setQueue_tap (n : Nat) (x : Queue) : (s.setQueue n x).tap = s.tap := rfl
@[simp] theorem State.setQueue_mon (n : Nat) (x : Queue) : (s.setQueue n x).mon = s.mon := rfl
@[simp] theorem State.setQueue_boot (n : Nat) (x : Queue) : (s.setQueue n x).boot = s.boot := rfl
@[simp] theorem State.setQueue_pins (n : Nat) (x : Queue) : (s.setQueue n x).pins = s.pins := rfl

/-! ### setRw changes rwc -/

@[simp] theorem State.setRw_pending (n : Nat) (x : Rwc) : (s.setRw n x).pending = s.pending := rfl
@[simp] theorem State.setRw_regs (n : Nat) (x : Rwc) : (s.setRw n x).regs = s.regs := rfl
@[simp] theorem State.setRw_rdata (n : Nat) (x : Rwc) : (s.setRw n x).rdata = s.rdata := rfl
@[simp] theorem State.setRw_freeCtr (n : Nat) (x : Rwc) : (s.setRw n x).freeCtr = s.freeCtr := rfl
@[simp] theorem State.setRw_formed (n : Nat) (x : Rwc) : (s.setRw n x).formed = s.formed := rfl
@[simp] theorem State.setRw_die (n : Nat) (x : Rwc) : (s.setRw n x).die = s.die := rfl
@[simp] theorem State.setRw_time (n : Nat) (x : Rwc) : (s.setRw n x).time = s.time := rfl
@[simp] theorem State.setRw_evr (n : Nat) (x : Rwc) : (s.setRw n x).evr = s.evr := rfl
@[simp] theorem State.setRw_port (n : Nat) (x : Rwc) : (s.setRw n x).port = s.port := rfl
@[simp] theorem State.setRw_queues (n : Nat) (x : Rwc) : (s.setRw n x).queues = s.queues := rfl
@[simp] theorem State.setRw_cmds (n : Nat) (x : Rwc) : (s.setRw n x).cmds = s.cmds := rfl
@[simp] theorem State.setRw_tenants (n : Nat) (x : Rwc) : (s.setRw n x).tenants = s.tenants := rfl
@[simp] theorem State.setRw_buf (n : Nat) (x : Rwc) : (s.setRw n x).buf = s.buf := rfl
@[simp] theorem State.setRw_pages (n : Nat) (x : Rwc) : (s.setRw n x).pages = s.pages := rfl
@[simp] theorem State.setRw_lastBank (n : Nat) (x : Rwc) : (s.setRw n x).lastBank = s.lastBank := rfl
@[simp] theorem State.setRw_stagings (n : Nat) (x : Rwc) : (s.setRw n x).stagings = s.stagings := rfl
@[simp] theorem State.setRw_nextToken (n : Nat) (x : Rwc) : (s.setRw n x).nextToken = s.nextToken := rfl
@[simp] theorem State.setRw_banks (n : Nat) (x : Rwc) : (s.setRw n x).banks = s.banks := rfl
@[simp] theorem State.setRw_shed (n : Nat) (x : Rwc) : (s.setRw n x).shed = s.shed := rfl
@[simp] theorem State.setRw_shedIn (n : Nat) (x : Rwc) : (s.setRw n x).shedIn = s.shedIn := rfl
@[simp] theorem State.setRw_admits (n : Nat) (x : Rwc) : (s.setRw n x).admits = s.admits := rfl
@[simp] theorem State.setRw_critSeen (n : Nat) (x : Rwc) : (s.setRw n x).critSeen = s.critSeen := rfl
@[simp] theorem State.setRw_chans (n : Nat) (x : Rwc) : (s.setRw n x).chans = s.chans := rfl
@[simp] theorem State.setRw_fifoA (n : Nat) (x : Rwc) : (s.setRw n x).fifoA = s.fifoA := rfl
@[simp] theorem State.setRw_fifoB (n : Nat) (x : Rwc) : (s.setRw n x).fifoB = s.fifoB := rfl
@[simp] theorem State.setRw_bushels (n : Nat) (x : Rwc) : (s.setRw n x).bushels = s.bushels := rfl
@[simp] theorem State.setRw_due (n : Nat) (x : Rwc) : (s.setRw n x).due = s.due := rfl
@[simp] theorem State.setRw_sys (n : Nat) (x : Rwc) : (s.setRw n x).sys = s.sys := rfl
@[simp] theorem State.setRw_chain (n : Nat) (x : Rwc) : (s.setRw n x).chain = s.chain := rfl
@[simp] theorem State.setRw_tables (n : Nat) (x : Rwc) : (s.setRw n x).tables = s.tables := rfl
@[simp] theorem State.setRw_loops (n : Nat) (x : Rwc) : (s.setRw n x).loops = s.loops := rfl
@[simp] theorem State.setRw_spl (n : Nat) (x : Rwc) : (s.setRw n x).spl = s.spl := rfl
@[simp] theorem State.setRw_swap (n : Nat) (x : Rwc) : (s.setRw n x).swap = s.swap := rfl
@[simp] theorem State.setRw_swapClear (n : Nat) (x : Rwc) : (s.setRw n x).swapClear = s.swapClear := rfl
@[simp] theorem State.setRw_shock (n : Nat) (x : Rwc) : (s.setRw n x).shock = s.shock := rfl
@[simp] theorem State.setRw_spindle (n : Nat) (x : Rwc) : (s.setRw n x).spindle = s.spindle := rfl
@[simp] theorem State.setRw_power (n : Nat) (x : Rwc) : (s.setRw n x).power = s.power := rfl
@[simp] theorem State.setRw_dl (n : Nat) (x : Rwc) : (s.setRw n x).dl = s.dl := rfl
@[simp] theorem State.setRw_ovr (n : Nat) (x : Rwc) : (s.setRw n x).ovr = s.ovr := rfl
@[simp] theorem State.setRw_dict (n : Nat) (x : Rwc) : (s.setRw n x).dict = s.dict := rfl
@[simp] theorem State.setRw_harts (n : Nat) (x : Rwc) : (s.setRw n x).harts = s.harts := rfl
@[simp] theorem State.setRw_mtimecmp (n : Nat) (x : Rwc) : (s.setRw n x).mtimecmp = s.mtimecmp := rfl
@[simp] theorem State.setRw_lmem0 (n : Nat) (x : Rwc) : (s.setRw n x).lmem0 = s.lmem0 := rfl
@[simp] theorem State.setRw_lmem1 (n : Nat) (x : Rwc) : (s.setRw n x).lmem1 = s.lmem1 := rfl
@[simp] theorem State.setRw_lmem2 (n : Nat) (x : Rwc) : (s.setRw n x).lmem2 = s.lmem2 := rfl
@[simp] theorem State.setRw_lmem3 (n : Nat) (x : Rwc) : (s.setRw n x).lmem3 = s.lmem3 := rfl
@[simp] theorem State.setRw_nor (n : Nat) (x : Rwc) : (s.setRw n x).nor = s.nor := rfl
@[simp] theorem State.setRw_cache (n : Nat) (x : Rwc) : (s.setRw n x).cache = s.cache := rfl
@[simp] theorem State.setRw_ecc (n : Nat) (x : Rwc) : (s.setRw n x).ecc = s.ecc := rfl
@[simp] theorem State.setRw_clk (n : Nat) (x : Rwc) : (s.setRw n x).clk = s.clk := rfl
@[simp] theorem State.setRw_tap (n : Nat) (x : Rwc) : (s.setRw n x).tap = s.tap := rfl
@[simp] theorem State.setRw_mon (n : Nat) (x : Rwc) : (s.setRw n x).mon = s.mon := rfl
@[simp] theorem State.setRw_boot (n : Nat) (x : Rwc) : (s.setRw n x).boot = s.boot := rfl
@[simp] theorem State.setRw_pins (n : Nat) (x : Rwc) : (s.setRw n x).pins = s.pins := rfl

/-! ### setLoop changes loops -/

@[simp] theorem State.setLoop_pending (n : Nat) (x : Loop) : (s.setLoop n x).pending = s.pending := rfl
@[simp] theorem State.setLoop_regs (n : Nat) (x : Loop) : (s.setLoop n x).regs = s.regs := rfl
@[simp] theorem State.setLoop_rdata (n : Nat) (x : Loop) : (s.setLoop n x).rdata = s.rdata := rfl
@[simp] theorem State.setLoop_freeCtr (n : Nat) (x : Loop) : (s.setLoop n x).freeCtr = s.freeCtr := rfl
@[simp] theorem State.setLoop_formed (n : Nat) (x : Loop) : (s.setLoop n x).formed = s.formed := rfl
@[simp] theorem State.setLoop_die (n : Nat) (x : Loop) : (s.setLoop n x).die = s.die := rfl
@[simp] theorem State.setLoop_time (n : Nat) (x : Loop) : (s.setLoop n x).time = s.time := rfl
@[simp] theorem State.setLoop_evr (n : Nat) (x : Loop) : (s.setLoop n x).evr = s.evr := rfl
@[simp] theorem State.setLoop_port (n : Nat) (x : Loop) : (s.setLoop n x).port = s.port := rfl
@[simp] theorem State.setLoop_queues (n : Nat) (x : Loop) : (s.setLoop n x).queues = s.queues := rfl
@[simp] theorem State.setLoop_cmds (n : Nat) (x : Loop) : (s.setLoop n x).cmds = s.cmds := rfl
@[simp] theorem State.setLoop_tenants (n : Nat) (x : Loop) : (s.setLoop n x).tenants = s.tenants := rfl
@[simp] theorem State.setLoop_buf (n : Nat) (x : Loop) : (s.setLoop n x).buf = s.buf := rfl
@[simp] theorem State.setLoop_pages (n : Nat) (x : Loop) : (s.setLoop n x).pages = s.pages := rfl
@[simp] theorem State.setLoop_lastBank (n : Nat) (x : Loop) : (s.setLoop n x).lastBank = s.lastBank := rfl
@[simp] theorem State.setLoop_stagings (n : Nat) (x : Loop) : (s.setLoop n x).stagings = s.stagings := rfl
@[simp] theorem State.setLoop_nextToken (n : Nat) (x : Loop) : (s.setLoop n x).nextToken = s.nextToken := rfl
@[simp] theorem State.setLoop_banks (n : Nat) (x : Loop) : (s.setLoop n x).banks = s.banks := rfl
@[simp] theorem State.setLoop_shed (n : Nat) (x : Loop) : (s.setLoop n x).shed = s.shed := rfl
@[simp] theorem State.setLoop_shedIn (n : Nat) (x : Loop) : (s.setLoop n x).shedIn = s.shedIn := rfl
@[simp] theorem State.setLoop_admits (n : Nat) (x : Loop) : (s.setLoop n x).admits = s.admits := rfl
@[simp] theorem State.setLoop_critSeen (n : Nat) (x : Loop) : (s.setLoop n x).critSeen = s.critSeen := rfl
@[simp] theorem State.setLoop_chans (n : Nat) (x : Loop) : (s.setLoop n x).chans = s.chans := rfl
@[simp] theorem State.setLoop_fifoA (n : Nat) (x : Loop) : (s.setLoop n x).fifoA = s.fifoA := rfl
@[simp] theorem State.setLoop_fifoB (n : Nat) (x : Loop) : (s.setLoop n x).fifoB = s.fifoB := rfl
@[simp] theorem State.setLoop_bushels (n : Nat) (x : Loop) : (s.setLoop n x).bushels = s.bushels := rfl
@[simp] theorem State.setLoop_due (n : Nat) (x : Loop) : (s.setLoop n x).due = s.due := rfl
@[simp] theorem State.setLoop_sys (n : Nat) (x : Loop) : (s.setLoop n x).sys = s.sys := rfl
@[simp] theorem State.setLoop_rwc (n : Nat) (x : Loop) : (s.setLoop n x).rwc = s.rwc := rfl
@[simp] theorem State.setLoop_chain (n : Nat) (x : Loop) : (s.setLoop n x).chain = s.chain := rfl
@[simp] theorem State.setLoop_tables (n : Nat) (x : Loop) : (s.setLoop n x).tables = s.tables := rfl
@[simp] theorem State.setLoop_spl (n : Nat) (x : Loop) : (s.setLoop n x).spl = s.spl := rfl
@[simp] theorem State.setLoop_swap (n : Nat) (x : Loop) : (s.setLoop n x).swap = s.swap := rfl
@[simp] theorem State.setLoop_swapClear (n : Nat) (x : Loop) : (s.setLoop n x).swapClear = s.swapClear := rfl
@[simp] theorem State.setLoop_shock (n : Nat) (x : Loop) : (s.setLoop n x).shock = s.shock := rfl
@[simp] theorem State.setLoop_spindle (n : Nat) (x : Loop) : (s.setLoop n x).spindle = s.spindle := rfl
@[simp] theorem State.setLoop_power (n : Nat) (x : Loop) : (s.setLoop n x).power = s.power := rfl
@[simp] theorem State.setLoop_dl (n : Nat) (x : Loop) : (s.setLoop n x).dl = s.dl := rfl
@[simp] theorem State.setLoop_ovr (n : Nat) (x : Loop) : (s.setLoop n x).ovr = s.ovr := rfl
@[simp] theorem State.setLoop_dict (n : Nat) (x : Loop) : (s.setLoop n x).dict = s.dict := rfl
@[simp] theorem State.setLoop_harts (n : Nat) (x : Loop) : (s.setLoop n x).harts = s.harts := rfl
@[simp] theorem State.setLoop_mtimecmp (n : Nat) (x : Loop) : (s.setLoop n x).mtimecmp = s.mtimecmp := rfl
@[simp] theorem State.setLoop_lmem0 (n : Nat) (x : Loop) : (s.setLoop n x).lmem0 = s.lmem0 := rfl
@[simp] theorem State.setLoop_lmem1 (n : Nat) (x : Loop) : (s.setLoop n x).lmem1 = s.lmem1 := rfl
@[simp] theorem State.setLoop_lmem2 (n : Nat) (x : Loop) : (s.setLoop n x).lmem2 = s.lmem2 := rfl
@[simp] theorem State.setLoop_lmem3 (n : Nat) (x : Loop) : (s.setLoop n x).lmem3 = s.lmem3 := rfl
@[simp] theorem State.setLoop_nor (n : Nat) (x : Loop) : (s.setLoop n x).nor = s.nor := rfl
@[simp] theorem State.setLoop_cache (n : Nat) (x : Loop) : (s.setLoop n x).cache = s.cache := rfl
@[simp] theorem State.setLoop_ecc (n : Nat) (x : Loop) : (s.setLoop n x).ecc = s.ecc := rfl
@[simp] theorem State.setLoop_clk (n : Nat) (x : Loop) : (s.setLoop n x).clk = s.clk := rfl
@[simp] theorem State.setLoop_tap (n : Nat) (x : Loop) : (s.setLoop n x).tap = s.tap := rfl
@[simp] theorem State.setLoop_mon (n : Nat) (x : Loop) : (s.setLoop n x).mon = s.mon := rfl
@[simp] theorem State.setLoop_boot (n : Nat) (x : Loop) : (s.setLoop n x).boot = s.boot := rfl
@[simp] theorem State.setLoop_pins (n : Nat) (x : Loop) : (s.setLoop n x).pins = s.pins := rfl

/-! ### setBushel changes bushels -/

@[simp] theorem State.setBushel_pending (n : Nat) (x : Bushel) : (s.setBushel n x).pending = s.pending := rfl
@[simp] theorem State.setBushel_regs (n : Nat) (x : Bushel) : (s.setBushel n x).regs = s.regs := rfl
@[simp] theorem State.setBushel_rdata (n : Nat) (x : Bushel) : (s.setBushel n x).rdata = s.rdata := rfl
@[simp] theorem State.setBushel_freeCtr (n : Nat) (x : Bushel) : (s.setBushel n x).freeCtr = s.freeCtr := rfl
@[simp] theorem State.setBushel_formed (n : Nat) (x : Bushel) : (s.setBushel n x).formed = s.formed := rfl
@[simp] theorem State.setBushel_die (n : Nat) (x : Bushel) : (s.setBushel n x).die = s.die := rfl
@[simp] theorem State.setBushel_time (n : Nat) (x : Bushel) : (s.setBushel n x).time = s.time := rfl
@[simp] theorem State.setBushel_evr (n : Nat) (x : Bushel) : (s.setBushel n x).evr = s.evr := rfl
@[simp] theorem State.setBushel_port (n : Nat) (x : Bushel) : (s.setBushel n x).port = s.port := rfl
@[simp] theorem State.setBushel_queues (n : Nat) (x : Bushel) : (s.setBushel n x).queues = s.queues := rfl
@[simp] theorem State.setBushel_cmds (n : Nat) (x : Bushel) : (s.setBushel n x).cmds = s.cmds := rfl
@[simp] theorem State.setBushel_tenants (n : Nat) (x : Bushel) : (s.setBushel n x).tenants = s.tenants := rfl
@[simp] theorem State.setBushel_buf (n : Nat) (x : Bushel) : (s.setBushel n x).buf = s.buf := rfl
@[simp] theorem State.setBushel_pages (n : Nat) (x : Bushel) : (s.setBushel n x).pages = s.pages := rfl
@[simp] theorem State.setBushel_lastBank (n : Nat) (x : Bushel) : (s.setBushel n x).lastBank = s.lastBank := rfl
@[simp] theorem State.setBushel_stagings (n : Nat) (x : Bushel) : (s.setBushel n x).stagings = s.stagings := rfl
@[simp] theorem State.setBushel_nextToken (n : Nat) (x : Bushel) : (s.setBushel n x).nextToken = s.nextToken := rfl
@[simp] theorem State.setBushel_banks (n : Nat) (x : Bushel) : (s.setBushel n x).banks = s.banks := rfl
@[simp] theorem State.setBushel_shed (n : Nat) (x : Bushel) : (s.setBushel n x).shed = s.shed := rfl
@[simp] theorem State.setBushel_shedIn (n : Nat) (x : Bushel) : (s.setBushel n x).shedIn = s.shedIn := rfl
@[simp] theorem State.setBushel_admits (n : Nat) (x : Bushel) : (s.setBushel n x).admits = s.admits := rfl
@[simp] theorem State.setBushel_critSeen (n : Nat) (x : Bushel) : (s.setBushel n x).critSeen = s.critSeen := rfl
@[simp] theorem State.setBushel_chans (n : Nat) (x : Bushel) : (s.setBushel n x).chans = s.chans := rfl
@[simp] theorem State.setBushel_fifoA (n : Nat) (x : Bushel) : (s.setBushel n x).fifoA = s.fifoA := rfl
@[simp] theorem State.setBushel_fifoB (n : Nat) (x : Bushel) : (s.setBushel n x).fifoB = s.fifoB := rfl
@[simp] theorem State.setBushel_due (n : Nat) (x : Bushel) : (s.setBushel n x).due = s.due := rfl
@[simp] theorem State.setBushel_sys (n : Nat) (x : Bushel) : (s.setBushel n x).sys = s.sys := rfl
@[simp] theorem State.setBushel_rwc (n : Nat) (x : Bushel) : (s.setBushel n x).rwc = s.rwc := rfl
@[simp] theorem State.setBushel_chain (n : Nat) (x : Bushel) : (s.setBushel n x).chain = s.chain := rfl
@[simp] theorem State.setBushel_tables (n : Nat) (x : Bushel) : (s.setBushel n x).tables = s.tables := rfl
@[simp] theorem State.setBushel_loops (n : Nat) (x : Bushel) : (s.setBushel n x).loops = s.loops := rfl
@[simp] theorem State.setBushel_spl (n : Nat) (x : Bushel) : (s.setBushel n x).spl = s.spl := rfl
@[simp] theorem State.setBushel_swap (n : Nat) (x : Bushel) : (s.setBushel n x).swap = s.swap := rfl
@[simp] theorem State.setBushel_swapClear (n : Nat) (x : Bushel) : (s.setBushel n x).swapClear = s.swapClear := rfl
@[simp] theorem State.setBushel_shock (n : Nat) (x : Bushel) : (s.setBushel n x).shock = s.shock := rfl
@[simp] theorem State.setBushel_spindle (n : Nat) (x : Bushel) : (s.setBushel n x).spindle = s.spindle := rfl
@[simp] theorem State.setBushel_power (n : Nat) (x : Bushel) : (s.setBushel n x).power = s.power := rfl
@[simp] theorem State.setBushel_dl (n : Nat) (x : Bushel) : (s.setBushel n x).dl = s.dl := rfl
@[simp] theorem State.setBushel_ovr (n : Nat) (x : Bushel) : (s.setBushel n x).ovr = s.ovr := rfl
@[simp] theorem State.setBushel_dict (n : Nat) (x : Bushel) : (s.setBushel n x).dict = s.dict := rfl
@[simp] theorem State.setBushel_harts (n : Nat) (x : Bushel) : (s.setBushel n x).harts = s.harts := rfl
@[simp] theorem State.setBushel_mtimecmp (n : Nat) (x : Bushel) : (s.setBushel n x).mtimecmp = s.mtimecmp := rfl
@[simp] theorem State.setBushel_lmem0 (n : Nat) (x : Bushel) : (s.setBushel n x).lmem0 = s.lmem0 := rfl
@[simp] theorem State.setBushel_lmem1 (n : Nat) (x : Bushel) : (s.setBushel n x).lmem1 = s.lmem1 := rfl
@[simp] theorem State.setBushel_lmem2 (n : Nat) (x : Bushel) : (s.setBushel n x).lmem2 = s.lmem2 := rfl
@[simp] theorem State.setBushel_lmem3 (n : Nat) (x : Bushel) : (s.setBushel n x).lmem3 = s.lmem3 := rfl
@[simp] theorem State.setBushel_nor (n : Nat) (x : Bushel) : (s.setBushel n x).nor = s.nor := rfl
@[simp] theorem State.setBushel_cache (n : Nat) (x : Bushel) : (s.setBushel n x).cache = s.cache := rfl
@[simp] theorem State.setBushel_ecc (n : Nat) (x : Bushel) : (s.setBushel n x).ecc = s.ecc := rfl
@[simp] theorem State.setBushel_clk (n : Nat) (x : Bushel) : (s.setBushel n x).clk = s.clk := rfl
@[simp] theorem State.setBushel_tap (n : Nat) (x : Bushel) : (s.setBushel n x).tap = s.tap := rfl
@[simp] theorem State.setBushel_mon (n : Nat) (x : Bushel) : (s.setBushel n x).mon = s.mon := rfl
@[simp] theorem State.setBushel_boot (n : Nat) (x : Bushel) : (s.setBushel n x).boot = s.boot := rfl
@[simp] theorem State.setBushel_pins (n : Nat) (x : Bushel) : (s.setBushel n x).pins = s.pins := rfl

/-! ### setIntake changes ovr -/

@[simp] theorem State.setIntake_pending (n : Nat) (x : Intake) : (s.setIntake n x).pending = s.pending := rfl
@[simp] theorem State.setIntake_regs (n : Nat) (x : Intake) : (s.setIntake n x).regs = s.regs := rfl
@[simp] theorem State.setIntake_rdata (n : Nat) (x : Intake) : (s.setIntake n x).rdata = s.rdata := rfl
@[simp] theorem State.setIntake_freeCtr (n : Nat) (x : Intake) : (s.setIntake n x).freeCtr = s.freeCtr := rfl
@[simp] theorem State.setIntake_formed (n : Nat) (x : Intake) : (s.setIntake n x).formed = s.formed := rfl
@[simp] theorem State.setIntake_die (n : Nat) (x : Intake) : (s.setIntake n x).die = s.die := rfl
@[simp] theorem State.setIntake_time (n : Nat) (x : Intake) : (s.setIntake n x).time = s.time := rfl
@[simp] theorem State.setIntake_evr (n : Nat) (x : Intake) : (s.setIntake n x).evr = s.evr := rfl
@[simp] theorem State.setIntake_port (n : Nat) (x : Intake) : (s.setIntake n x).port = s.port := rfl
@[simp] theorem State.setIntake_queues (n : Nat) (x : Intake) : (s.setIntake n x).queues = s.queues := rfl
@[simp] theorem State.setIntake_cmds (n : Nat) (x : Intake) : (s.setIntake n x).cmds = s.cmds := rfl
@[simp] theorem State.setIntake_tenants (n : Nat) (x : Intake) : (s.setIntake n x).tenants = s.tenants := rfl
@[simp] theorem State.setIntake_buf (n : Nat) (x : Intake) : (s.setIntake n x).buf = s.buf := rfl
@[simp] theorem State.setIntake_pages (n : Nat) (x : Intake) : (s.setIntake n x).pages = s.pages := rfl
@[simp] theorem State.setIntake_lastBank (n : Nat) (x : Intake) : (s.setIntake n x).lastBank = s.lastBank := rfl
@[simp] theorem State.setIntake_stagings (n : Nat) (x : Intake) : (s.setIntake n x).stagings = s.stagings := rfl
@[simp] theorem State.setIntake_nextToken (n : Nat) (x : Intake) : (s.setIntake n x).nextToken = s.nextToken := rfl
@[simp] theorem State.setIntake_banks (n : Nat) (x : Intake) : (s.setIntake n x).banks = s.banks := rfl
@[simp] theorem State.setIntake_shed (n : Nat) (x : Intake) : (s.setIntake n x).shed = s.shed := rfl
@[simp] theorem State.setIntake_shedIn (n : Nat) (x : Intake) : (s.setIntake n x).shedIn = s.shedIn := rfl
@[simp] theorem State.setIntake_admits (n : Nat) (x : Intake) : (s.setIntake n x).admits = s.admits := rfl
@[simp] theorem State.setIntake_critSeen (n : Nat) (x : Intake) : (s.setIntake n x).critSeen = s.critSeen := rfl
@[simp] theorem State.setIntake_chans (n : Nat) (x : Intake) : (s.setIntake n x).chans = s.chans := rfl
@[simp] theorem State.setIntake_fifoA (n : Nat) (x : Intake) : (s.setIntake n x).fifoA = s.fifoA := rfl
@[simp] theorem State.setIntake_fifoB (n : Nat) (x : Intake) : (s.setIntake n x).fifoB = s.fifoB := rfl
@[simp] theorem State.setIntake_bushels (n : Nat) (x : Intake) : (s.setIntake n x).bushels = s.bushels := rfl
@[simp] theorem State.setIntake_due (n : Nat) (x : Intake) : (s.setIntake n x).due = s.due := rfl
@[simp] theorem State.setIntake_sys (n : Nat) (x : Intake) : (s.setIntake n x).sys = s.sys := rfl
@[simp] theorem State.setIntake_rwc (n : Nat) (x : Intake) : (s.setIntake n x).rwc = s.rwc := rfl
@[simp] theorem State.setIntake_chain (n : Nat) (x : Intake) : (s.setIntake n x).chain = s.chain := rfl
@[simp] theorem State.setIntake_tables (n : Nat) (x : Intake) : (s.setIntake n x).tables = s.tables := rfl
@[simp] theorem State.setIntake_loops (n : Nat) (x : Intake) : (s.setIntake n x).loops = s.loops := rfl
@[simp] theorem State.setIntake_spl (n : Nat) (x : Intake) : (s.setIntake n x).spl = s.spl := rfl
@[simp] theorem State.setIntake_swap (n : Nat) (x : Intake) : (s.setIntake n x).swap = s.swap := rfl
@[simp] theorem State.setIntake_swapClear (n : Nat) (x : Intake) : (s.setIntake n x).swapClear = s.swapClear := rfl
@[simp] theorem State.setIntake_shock (n : Nat) (x : Intake) : (s.setIntake n x).shock = s.shock := rfl
@[simp] theorem State.setIntake_spindle (n : Nat) (x : Intake) : (s.setIntake n x).spindle = s.spindle := rfl
@[simp] theorem State.setIntake_power (n : Nat) (x : Intake) : (s.setIntake n x).power = s.power := rfl
@[simp] theorem State.setIntake_dl (n : Nat) (x : Intake) : (s.setIntake n x).dl = s.dl := rfl
@[simp] theorem State.setIntake_dict (n : Nat) (x : Intake) : (s.setIntake n x).dict = s.dict := rfl
@[simp] theorem State.setIntake_harts (n : Nat) (x : Intake) : (s.setIntake n x).harts = s.harts := rfl
@[simp] theorem State.setIntake_mtimecmp (n : Nat) (x : Intake) : (s.setIntake n x).mtimecmp = s.mtimecmp := rfl
@[simp] theorem State.setIntake_lmem0 (n : Nat) (x : Intake) : (s.setIntake n x).lmem0 = s.lmem0 := rfl
@[simp] theorem State.setIntake_lmem1 (n : Nat) (x : Intake) : (s.setIntake n x).lmem1 = s.lmem1 := rfl
@[simp] theorem State.setIntake_lmem2 (n : Nat) (x : Intake) : (s.setIntake n x).lmem2 = s.lmem2 := rfl
@[simp] theorem State.setIntake_lmem3 (n : Nat) (x : Intake) : (s.setIntake n x).lmem3 = s.lmem3 := rfl
@[simp] theorem State.setIntake_nor (n : Nat) (x : Intake) : (s.setIntake n x).nor = s.nor := rfl
@[simp] theorem State.setIntake_cache (n : Nat) (x : Intake) : (s.setIntake n x).cache = s.cache := rfl
@[simp] theorem State.setIntake_ecc (n : Nat) (x : Intake) : (s.setIntake n x).ecc = s.ecc := rfl
@[simp] theorem State.setIntake_clk (n : Nat) (x : Intake) : (s.setIntake n x).clk = s.clk := rfl
@[simp] theorem State.setIntake_tap (n : Nat) (x : Intake) : (s.setIntake n x).tap = s.tap := rfl
@[simp] theorem State.setIntake_mon (n : Nat) (x : Intake) : (s.setIntake n x).mon = s.mon := rfl
@[simp] theorem State.setIntake_boot (n : Nat) (x : Intake) : (s.setIntake n x).boot = s.boot := rfl
@[simp] theorem State.setIntake_pins (n : Nat) (x : Intake) : (s.setIntake n x).pins = s.pins := rfl

/-! ### setOwn changes ovr -/

@[simp] theorem State.setOwn_pending (n : Nat) (x : OvrOwn) : (s.setOwn n x).pending = s.pending := rfl
@[simp] theorem State.setOwn_regs (n : Nat) (x : OvrOwn) : (s.setOwn n x).regs = s.regs := rfl
@[simp] theorem State.setOwn_rdata (n : Nat) (x : OvrOwn) : (s.setOwn n x).rdata = s.rdata := rfl
@[simp] theorem State.setOwn_freeCtr (n : Nat) (x : OvrOwn) : (s.setOwn n x).freeCtr = s.freeCtr := rfl
@[simp] theorem State.setOwn_formed (n : Nat) (x : OvrOwn) : (s.setOwn n x).formed = s.formed := rfl
@[simp] theorem State.setOwn_die (n : Nat) (x : OvrOwn) : (s.setOwn n x).die = s.die := rfl
@[simp] theorem State.setOwn_time (n : Nat) (x : OvrOwn) : (s.setOwn n x).time = s.time := rfl
@[simp] theorem State.setOwn_evr (n : Nat) (x : OvrOwn) : (s.setOwn n x).evr = s.evr := rfl
@[simp] theorem State.setOwn_port (n : Nat) (x : OvrOwn) : (s.setOwn n x).port = s.port := rfl
@[simp] theorem State.setOwn_queues (n : Nat) (x : OvrOwn) : (s.setOwn n x).queues = s.queues := rfl
@[simp] theorem State.setOwn_cmds (n : Nat) (x : OvrOwn) : (s.setOwn n x).cmds = s.cmds := rfl
@[simp] theorem State.setOwn_tenants (n : Nat) (x : OvrOwn) : (s.setOwn n x).tenants = s.tenants := rfl
@[simp] theorem State.setOwn_buf (n : Nat) (x : OvrOwn) : (s.setOwn n x).buf = s.buf := rfl
@[simp] theorem State.setOwn_pages (n : Nat) (x : OvrOwn) : (s.setOwn n x).pages = s.pages := rfl
@[simp] theorem State.setOwn_lastBank (n : Nat) (x : OvrOwn) : (s.setOwn n x).lastBank = s.lastBank := rfl
@[simp] theorem State.setOwn_stagings (n : Nat) (x : OvrOwn) : (s.setOwn n x).stagings = s.stagings := rfl
@[simp] theorem State.setOwn_nextToken (n : Nat) (x : OvrOwn) : (s.setOwn n x).nextToken = s.nextToken := rfl
@[simp] theorem State.setOwn_banks (n : Nat) (x : OvrOwn) : (s.setOwn n x).banks = s.banks := rfl
@[simp] theorem State.setOwn_shed (n : Nat) (x : OvrOwn) : (s.setOwn n x).shed = s.shed := rfl
@[simp] theorem State.setOwn_shedIn (n : Nat) (x : OvrOwn) : (s.setOwn n x).shedIn = s.shedIn := rfl
@[simp] theorem State.setOwn_admits (n : Nat) (x : OvrOwn) : (s.setOwn n x).admits = s.admits := rfl
@[simp] theorem State.setOwn_critSeen (n : Nat) (x : OvrOwn) : (s.setOwn n x).critSeen = s.critSeen := rfl
@[simp] theorem State.setOwn_chans (n : Nat) (x : OvrOwn) : (s.setOwn n x).chans = s.chans := rfl
@[simp] theorem State.setOwn_fifoA (n : Nat) (x : OvrOwn) : (s.setOwn n x).fifoA = s.fifoA := rfl
@[simp] theorem State.setOwn_fifoB (n : Nat) (x : OvrOwn) : (s.setOwn n x).fifoB = s.fifoB := rfl
@[simp] theorem State.setOwn_bushels (n : Nat) (x : OvrOwn) : (s.setOwn n x).bushels = s.bushels := rfl
@[simp] theorem State.setOwn_due (n : Nat) (x : OvrOwn) : (s.setOwn n x).due = s.due := rfl
@[simp] theorem State.setOwn_sys (n : Nat) (x : OvrOwn) : (s.setOwn n x).sys = s.sys := rfl
@[simp] theorem State.setOwn_rwc (n : Nat) (x : OvrOwn) : (s.setOwn n x).rwc = s.rwc := rfl
@[simp] theorem State.setOwn_chain (n : Nat) (x : OvrOwn) : (s.setOwn n x).chain = s.chain := rfl
@[simp] theorem State.setOwn_tables (n : Nat) (x : OvrOwn) : (s.setOwn n x).tables = s.tables := rfl
@[simp] theorem State.setOwn_loops (n : Nat) (x : OvrOwn) : (s.setOwn n x).loops = s.loops := rfl
@[simp] theorem State.setOwn_spl (n : Nat) (x : OvrOwn) : (s.setOwn n x).spl = s.spl := rfl
@[simp] theorem State.setOwn_swap (n : Nat) (x : OvrOwn) : (s.setOwn n x).swap = s.swap := rfl
@[simp] theorem State.setOwn_swapClear (n : Nat) (x : OvrOwn) : (s.setOwn n x).swapClear = s.swapClear := rfl
@[simp] theorem State.setOwn_shock (n : Nat) (x : OvrOwn) : (s.setOwn n x).shock = s.shock := rfl
@[simp] theorem State.setOwn_spindle (n : Nat) (x : OvrOwn) : (s.setOwn n x).spindle = s.spindle := rfl
@[simp] theorem State.setOwn_power (n : Nat) (x : OvrOwn) : (s.setOwn n x).power = s.power := rfl
@[simp] theorem State.setOwn_dl (n : Nat) (x : OvrOwn) : (s.setOwn n x).dl = s.dl := rfl
@[simp] theorem State.setOwn_dict (n : Nat) (x : OvrOwn) : (s.setOwn n x).dict = s.dict := rfl
@[simp] theorem State.setOwn_harts (n : Nat) (x : OvrOwn) : (s.setOwn n x).harts = s.harts := rfl
@[simp] theorem State.setOwn_mtimecmp (n : Nat) (x : OvrOwn) : (s.setOwn n x).mtimecmp = s.mtimecmp := rfl
@[simp] theorem State.setOwn_lmem0 (n : Nat) (x : OvrOwn) : (s.setOwn n x).lmem0 = s.lmem0 := rfl
@[simp] theorem State.setOwn_lmem1 (n : Nat) (x : OvrOwn) : (s.setOwn n x).lmem1 = s.lmem1 := rfl
@[simp] theorem State.setOwn_lmem2 (n : Nat) (x : OvrOwn) : (s.setOwn n x).lmem2 = s.lmem2 := rfl
@[simp] theorem State.setOwn_lmem3 (n : Nat) (x : OvrOwn) : (s.setOwn n x).lmem3 = s.lmem3 := rfl
@[simp] theorem State.setOwn_nor (n : Nat) (x : OvrOwn) : (s.setOwn n x).nor = s.nor := rfl
@[simp] theorem State.setOwn_cache (n : Nat) (x : OvrOwn) : (s.setOwn n x).cache = s.cache := rfl
@[simp] theorem State.setOwn_ecc (n : Nat) (x : OvrOwn) : (s.setOwn n x).ecc = s.ecc := rfl
@[simp] theorem State.setOwn_clk (n : Nat) (x : OvrOwn) : (s.setOwn n x).clk = s.clk := rfl
@[simp] theorem State.setOwn_tap (n : Nat) (x : OvrOwn) : (s.setOwn n x).tap = s.tap := rfl
@[simp] theorem State.setOwn_mon (n : Nat) (x : OvrOwn) : (s.setOwn n x).mon = s.mon := rfl
@[simp] theorem State.setOwn_boot (n : Nat) (x : OvrOwn) : (s.setOwn n x).boot = s.boot := rfl
@[simp] theorem State.setOwn_pins (n : Nat) (x : OvrOwn) : (s.setOwn n x).pins = s.pins := rfl

/-! ### setHart changes harts -/

@[simp] theorem State.setHart_pending (n : Nat) (x : Hart) : (s.setHart n x).pending = s.pending := rfl
@[simp] theorem State.setHart_regs (n : Nat) (x : Hart) : (s.setHart n x).regs = s.regs := rfl
@[simp] theorem State.setHart_rdata (n : Nat) (x : Hart) : (s.setHart n x).rdata = s.rdata := rfl
@[simp] theorem State.setHart_freeCtr (n : Nat) (x : Hart) : (s.setHart n x).freeCtr = s.freeCtr := rfl
@[simp] theorem State.setHart_formed (n : Nat) (x : Hart) : (s.setHart n x).formed = s.formed := rfl
@[simp] theorem State.setHart_die (n : Nat) (x : Hart) : (s.setHart n x).die = s.die := rfl
@[simp] theorem State.setHart_time (n : Nat) (x : Hart) : (s.setHart n x).time = s.time := rfl
@[simp] theorem State.setHart_evr (n : Nat) (x : Hart) : (s.setHart n x).evr = s.evr := rfl
@[simp] theorem State.setHart_port (n : Nat) (x : Hart) : (s.setHart n x).port = s.port := rfl
@[simp] theorem State.setHart_queues (n : Nat) (x : Hart) : (s.setHart n x).queues = s.queues := rfl
@[simp] theorem State.setHart_cmds (n : Nat) (x : Hart) : (s.setHart n x).cmds = s.cmds := rfl
@[simp] theorem State.setHart_tenants (n : Nat) (x : Hart) : (s.setHart n x).tenants = s.tenants := rfl
@[simp] theorem State.setHart_buf (n : Nat) (x : Hart) : (s.setHart n x).buf = s.buf := rfl
@[simp] theorem State.setHart_pages (n : Nat) (x : Hart) : (s.setHart n x).pages = s.pages := rfl
@[simp] theorem State.setHart_lastBank (n : Nat) (x : Hart) : (s.setHart n x).lastBank = s.lastBank := rfl
@[simp] theorem State.setHart_stagings (n : Nat) (x : Hart) : (s.setHart n x).stagings = s.stagings := rfl
@[simp] theorem State.setHart_nextToken (n : Nat) (x : Hart) : (s.setHart n x).nextToken = s.nextToken := rfl
@[simp] theorem State.setHart_banks (n : Nat) (x : Hart) : (s.setHart n x).banks = s.banks := rfl
@[simp] theorem State.setHart_shed (n : Nat) (x : Hart) : (s.setHart n x).shed = s.shed := rfl
@[simp] theorem State.setHart_shedIn (n : Nat) (x : Hart) : (s.setHart n x).shedIn = s.shedIn := rfl
@[simp] theorem State.setHart_admits (n : Nat) (x : Hart) : (s.setHart n x).admits = s.admits := rfl
@[simp] theorem State.setHart_critSeen (n : Nat) (x : Hart) : (s.setHart n x).critSeen = s.critSeen := rfl
@[simp] theorem State.setHart_chans (n : Nat) (x : Hart) : (s.setHart n x).chans = s.chans := rfl
@[simp] theorem State.setHart_fifoA (n : Nat) (x : Hart) : (s.setHart n x).fifoA = s.fifoA := rfl
@[simp] theorem State.setHart_fifoB (n : Nat) (x : Hart) : (s.setHart n x).fifoB = s.fifoB := rfl
@[simp] theorem State.setHart_bushels (n : Nat) (x : Hart) : (s.setHart n x).bushels = s.bushels := rfl
@[simp] theorem State.setHart_due (n : Nat) (x : Hart) : (s.setHart n x).due = s.due := rfl
@[simp] theorem State.setHart_sys (n : Nat) (x : Hart) : (s.setHart n x).sys = s.sys := rfl
@[simp] theorem State.setHart_rwc (n : Nat) (x : Hart) : (s.setHart n x).rwc = s.rwc := rfl
@[simp] theorem State.setHart_chain (n : Nat) (x : Hart) : (s.setHart n x).chain = s.chain := rfl
@[simp] theorem State.setHart_tables (n : Nat) (x : Hart) : (s.setHart n x).tables = s.tables := rfl
@[simp] theorem State.setHart_loops (n : Nat) (x : Hart) : (s.setHart n x).loops = s.loops := rfl
@[simp] theorem State.setHart_spl (n : Nat) (x : Hart) : (s.setHart n x).spl = s.spl := rfl
@[simp] theorem State.setHart_swap (n : Nat) (x : Hart) : (s.setHart n x).swap = s.swap := rfl
@[simp] theorem State.setHart_swapClear (n : Nat) (x : Hart) : (s.setHart n x).swapClear = s.swapClear := rfl
@[simp] theorem State.setHart_shock (n : Nat) (x : Hart) : (s.setHart n x).shock = s.shock := rfl
@[simp] theorem State.setHart_spindle (n : Nat) (x : Hart) : (s.setHart n x).spindle = s.spindle := rfl
@[simp] theorem State.setHart_power (n : Nat) (x : Hart) : (s.setHart n x).power = s.power := rfl
@[simp] theorem State.setHart_dl (n : Nat) (x : Hart) : (s.setHart n x).dl = s.dl := rfl
@[simp] theorem State.setHart_ovr (n : Nat) (x : Hart) : (s.setHart n x).ovr = s.ovr := rfl
@[simp] theorem State.setHart_dict (n : Nat) (x : Hart) : (s.setHart n x).dict = s.dict := rfl
@[simp] theorem State.setHart_mtimecmp (n : Nat) (x : Hart) : (s.setHart n x).mtimecmp = s.mtimecmp := rfl
@[simp] theorem State.setHart_lmem0 (n : Nat) (x : Hart) : (s.setHart n x).lmem0 = s.lmem0 := rfl
@[simp] theorem State.setHart_lmem1 (n : Nat) (x : Hart) : (s.setHart n x).lmem1 = s.lmem1 := rfl
@[simp] theorem State.setHart_lmem2 (n : Nat) (x : Hart) : (s.setHart n x).lmem2 = s.lmem2 := rfl
@[simp] theorem State.setHart_lmem3 (n : Nat) (x : Hart) : (s.setHart n x).lmem3 = s.lmem3 := rfl
@[simp] theorem State.setHart_nor (n : Nat) (x : Hart) : (s.setHart n x).nor = s.nor := rfl
@[simp] theorem State.setHart_cache (n : Nat) (x : Hart) : (s.setHart n x).cache = s.cache := rfl
@[simp] theorem State.setHart_ecc (n : Nat) (x : Hart) : (s.setHart n x).ecc = s.ecc := rfl
@[simp] theorem State.setHart_clk (n : Nat) (x : Hart) : (s.setHart n x).clk = s.clk := rfl
@[simp] theorem State.setHart_tap (n : Nat) (x : Hart) : (s.setHart n x).tap = s.tap := rfl
@[simp] theorem State.setHart_mon (n : Nat) (x : Hart) : (s.setHart n x).mon = s.mon := rfl
@[simp] theorem State.setHart_boot (n : Nat) (x : Hart) : (s.setHart n x).boot = s.boot := rfl
@[simp] theorem State.setHart_pins (n : Nat) (x : Hart) : (s.setHart n x).pins = s.pins := rfl

/-! ### setSlot changes mon -/

@[simp] theorem State.setSlot_pending (n : Nat) (x : Slot) : (s.setSlot n x).pending = s.pending := rfl
@[simp] theorem State.setSlot_regs (n : Nat) (x : Slot) : (s.setSlot n x).regs = s.regs := rfl
@[simp] theorem State.setSlot_rdata (n : Nat) (x : Slot) : (s.setSlot n x).rdata = s.rdata := rfl
@[simp] theorem State.setSlot_freeCtr (n : Nat) (x : Slot) : (s.setSlot n x).freeCtr = s.freeCtr := rfl
@[simp] theorem State.setSlot_formed (n : Nat) (x : Slot) : (s.setSlot n x).formed = s.formed := rfl
@[simp] theorem State.setSlot_die (n : Nat) (x : Slot) : (s.setSlot n x).die = s.die := rfl
@[simp] theorem State.setSlot_time (n : Nat) (x : Slot) : (s.setSlot n x).time = s.time := rfl
@[simp] theorem State.setSlot_evr (n : Nat) (x : Slot) : (s.setSlot n x).evr = s.evr := rfl
@[simp] theorem State.setSlot_port (n : Nat) (x : Slot) : (s.setSlot n x).port = s.port := rfl
@[simp] theorem State.setSlot_queues (n : Nat) (x : Slot) : (s.setSlot n x).queues = s.queues := rfl
@[simp] theorem State.setSlot_cmds (n : Nat) (x : Slot) : (s.setSlot n x).cmds = s.cmds := rfl
@[simp] theorem State.setSlot_tenants (n : Nat) (x : Slot) : (s.setSlot n x).tenants = s.tenants := rfl
@[simp] theorem State.setSlot_buf (n : Nat) (x : Slot) : (s.setSlot n x).buf = s.buf := rfl
@[simp] theorem State.setSlot_pages (n : Nat) (x : Slot) : (s.setSlot n x).pages = s.pages := rfl
@[simp] theorem State.setSlot_lastBank (n : Nat) (x : Slot) : (s.setSlot n x).lastBank = s.lastBank := rfl
@[simp] theorem State.setSlot_stagings (n : Nat) (x : Slot) : (s.setSlot n x).stagings = s.stagings := rfl
@[simp] theorem State.setSlot_nextToken (n : Nat) (x : Slot) : (s.setSlot n x).nextToken = s.nextToken := rfl
@[simp] theorem State.setSlot_banks (n : Nat) (x : Slot) : (s.setSlot n x).banks = s.banks := rfl
@[simp] theorem State.setSlot_shed (n : Nat) (x : Slot) : (s.setSlot n x).shed = s.shed := rfl
@[simp] theorem State.setSlot_shedIn (n : Nat) (x : Slot) : (s.setSlot n x).shedIn = s.shedIn := rfl
@[simp] theorem State.setSlot_admits (n : Nat) (x : Slot) : (s.setSlot n x).admits = s.admits := rfl
@[simp] theorem State.setSlot_critSeen (n : Nat) (x : Slot) : (s.setSlot n x).critSeen = s.critSeen := rfl
@[simp] theorem State.setSlot_chans (n : Nat) (x : Slot) : (s.setSlot n x).chans = s.chans := rfl
@[simp] theorem State.setSlot_fifoA (n : Nat) (x : Slot) : (s.setSlot n x).fifoA = s.fifoA := rfl
@[simp] theorem State.setSlot_fifoB (n : Nat) (x : Slot) : (s.setSlot n x).fifoB = s.fifoB := rfl
@[simp] theorem State.setSlot_bushels (n : Nat) (x : Slot) : (s.setSlot n x).bushels = s.bushels := rfl
@[simp] theorem State.setSlot_due (n : Nat) (x : Slot) : (s.setSlot n x).due = s.due := rfl
@[simp] theorem State.setSlot_sys (n : Nat) (x : Slot) : (s.setSlot n x).sys = s.sys := rfl
@[simp] theorem State.setSlot_rwc (n : Nat) (x : Slot) : (s.setSlot n x).rwc = s.rwc := rfl
@[simp] theorem State.setSlot_chain (n : Nat) (x : Slot) : (s.setSlot n x).chain = s.chain := rfl
@[simp] theorem State.setSlot_tables (n : Nat) (x : Slot) : (s.setSlot n x).tables = s.tables := rfl
@[simp] theorem State.setSlot_loops (n : Nat) (x : Slot) : (s.setSlot n x).loops = s.loops := rfl
@[simp] theorem State.setSlot_spl (n : Nat) (x : Slot) : (s.setSlot n x).spl = s.spl := rfl
@[simp] theorem State.setSlot_swap (n : Nat) (x : Slot) : (s.setSlot n x).swap = s.swap := rfl
@[simp] theorem State.setSlot_swapClear (n : Nat) (x : Slot) : (s.setSlot n x).swapClear = s.swapClear := rfl
@[simp] theorem State.setSlot_shock (n : Nat) (x : Slot) : (s.setSlot n x).shock = s.shock := rfl
@[simp] theorem State.setSlot_spindle (n : Nat) (x : Slot) : (s.setSlot n x).spindle = s.spindle := rfl
@[simp] theorem State.setSlot_power (n : Nat) (x : Slot) : (s.setSlot n x).power = s.power := rfl
@[simp] theorem State.setSlot_dl (n : Nat) (x : Slot) : (s.setSlot n x).dl = s.dl := rfl
@[simp] theorem State.setSlot_ovr (n : Nat) (x : Slot) : (s.setSlot n x).ovr = s.ovr := rfl
@[simp] theorem State.setSlot_dict (n : Nat) (x : Slot) : (s.setSlot n x).dict = s.dict := rfl
@[simp] theorem State.setSlot_harts (n : Nat) (x : Slot) : (s.setSlot n x).harts = s.harts := rfl
@[simp] theorem State.setSlot_mtimecmp (n : Nat) (x : Slot) : (s.setSlot n x).mtimecmp = s.mtimecmp := rfl
@[simp] theorem State.setSlot_lmem0 (n : Nat) (x : Slot) : (s.setSlot n x).lmem0 = s.lmem0 := rfl
@[simp] theorem State.setSlot_lmem1 (n : Nat) (x : Slot) : (s.setSlot n x).lmem1 = s.lmem1 := rfl
@[simp] theorem State.setSlot_lmem2 (n : Nat) (x : Slot) : (s.setSlot n x).lmem2 = s.lmem2 := rfl
@[simp] theorem State.setSlot_lmem3 (n : Nat) (x : Slot) : (s.setSlot n x).lmem3 = s.lmem3 := rfl
@[simp] theorem State.setSlot_nor (n : Nat) (x : Slot) : (s.setSlot n x).nor = s.nor := rfl
@[simp] theorem State.setSlot_cache (n : Nat) (x : Slot) : (s.setSlot n x).cache = s.cache := rfl
@[simp] theorem State.setSlot_ecc (n : Nat) (x : Slot) : (s.setSlot n x).ecc = s.ecc := rfl
@[simp] theorem State.setSlot_clk (n : Nat) (x : Slot) : (s.setSlot n x).clk = s.clk := rfl
@[simp] theorem State.setSlot_tap (n : Nat) (x : Slot) : (s.setSlot n x).tap = s.tap := rfl
@[simp] theorem State.setSlot_boot (n : Nat) (x : Slot) : (s.setSlot n x).boot = s.boot := rfl
@[simp] theorem State.setSlot_pins (n : Nat) (x : Slot) : (s.setSlot n x).pins = s.pins := rfl

/-! ### setBank changes banks -/

@[simp] theorem State.setBank_pending (n : Nat) (x : Bank) : (s.setBank n x).pending = s.pending := rfl
@[simp] theorem State.setBank_regs (n : Nat) (x : Bank) : (s.setBank n x).regs = s.regs := rfl
@[simp] theorem State.setBank_rdata (n : Nat) (x : Bank) : (s.setBank n x).rdata = s.rdata := rfl
@[simp] theorem State.setBank_freeCtr (n : Nat) (x : Bank) : (s.setBank n x).freeCtr = s.freeCtr := rfl
@[simp] theorem State.setBank_formed (n : Nat) (x : Bank) : (s.setBank n x).formed = s.formed := rfl
@[simp] theorem State.setBank_die (n : Nat) (x : Bank) : (s.setBank n x).die = s.die := rfl
@[simp] theorem State.setBank_time (n : Nat) (x : Bank) : (s.setBank n x).time = s.time := rfl
@[simp] theorem State.setBank_evr (n : Nat) (x : Bank) : (s.setBank n x).evr = s.evr := rfl
@[simp] theorem State.setBank_port (n : Nat) (x : Bank) : (s.setBank n x).port = s.port := rfl
@[simp] theorem State.setBank_queues (n : Nat) (x : Bank) : (s.setBank n x).queues = s.queues := rfl
@[simp] theorem State.setBank_cmds (n : Nat) (x : Bank) : (s.setBank n x).cmds = s.cmds := rfl
@[simp] theorem State.setBank_tenants (n : Nat) (x : Bank) : (s.setBank n x).tenants = s.tenants := rfl
@[simp] theorem State.setBank_buf (n : Nat) (x : Bank) : (s.setBank n x).buf = s.buf := rfl
@[simp] theorem State.setBank_pages (n : Nat) (x : Bank) : (s.setBank n x).pages = s.pages := rfl
@[simp] theorem State.setBank_lastBank (n : Nat) (x : Bank) : (s.setBank n x).lastBank = s.lastBank := rfl
@[simp] theorem State.setBank_stagings (n : Nat) (x : Bank) : (s.setBank n x).stagings = s.stagings := rfl
@[simp] theorem State.setBank_nextToken (n : Nat) (x : Bank) : (s.setBank n x).nextToken = s.nextToken := rfl
@[simp] theorem State.setBank_shed (n : Nat) (x : Bank) : (s.setBank n x).shed = s.shed := rfl
@[simp] theorem State.setBank_shedIn (n : Nat) (x : Bank) : (s.setBank n x).shedIn = s.shedIn := rfl
@[simp] theorem State.setBank_admits (n : Nat) (x : Bank) : (s.setBank n x).admits = s.admits := rfl
@[simp] theorem State.setBank_critSeen (n : Nat) (x : Bank) : (s.setBank n x).critSeen = s.critSeen := rfl
@[simp] theorem State.setBank_chans (n : Nat) (x : Bank) : (s.setBank n x).chans = s.chans := rfl
@[simp] theorem State.setBank_fifoA (n : Nat) (x : Bank) : (s.setBank n x).fifoA = s.fifoA := rfl
@[simp] theorem State.setBank_fifoB (n : Nat) (x : Bank) : (s.setBank n x).fifoB = s.fifoB := rfl
@[simp] theorem State.setBank_bushels (n : Nat) (x : Bank) : (s.setBank n x).bushels = s.bushels := rfl
@[simp] theorem State.setBank_due (n : Nat) (x : Bank) : (s.setBank n x).due = s.due := rfl
@[simp] theorem State.setBank_sys (n : Nat) (x : Bank) : (s.setBank n x).sys = s.sys := rfl
@[simp] theorem State.setBank_rwc (n : Nat) (x : Bank) : (s.setBank n x).rwc = s.rwc := rfl
@[simp] theorem State.setBank_chain (n : Nat) (x : Bank) : (s.setBank n x).chain = s.chain := rfl
@[simp] theorem State.setBank_tables (n : Nat) (x : Bank) : (s.setBank n x).tables = s.tables := rfl
@[simp] theorem State.setBank_loops (n : Nat) (x : Bank) : (s.setBank n x).loops = s.loops := rfl
@[simp] theorem State.setBank_spl (n : Nat) (x : Bank) : (s.setBank n x).spl = s.spl := rfl
@[simp] theorem State.setBank_swap (n : Nat) (x : Bank) : (s.setBank n x).swap = s.swap := rfl
@[simp] theorem State.setBank_swapClear (n : Nat) (x : Bank) : (s.setBank n x).swapClear = s.swapClear := rfl
@[simp] theorem State.setBank_shock (n : Nat) (x : Bank) : (s.setBank n x).shock = s.shock := rfl
@[simp] theorem State.setBank_spindle (n : Nat) (x : Bank) : (s.setBank n x).spindle = s.spindle := rfl
@[simp] theorem State.setBank_power (n : Nat) (x : Bank) : (s.setBank n x).power = s.power := rfl
@[simp] theorem State.setBank_dl (n : Nat) (x : Bank) : (s.setBank n x).dl = s.dl := rfl
@[simp] theorem State.setBank_ovr (n : Nat) (x : Bank) : (s.setBank n x).ovr = s.ovr := rfl
@[simp] theorem State.setBank_dict (n : Nat) (x : Bank) : (s.setBank n x).dict = s.dict := rfl
@[simp] theorem State.setBank_harts (n : Nat) (x : Bank) : (s.setBank n x).harts = s.harts := rfl
@[simp] theorem State.setBank_mtimecmp (n : Nat) (x : Bank) : (s.setBank n x).mtimecmp = s.mtimecmp := rfl
@[simp] theorem State.setBank_lmem0 (n : Nat) (x : Bank) : (s.setBank n x).lmem0 = s.lmem0 := rfl
@[simp] theorem State.setBank_lmem1 (n : Nat) (x : Bank) : (s.setBank n x).lmem1 = s.lmem1 := rfl
@[simp] theorem State.setBank_lmem2 (n : Nat) (x : Bank) : (s.setBank n x).lmem2 = s.lmem2 := rfl
@[simp] theorem State.setBank_lmem3 (n : Nat) (x : Bank) : (s.setBank n x).lmem3 = s.lmem3 := rfl
@[simp] theorem State.setBank_nor (n : Nat) (x : Bank) : (s.setBank n x).nor = s.nor := rfl
@[simp] theorem State.setBank_cache (n : Nat) (x : Bank) : (s.setBank n x).cache = s.cache := rfl
@[simp] theorem State.setBank_ecc (n : Nat) (x : Bank) : (s.setBank n x).ecc = s.ecc := rfl
@[simp] theorem State.setBank_clk (n : Nat) (x : Bank) : (s.setBank n x).clk = s.clk := rfl
@[simp] theorem State.setBank_tap (n : Nat) (x : Bank) : (s.setBank n x).tap = s.tap := rfl
@[simp] theorem State.setBank_mon (n : Nat) (x : Bank) : (s.setBank n x).mon = s.mon := rfl
@[simp] theorem State.setBank_boot (n : Nat) (x : Bank) : (s.setBank n x).boot = s.boot := rfl
@[simp] theorem State.setBank_pins (n : Nat) (x : Bank) : (s.setBank n x).pins = s.pins := rfl

/-! ### setShed changes shed -/

@[simp] theorem State.setShed_pending (n : Nat) (x : Shed) : (s.setShed n x).pending = s.pending := rfl
@[simp] theorem State.setShed_regs (n : Nat) (x : Shed) : (s.setShed n x).regs = s.regs := rfl
@[simp] theorem State.setShed_rdata (n : Nat) (x : Shed) : (s.setShed n x).rdata = s.rdata := rfl
@[simp] theorem State.setShed_freeCtr (n : Nat) (x : Shed) : (s.setShed n x).freeCtr = s.freeCtr := rfl
@[simp] theorem State.setShed_formed (n : Nat) (x : Shed) : (s.setShed n x).formed = s.formed := rfl
@[simp] theorem State.setShed_die (n : Nat) (x : Shed) : (s.setShed n x).die = s.die := rfl
@[simp] theorem State.setShed_time (n : Nat) (x : Shed) : (s.setShed n x).time = s.time := rfl
@[simp] theorem State.setShed_evr (n : Nat) (x : Shed) : (s.setShed n x).evr = s.evr := rfl
@[simp] theorem State.setShed_port (n : Nat) (x : Shed) : (s.setShed n x).port = s.port := rfl
@[simp] theorem State.setShed_queues (n : Nat) (x : Shed) : (s.setShed n x).queues = s.queues := rfl
@[simp] theorem State.setShed_cmds (n : Nat) (x : Shed) : (s.setShed n x).cmds = s.cmds := rfl
@[simp] theorem State.setShed_tenants (n : Nat) (x : Shed) : (s.setShed n x).tenants = s.tenants := rfl
@[simp] theorem State.setShed_buf (n : Nat) (x : Shed) : (s.setShed n x).buf = s.buf := rfl
@[simp] theorem State.setShed_pages (n : Nat) (x : Shed) : (s.setShed n x).pages = s.pages := rfl
@[simp] theorem State.setShed_lastBank (n : Nat) (x : Shed) : (s.setShed n x).lastBank = s.lastBank := rfl
@[simp] theorem State.setShed_stagings (n : Nat) (x : Shed) : (s.setShed n x).stagings = s.stagings := rfl
@[simp] theorem State.setShed_nextToken (n : Nat) (x : Shed) : (s.setShed n x).nextToken = s.nextToken := rfl
@[simp] theorem State.setShed_banks (n : Nat) (x : Shed) : (s.setShed n x).banks = s.banks := rfl
@[simp] theorem State.setShed_shedIn (n : Nat) (x : Shed) : (s.setShed n x).shedIn = s.shedIn := rfl
@[simp] theorem State.setShed_admits (n : Nat) (x : Shed) : (s.setShed n x).admits = s.admits := rfl
@[simp] theorem State.setShed_critSeen (n : Nat) (x : Shed) : (s.setShed n x).critSeen = s.critSeen := rfl
@[simp] theorem State.setShed_chans (n : Nat) (x : Shed) : (s.setShed n x).chans = s.chans := rfl
@[simp] theorem State.setShed_fifoA (n : Nat) (x : Shed) : (s.setShed n x).fifoA = s.fifoA := rfl
@[simp] theorem State.setShed_fifoB (n : Nat) (x : Shed) : (s.setShed n x).fifoB = s.fifoB := rfl
@[simp] theorem State.setShed_bushels (n : Nat) (x : Shed) : (s.setShed n x).bushels = s.bushels := rfl
@[simp] theorem State.setShed_due (n : Nat) (x : Shed) : (s.setShed n x).due = s.due := rfl
@[simp] theorem State.setShed_sys (n : Nat) (x : Shed) : (s.setShed n x).sys = s.sys := rfl
@[simp] theorem State.setShed_rwc (n : Nat) (x : Shed) : (s.setShed n x).rwc = s.rwc := rfl
@[simp] theorem State.setShed_chain (n : Nat) (x : Shed) : (s.setShed n x).chain = s.chain := rfl
@[simp] theorem State.setShed_tables (n : Nat) (x : Shed) : (s.setShed n x).tables = s.tables := rfl
@[simp] theorem State.setShed_loops (n : Nat) (x : Shed) : (s.setShed n x).loops = s.loops := rfl
@[simp] theorem State.setShed_spl (n : Nat) (x : Shed) : (s.setShed n x).spl = s.spl := rfl
@[simp] theorem State.setShed_swap (n : Nat) (x : Shed) : (s.setShed n x).swap = s.swap := rfl
@[simp] theorem State.setShed_swapClear (n : Nat) (x : Shed) : (s.setShed n x).swapClear = s.swapClear := rfl
@[simp] theorem State.setShed_shock (n : Nat) (x : Shed) : (s.setShed n x).shock = s.shock := rfl
@[simp] theorem State.setShed_spindle (n : Nat) (x : Shed) : (s.setShed n x).spindle = s.spindle := rfl
@[simp] theorem State.setShed_power (n : Nat) (x : Shed) : (s.setShed n x).power = s.power := rfl
@[simp] theorem State.setShed_dl (n : Nat) (x : Shed) : (s.setShed n x).dl = s.dl := rfl
@[simp] theorem State.setShed_ovr (n : Nat) (x : Shed) : (s.setShed n x).ovr = s.ovr := rfl
@[simp] theorem State.setShed_dict (n : Nat) (x : Shed) : (s.setShed n x).dict = s.dict := rfl
@[simp] theorem State.setShed_harts (n : Nat) (x : Shed) : (s.setShed n x).harts = s.harts := rfl
@[simp] theorem State.setShed_mtimecmp (n : Nat) (x : Shed) : (s.setShed n x).mtimecmp = s.mtimecmp := rfl
@[simp] theorem State.setShed_lmem0 (n : Nat) (x : Shed) : (s.setShed n x).lmem0 = s.lmem0 := rfl
@[simp] theorem State.setShed_lmem1 (n : Nat) (x : Shed) : (s.setShed n x).lmem1 = s.lmem1 := rfl
@[simp] theorem State.setShed_lmem2 (n : Nat) (x : Shed) : (s.setShed n x).lmem2 = s.lmem2 := rfl
@[simp] theorem State.setShed_lmem3 (n : Nat) (x : Shed) : (s.setShed n x).lmem3 = s.lmem3 := rfl
@[simp] theorem State.setShed_nor (n : Nat) (x : Shed) : (s.setShed n x).nor = s.nor := rfl
@[simp] theorem State.setShed_cache (n : Nat) (x : Shed) : (s.setShed n x).cache = s.cache := rfl
@[simp] theorem State.setShed_ecc (n : Nat) (x : Shed) : (s.setShed n x).ecc = s.ecc := rfl
@[simp] theorem State.setShed_clk (n : Nat) (x : Shed) : (s.setShed n x).clk = s.clk := rfl
@[simp] theorem State.setShed_tap (n : Nat) (x : Shed) : (s.setShed n x).tap = s.tap := rfl
@[simp] theorem State.setShed_mon (n : Nat) (x : Shed) : (s.setShed n x).mon = s.mon := rfl
@[simp] theorem State.setShed_boot (n : Nat) (x : Shed) : (s.setShed n x).boot = s.boot := rfl
@[simp] theorem State.setShed_pins (n : Nat) (x : Shed) : (s.setShed n x).pins = s.pins := rfl

/-! ### setShedIn changes shedIn -/

@[simp] theorem State.setShedIn_pending (n : Nat) (x : Shed) : (s.setShedIn n x).pending = s.pending := rfl
@[simp] theorem State.setShedIn_regs (n : Nat) (x : Shed) : (s.setShedIn n x).regs = s.regs := rfl
@[simp] theorem State.setShedIn_rdata (n : Nat) (x : Shed) : (s.setShedIn n x).rdata = s.rdata := rfl
@[simp] theorem State.setShedIn_freeCtr (n : Nat) (x : Shed) : (s.setShedIn n x).freeCtr = s.freeCtr := rfl
@[simp] theorem State.setShedIn_formed (n : Nat) (x : Shed) : (s.setShedIn n x).formed = s.formed := rfl
@[simp] theorem State.setShedIn_die (n : Nat) (x : Shed) : (s.setShedIn n x).die = s.die := rfl
@[simp] theorem State.setShedIn_time (n : Nat) (x : Shed) : (s.setShedIn n x).time = s.time := rfl
@[simp] theorem State.setShedIn_evr (n : Nat) (x : Shed) : (s.setShedIn n x).evr = s.evr := rfl
@[simp] theorem State.setShedIn_port (n : Nat) (x : Shed) : (s.setShedIn n x).port = s.port := rfl
@[simp] theorem State.setShedIn_queues (n : Nat) (x : Shed) : (s.setShedIn n x).queues = s.queues := rfl
@[simp] theorem State.setShedIn_cmds (n : Nat) (x : Shed) : (s.setShedIn n x).cmds = s.cmds := rfl
@[simp] theorem State.setShedIn_tenants (n : Nat) (x : Shed) : (s.setShedIn n x).tenants = s.tenants := rfl
@[simp] theorem State.setShedIn_buf (n : Nat) (x : Shed) : (s.setShedIn n x).buf = s.buf := rfl
@[simp] theorem State.setShedIn_pages (n : Nat) (x : Shed) : (s.setShedIn n x).pages = s.pages := rfl
@[simp] theorem State.setShedIn_lastBank (n : Nat) (x : Shed) : (s.setShedIn n x).lastBank = s.lastBank := rfl
@[simp] theorem State.setShedIn_stagings (n : Nat) (x : Shed) : (s.setShedIn n x).stagings = s.stagings := rfl
@[simp] theorem State.setShedIn_nextToken (n : Nat) (x : Shed) : (s.setShedIn n x).nextToken = s.nextToken := rfl
@[simp] theorem State.setShedIn_banks (n : Nat) (x : Shed) : (s.setShedIn n x).banks = s.banks := rfl
@[simp] theorem State.setShedIn_shed (n : Nat) (x : Shed) : (s.setShedIn n x).shed = s.shed := rfl
@[simp] theorem State.setShedIn_admits (n : Nat) (x : Shed) : (s.setShedIn n x).admits = s.admits := rfl
@[simp] theorem State.setShedIn_critSeen (n : Nat) (x : Shed) : (s.setShedIn n x).critSeen = s.critSeen := rfl
@[simp] theorem State.setShedIn_chans (n : Nat) (x : Shed) : (s.setShedIn n x).chans = s.chans := rfl
@[simp] theorem State.setShedIn_fifoA (n : Nat) (x : Shed) : (s.setShedIn n x).fifoA = s.fifoA := rfl
@[simp] theorem State.setShedIn_fifoB (n : Nat) (x : Shed) : (s.setShedIn n x).fifoB = s.fifoB := rfl
@[simp] theorem State.setShedIn_bushels (n : Nat) (x : Shed) : (s.setShedIn n x).bushels = s.bushels := rfl
@[simp] theorem State.setShedIn_due (n : Nat) (x : Shed) : (s.setShedIn n x).due = s.due := rfl
@[simp] theorem State.setShedIn_sys (n : Nat) (x : Shed) : (s.setShedIn n x).sys = s.sys := rfl
@[simp] theorem State.setShedIn_rwc (n : Nat) (x : Shed) : (s.setShedIn n x).rwc = s.rwc := rfl
@[simp] theorem State.setShedIn_chain (n : Nat) (x : Shed) : (s.setShedIn n x).chain = s.chain := rfl
@[simp] theorem State.setShedIn_tables (n : Nat) (x : Shed) : (s.setShedIn n x).tables = s.tables := rfl
@[simp] theorem State.setShedIn_loops (n : Nat) (x : Shed) : (s.setShedIn n x).loops = s.loops := rfl
@[simp] theorem State.setShedIn_spl (n : Nat) (x : Shed) : (s.setShedIn n x).spl = s.spl := rfl
@[simp] theorem State.setShedIn_swap (n : Nat) (x : Shed) : (s.setShedIn n x).swap = s.swap := rfl
@[simp] theorem State.setShedIn_swapClear (n : Nat) (x : Shed) : (s.setShedIn n x).swapClear = s.swapClear := rfl
@[simp] theorem State.setShedIn_shock (n : Nat) (x : Shed) : (s.setShedIn n x).shock = s.shock := rfl
@[simp] theorem State.setShedIn_spindle (n : Nat) (x : Shed) : (s.setShedIn n x).spindle = s.spindle := rfl
@[simp] theorem State.setShedIn_power (n : Nat) (x : Shed) : (s.setShedIn n x).power = s.power := rfl
@[simp] theorem State.setShedIn_dl (n : Nat) (x : Shed) : (s.setShedIn n x).dl = s.dl := rfl
@[simp] theorem State.setShedIn_ovr (n : Nat) (x : Shed) : (s.setShedIn n x).ovr = s.ovr := rfl
@[simp] theorem State.setShedIn_dict (n : Nat) (x : Shed) : (s.setShedIn n x).dict = s.dict := rfl
@[simp] theorem State.setShedIn_harts (n : Nat) (x : Shed) : (s.setShedIn n x).harts = s.harts := rfl
@[simp] theorem State.setShedIn_mtimecmp (n : Nat) (x : Shed) : (s.setShedIn n x).mtimecmp = s.mtimecmp := rfl
@[simp] theorem State.setShedIn_lmem0 (n : Nat) (x : Shed) : (s.setShedIn n x).lmem0 = s.lmem0 := rfl
@[simp] theorem State.setShedIn_lmem1 (n : Nat) (x : Shed) : (s.setShedIn n x).lmem1 = s.lmem1 := rfl
@[simp] theorem State.setShedIn_lmem2 (n : Nat) (x : Shed) : (s.setShedIn n x).lmem2 = s.lmem2 := rfl
@[simp] theorem State.setShedIn_lmem3 (n : Nat) (x : Shed) : (s.setShedIn n x).lmem3 = s.lmem3 := rfl
@[simp] theorem State.setShedIn_nor (n : Nat) (x : Shed) : (s.setShedIn n x).nor = s.nor := rfl
@[simp] theorem State.setShedIn_cache (n : Nat) (x : Shed) : (s.setShedIn n x).cache = s.cache := rfl
@[simp] theorem State.setShedIn_ecc (n : Nat) (x : Shed) : (s.setShedIn n x).ecc = s.ecc := rfl
@[simp] theorem State.setShedIn_clk (n : Nat) (x : Shed) : (s.setShedIn n x).clk = s.clk := rfl
@[simp] theorem State.setShedIn_tap (n : Nat) (x : Shed) : (s.setShedIn n x).tap = s.tap := rfl
@[simp] theorem State.setShedIn_mon (n : Nat) (x : Shed) : (s.setShedIn n x).mon = s.mon := rfl
@[simp] theorem State.setShedIn_boot (n : Nat) (x : Shed) : (s.setShedIn n x).boot = s.boot := rfl
@[simp] theorem State.setShedIn_pins (n : Nat) (x : Shed) : (s.setShedIn n x).pins = s.pins := rfl

/-! ### modPort changes port -/

@[simp] theorem State.modPort_pending (f : Port → Port) : (s.modPort f).pending = s.pending := rfl
@[simp] theorem State.modPort_regs (f : Port → Port) : (s.modPort f).regs = s.regs := rfl
@[simp] theorem State.modPort_rdata (f : Port → Port) : (s.modPort f).rdata = s.rdata := rfl
@[simp] theorem State.modPort_freeCtr (f : Port → Port) : (s.modPort f).freeCtr = s.freeCtr := rfl
@[simp] theorem State.modPort_formed (f : Port → Port) : (s.modPort f).formed = s.formed := rfl
@[simp] theorem State.modPort_die (f : Port → Port) : (s.modPort f).die = s.die := rfl
@[simp] theorem State.modPort_time (f : Port → Port) : (s.modPort f).time = s.time := rfl
@[simp] theorem State.modPort_evr (f : Port → Port) : (s.modPort f).evr = s.evr := rfl
@[simp] theorem State.modPort_queues (f : Port → Port) : (s.modPort f).queues = s.queues := rfl
@[simp] theorem State.modPort_cmds (f : Port → Port) : (s.modPort f).cmds = s.cmds := rfl
@[simp] theorem State.modPort_tenants (f : Port → Port) : (s.modPort f).tenants = s.tenants := rfl
@[simp] theorem State.modPort_buf (f : Port → Port) : (s.modPort f).buf = s.buf := rfl
@[simp] theorem State.modPort_pages (f : Port → Port) : (s.modPort f).pages = s.pages := rfl
@[simp] theorem State.modPort_lastBank (f : Port → Port) : (s.modPort f).lastBank = s.lastBank := rfl
@[simp] theorem State.modPort_stagings (f : Port → Port) : (s.modPort f).stagings = s.stagings := rfl
@[simp] theorem State.modPort_nextToken (f : Port → Port) : (s.modPort f).nextToken = s.nextToken := rfl
@[simp] theorem State.modPort_banks (f : Port → Port) : (s.modPort f).banks = s.banks := rfl
@[simp] theorem State.modPort_shed (f : Port → Port) : (s.modPort f).shed = s.shed := rfl
@[simp] theorem State.modPort_shedIn (f : Port → Port) : (s.modPort f).shedIn = s.shedIn := rfl
@[simp] theorem State.modPort_admits (f : Port → Port) : (s.modPort f).admits = s.admits := rfl
@[simp] theorem State.modPort_critSeen (f : Port → Port) : (s.modPort f).critSeen = s.critSeen := rfl
@[simp] theorem State.modPort_chans (f : Port → Port) : (s.modPort f).chans = s.chans := rfl
@[simp] theorem State.modPort_fifoA (f : Port → Port) : (s.modPort f).fifoA = s.fifoA := rfl
@[simp] theorem State.modPort_fifoB (f : Port → Port) : (s.modPort f).fifoB = s.fifoB := rfl
@[simp] theorem State.modPort_bushels (f : Port → Port) : (s.modPort f).bushels = s.bushels := rfl
@[simp] theorem State.modPort_due (f : Port → Port) : (s.modPort f).due = s.due := rfl
@[simp] theorem State.modPort_sys (f : Port → Port) : (s.modPort f).sys = s.sys := rfl
@[simp] theorem State.modPort_rwc (f : Port → Port) : (s.modPort f).rwc = s.rwc := rfl
@[simp] theorem State.modPort_chain (f : Port → Port) : (s.modPort f).chain = s.chain := rfl
@[simp] theorem State.modPort_tables (f : Port → Port) : (s.modPort f).tables = s.tables := rfl
@[simp] theorem State.modPort_loops (f : Port → Port) : (s.modPort f).loops = s.loops := rfl
@[simp] theorem State.modPort_spl (f : Port → Port) : (s.modPort f).spl = s.spl := rfl
@[simp] theorem State.modPort_swap (f : Port → Port) : (s.modPort f).swap = s.swap := rfl
@[simp] theorem State.modPort_swapClear (f : Port → Port) : (s.modPort f).swapClear = s.swapClear := rfl
@[simp] theorem State.modPort_shock (f : Port → Port) : (s.modPort f).shock = s.shock := rfl
@[simp] theorem State.modPort_spindle (f : Port → Port) : (s.modPort f).spindle = s.spindle := rfl
@[simp] theorem State.modPort_power (f : Port → Port) : (s.modPort f).power = s.power := rfl
@[simp] theorem State.modPort_dl (f : Port → Port) : (s.modPort f).dl = s.dl := rfl
@[simp] theorem State.modPort_ovr (f : Port → Port) : (s.modPort f).ovr = s.ovr := rfl
@[simp] theorem State.modPort_dict (f : Port → Port) : (s.modPort f).dict = s.dict := rfl
@[simp] theorem State.modPort_harts (f : Port → Port) : (s.modPort f).harts = s.harts := rfl
@[simp] theorem State.modPort_mtimecmp (f : Port → Port) : (s.modPort f).mtimecmp = s.mtimecmp := rfl
@[simp] theorem State.modPort_lmem0 (f : Port → Port) : (s.modPort f).lmem0 = s.lmem0 := rfl
@[simp] theorem State.modPort_lmem1 (f : Port → Port) : (s.modPort f).lmem1 = s.lmem1 := rfl
@[simp] theorem State.modPort_lmem2 (f : Port → Port) : (s.modPort f).lmem2 = s.lmem2 := rfl
@[simp] theorem State.modPort_lmem3 (f : Port → Port) : (s.modPort f).lmem3 = s.lmem3 := rfl
@[simp] theorem State.modPort_nor (f : Port → Port) : (s.modPort f).nor = s.nor := rfl
@[simp] theorem State.modPort_cache (f : Port → Port) : (s.modPort f).cache = s.cache := rfl
@[simp] theorem State.modPort_ecc (f : Port → Port) : (s.modPort f).ecc = s.ecc := rfl
@[simp] theorem State.modPort_clk (f : Port → Port) : (s.modPort f).clk = s.clk := rfl
@[simp] theorem State.modPort_tap (f : Port → Port) : (s.modPort f).tap = s.tap := rfl
@[simp] theorem State.modPort_mon (f : Port → Port) : (s.modPort f).mon = s.mon := rfl
@[simp] theorem State.modPort_boot (f : Port → Port) : (s.modPort f).boot = s.boot := rfl
@[simp] theorem State.modPort_pins (f : Port → Port) : (s.modPort f).pins = s.pins := rfl

/-! ### modSpn changes spindle -/

@[simp] theorem State.modSpn_pending (f : Spindle → Spindle) : (s.modSpn f).pending = s.pending := rfl
@[simp] theorem State.modSpn_regs (f : Spindle → Spindle) : (s.modSpn f).regs = s.regs := rfl
@[simp] theorem State.modSpn_rdata (f : Spindle → Spindle) : (s.modSpn f).rdata = s.rdata := rfl
@[simp] theorem State.modSpn_freeCtr (f : Spindle → Spindle) : (s.modSpn f).freeCtr = s.freeCtr := rfl
@[simp] theorem State.modSpn_formed (f : Spindle → Spindle) : (s.modSpn f).formed = s.formed := rfl
@[simp] theorem State.modSpn_die (f : Spindle → Spindle) : (s.modSpn f).die = s.die := rfl
@[simp] theorem State.modSpn_time (f : Spindle → Spindle) : (s.modSpn f).time = s.time := rfl
@[simp] theorem State.modSpn_evr (f : Spindle → Spindle) : (s.modSpn f).evr = s.evr := rfl
@[simp] theorem State.modSpn_port (f : Spindle → Spindle) : (s.modSpn f).port = s.port := rfl
@[simp] theorem State.modSpn_queues (f : Spindle → Spindle) : (s.modSpn f).queues = s.queues := rfl
@[simp] theorem State.modSpn_cmds (f : Spindle → Spindle) : (s.modSpn f).cmds = s.cmds := rfl
@[simp] theorem State.modSpn_tenants (f : Spindle → Spindle) : (s.modSpn f).tenants = s.tenants := rfl
@[simp] theorem State.modSpn_buf (f : Spindle → Spindle) : (s.modSpn f).buf = s.buf := rfl
@[simp] theorem State.modSpn_pages (f : Spindle → Spindle) : (s.modSpn f).pages = s.pages := rfl
@[simp] theorem State.modSpn_lastBank (f : Spindle → Spindle) : (s.modSpn f).lastBank = s.lastBank := rfl
@[simp] theorem State.modSpn_stagings (f : Spindle → Spindle) : (s.modSpn f).stagings = s.stagings := rfl
@[simp] theorem State.modSpn_nextToken (f : Spindle → Spindle) : (s.modSpn f).nextToken = s.nextToken := rfl
@[simp] theorem State.modSpn_banks (f : Spindle → Spindle) : (s.modSpn f).banks = s.banks := rfl
@[simp] theorem State.modSpn_shed (f : Spindle → Spindle) : (s.modSpn f).shed = s.shed := rfl
@[simp] theorem State.modSpn_shedIn (f : Spindle → Spindle) : (s.modSpn f).shedIn = s.shedIn := rfl
@[simp] theorem State.modSpn_admits (f : Spindle → Spindle) : (s.modSpn f).admits = s.admits := rfl
@[simp] theorem State.modSpn_critSeen (f : Spindle → Spindle) : (s.modSpn f).critSeen = s.critSeen := rfl
@[simp] theorem State.modSpn_chans (f : Spindle → Spindle) : (s.modSpn f).chans = s.chans := rfl
@[simp] theorem State.modSpn_fifoA (f : Spindle → Spindle) : (s.modSpn f).fifoA = s.fifoA := rfl
@[simp] theorem State.modSpn_fifoB (f : Spindle → Spindle) : (s.modSpn f).fifoB = s.fifoB := rfl
@[simp] theorem State.modSpn_bushels (f : Spindle → Spindle) : (s.modSpn f).bushels = s.bushels := rfl
@[simp] theorem State.modSpn_due (f : Spindle → Spindle) : (s.modSpn f).due = s.due := rfl
@[simp] theorem State.modSpn_sys (f : Spindle → Spindle) : (s.modSpn f).sys = s.sys := rfl
@[simp] theorem State.modSpn_rwc (f : Spindle → Spindle) : (s.modSpn f).rwc = s.rwc := rfl
@[simp] theorem State.modSpn_chain (f : Spindle → Spindle) : (s.modSpn f).chain = s.chain := rfl
@[simp] theorem State.modSpn_tables (f : Spindle → Spindle) : (s.modSpn f).tables = s.tables := rfl
@[simp] theorem State.modSpn_loops (f : Spindle → Spindle) : (s.modSpn f).loops = s.loops := rfl
@[simp] theorem State.modSpn_spl (f : Spindle → Spindle) : (s.modSpn f).spl = s.spl := rfl
@[simp] theorem State.modSpn_swap (f : Spindle → Spindle) : (s.modSpn f).swap = s.swap := rfl
@[simp] theorem State.modSpn_swapClear (f : Spindle → Spindle) : (s.modSpn f).swapClear = s.swapClear := rfl
@[simp] theorem State.modSpn_shock (f : Spindle → Spindle) : (s.modSpn f).shock = s.shock := rfl
@[simp] theorem State.modSpn_power (f : Spindle → Spindle) : (s.modSpn f).power = s.power := rfl
@[simp] theorem State.modSpn_dl (f : Spindle → Spindle) : (s.modSpn f).dl = s.dl := rfl
@[simp] theorem State.modSpn_ovr (f : Spindle → Spindle) : (s.modSpn f).ovr = s.ovr := rfl
@[simp] theorem State.modSpn_dict (f : Spindle → Spindle) : (s.modSpn f).dict = s.dict := rfl
@[simp] theorem State.modSpn_harts (f : Spindle → Spindle) : (s.modSpn f).harts = s.harts := rfl
@[simp] theorem State.modSpn_mtimecmp (f : Spindle → Spindle) : (s.modSpn f).mtimecmp = s.mtimecmp := rfl
@[simp] theorem State.modSpn_lmem0 (f : Spindle → Spindle) : (s.modSpn f).lmem0 = s.lmem0 := rfl
@[simp] theorem State.modSpn_lmem1 (f : Spindle → Spindle) : (s.modSpn f).lmem1 = s.lmem1 := rfl
@[simp] theorem State.modSpn_lmem2 (f : Spindle → Spindle) : (s.modSpn f).lmem2 = s.lmem2 := rfl
@[simp] theorem State.modSpn_lmem3 (f : Spindle → Spindle) : (s.modSpn f).lmem3 = s.lmem3 := rfl
@[simp] theorem State.modSpn_nor (f : Spindle → Spindle) : (s.modSpn f).nor = s.nor := rfl
@[simp] theorem State.modSpn_cache (f : Spindle → Spindle) : (s.modSpn f).cache = s.cache := rfl
@[simp] theorem State.modSpn_ecc (f : Spindle → Spindle) : (s.modSpn f).ecc = s.ecc := rfl
@[simp] theorem State.modSpn_clk (f : Spindle → Spindle) : (s.modSpn f).clk = s.clk := rfl
@[simp] theorem State.modSpn_tap (f : Spindle → Spindle) : (s.modSpn f).tap = s.tap := rfl
@[simp] theorem State.modSpn_mon (f : Spindle → Spindle) : (s.modSpn f).mon = s.mon := rfl
@[simp] theorem State.modSpn_boot (f : Spindle → Spindle) : (s.modSpn f).boot = s.boot := rfl
@[simp] theorem State.modSpn_pins (f : Spindle → Spindle) : (s.modSpn f).pins = s.pins := rfl

/-! ### raise changes regs -/

@[simp] theorem State.raise_pending (f : Field) (i : Nat) : (s.raise f i).pending = s.pending := rfl
@[simp] theorem State.raise_rdata (f : Field) (i : Nat) : (s.raise f i).rdata = s.rdata := rfl
@[simp] theorem State.raise_freeCtr (f : Field) (i : Nat) : (s.raise f i).freeCtr = s.freeCtr := rfl
@[simp] theorem State.raise_formed (f : Field) (i : Nat) : (s.raise f i).formed = s.formed := rfl
@[simp] theorem State.raise_die (f : Field) (i : Nat) : (s.raise f i).die = s.die := rfl
@[simp] theorem State.raise_time (f : Field) (i : Nat) : (s.raise f i).time = s.time := rfl
@[simp] theorem State.raise_evr (f : Field) (i : Nat) : (s.raise f i).evr = s.evr := rfl
@[simp] theorem State.raise_port (f : Field) (i : Nat) : (s.raise f i).port = s.port := rfl
@[simp] theorem State.raise_queues (f : Field) (i : Nat) : (s.raise f i).queues = s.queues := rfl
@[simp] theorem State.raise_cmds (f : Field) (i : Nat) : (s.raise f i).cmds = s.cmds := rfl
@[simp] theorem State.raise_tenants (f : Field) (i : Nat) : (s.raise f i).tenants = s.tenants := rfl
@[simp] theorem State.raise_buf (f : Field) (i : Nat) : (s.raise f i).buf = s.buf := rfl
@[simp] theorem State.raise_pages (f : Field) (i : Nat) : (s.raise f i).pages = s.pages := rfl
@[simp] theorem State.raise_lastBank (f : Field) (i : Nat) : (s.raise f i).lastBank = s.lastBank := rfl
@[simp] theorem State.raise_stagings (f : Field) (i : Nat) : (s.raise f i).stagings = s.stagings := rfl
@[simp] theorem State.raise_nextToken (f : Field) (i : Nat) : (s.raise f i).nextToken = s.nextToken := rfl
@[simp] theorem State.raise_banks (f : Field) (i : Nat) : (s.raise f i).banks = s.banks := rfl
@[simp] theorem State.raise_shed (f : Field) (i : Nat) : (s.raise f i).shed = s.shed := rfl
@[simp] theorem State.raise_shedIn (f : Field) (i : Nat) : (s.raise f i).shedIn = s.shedIn := rfl
@[simp] theorem State.raise_admits (f : Field) (i : Nat) : (s.raise f i).admits = s.admits := rfl
@[simp] theorem State.raise_critSeen (f : Field) (i : Nat) : (s.raise f i).critSeen = s.critSeen := rfl
@[simp] theorem State.raise_chans (f : Field) (i : Nat) : (s.raise f i).chans = s.chans := rfl
@[simp] theorem State.raise_fifoA (f : Field) (i : Nat) : (s.raise f i).fifoA = s.fifoA := rfl
@[simp] theorem State.raise_fifoB (f : Field) (i : Nat) : (s.raise f i).fifoB = s.fifoB := rfl
@[simp] theorem State.raise_bushels (f : Field) (i : Nat) : (s.raise f i).bushels = s.bushels := rfl
@[simp] theorem State.raise_due (f : Field) (i : Nat) : (s.raise f i).due = s.due := rfl
@[simp] theorem State.raise_sys (f : Field) (i : Nat) : (s.raise f i).sys = s.sys := rfl
@[simp] theorem State.raise_rwc (f : Field) (i : Nat) : (s.raise f i).rwc = s.rwc := rfl
@[simp] theorem State.raise_chain (f : Field) (i : Nat) : (s.raise f i).chain = s.chain := rfl
@[simp] theorem State.raise_tables (f : Field) (i : Nat) : (s.raise f i).tables = s.tables := rfl
@[simp] theorem State.raise_loops (f : Field) (i : Nat) : (s.raise f i).loops = s.loops := rfl
@[simp] theorem State.raise_spl (f : Field) (i : Nat) : (s.raise f i).spl = s.spl := rfl
@[simp] theorem State.raise_swap (f : Field) (i : Nat) : (s.raise f i).swap = s.swap := rfl
@[simp] theorem State.raise_swapClear (f : Field) (i : Nat) : (s.raise f i).swapClear = s.swapClear := rfl
@[simp] theorem State.raise_shock (f : Field) (i : Nat) : (s.raise f i).shock = s.shock := rfl
@[simp] theorem State.raise_spindle (f : Field) (i : Nat) : (s.raise f i).spindle = s.spindle := rfl
@[simp] theorem State.raise_power (f : Field) (i : Nat) : (s.raise f i).power = s.power := rfl
@[simp] theorem State.raise_dl (f : Field) (i : Nat) : (s.raise f i).dl = s.dl := rfl
@[simp] theorem State.raise_ovr (f : Field) (i : Nat) : (s.raise f i).ovr = s.ovr := rfl
@[simp] theorem State.raise_dict (f : Field) (i : Nat) : (s.raise f i).dict = s.dict := rfl
@[simp] theorem State.raise_harts (f : Field) (i : Nat) : (s.raise f i).harts = s.harts := rfl
@[simp] theorem State.raise_mtimecmp (f : Field) (i : Nat) : (s.raise f i).mtimecmp = s.mtimecmp := rfl
@[simp] theorem State.raise_lmem0 (f : Field) (i : Nat) : (s.raise f i).lmem0 = s.lmem0 := rfl
@[simp] theorem State.raise_lmem1 (f : Field) (i : Nat) : (s.raise f i).lmem1 = s.lmem1 := rfl
@[simp] theorem State.raise_lmem2 (f : Field) (i : Nat) : (s.raise f i).lmem2 = s.lmem2 := rfl
@[simp] theorem State.raise_lmem3 (f : Field) (i : Nat) : (s.raise f i).lmem3 = s.lmem3 := rfl
@[simp] theorem State.raise_nor (f : Field) (i : Nat) : (s.raise f i).nor = s.nor := rfl
@[simp] theorem State.raise_cache (f : Field) (i : Nat) : (s.raise f i).cache = s.cache := rfl
@[simp] theorem State.raise_ecc (f : Field) (i : Nat) : (s.raise f i).ecc = s.ecc := rfl
@[simp] theorem State.raise_clk (f : Field) (i : Nat) : (s.raise f i).clk = s.clk := rfl
@[simp] theorem State.raise_tap (f : Field) (i : Nat) : (s.raise f i).tap = s.tap := rfl
@[simp] theorem State.raise_mon (f : Field) (i : Nat) : (s.raise f i).mon = s.mon := rfl
@[simp] theorem State.raise_boot (f : Field) (i : Nat) : (s.raise f i).boot = s.boot := rfl
@[simp] theorem State.raise_pins (f : Field) (i : Nat) : (s.raise f i).pins = s.pins := rfl

/-! ### lower changes regs -/

@[simp] theorem State.lower_pending (f : Field) (i : Nat) : (s.lower f i).pending = s.pending := rfl
@[simp] theorem State.lower_rdata (f : Field) (i : Nat) : (s.lower f i).rdata = s.rdata := rfl
@[simp] theorem State.lower_freeCtr (f : Field) (i : Nat) : (s.lower f i).freeCtr = s.freeCtr := rfl
@[simp] theorem State.lower_formed (f : Field) (i : Nat) : (s.lower f i).formed = s.formed := rfl
@[simp] theorem State.lower_die (f : Field) (i : Nat) : (s.lower f i).die = s.die := rfl
@[simp] theorem State.lower_time (f : Field) (i : Nat) : (s.lower f i).time = s.time := rfl
@[simp] theorem State.lower_evr (f : Field) (i : Nat) : (s.lower f i).evr = s.evr := rfl
@[simp] theorem State.lower_port (f : Field) (i : Nat) : (s.lower f i).port = s.port := rfl
@[simp] theorem State.lower_queues (f : Field) (i : Nat) : (s.lower f i).queues = s.queues := rfl
@[simp] theorem State.lower_cmds (f : Field) (i : Nat) : (s.lower f i).cmds = s.cmds := rfl
@[simp] theorem State.lower_tenants (f : Field) (i : Nat) : (s.lower f i).tenants = s.tenants := rfl
@[simp] theorem State.lower_buf (f : Field) (i : Nat) : (s.lower f i).buf = s.buf := rfl
@[simp] theorem State.lower_pages (f : Field) (i : Nat) : (s.lower f i).pages = s.pages := rfl
@[simp] theorem State.lower_lastBank (f : Field) (i : Nat) : (s.lower f i).lastBank = s.lastBank := rfl
@[simp] theorem State.lower_stagings (f : Field) (i : Nat) : (s.lower f i).stagings = s.stagings := rfl
@[simp] theorem State.lower_nextToken (f : Field) (i : Nat) : (s.lower f i).nextToken = s.nextToken := rfl
@[simp] theorem State.lower_banks (f : Field) (i : Nat) : (s.lower f i).banks = s.banks := rfl
@[simp] theorem State.lower_shed (f : Field) (i : Nat) : (s.lower f i).shed = s.shed := rfl
@[simp] theorem State.lower_shedIn (f : Field) (i : Nat) : (s.lower f i).shedIn = s.shedIn := rfl
@[simp] theorem State.lower_admits (f : Field) (i : Nat) : (s.lower f i).admits = s.admits := rfl
@[simp] theorem State.lower_critSeen (f : Field) (i : Nat) : (s.lower f i).critSeen = s.critSeen := rfl
@[simp] theorem State.lower_chans (f : Field) (i : Nat) : (s.lower f i).chans = s.chans := rfl
@[simp] theorem State.lower_fifoA (f : Field) (i : Nat) : (s.lower f i).fifoA = s.fifoA := rfl
@[simp] theorem State.lower_fifoB (f : Field) (i : Nat) : (s.lower f i).fifoB = s.fifoB := rfl
@[simp] theorem State.lower_bushels (f : Field) (i : Nat) : (s.lower f i).bushels = s.bushels := rfl
@[simp] theorem State.lower_due (f : Field) (i : Nat) : (s.lower f i).due = s.due := rfl
@[simp] theorem State.lower_sys (f : Field) (i : Nat) : (s.lower f i).sys = s.sys := rfl
@[simp] theorem State.lower_rwc (f : Field) (i : Nat) : (s.lower f i).rwc = s.rwc := rfl
@[simp] theorem State.lower_chain (f : Field) (i : Nat) : (s.lower f i).chain = s.chain := rfl
@[simp] theorem State.lower_tables (f : Field) (i : Nat) : (s.lower f i).tables = s.tables := rfl
@[simp] theorem State.lower_loops (f : Field) (i : Nat) : (s.lower f i).loops = s.loops := rfl
@[simp] theorem State.lower_spl (f : Field) (i : Nat) : (s.lower f i).spl = s.spl := rfl
@[simp] theorem State.lower_swap (f : Field) (i : Nat) : (s.lower f i).swap = s.swap := rfl
@[simp] theorem State.lower_swapClear (f : Field) (i : Nat) : (s.lower f i).swapClear = s.swapClear := rfl
@[simp] theorem State.lower_shock (f : Field) (i : Nat) : (s.lower f i).shock = s.shock := rfl
@[simp] theorem State.lower_spindle (f : Field) (i : Nat) : (s.lower f i).spindle = s.spindle := rfl
@[simp] theorem State.lower_power (f : Field) (i : Nat) : (s.lower f i).power = s.power := rfl
@[simp] theorem State.lower_dl (f : Field) (i : Nat) : (s.lower f i).dl = s.dl := rfl
@[simp] theorem State.lower_ovr (f : Field) (i : Nat) : (s.lower f i).ovr = s.ovr := rfl
@[simp] theorem State.lower_dict (f : Field) (i : Nat) : (s.lower f i).dict = s.dict := rfl
@[simp] theorem State.lower_harts (f : Field) (i : Nat) : (s.lower f i).harts = s.harts := rfl
@[simp] theorem State.lower_mtimecmp (f : Field) (i : Nat) : (s.lower f i).mtimecmp = s.mtimecmp := rfl
@[simp] theorem State.lower_lmem0 (f : Field) (i : Nat) : (s.lower f i).lmem0 = s.lmem0 := rfl
@[simp] theorem State.lower_lmem1 (f : Field) (i : Nat) : (s.lower f i).lmem1 = s.lmem1 := rfl
@[simp] theorem State.lower_lmem2 (f : Field) (i : Nat) : (s.lower f i).lmem2 = s.lmem2 := rfl
@[simp] theorem State.lower_lmem3 (f : Field) (i : Nat) : (s.lower f i).lmem3 = s.lmem3 := rfl
@[simp] theorem State.lower_nor (f : Field) (i : Nat) : (s.lower f i).nor = s.nor := rfl
@[simp] theorem State.lower_cache (f : Field) (i : Nat) : (s.lower f i).cache = s.cache := rfl
@[simp] theorem State.lower_ecc (f : Field) (i : Nat) : (s.lower f i).ecc = s.ecc := rfl
@[simp] theorem State.lower_clk (f : Field) (i : Nat) : (s.lower f i).clk = s.clk := rfl
@[simp] theorem State.lower_tap (f : Field) (i : Nat) : (s.lower f i).tap = s.tap := rfl
@[simp] theorem State.lower_mon (f : Field) (i : Nat) : (s.lower f i).mon = s.mon := rfl
@[simp] theorem State.lower_boot (f : Field) (i : Nat) : (s.lower f i).boot = s.boot := rfl
@[simp] theorem State.lower_pins (f : Field) (i : Nat) : (s.lower f i).pins = s.pins := rfl

/-! ### resetF changes regs -/

@[simp] theorem State.resetF_pending (f : Field) (i : Nat) : (s.resetF f i).pending = s.pending := rfl
@[simp] theorem State.resetF_rdata (f : Field) (i : Nat) : (s.resetF f i).rdata = s.rdata := rfl
@[simp] theorem State.resetF_freeCtr (f : Field) (i : Nat) : (s.resetF f i).freeCtr = s.freeCtr := rfl
@[simp] theorem State.resetF_formed (f : Field) (i : Nat) : (s.resetF f i).formed = s.formed := rfl
@[simp] theorem State.resetF_die (f : Field) (i : Nat) : (s.resetF f i).die = s.die := rfl
@[simp] theorem State.resetF_time (f : Field) (i : Nat) : (s.resetF f i).time = s.time := rfl
@[simp] theorem State.resetF_evr (f : Field) (i : Nat) : (s.resetF f i).evr = s.evr := rfl
@[simp] theorem State.resetF_port (f : Field) (i : Nat) : (s.resetF f i).port = s.port := rfl
@[simp] theorem State.resetF_queues (f : Field) (i : Nat) : (s.resetF f i).queues = s.queues := rfl
@[simp] theorem State.resetF_cmds (f : Field) (i : Nat) : (s.resetF f i).cmds = s.cmds := rfl
@[simp] theorem State.resetF_tenants (f : Field) (i : Nat) : (s.resetF f i).tenants = s.tenants := rfl
@[simp] theorem State.resetF_buf (f : Field) (i : Nat) : (s.resetF f i).buf = s.buf := rfl
@[simp] theorem State.resetF_pages (f : Field) (i : Nat) : (s.resetF f i).pages = s.pages := rfl
@[simp] theorem State.resetF_lastBank (f : Field) (i : Nat) : (s.resetF f i).lastBank = s.lastBank := rfl
@[simp] theorem State.resetF_stagings (f : Field) (i : Nat) : (s.resetF f i).stagings = s.stagings := rfl
@[simp] theorem State.resetF_nextToken (f : Field) (i : Nat) : (s.resetF f i).nextToken = s.nextToken := rfl
@[simp] theorem State.resetF_banks (f : Field) (i : Nat) : (s.resetF f i).banks = s.banks := rfl
@[simp] theorem State.resetF_shed (f : Field) (i : Nat) : (s.resetF f i).shed = s.shed := rfl
@[simp] theorem State.resetF_shedIn (f : Field) (i : Nat) : (s.resetF f i).shedIn = s.shedIn := rfl
@[simp] theorem State.resetF_admits (f : Field) (i : Nat) : (s.resetF f i).admits = s.admits := rfl
@[simp] theorem State.resetF_critSeen (f : Field) (i : Nat) : (s.resetF f i).critSeen = s.critSeen := rfl
@[simp] theorem State.resetF_chans (f : Field) (i : Nat) : (s.resetF f i).chans = s.chans := rfl
@[simp] theorem State.resetF_fifoA (f : Field) (i : Nat) : (s.resetF f i).fifoA = s.fifoA := rfl
@[simp] theorem State.resetF_fifoB (f : Field) (i : Nat) : (s.resetF f i).fifoB = s.fifoB := rfl
@[simp] theorem State.resetF_bushels (f : Field) (i : Nat) : (s.resetF f i).bushels = s.bushels := rfl
@[simp] theorem State.resetF_due (f : Field) (i : Nat) : (s.resetF f i).due = s.due := rfl
@[simp] theorem State.resetF_sys (f : Field) (i : Nat) : (s.resetF f i).sys = s.sys := rfl
@[simp] theorem State.resetF_rwc (f : Field) (i : Nat) : (s.resetF f i).rwc = s.rwc := rfl
@[simp] theorem State.resetF_chain (f : Field) (i : Nat) : (s.resetF f i).chain = s.chain := rfl
@[simp] theorem State.resetF_tables (f : Field) (i : Nat) : (s.resetF f i).tables = s.tables := rfl
@[simp] theorem State.resetF_loops (f : Field) (i : Nat) : (s.resetF f i).loops = s.loops := rfl
@[simp] theorem State.resetF_spl (f : Field) (i : Nat) : (s.resetF f i).spl = s.spl := rfl
@[simp] theorem State.resetF_swap (f : Field) (i : Nat) : (s.resetF f i).swap = s.swap := rfl
@[simp] theorem State.resetF_swapClear (f : Field) (i : Nat) : (s.resetF f i).swapClear = s.swapClear := rfl
@[simp] theorem State.resetF_shock (f : Field) (i : Nat) : (s.resetF f i).shock = s.shock := rfl
@[simp] theorem State.resetF_spindle (f : Field) (i : Nat) : (s.resetF f i).spindle = s.spindle := rfl
@[simp] theorem State.resetF_power (f : Field) (i : Nat) : (s.resetF f i).power = s.power := rfl
@[simp] theorem State.resetF_dl (f : Field) (i : Nat) : (s.resetF f i).dl = s.dl := rfl
@[simp] theorem State.resetF_ovr (f : Field) (i : Nat) : (s.resetF f i).ovr = s.ovr := rfl
@[simp] theorem State.resetF_dict (f : Field) (i : Nat) : (s.resetF f i).dict = s.dict := rfl
@[simp] theorem State.resetF_harts (f : Field) (i : Nat) : (s.resetF f i).harts = s.harts := rfl
@[simp] theorem State.resetF_mtimecmp (f : Field) (i : Nat) : (s.resetF f i).mtimecmp = s.mtimecmp := rfl
@[simp] theorem State.resetF_lmem0 (f : Field) (i : Nat) : (s.resetF f i).lmem0 = s.lmem0 := rfl
@[simp] theorem State.resetF_lmem1 (f : Field) (i : Nat) : (s.resetF f i).lmem1 = s.lmem1 := rfl
@[simp] theorem State.resetF_lmem2 (f : Field) (i : Nat) : (s.resetF f i).lmem2 = s.lmem2 := rfl
@[simp] theorem State.resetF_lmem3 (f : Field) (i : Nat) : (s.resetF f i).lmem3 = s.lmem3 := rfl
@[simp] theorem State.resetF_nor (f : Field) (i : Nat) : (s.resetF f i).nor = s.nor := rfl
@[simp] theorem State.resetF_cache (f : Field) (i : Nat) : (s.resetF f i).cache = s.cache := rfl
@[simp] theorem State.resetF_ecc (f : Field) (i : Nat) : (s.resetF f i).ecc = s.ecc := rfl
@[simp] theorem State.resetF_clk (f : Field) (i : Nat) : (s.resetF f i).clk = s.clk := rfl
@[simp] theorem State.resetF_tap (f : Field) (i : Nat) : (s.resetF f i).tap = s.tap := rfl
@[simp] theorem State.resetF_mon (f : Field) (i : Nat) : (s.resetF f i).mon = s.mon := rfl
@[simp] theorem State.resetF_boot (f : Field) (i : Nat) : (s.resetF f i).boot = s.boot := rfl
@[simp] theorem State.resetF_pins (f : Field) (i : Nat) : (s.resetF f i).pins = s.pins := rfl

/-! ### bump changes regs -/

@[simp] theorem State.bump_pending (f : Field) (i k : Nat) : (s.bump f i k).pending = s.pending := rfl
@[simp] theorem State.bump_rdata (f : Field) (i k : Nat) : (s.bump f i k).rdata = s.rdata := rfl
@[simp] theorem State.bump_freeCtr (f : Field) (i k : Nat) : (s.bump f i k).freeCtr = s.freeCtr := rfl
@[simp] theorem State.bump_formed (f : Field) (i k : Nat) : (s.bump f i k).formed = s.formed := rfl
@[simp] theorem State.bump_die (f : Field) (i k : Nat) : (s.bump f i k).die = s.die := rfl
@[simp] theorem State.bump_time (f : Field) (i k : Nat) : (s.bump f i k).time = s.time := rfl
@[simp] theorem State.bump_evr (f : Field) (i k : Nat) : (s.bump f i k).evr = s.evr := rfl
@[simp] theorem State.bump_port (f : Field) (i k : Nat) : (s.bump f i k).port = s.port := rfl
@[simp] theorem State.bump_queues (f : Field) (i k : Nat) : (s.bump f i k).queues = s.queues := rfl
@[simp] theorem State.bump_cmds (f : Field) (i k : Nat) : (s.bump f i k).cmds = s.cmds := rfl
@[simp] theorem State.bump_tenants (f : Field) (i k : Nat) : (s.bump f i k).tenants = s.tenants := rfl
@[simp] theorem State.bump_buf (f : Field) (i k : Nat) : (s.bump f i k).buf = s.buf := rfl
@[simp] theorem State.bump_pages (f : Field) (i k : Nat) : (s.bump f i k).pages = s.pages := rfl
@[simp] theorem State.bump_lastBank (f : Field) (i k : Nat) : (s.bump f i k).lastBank = s.lastBank := rfl
@[simp] theorem State.bump_stagings (f : Field) (i k : Nat) : (s.bump f i k).stagings = s.stagings := rfl
@[simp] theorem State.bump_nextToken (f : Field) (i k : Nat) : (s.bump f i k).nextToken = s.nextToken := rfl
@[simp] theorem State.bump_banks (f : Field) (i k : Nat) : (s.bump f i k).banks = s.banks := rfl
@[simp] theorem State.bump_shed (f : Field) (i k : Nat) : (s.bump f i k).shed = s.shed := rfl
@[simp] theorem State.bump_shedIn (f : Field) (i k : Nat) : (s.bump f i k).shedIn = s.shedIn := rfl
@[simp] theorem State.bump_admits (f : Field) (i k : Nat) : (s.bump f i k).admits = s.admits := rfl
@[simp] theorem State.bump_critSeen (f : Field) (i k : Nat) : (s.bump f i k).critSeen = s.critSeen := rfl
@[simp] theorem State.bump_chans (f : Field) (i k : Nat) : (s.bump f i k).chans = s.chans := rfl
@[simp] theorem State.bump_fifoA (f : Field) (i k : Nat) : (s.bump f i k).fifoA = s.fifoA := rfl
@[simp] theorem State.bump_fifoB (f : Field) (i k : Nat) : (s.bump f i k).fifoB = s.fifoB := rfl
@[simp] theorem State.bump_bushels (f : Field) (i k : Nat) : (s.bump f i k).bushels = s.bushels := rfl
@[simp] theorem State.bump_due (f : Field) (i k : Nat) : (s.bump f i k).due = s.due := rfl
@[simp] theorem State.bump_sys (f : Field) (i k : Nat) : (s.bump f i k).sys = s.sys := rfl
@[simp] theorem State.bump_rwc (f : Field) (i k : Nat) : (s.bump f i k).rwc = s.rwc := rfl
@[simp] theorem State.bump_chain (f : Field) (i k : Nat) : (s.bump f i k).chain = s.chain := rfl
@[simp] theorem State.bump_tables (f : Field) (i k : Nat) : (s.bump f i k).tables = s.tables := rfl
@[simp] theorem State.bump_loops (f : Field) (i k : Nat) : (s.bump f i k).loops = s.loops := rfl
@[simp] theorem State.bump_spl (f : Field) (i k : Nat) : (s.bump f i k).spl = s.spl := rfl
@[simp] theorem State.bump_swap (f : Field) (i k : Nat) : (s.bump f i k).swap = s.swap := rfl
@[simp] theorem State.bump_swapClear (f : Field) (i k : Nat) : (s.bump f i k).swapClear = s.swapClear := rfl
@[simp] theorem State.bump_shock (f : Field) (i k : Nat) : (s.bump f i k).shock = s.shock := rfl
@[simp] theorem State.bump_spindle (f : Field) (i k : Nat) : (s.bump f i k).spindle = s.spindle := rfl
@[simp] theorem State.bump_power (f : Field) (i k : Nat) : (s.bump f i k).power = s.power := rfl
@[simp] theorem State.bump_dl (f : Field) (i k : Nat) : (s.bump f i k).dl = s.dl := rfl
@[simp] theorem State.bump_ovr (f : Field) (i k : Nat) : (s.bump f i k).ovr = s.ovr := rfl
@[simp] theorem State.bump_dict (f : Field) (i k : Nat) : (s.bump f i k).dict = s.dict := rfl
@[simp] theorem State.bump_harts (f : Field) (i k : Nat) : (s.bump f i k).harts = s.harts := rfl
@[simp] theorem State.bump_mtimecmp (f : Field) (i k : Nat) : (s.bump f i k).mtimecmp = s.mtimecmp := rfl
@[simp] theorem State.bump_lmem0 (f : Field) (i k : Nat) : (s.bump f i k).lmem0 = s.lmem0 := rfl
@[simp] theorem State.bump_lmem1 (f : Field) (i k : Nat) : (s.bump f i k).lmem1 = s.lmem1 := rfl
@[simp] theorem State.bump_lmem2 (f : Field) (i k : Nat) : (s.bump f i k).lmem2 = s.lmem2 := rfl
@[simp] theorem State.bump_lmem3 (f : Field) (i k : Nat) : (s.bump f i k).lmem3 = s.lmem3 := rfl
@[simp] theorem State.bump_nor (f : Field) (i k : Nat) : (s.bump f i k).nor = s.nor := rfl
@[simp] theorem State.bump_cache (f : Field) (i k : Nat) : (s.bump f i k).cache = s.cache := rfl
@[simp] theorem State.bump_ecc (f : Field) (i k : Nat) : (s.bump f i k).ecc = s.ecc := rfl
@[simp] theorem State.bump_clk (f : Field) (i k : Nat) : (s.bump f i k).clk = s.clk := rfl
@[simp] theorem State.bump_tap (f : Field) (i k : Nat) : (s.bump f i k).tap = s.tap := rfl
@[simp] theorem State.bump_mon (f : Field) (i k : Nat) : (s.bump f i k).mon = s.mon := rfl
@[simp] theorem State.bump_boot (f : Field) (i k : Nat) : (s.bump f i k).boot = s.boot := rfl
@[simp] theorem State.bump_pins (f : Field) (i k : Nat) : (s.bump f i k).pins = s.pins := rfl

/-! ### bumpSat changes regs -/

@[simp] theorem State.bumpSat_pending (f : Field) (i k : Nat) : (s.bumpSat f i k).pending = s.pending := rfl
@[simp] theorem State.bumpSat_rdata (f : Field) (i k : Nat) : (s.bumpSat f i k).rdata = s.rdata := rfl
@[simp] theorem State.bumpSat_freeCtr (f : Field) (i k : Nat) : (s.bumpSat f i k).freeCtr = s.freeCtr := rfl
@[simp] theorem State.bumpSat_formed (f : Field) (i k : Nat) : (s.bumpSat f i k).formed = s.formed := rfl
@[simp] theorem State.bumpSat_die (f : Field) (i k : Nat) : (s.bumpSat f i k).die = s.die := rfl
@[simp] theorem State.bumpSat_time (f : Field) (i k : Nat) : (s.bumpSat f i k).time = s.time := rfl
@[simp] theorem State.bumpSat_evr (f : Field) (i k : Nat) : (s.bumpSat f i k).evr = s.evr := rfl
@[simp] theorem State.bumpSat_port (f : Field) (i k : Nat) : (s.bumpSat f i k).port = s.port := rfl
@[simp] theorem State.bumpSat_queues (f : Field) (i k : Nat) : (s.bumpSat f i k).queues = s.queues := rfl
@[simp] theorem State.bumpSat_cmds (f : Field) (i k : Nat) : (s.bumpSat f i k).cmds = s.cmds := rfl
@[simp] theorem State.bumpSat_tenants (f : Field) (i k : Nat) : (s.bumpSat f i k).tenants = s.tenants := rfl
@[simp] theorem State.bumpSat_buf (f : Field) (i k : Nat) : (s.bumpSat f i k).buf = s.buf := rfl
@[simp] theorem State.bumpSat_pages (f : Field) (i k : Nat) : (s.bumpSat f i k).pages = s.pages := rfl
@[simp] theorem State.bumpSat_lastBank (f : Field) (i k : Nat) : (s.bumpSat f i k).lastBank = s.lastBank := rfl
@[simp] theorem State.bumpSat_stagings (f : Field) (i k : Nat) : (s.bumpSat f i k).stagings = s.stagings := rfl
@[simp] theorem State.bumpSat_nextToken (f : Field) (i k : Nat) : (s.bumpSat f i k).nextToken = s.nextToken := rfl
@[simp] theorem State.bumpSat_banks (f : Field) (i k : Nat) : (s.bumpSat f i k).banks = s.banks := rfl
@[simp] theorem State.bumpSat_shed (f : Field) (i k : Nat) : (s.bumpSat f i k).shed = s.shed := rfl
@[simp] theorem State.bumpSat_shedIn (f : Field) (i k : Nat) : (s.bumpSat f i k).shedIn = s.shedIn := rfl
@[simp] theorem State.bumpSat_admits (f : Field) (i k : Nat) : (s.bumpSat f i k).admits = s.admits := rfl
@[simp] theorem State.bumpSat_critSeen (f : Field) (i k : Nat) : (s.bumpSat f i k).critSeen = s.critSeen := rfl
@[simp] theorem State.bumpSat_chans (f : Field) (i k : Nat) : (s.bumpSat f i k).chans = s.chans := rfl
@[simp] theorem State.bumpSat_fifoA (f : Field) (i k : Nat) : (s.bumpSat f i k).fifoA = s.fifoA := rfl
@[simp] theorem State.bumpSat_fifoB (f : Field) (i k : Nat) : (s.bumpSat f i k).fifoB = s.fifoB := rfl
@[simp] theorem State.bumpSat_bushels (f : Field) (i k : Nat) : (s.bumpSat f i k).bushels = s.bushels := rfl
@[simp] theorem State.bumpSat_due (f : Field) (i k : Nat) : (s.bumpSat f i k).due = s.due := rfl
@[simp] theorem State.bumpSat_sys (f : Field) (i k : Nat) : (s.bumpSat f i k).sys = s.sys := rfl
@[simp] theorem State.bumpSat_rwc (f : Field) (i k : Nat) : (s.bumpSat f i k).rwc = s.rwc := rfl
@[simp] theorem State.bumpSat_chain (f : Field) (i k : Nat) : (s.bumpSat f i k).chain = s.chain := rfl
@[simp] theorem State.bumpSat_tables (f : Field) (i k : Nat) : (s.bumpSat f i k).tables = s.tables := rfl
@[simp] theorem State.bumpSat_loops (f : Field) (i k : Nat) : (s.bumpSat f i k).loops = s.loops := rfl
@[simp] theorem State.bumpSat_spl (f : Field) (i k : Nat) : (s.bumpSat f i k).spl = s.spl := rfl
@[simp] theorem State.bumpSat_swap (f : Field) (i k : Nat) : (s.bumpSat f i k).swap = s.swap := rfl
@[simp] theorem State.bumpSat_swapClear (f : Field) (i k : Nat) : (s.bumpSat f i k).swapClear = s.swapClear := rfl
@[simp] theorem State.bumpSat_shock (f : Field) (i k : Nat) : (s.bumpSat f i k).shock = s.shock := rfl
@[simp] theorem State.bumpSat_spindle (f : Field) (i k : Nat) : (s.bumpSat f i k).spindle = s.spindle := rfl
@[simp] theorem State.bumpSat_power (f : Field) (i k : Nat) : (s.bumpSat f i k).power = s.power := rfl
@[simp] theorem State.bumpSat_dl (f : Field) (i k : Nat) : (s.bumpSat f i k).dl = s.dl := rfl
@[simp] theorem State.bumpSat_ovr (f : Field) (i k : Nat) : (s.bumpSat f i k).ovr = s.ovr := rfl
@[simp] theorem State.bumpSat_dict (f : Field) (i k : Nat) : (s.bumpSat f i k).dict = s.dict := rfl
@[simp] theorem State.bumpSat_harts (f : Field) (i k : Nat) : (s.bumpSat f i k).harts = s.harts := rfl
@[simp] theorem State.bumpSat_mtimecmp (f : Field) (i k : Nat) : (s.bumpSat f i k).mtimecmp = s.mtimecmp := rfl
@[simp] theorem State.bumpSat_lmem0 (f : Field) (i k : Nat) : (s.bumpSat f i k).lmem0 = s.lmem0 := rfl
@[simp] theorem State.bumpSat_lmem1 (f : Field) (i k : Nat) : (s.bumpSat f i k).lmem1 = s.lmem1 := rfl
@[simp] theorem State.bumpSat_lmem2 (f : Field) (i k : Nat) : (s.bumpSat f i k).lmem2 = s.lmem2 := rfl
@[simp] theorem State.bumpSat_lmem3 (f : Field) (i k : Nat) : (s.bumpSat f i k).lmem3 = s.lmem3 := rfl
@[simp] theorem State.bumpSat_nor (f : Field) (i k : Nat) : (s.bumpSat f i k).nor = s.nor := rfl
@[simp] theorem State.bumpSat_cache (f : Field) (i k : Nat) : (s.bumpSat f i k).cache = s.cache := rfl
@[simp] theorem State.bumpSat_ecc (f : Field) (i k : Nat) : (s.bumpSat f i k).ecc = s.ecc := rfl
@[simp] theorem State.bumpSat_clk (f : Field) (i k : Nat) : (s.bumpSat f i k).clk = s.clk := rfl
@[simp] theorem State.bumpSat_tap (f : Field) (i k : Nat) : (s.bumpSat f i k).tap = s.tap := rfl
@[simp] theorem State.bumpSat_mon (f : Field) (i k : Nat) : (s.bumpSat f i k).mon = s.mon := rfl
@[simp] theorem State.bumpSat_boot (f : Field) (i k : Nat) : (s.bumpSat f i k).boot = s.boot := rfl
@[simp] theorem State.bumpSat_pins (f : Field) (i k : Nat) : (s.bumpSat f i k).pins = s.pins := rfl

/-! ### setBit changes regs -/

@[simp] theorem State.setBit_pending (f : Field) (i : Nat) (b : Bool) : (s.setBit f i b).pending = s.pending := rfl
@[simp] theorem State.setBit_rdata (f : Field) (i : Nat) (b : Bool) : (s.setBit f i b).rdata = s.rdata := rfl
@[simp] theorem State.setBit_freeCtr (f : Field) (i : Nat) (b : Bool) : (s.setBit f i b).freeCtr = s.freeCtr := rfl
@[simp] theorem State.setBit_formed (f : Field) (i : Nat) (b : Bool) : (s.setBit f i b).formed = s.formed := rfl
@[simp] theorem State.setBit_die (f : Field) (i : Nat) (b : Bool) : (s.setBit f i b).die = s.die := rfl
@[simp] theorem State.setBit_time (f : Field) (i : Nat) (b : Bool) : (s.setBit f i b).time = s.time := rfl
@[simp] theorem State.setBit_evr (f : Field) (i : Nat) (b : Bool) : (s.setBit f i b).evr = s.evr := rfl
@[simp] theorem State.setBit_port (f : Field) (i : Nat) (b : Bool) : (s.setBit f i b).port = s.port := rfl
@[simp] theorem State.setBit_queues (f : Field) (i : Nat) (b : Bool) : (s.setBit f i b).queues = s.queues := rfl
@[simp] theorem State.setBit_cmds (f : Field) (i : Nat) (b : Bool) : (s.setBit f i b).cmds = s.cmds := rfl
@[simp] theorem State.setBit_tenants (f : Field) (i : Nat) (b : Bool) : (s.setBit f i b).tenants = s.tenants := rfl
@[simp] theorem State.setBit_buf (f : Field) (i : Nat) (b : Bool) : (s.setBit f i b).buf = s.buf := rfl
@[simp] theorem State.setBit_pages (f : Field) (i : Nat) (b : Bool) : (s.setBit f i b).pages = s.pages := rfl
@[simp] theorem State.setBit_lastBank (f : Field) (i : Nat) (b : Bool) : (s.setBit f i b).lastBank = s.lastBank := rfl
@[simp] theorem State.setBit_stagings (f : Field) (i : Nat) (b : Bool) : (s.setBit f i b).stagings = s.stagings := rfl
@[simp] theorem State.setBit_nextToken (f : Field) (i : Nat) (b : Bool) : (s.setBit f i b).nextToken = s.nextToken := rfl
@[simp] theorem State.setBit_banks (f : Field) (i : Nat) (b : Bool) : (s.setBit f i b).banks = s.banks := rfl
@[simp] theorem State.setBit_shed (f : Field) (i : Nat) (b : Bool) : (s.setBit f i b).shed = s.shed := rfl
@[simp] theorem State.setBit_shedIn (f : Field) (i : Nat) (b : Bool) : (s.setBit f i b).shedIn = s.shedIn := rfl
@[simp] theorem State.setBit_admits (f : Field) (i : Nat) (b : Bool) : (s.setBit f i b).admits = s.admits := rfl
@[simp] theorem State.setBit_critSeen (f : Field) (i : Nat) (b : Bool) : (s.setBit f i b).critSeen = s.critSeen := rfl
@[simp] theorem State.setBit_chans (f : Field) (i : Nat) (b : Bool) : (s.setBit f i b).chans = s.chans := rfl
@[simp] theorem State.setBit_fifoA (f : Field) (i : Nat) (b : Bool) : (s.setBit f i b).fifoA = s.fifoA := rfl
@[simp] theorem State.setBit_fifoB (f : Field) (i : Nat) (b : Bool) : (s.setBit f i b).fifoB = s.fifoB := rfl
@[simp] theorem State.setBit_bushels (f : Field) (i : Nat) (b : Bool) : (s.setBit f i b).bushels = s.bushels := rfl
@[simp] theorem State.setBit_due (f : Field) (i : Nat) (b : Bool) : (s.setBit f i b).due = s.due := rfl
@[simp] theorem State.setBit_sys (f : Field) (i : Nat) (b : Bool) : (s.setBit f i b).sys = s.sys := rfl
@[simp] theorem State.setBit_rwc (f : Field) (i : Nat) (b : Bool) : (s.setBit f i b).rwc = s.rwc := rfl
@[simp] theorem State.setBit_chain (f : Field) (i : Nat) (b : Bool) : (s.setBit f i b).chain = s.chain := rfl
@[simp] theorem State.setBit_tables (f : Field) (i : Nat) (b : Bool) : (s.setBit f i b).tables = s.tables := rfl
@[simp] theorem State.setBit_loops (f : Field) (i : Nat) (b : Bool) : (s.setBit f i b).loops = s.loops := rfl
@[simp] theorem State.setBit_spl (f : Field) (i : Nat) (b : Bool) : (s.setBit f i b).spl = s.spl := rfl
@[simp] theorem State.setBit_swap (f : Field) (i : Nat) (b : Bool) : (s.setBit f i b).swap = s.swap := rfl
@[simp] theorem State.setBit_swapClear (f : Field) (i : Nat) (b : Bool) : (s.setBit f i b).swapClear = s.swapClear := rfl
@[simp] theorem State.setBit_shock (f : Field) (i : Nat) (b : Bool) : (s.setBit f i b).shock = s.shock := rfl
@[simp] theorem State.setBit_spindle (f : Field) (i : Nat) (b : Bool) : (s.setBit f i b).spindle = s.spindle := rfl
@[simp] theorem State.setBit_power (f : Field) (i : Nat) (b : Bool) : (s.setBit f i b).power = s.power := rfl
@[simp] theorem State.setBit_dl (f : Field) (i : Nat) (b : Bool) : (s.setBit f i b).dl = s.dl := rfl
@[simp] theorem State.setBit_ovr (f : Field) (i : Nat) (b : Bool) : (s.setBit f i b).ovr = s.ovr := rfl
@[simp] theorem State.setBit_dict (f : Field) (i : Nat) (b : Bool) : (s.setBit f i b).dict = s.dict := rfl
@[simp] theorem State.setBit_harts (f : Field) (i : Nat) (b : Bool) : (s.setBit f i b).harts = s.harts := rfl
@[simp] theorem State.setBit_mtimecmp (f : Field) (i : Nat) (b : Bool) : (s.setBit f i b).mtimecmp = s.mtimecmp := rfl
@[simp] theorem State.setBit_lmem0 (f : Field) (i : Nat) (b : Bool) : (s.setBit f i b).lmem0 = s.lmem0 := rfl
@[simp] theorem State.setBit_lmem1 (f : Field) (i : Nat) (b : Bool) : (s.setBit f i b).lmem1 = s.lmem1 := rfl
@[simp] theorem State.setBit_lmem2 (f : Field) (i : Nat) (b : Bool) : (s.setBit f i b).lmem2 = s.lmem2 := rfl
@[simp] theorem State.setBit_lmem3 (f : Field) (i : Nat) (b : Bool) : (s.setBit f i b).lmem3 = s.lmem3 := rfl
@[simp] theorem State.setBit_nor (f : Field) (i : Nat) (b : Bool) : (s.setBit f i b).nor = s.nor := rfl
@[simp] theorem State.setBit_cache (f : Field) (i : Nat) (b : Bool) : (s.setBit f i b).cache = s.cache := rfl
@[simp] theorem State.setBit_ecc (f : Field) (i : Nat) (b : Bool) : (s.setBit f i b).ecc = s.ecc := rfl
@[simp] theorem State.setBit_clk (f : Field) (i : Nat) (b : Bool) : (s.setBit f i b).clk = s.clk := rfl
@[simp] theorem State.setBit_tap (f : Field) (i : Nat) (b : Bool) : (s.setBit f i b).tap = s.tap := rfl
@[simp] theorem State.setBit_mon (f : Field) (i : Nat) (b : Bool) : (s.setBit f i b).mon = s.mon := rfl
@[simp] theorem State.setBit_boot (f : Field) (i : Nat) (b : Bool) : (s.setBit f i b).boot = s.boot := rfl
@[simp] theorem State.setBit_pins (f : Field) (i : Nat) (b : Bool) : (s.setBit f i b).pins = s.pins := rfl

/-! ### intakeEvent changes evr -/

@[simp] theorem State.intakeEvent_pending (e : Event) : (s.intakeEvent e).pending = s.pending := by unfold State.intakeEvent; split <;> rfl
@[simp] theorem State.intakeEvent_regs (e : Event) : (s.intakeEvent e).regs = s.regs := by unfold State.intakeEvent; split <;> rfl
@[simp] theorem State.intakeEvent_rdata (e : Event) : (s.intakeEvent e).rdata = s.rdata := by unfold State.intakeEvent; split <;> rfl
@[simp] theorem State.intakeEvent_freeCtr (e : Event) : (s.intakeEvent e).freeCtr = s.freeCtr := by unfold State.intakeEvent; split <;> rfl
@[simp] theorem State.intakeEvent_formed (e : Event) : (s.intakeEvent e).formed = s.formed := by unfold State.intakeEvent; split <;> rfl
@[simp] theorem State.intakeEvent_die (e : Event) : (s.intakeEvent e).die = s.die := by unfold State.intakeEvent; split <;> rfl
@[simp] theorem State.intakeEvent_time (e : Event) : (s.intakeEvent e).time = s.time := by unfold State.intakeEvent; split <;> rfl
@[simp] theorem State.intakeEvent_port (e : Event) : (s.intakeEvent e).port = s.port := by unfold State.intakeEvent; split <;> rfl
@[simp] theorem State.intakeEvent_queues (e : Event) : (s.intakeEvent e).queues = s.queues := by unfold State.intakeEvent; split <;> rfl
@[simp] theorem State.intakeEvent_cmds (e : Event) : (s.intakeEvent e).cmds = s.cmds := by unfold State.intakeEvent; split <;> rfl
@[simp] theorem State.intakeEvent_tenants (e : Event) : (s.intakeEvent e).tenants = s.tenants := by unfold State.intakeEvent; split <;> rfl
@[simp] theorem State.intakeEvent_buf (e : Event) : (s.intakeEvent e).buf = s.buf := by unfold State.intakeEvent; split <;> rfl
@[simp] theorem State.intakeEvent_pages (e : Event) : (s.intakeEvent e).pages = s.pages := by unfold State.intakeEvent; split <;> rfl
@[simp] theorem State.intakeEvent_lastBank (e : Event) : (s.intakeEvent e).lastBank = s.lastBank := by unfold State.intakeEvent; split <;> rfl
@[simp] theorem State.intakeEvent_stagings (e : Event) : (s.intakeEvent e).stagings = s.stagings := by unfold State.intakeEvent; split <;> rfl
@[simp] theorem State.intakeEvent_nextToken (e : Event) : (s.intakeEvent e).nextToken = s.nextToken := by unfold State.intakeEvent; split <;> rfl
@[simp] theorem State.intakeEvent_banks (e : Event) : (s.intakeEvent e).banks = s.banks := by unfold State.intakeEvent; split <;> rfl
@[simp] theorem State.intakeEvent_shed (e : Event) : (s.intakeEvent e).shed = s.shed := by unfold State.intakeEvent; split <;> rfl
@[simp] theorem State.intakeEvent_shedIn (e : Event) : (s.intakeEvent e).shedIn = s.shedIn := by unfold State.intakeEvent; split <;> rfl
@[simp] theorem State.intakeEvent_admits (e : Event) : (s.intakeEvent e).admits = s.admits := by unfold State.intakeEvent; split <;> rfl
@[simp] theorem State.intakeEvent_critSeen (e : Event) : (s.intakeEvent e).critSeen = s.critSeen := by unfold State.intakeEvent; split <;> rfl
@[simp] theorem State.intakeEvent_chans (e : Event) : (s.intakeEvent e).chans = s.chans := by unfold State.intakeEvent; split <;> rfl
@[simp] theorem State.intakeEvent_fifoA (e : Event) : (s.intakeEvent e).fifoA = s.fifoA := by unfold State.intakeEvent; split <;> rfl
@[simp] theorem State.intakeEvent_fifoB (e : Event) : (s.intakeEvent e).fifoB = s.fifoB := by unfold State.intakeEvent; split <;> rfl
@[simp] theorem State.intakeEvent_bushels (e : Event) : (s.intakeEvent e).bushels = s.bushels := by unfold State.intakeEvent; split <;> rfl
@[simp] theorem State.intakeEvent_due (e : Event) : (s.intakeEvent e).due = s.due := by unfold State.intakeEvent; split <;> rfl
@[simp] theorem State.intakeEvent_sys (e : Event) : (s.intakeEvent e).sys = s.sys := by unfold State.intakeEvent; split <;> rfl
@[simp] theorem State.intakeEvent_rwc (e : Event) : (s.intakeEvent e).rwc = s.rwc := by unfold State.intakeEvent; split <;> rfl
@[simp] theorem State.intakeEvent_chain (e : Event) : (s.intakeEvent e).chain = s.chain := by unfold State.intakeEvent; split <;> rfl
@[simp] theorem State.intakeEvent_tables (e : Event) : (s.intakeEvent e).tables = s.tables := by unfold State.intakeEvent; split <;> rfl
@[simp] theorem State.intakeEvent_loops (e : Event) : (s.intakeEvent e).loops = s.loops := by unfold State.intakeEvent; split <;> rfl
@[simp] theorem State.intakeEvent_spl (e : Event) : (s.intakeEvent e).spl = s.spl := by unfold State.intakeEvent; split <;> rfl
@[simp] theorem State.intakeEvent_swap (e : Event) : (s.intakeEvent e).swap = s.swap := by unfold State.intakeEvent; split <;> rfl
@[simp] theorem State.intakeEvent_swapClear (e : Event) : (s.intakeEvent e).swapClear = s.swapClear := by unfold State.intakeEvent; split <;> rfl
@[simp] theorem State.intakeEvent_shock (e : Event) : (s.intakeEvent e).shock = s.shock := by unfold State.intakeEvent; split <;> rfl
@[simp] theorem State.intakeEvent_spindle (e : Event) : (s.intakeEvent e).spindle = s.spindle := by unfold State.intakeEvent; split <;> rfl
@[simp] theorem State.intakeEvent_power (e : Event) : (s.intakeEvent e).power = s.power := by unfold State.intakeEvent; split <;> rfl
@[simp] theorem State.intakeEvent_dl (e : Event) : (s.intakeEvent e).dl = s.dl := by unfold State.intakeEvent; split <;> rfl
@[simp] theorem State.intakeEvent_ovr (e : Event) : (s.intakeEvent e).ovr = s.ovr := by unfold State.intakeEvent; split <;> rfl
@[simp] theorem State.intakeEvent_dict (e : Event) : (s.intakeEvent e).dict = s.dict := by unfold State.intakeEvent; split <;> rfl
@[simp] theorem State.intakeEvent_harts (e : Event) : (s.intakeEvent e).harts = s.harts := by unfold State.intakeEvent; split <;> rfl
@[simp] theorem State.intakeEvent_mtimecmp (e : Event) : (s.intakeEvent e).mtimecmp = s.mtimecmp := by unfold State.intakeEvent; split <;> rfl
@[simp] theorem State.intakeEvent_lmem0 (e : Event) : (s.intakeEvent e).lmem0 = s.lmem0 := by unfold State.intakeEvent; split <;> rfl
@[simp] theorem State.intakeEvent_lmem1 (e : Event) : (s.intakeEvent e).lmem1 = s.lmem1 := by unfold State.intakeEvent; split <;> rfl
@[simp] theorem State.intakeEvent_lmem2 (e : Event) : (s.intakeEvent e).lmem2 = s.lmem2 := by unfold State.intakeEvent; split <;> rfl
@[simp] theorem State.intakeEvent_lmem3 (e : Event) : (s.intakeEvent e).lmem3 = s.lmem3 := by unfold State.intakeEvent; split <;> rfl
@[simp] theorem State.intakeEvent_nor (e : Event) : (s.intakeEvent e).nor = s.nor := by unfold State.intakeEvent; split <;> rfl
@[simp] theorem State.intakeEvent_cache (e : Event) : (s.intakeEvent e).cache = s.cache := by unfold State.intakeEvent; split <;> rfl
@[simp] theorem State.intakeEvent_ecc (e : Event) : (s.intakeEvent e).ecc = s.ecc := by unfold State.intakeEvent; split <;> rfl
@[simp] theorem State.intakeEvent_clk (e : Event) : (s.intakeEvent e).clk = s.clk := by unfold State.intakeEvent; split <;> rfl
@[simp] theorem State.intakeEvent_tap (e : Event) : (s.intakeEvent e).tap = s.tap := by unfold State.intakeEvent; split <;> rfl
@[simp] theorem State.intakeEvent_mon (e : Event) : (s.intakeEvent e).mon = s.mon := by unfold State.intakeEvent; split <;> rfl
@[simp] theorem State.intakeEvent_boot (e : Event) : (s.intakeEvent e).boot = s.boot := by unfold State.intakeEvent; split <;> rfl
@[simp] theorem State.intakeEvent_pins (e : Event) : (s.intakeEvent e).pins = s.pins := by unfold State.intakeEvent; split <;> rfl

/-! ### event changes evr -/

@[simp] theorem State.event_pending (c u a d : Nat) : (s.event c u a d).pending = s.pending := by unfold State.event; split <;> simp
@[simp] theorem State.event_regs (c u a d : Nat) : (s.event c u a d).regs = s.regs := by unfold State.event; split <;> simp
@[simp] theorem State.event_rdata (c u a d : Nat) : (s.event c u a d).rdata = s.rdata := by unfold State.event; split <;> simp
@[simp] theorem State.event_freeCtr (c u a d : Nat) : (s.event c u a d).freeCtr = s.freeCtr := by unfold State.event; split <;> simp
@[simp] theorem State.event_formed (c u a d : Nat) : (s.event c u a d).formed = s.formed := by unfold State.event; split <;> simp
@[simp] theorem State.event_die (c u a d : Nat) : (s.event c u a d).die = s.die := by unfold State.event; split <;> simp
@[simp] theorem State.event_time (c u a d : Nat) : (s.event c u a d).time = s.time := by unfold State.event; split <;> simp
@[simp] theorem State.event_port (c u a d : Nat) : (s.event c u a d).port = s.port := by unfold State.event; split <;> simp
@[simp] theorem State.event_queues (c u a d : Nat) : (s.event c u a d).queues = s.queues := by unfold State.event; split <;> simp
@[simp] theorem State.event_cmds (c u a d : Nat) : (s.event c u a d).cmds = s.cmds := by unfold State.event; split <;> simp
@[simp] theorem State.event_tenants (c u a d : Nat) : (s.event c u a d).tenants = s.tenants := by unfold State.event; split <;> simp
@[simp] theorem State.event_buf (c u a d : Nat) : (s.event c u a d).buf = s.buf := by unfold State.event; split <;> simp
@[simp] theorem State.event_pages (c u a d : Nat) : (s.event c u a d).pages = s.pages := by unfold State.event; split <;> simp
@[simp] theorem State.event_lastBank (c u a d : Nat) : (s.event c u a d).lastBank = s.lastBank := by unfold State.event; split <;> simp
@[simp] theorem State.event_stagings (c u a d : Nat) : (s.event c u a d).stagings = s.stagings := by unfold State.event; split <;> simp
@[simp] theorem State.event_nextToken (c u a d : Nat) : (s.event c u a d).nextToken = s.nextToken := by unfold State.event; split <;> simp
@[simp] theorem State.event_banks (c u a d : Nat) : (s.event c u a d).banks = s.banks := by unfold State.event; split <;> simp
@[simp] theorem State.event_shed (c u a d : Nat) : (s.event c u a d).shed = s.shed := by unfold State.event; split <;> simp
@[simp] theorem State.event_shedIn (c u a d : Nat) : (s.event c u a d).shedIn = s.shedIn := by unfold State.event; split <;> simp
@[simp] theorem State.event_admits (c u a d : Nat) : (s.event c u a d).admits = s.admits := by unfold State.event; split <;> simp
@[simp] theorem State.event_critSeen (c u a d : Nat) : (s.event c u a d).critSeen = s.critSeen := by unfold State.event; split <;> simp
@[simp] theorem State.event_chans (c u a d : Nat) : (s.event c u a d).chans = s.chans := by unfold State.event; split <;> simp
@[simp] theorem State.event_fifoA (c u a d : Nat) : (s.event c u a d).fifoA = s.fifoA := by unfold State.event; split <;> simp
@[simp] theorem State.event_fifoB (c u a d : Nat) : (s.event c u a d).fifoB = s.fifoB := by unfold State.event; split <;> simp
@[simp] theorem State.event_bushels (c u a d : Nat) : (s.event c u a d).bushels = s.bushels := by unfold State.event; split <;> simp
@[simp] theorem State.event_due (c u a d : Nat) : (s.event c u a d).due = s.due := by unfold State.event; split <;> simp
@[simp] theorem State.event_sys (c u a d : Nat) : (s.event c u a d).sys = s.sys := by unfold State.event; split <;> simp
@[simp] theorem State.event_rwc (c u a d : Nat) : (s.event c u a d).rwc = s.rwc := by unfold State.event; split <;> simp
@[simp] theorem State.event_chain (c u a d : Nat) : (s.event c u a d).chain = s.chain := by unfold State.event; split <;> simp
@[simp] theorem State.event_tables (c u a d : Nat) : (s.event c u a d).tables = s.tables := by unfold State.event; split <;> simp
@[simp] theorem State.event_loops (c u a d : Nat) : (s.event c u a d).loops = s.loops := by unfold State.event; split <;> simp
@[simp] theorem State.event_spl (c u a d : Nat) : (s.event c u a d).spl = s.spl := by unfold State.event; split <;> simp
@[simp] theorem State.event_swap (c u a d : Nat) : (s.event c u a d).swap = s.swap := by unfold State.event; split <;> simp
@[simp] theorem State.event_swapClear (c u a d : Nat) : (s.event c u a d).swapClear = s.swapClear := by unfold State.event; split <;> simp
@[simp] theorem State.event_shock (c u a d : Nat) : (s.event c u a d).shock = s.shock := by unfold State.event; split <;> simp
@[simp] theorem State.event_spindle (c u a d : Nat) : (s.event c u a d).spindle = s.spindle := by unfold State.event; split <;> simp
@[simp] theorem State.event_power (c u a d : Nat) : (s.event c u a d).power = s.power := by unfold State.event; split <;> simp
@[simp] theorem State.event_dl (c u a d : Nat) : (s.event c u a d).dl = s.dl := by unfold State.event; split <;> simp
@[simp] theorem State.event_ovr (c u a d : Nat) : (s.event c u a d).ovr = s.ovr := by unfold State.event; split <;> simp
@[simp] theorem State.event_dict (c u a d : Nat) : (s.event c u a d).dict = s.dict := by unfold State.event; split <;> simp
@[simp] theorem State.event_harts (c u a d : Nat) : (s.event c u a d).harts = s.harts := by unfold State.event; split <;> simp
@[simp] theorem State.event_mtimecmp (c u a d : Nat) : (s.event c u a d).mtimecmp = s.mtimecmp := by unfold State.event; split <;> simp
@[simp] theorem State.event_lmem0 (c u a d : Nat) : (s.event c u a d).lmem0 = s.lmem0 := by unfold State.event; split <;> simp
@[simp] theorem State.event_lmem1 (c u a d : Nat) : (s.event c u a d).lmem1 = s.lmem1 := by unfold State.event; split <;> simp
@[simp] theorem State.event_lmem2 (c u a d : Nat) : (s.event c u a d).lmem2 = s.lmem2 := by unfold State.event; split <;> simp
@[simp] theorem State.event_lmem3 (c u a d : Nat) : (s.event c u a d).lmem3 = s.lmem3 := by unfold State.event; split <;> simp
@[simp] theorem State.event_nor (c u a d : Nat) : (s.event c u a d).nor = s.nor := by unfold State.event; split <;> simp
@[simp] theorem State.event_cache (c u a d : Nat) : (s.event c u a d).cache = s.cache := by unfold State.event; split <;> simp
@[simp] theorem State.event_ecc (c u a d : Nat) : (s.event c u a d).ecc = s.ecc := by unfold State.event; split <;> simp
@[simp] theorem State.event_clk (c u a d : Nat) : (s.event c u a d).clk = s.clk := by unfold State.event; split <;> simp
@[simp] theorem State.event_tap (c u a d : Nat) : (s.event c u a d).tap = s.tap := by unfold State.event; split <;> simp
@[simp] theorem State.event_mon (c u a d : Nat) : (s.event c u a d).mon = s.mon := by unfold State.event; split <;> simp
@[simp] theorem State.event_boot (c u a d : Nat) : (s.event c u a d).boot = s.boot := by unfold State.event; split <;> simp
@[simp] theorem State.event_pins (c u a d : Nat) : (s.event c u a d).pins = s.pins := by unfold State.event; split <;> simp

/-! ### eventC changes evr -/

@[simp] theorem State.eventC_pending (c u d : Nat) : (s.eventC c u d).pending = s.pending := by unfold State.eventC; simp only []; (repeat' split) <;> simp
@[simp] theorem State.eventC_regs (c u d : Nat) : (s.eventC c u d).regs = s.regs := by unfold State.eventC; simp only []; (repeat' split) <;> simp
@[simp] theorem State.eventC_rdata (c u d : Nat) : (s.eventC c u d).rdata = s.rdata := by unfold State.eventC; simp only []; (repeat' split) <;> simp
@[simp] theorem State.eventC_freeCtr (c u d : Nat) : (s.eventC c u d).freeCtr = s.freeCtr := by unfold State.eventC; simp only []; (repeat' split) <;> simp
@[simp] theorem State.eventC_formed (c u d : Nat) : (s.eventC c u d).formed = s.formed := by unfold State.eventC; simp only []; (repeat' split) <;> simp
@[simp] theorem State.eventC_die (c u d : Nat) : (s.eventC c u d).die = s.die := by unfold State.eventC; simp only []; (repeat' split) <;> simp
@[simp] theorem State.eventC_time (c u d : Nat) : (s.eventC c u d).time = s.time := by unfold State.eventC; simp only []; (repeat' split) <;> simp
@[simp] theorem State.eventC_port (c u d : Nat) : (s.eventC c u d).port = s.port := by unfold State.eventC; simp only []; (repeat' split) <;> simp
@[simp] theorem State.eventC_queues (c u d : Nat) : (s.eventC c u d).queues = s.queues := by unfold State.eventC; simp only []; (repeat' split) <;> simp
@[simp] theorem State.eventC_cmds (c u d : Nat) : (s.eventC c u d).cmds = s.cmds := by unfold State.eventC; simp only []; (repeat' split) <;> simp
@[simp] theorem State.eventC_tenants (c u d : Nat) : (s.eventC c u d).tenants = s.tenants := by unfold State.eventC; simp only []; (repeat' split) <;> simp
@[simp] theorem State.eventC_buf (c u d : Nat) : (s.eventC c u d).buf = s.buf := by unfold State.eventC; simp only []; (repeat' split) <;> simp
@[simp] theorem State.eventC_pages (c u d : Nat) : (s.eventC c u d).pages = s.pages := by unfold State.eventC; simp only []; (repeat' split) <;> simp
@[simp] theorem State.eventC_lastBank (c u d : Nat) : (s.eventC c u d).lastBank = s.lastBank := by unfold State.eventC; simp only []; (repeat' split) <;> simp
@[simp] theorem State.eventC_stagings (c u d : Nat) : (s.eventC c u d).stagings = s.stagings := by unfold State.eventC; simp only []; (repeat' split) <;> simp
@[simp] theorem State.eventC_nextToken (c u d : Nat) : (s.eventC c u d).nextToken = s.nextToken := by unfold State.eventC; simp only []; (repeat' split) <;> simp
@[simp] theorem State.eventC_banks (c u d : Nat) : (s.eventC c u d).banks = s.banks := by unfold State.eventC; simp only []; (repeat' split) <;> simp
@[simp] theorem State.eventC_shed (c u d : Nat) : (s.eventC c u d).shed = s.shed := by unfold State.eventC; simp only []; (repeat' split) <;> simp
@[simp] theorem State.eventC_shedIn (c u d : Nat) : (s.eventC c u d).shedIn = s.shedIn := by unfold State.eventC; simp only []; (repeat' split) <;> simp
@[simp] theorem State.eventC_admits (c u d : Nat) : (s.eventC c u d).admits = s.admits := by unfold State.eventC; simp only []; (repeat' split) <;> simp
@[simp] theorem State.eventC_critSeen (c u d : Nat) : (s.eventC c u d).critSeen = s.critSeen := by unfold State.eventC; simp only []; (repeat' split) <;> simp
@[simp] theorem State.eventC_chans (c u d : Nat) : (s.eventC c u d).chans = s.chans := by unfold State.eventC; simp only []; (repeat' split) <;> simp
@[simp] theorem State.eventC_fifoA (c u d : Nat) : (s.eventC c u d).fifoA = s.fifoA := by unfold State.eventC; simp only []; (repeat' split) <;> simp
@[simp] theorem State.eventC_fifoB (c u d : Nat) : (s.eventC c u d).fifoB = s.fifoB := by unfold State.eventC; simp only []; (repeat' split) <;> simp
@[simp] theorem State.eventC_bushels (c u d : Nat) : (s.eventC c u d).bushels = s.bushels := by unfold State.eventC; simp only []; (repeat' split) <;> simp
@[simp] theorem State.eventC_due (c u d : Nat) : (s.eventC c u d).due = s.due := by unfold State.eventC; simp only []; (repeat' split) <;> simp
@[simp] theorem State.eventC_sys (c u d : Nat) : (s.eventC c u d).sys = s.sys := by unfold State.eventC; simp only []; (repeat' split) <;> simp
@[simp] theorem State.eventC_rwc (c u d : Nat) : (s.eventC c u d).rwc = s.rwc := by unfold State.eventC; simp only []; (repeat' split) <;> simp
@[simp] theorem State.eventC_chain (c u d : Nat) : (s.eventC c u d).chain = s.chain := by unfold State.eventC; simp only []; (repeat' split) <;> simp
@[simp] theorem State.eventC_tables (c u d : Nat) : (s.eventC c u d).tables = s.tables := by unfold State.eventC; simp only []; (repeat' split) <;> simp
@[simp] theorem State.eventC_loops (c u d : Nat) : (s.eventC c u d).loops = s.loops := by unfold State.eventC; simp only []; (repeat' split) <;> simp
@[simp] theorem State.eventC_spl (c u d : Nat) : (s.eventC c u d).spl = s.spl := by unfold State.eventC; simp only []; (repeat' split) <;> simp
@[simp] theorem State.eventC_swap (c u d : Nat) : (s.eventC c u d).swap = s.swap := by unfold State.eventC; simp only []; (repeat' split) <;> simp
@[simp] theorem State.eventC_swapClear (c u d : Nat) : (s.eventC c u d).swapClear = s.swapClear := by unfold State.eventC; simp only []; (repeat' split) <;> simp
@[simp] theorem State.eventC_shock (c u d : Nat) : (s.eventC c u d).shock = s.shock := by unfold State.eventC; simp only []; (repeat' split) <;> simp
@[simp] theorem State.eventC_spindle (c u d : Nat) : (s.eventC c u d).spindle = s.spindle := by unfold State.eventC; simp only []; (repeat' split) <;> simp
@[simp] theorem State.eventC_power (c u d : Nat) : (s.eventC c u d).power = s.power := by unfold State.eventC; simp only []; (repeat' split) <;> simp
@[simp] theorem State.eventC_dl (c u d : Nat) : (s.eventC c u d).dl = s.dl := by unfold State.eventC; simp only []; (repeat' split) <;> simp
@[simp] theorem State.eventC_ovr (c u d : Nat) : (s.eventC c u d).ovr = s.ovr := by unfold State.eventC; simp only []; (repeat' split) <;> simp
@[simp] theorem State.eventC_dict (c u d : Nat) : (s.eventC c u d).dict = s.dict := by unfold State.eventC; simp only []; (repeat' split) <;> simp
@[simp] theorem State.eventC_harts (c u d : Nat) : (s.eventC c u d).harts = s.harts := by unfold State.eventC; simp only []; (repeat' split) <;> simp
@[simp] theorem State.eventC_mtimecmp (c u d : Nat) : (s.eventC c u d).mtimecmp = s.mtimecmp := by unfold State.eventC; simp only []; (repeat' split) <;> simp
@[simp] theorem State.eventC_lmem0 (c u d : Nat) : (s.eventC c u d).lmem0 = s.lmem0 := by unfold State.eventC; simp only []; (repeat' split) <;> simp
@[simp] theorem State.eventC_lmem1 (c u d : Nat) : (s.eventC c u d).lmem1 = s.lmem1 := by unfold State.eventC; simp only []; (repeat' split) <;> simp
@[simp] theorem State.eventC_lmem2 (c u d : Nat) : (s.eventC c u d).lmem2 = s.lmem2 := by unfold State.eventC; simp only []; (repeat' split) <;> simp
@[simp] theorem State.eventC_lmem3 (c u d : Nat) : (s.eventC c u d).lmem3 = s.lmem3 := by unfold State.eventC; simp only []; (repeat' split) <;> simp
@[simp] theorem State.eventC_nor (c u d : Nat) : (s.eventC c u d).nor = s.nor := by unfold State.eventC; simp only []; (repeat' split) <;> simp
@[simp] theorem State.eventC_cache (c u d : Nat) : (s.eventC c u d).cache = s.cache := by unfold State.eventC; simp only []; (repeat' split) <;> simp
@[simp] theorem State.eventC_ecc (c u d : Nat) : (s.eventC c u d).ecc = s.ecc := by unfold State.eventC; simp only []; (repeat' split) <;> simp
@[simp] theorem State.eventC_clk (c u d : Nat) : (s.eventC c u d).clk = s.clk := by unfold State.eventC; simp only []; (repeat' split) <;> simp
@[simp] theorem State.eventC_tap (c u d : Nat) : (s.eventC c u d).tap = s.tap := by unfold State.eventC; simp only []; (repeat' split) <;> simp
@[simp] theorem State.eventC_mon (c u d : Nat) : (s.eventC c u d).mon = s.mon := by unfold State.eventC; simp only []; (repeat' split) <;> simp
@[simp] theorem State.eventC_boot (c u d : Nat) : (s.eventC c u d).boot = s.boot := by unfold State.eventC; simp only []; (repeat' split) <;> simp
@[simp] theorem State.eventC_pins (c u d : Nat) : (s.eventC c u d).pins = s.pins := by unfold State.eventC; simp only []; (repeat' split) <;> simp

/-! ### denied changes evr -/

@[simp] theorem State.denied_pending (a d : Nat) : (s.denied a d).pending = s.pending := by simp [State.denied]
@[simp] theorem State.denied_regs (a d : Nat) : (s.denied a d).regs = s.regs := by simp [State.denied]
@[simp] theorem State.denied_rdata (a d : Nat) : (s.denied a d).rdata = s.rdata := by simp [State.denied]
@[simp] theorem State.denied_freeCtr (a d : Nat) : (s.denied a d).freeCtr = s.freeCtr := by simp [State.denied]
@[simp] theorem State.denied_formed (a d : Nat) : (s.denied a d).formed = s.formed := by simp [State.denied]
@[simp] theorem State.denied_die (a d : Nat) : (s.denied a d).die = s.die := by simp [State.denied]
@[simp] theorem State.denied_time (a d : Nat) : (s.denied a d).time = s.time := by simp [State.denied]
@[simp] theorem State.denied_port (a d : Nat) : (s.denied a d).port = s.port := by simp [State.denied]
@[simp] theorem State.denied_queues (a d : Nat) : (s.denied a d).queues = s.queues := by simp [State.denied]
@[simp] theorem State.denied_cmds (a d : Nat) : (s.denied a d).cmds = s.cmds := by simp [State.denied]
@[simp] theorem State.denied_tenants (a d : Nat) : (s.denied a d).tenants = s.tenants := by simp [State.denied]
@[simp] theorem State.denied_buf (a d : Nat) : (s.denied a d).buf = s.buf := by simp [State.denied]
@[simp] theorem State.denied_pages (a d : Nat) : (s.denied a d).pages = s.pages := by simp [State.denied]
@[simp] theorem State.denied_lastBank (a d : Nat) : (s.denied a d).lastBank = s.lastBank := by simp [State.denied]
@[simp] theorem State.denied_stagings (a d : Nat) : (s.denied a d).stagings = s.stagings := by simp [State.denied]
@[simp] theorem State.denied_nextToken (a d : Nat) : (s.denied a d).nextToken = s.nextToken := by simp [State.denied]
@[simp] theorem State.denied_banks (a d : Nat) : (s.denied a d).banks = s.banks := by simp [State.denied]
@[simp] theorem State.denied_shed (a d : Nat) : (s.denied a d).shed = s.shed := by simp [State.denied]
@[simp] theorem State.denied_shedIn (a d : Nat) : (s.denied a d).shedIn = s.shedIn := by simp [State.denied]
@[simp] theorem State.denied_admits (a d : Nat) : (s.denied a d).admits = s.admits := by simp [State.denied]
@[simp] theorem State.denied_critSeen (a d : Nat) : (s.denied a d).critSeen = s.critSeen := by simp [State.denied]
@[simp] theorem State.denied_chans (a d : Nat) : (s.denied a d).chans = s.chans := by simp [State.denied]
@[simp] theorem State.denied_fifoA (a d : Nat) : (s.denied a d).fifoA = s.fifoA := by simp [State.denied]
@[simp] theorem State.denied_fifoB (a d : Nat) : (s.denied a d).fifoB = s.fifoB := by simp [State.denied]
@[simp] theorem State.denied_bushels (a d : Nat) : (s.denied a d).bushels = s.bushels := by simp [State.denied]
@[simp] theorem State.denied_due (a d : Nat) : (s.denied a d).due = s.due := by simp [State.denied]
@[simp] theorem State.denied_sys (a d : Nat) : (s.denied a d).sys = s.sys := by simp [State.denied]
@[simp] theorem State.denied_rwc (a d : Nat) : (s.denied a d).rwc = s.rwc := by simp [State.denied]
@[simp] theorem State.denied_chain (a d : Nat) : (s.denied a d).chain = s.chain := by simp [State.denied]
@[simp] theorem State.denied_tables (a d : Nat) : (s.denied a d).tables = s.tables := by simp [State.denied]
@[simp] theorem State.denied_loops (a d : Nat) : (s.denied a d).loops = s.loops := by simp [State.denied]
@[simp] theorem State.denied_spl (a d : Nat) : (s.denied a d).spl = s.spl := by simp [State.denied]
@[simp] theorem State.denied_swap (a d : Nat) : (s.denied a d).swap = s.swap := by simp [State.denied]
@[simp] theorem State.denied_swapClear (a d : Nat) : (s.denied a d).swapClear = s.swapClear := by simp [State.denied]
@[simp] theorem State.denied_shock (a d : Nat) : (s.denied a d).shock = s.shock := by simp [State.denied]
@[simp] theorem State.denied_spindle (a d : Nat) : (s.denied a d).spindle = s.spindle := by simp [State.denied]
@[simp] theorem State.denied_power (a d : Nat) : (s.denied a d).power = s.power := by simp [State.denied]
@[simp] theorem State.denied_dl (a d : Nat) : (s.denied a d).dl = s.dl := by simp [State.denied]
@[simp] theorem State.denied_ovr (a d : Nat) : (s.denied a d).ovr = s.ovr := by simp [State.denied]
@[simp] theorem State.denied_dict (a d : Nat) : (s.denied a d).dict = s.dict := by simp [State.denied]
@[simp] theorem State.denied_harts (a d : Nat) : (s.denied a d).harts = s.harts := by simp [State.denied]
@[simp] theorem State.denied_mtimecmp (a d : Nat) : (s.denied a d).mtimecmp = s.mtimecmp := by simp [State.denied]
@[simp] theorem State.denied_lmem0 (a d : Nat) : (s.denied a d).lmem0 = s.lmem0 := by simp [State.denied]
@[simp] theorem State.denied_lmem1 (a d : Nat) : (s.denied a d).lmem1 = s.lmem1 := by simp [State.denied]
@[simp] theorem State.denied_lmem2 (a d : Nat) : (s.denied a d).lmem2 = s.lmem2 := by simp [State.denied]
@[simp] theorem State.denied_lmem3 (a d : Nat) : (s.denied a d).lmem3 = s.lmem3 := by simp [State.denied]
@[simp] theorem State.denied_nor (a d : Nat) : (s.denied a d).nor = s.nor := by simp [State.denied]
@[simp] theorem State.denied_cache (a d : Nat) : (s.denied a d).cache = s.cache := by simp [State.denied]
@[simp] theorem State.denied_ecc (a d : Nat) : (s.denied a d).ecc = s.ecc := by simp [State.denied]
@[simp] theorem State.denied_clk (a d : Nat) : (s.denied a d).clk = s.clk := by simp [State.denied]
@[simp] theorem State.denied_tap (a d : Nat) : (s.denied a d).tap = s.tap := by simp [State.denied]
@[simp] theorem State.denied_mon (a d : Nat) : (s.denied a d).mon = s.mon := by simp [State.denied]
@[simp] theorem State.denied_boot (a d : Nat) : (s.denied a d).boot = s.boot := by simp [State.denied]
@[simp] theorem State.denied_pins (a d : Nat) : (s.denied a d).pins = s.pins := by simp [State.denied]

/-! ### reserved changes evr -/

@[simp] theorem State.reserved_pending (a d : Nat) : (s.reserved a d).pending = s.pending := by simp [State.reserved]
@[simp] theorem State.reserved_regs (a d : Nat) : (s.reserved a d).regs = s.regs := by simp [State.reserved]
@[simp] theorem State.reserved_rdata (a d : Nat) : (s.reserved a d).rdata = s.rdata := by simp [State.reserved]
@[simp] theorem State.reserved_freeCtr (a d : Nat) : (s.reserved a d).freeCtr = s.freeCtr := by simp [State.reserved]
@[simp] theorem State.reserved_formed (a d : Nat) : (s.reserved a d).formed = s.formed := by simp [State.reserved]
@[simp] theorem State.reserved_die (a d : Nat) : (s.reserved a d).die = s.die := by simp [State.reserved]
@[simp] theorem State.reserved_time (a d : Nat) : (s.reserved a d).time = s.time := by simp [State.reserved]
@[simp] theorem State.reserved_port (a d : Nat) : (s.reserved a d).port = s.port := by simp [State.reserved]
@[simp] theorem State.reserved_queues (a d : Nat) : (s.reserved a d).queues = s.queues := by simp [State.reserved]
@[simp] theorem State.reserved_cmds (a d : Nat) : (s.reserved a d).cmds = s.cmds := by simp [State.reserved]
@[simp] theorem State.reserved_tenants (a d : Nat) : (s.reserved a d).tenants = s.tenants := by simp [State.reserved]
@[simp] theorem State.reserved_buf (a d : Nat) : (s.reserved a d).buf = s.buf := by simp [State.reserved]
@[simp] theorem State.reserved_pages (a d : Nat) : (s.reserved a d).pages = s.pages := by simp [State.reserved]
@[simp] theorem State.reserved_lastBank (a d : Nat) : (s.reserved a d).lastBank = s.lastBank := by simp [State.reserved]
@[simp] theorem State.reserved_stagings (a d : Nat) : (s.reserved a d).stagings = s.stagings := by simp [State.reserved]
@[simp] theorem State.reserved_nextToken (a d : Nat) : (s.reserved a d).nextToken = s.nextToken := by simp [State.reserved]
@[simp] theorem State.reserved_banks (a d : Nat) : (s.reserved a d).banks = s.banks := by simp [State.reserved]
@[simp] theorem State.reserved_shed (a d : Nat) : (s.reserved a d).shed = s.shed := by simp [State.reserved]
@[simp] theorem State.reserved_shedIn (a d : Nat) : (s.reserved a d).shedIn = s.shedIn := by simp [State.reserved]
@[simp] theorem State.reserved_admits (a d : Nat) : (s.reserved a d).admits = s.admits := by simp [State.reserved]
@[simp] theorem State.reserved_critSeen (a d : Nat) : (s.reserved a d).critSeen = s.critSeen := by simp [State.reserved]
@[simp] theorem State.reserved_chans (a d : Nat) : (s.reserved a d).chans = s.chans := by simp [State.reserved]
@[simp] theorem State.reserved_fifoA (a d : Nat) : (s.reserved a d).fifoA = s.fifoA := by simp [State.reserved]
@[simp] theorem State.reserved_fifoB (a d : Nat) : (s.reserved a d).fifoB = s.fifoB := by simp [State.reserved]
@[simp] theorem State.reserved_bushels (a d : Nat) : (s.reserved a d).bushels = s.bushels := by simp [State.reserved]
@[simp] theorem State.reserved_due (a d : Nat) : (s.reserved a d).due = s.due := by simp [State.reserved]
@[simp] theorem State.reserved_sys (a d : Nat) : (s.reserved a d).sys = s.sys := by simp [State.reserved]
@[simp] theorem State.reserved_rwc (a d : Nat) : (s.reserved a d).rwc = s.rwc := by simp [State.reserved]
@[simp] theorem State.reserved_chain (a d : Nat) : (s.reserved a d).chain = s.chain := by simp [State.reserved]
@[simp] theorem State.reserved_tables (a d : Nat) : (s.reserved a d).tables = s.tables := by simp [State.reserved]
@[simp] theorem State.reserved_loops (a d : Nat) : (s.reserved a d).loops = s.loops := by simp [State.reserved]
@[simp] theorem State.reserved_spl (a d : Nat) : (s.reserved a d).spl = s.spl := by simp [State.reserved]
@[simp] theorem State.reserved_swap (a d : Nat) : (s.reserved a d).swap = s.swap := by simp [State.reserved]
@[simp] theorem State.reserved_swapClear (a d : Nat) : (s.reserved a d).swapClear = s.swapClear := by simp [State.reserved]
@[simp] theorem State.reserved_shock (a d : Nat) : (s.reserved a d).shock = s.shock := by simp [State.reserved]
@[simp] theorem State.reserved_spindle (a d : Nat) : (s.reserved a d).spindle = s.spindle := by simp [State.reserved]
@[simp] theorem State.reserved_power (a d : Nat) : (s.reserved a d).power = s.power := by simp [State.reserved]
@[simp] theorem State.reserved_dl (a d : Nat) : (s.reserved a d).dl = s.dl := by simp [State.reserved]
@[simp] theorem State.reserved_ovr (a d : Nat) : (s.reserved a d).ovr = s.ovr := by simp [State.reserved]
@[simp] theorem State.reserved_dict (a d : Nat) : (s.reserved a d).dict = s.dict := by simp [State.reserved]
@[simp] theorem State.reserved_harts (a d : Nat) : (s.reserved a d).harts = s.harts := by simp [State.reserved]
@[simp] theorem State.reserved_mtimecmp (a d : Nat) : (s.reserved a d).mtimecmp = s.mtimecmp := by simp [State.reserved]
@[simp] theorem State.reserved_lmem0 (a d : Nat) : (s.reserved a d).lmem0 = s.lmem0 := by simp [State.reserved]
@[simp] theorem State.reserved_lmem1 (a d : Nat) : (s.reserved a d).lmem1 = s.lmem1 := by simp [State.reserved]
@[simp] theorem State.reserved_lmem2 (a d : Nat) : (s.reserved a d).lmem2 = s.lmem2 := by simp [State.reserved]
@[simp] theorem State.reserved_lmem3 (a d : Nat) : (s.reserved a d).lmem3 = s.lmem3 := by simp [State.reserved]
@[simp] theorem State.reserved_nor (a d : Nat) : (s.reserved a d).nor = s.nor := by simp [State.reserved]
@[simp] theorem State.reserved_cache (a d : Nat) : (s.reserved a d).cache = s.cache := by simp [State.reserved]
@[simp] theorem State.reserved_ecc (a d : Nat) : (s.reserved a d).ecc = s.ecc := by simp [State.reserved]
@[simp] theorem State.reserved_clk (a d : Nat) : (s.reserved a d).clk = s.clk := by simp [State.reserved]
@[simp] theorem State.reserved_tap (a d : Nat) : (s.reserved a d).tap = s.tap := by simp [State.reserved]
@[simp] theorem State.reserved_mon (a d : Nat) : (s.reserved a d).mon = s.mon := by simp [State.reserved]
@[simp] theorem State.reserved_boot (a d : Nat) : (s.reserved a d).boot = s.boot := by simp [State.reserved]
@[simp] theorem State.reserved_pins (a d : Nat) : (s.reserved a d).pins = s.pins := by simp [State.reserved]

/-! ### emcy changes dict -/

@[simp] theorem State.emcy_pending (c : Nat) (b : Byte) (d : Nat) : (s.emcy c b d).pending = s.pending := rfl
@[simp] theorem State.emcy_regs (c : Nat) (b : Byte) (d : Nat) : (s.emcy c b d).regs = s.regs := rfl
@[simp] theorem State.emcy_rdata (c : Nat) (b : Byte) (d : Nat) : (s.emcy c b d).rdata = s.rdata := rfl
@[simp] theorem State.emcy_freeCtr (c : Nat) (b : Byte) (d : Nat) : (s.emcy c b d).freeCtr = s.freeCtr := rfl
@[simp] theorem State.emcy_formed (c : Nat) (b : Byte) (d : Nat) : (s.emcy c b d).formed = s.formed := rfl
@[simp] theorem State.emcy_die (c : Nat) (b : Byte) (d : Nat) : (s.emcy c b d).die = s.die := rfl
@[simp] theorem State.emcy_time (c : Nat) (b : Byte) (d : Nat) : (s.emcy c b d).time = s.time := rfl
@[simp] theorem State.emcy_evr (c : Nat) (b : Byte) (d : Nat) : (s.emcy c b d).evr = s.evr := rfl
@[simp] theorem State.emcy_port (c : Nat) (b : Byte) (d : Nat) : (s.emcy c b d).port = s.port := rfl
@[simp] theorem State.emcy_queues (c : Nat) (b : Byte) (d : Nat) : (s.emcy c b d).queues = s.queues := rfl
@[simp] theorem State.emcy_cmds (c : Nat) (b : Byte) (d : Nat) : (s.emcy c b d).cmds = s.cmds := rfl
@[simp] theorem State.emcy_tenants (c : Nat) (b : Byte) (d : Nat) : (s.emcy c b d).tenants = s.tenants := rfl
@[simp] theorem State.emcy_buf (c : Nat) (b : Byte) (d : Nat) : (s.emcy c b d).buf = s.buf := rfl
@[simp] theorem State.emcy_pages (c : Nat) (b : Byte) (d : Nat) : (s.emcy c b d).pages = s.pages := rfl
@[simp] theorem State.emcy_lastBank (c : Nat) (b : Byte) (d : Nat) : (s.emcy c b d).lastBank = s.lastBank := rfl
@[simp] theorem State.emcy_stagings (c : Nat) (b : Byte) (d : Nat) : (s.emcy c b d).stagings = s.stagings := rfl
@[simp] theorem State.emcy_nextToken (c : Nat) (b : Byte) (d : Nat) : (s.emcy c b d).nextToken = s.nextToken := rfl
@[simp] theorem State.emcy_banks (c : Nat) (b : Byte) (d : Nat) : (s.emcy c b d).banks = s.banks := rfl
@[simp] theorem State.emcy_shed (c : Nat) (b : Byte) (d : Nat) : (s.emcy c b d).shed = s.shed := rfl
@[simp] theorem State.emcy_shedIn (c : Nat) (b : Byte) (d : Nat) : (s.emcy c b d).shedIn = s.shedIn := rfl
@[simp] theorem State.emcy_admits (c : Nat) (b : Byte) (d : Nat) : (s.emcy c b d).admits = s.admits := rfl
@[simp] theorem State.emcy_critSeen (c : Nat) (b : Byte) (d : Nat) : (s.emcy c b d).critSeen = s.critSeen := rfl
@[simp] theorem State.emcy_chans (c : Nat) (b : Byte) (d : Nat) : (s.emcy c b d).chans = s.chans := rfl
@[simp] theorem State.emcy_fifoA (c : Nat) (b : Byte) (d : Nat) : (s.emcy c b d).fifoA = s.fifoA := rfl
@[simp] theorem State.emcy_fifoB (c : Nat) (b : Byte) (d : Nat) : (s.emcy c b d).fifoB = s.fifoB := rfl
@[simp] theorem State.emcy_bushels (c : Nat) (b : Byte) (d : Nat) : (s.emcy c b d).bushels = s.bushels := rfl
@[simp] theorem State.emcy_due (c : Nat) (b : Byte) (d : Nat) : (s.emcy c b d).due = s.due := rfl
@[simp] theorem State.emcy_sys (c : Nat) (b : Byte) (d : Nat) : (s.emcy c b d).sys = s.sys := rfl
@[simp] theorem State.emcy_rwc (c : Nat) (b : Byte) (d : Nat) : (s.emcy c b d).rwc = s.rwc := rfl
@[simp] theorem State.emcy_chain (c : Nat) (b : Byte) (d : Nat) : (s.emcy c b d).chain = s.chain := rfl
@[simp] theorem State.emcy_tables (c : Nat) (b : Byte) (d : Nat) : (s.emcy c b d).tables = s.tables := rfl
@[simp] theorem State.emcy_loops (c : Nat) (b : Byte) (d : Nat) : (s.emcy c b d).loops = s.loops := rfl
@[simp] theorem State.emcy_spl (c : Nat) (b : Byte) (d : Nat) : (s.emcy c b d).spl = s.spl := rfl
@[simp] theorem State.emcy_swap (c : Nat) (b : Byte) (d : Nat) : (s.emcy c b d).swap = s.swap := rfl
@[simp] theorem State.emcy_swapClear (c : Nat) (b : Byte) (d : Nat) : (s.emcy c b d).swapClear = s.swapClear := rfl
@[simp] theorem State.emcy_shock (c : Nat) (b : Byte) (d : Nat) : (s.emcy c b d).shock = s.shock := rfl
@[simp] theorem State.emcy_spindle (c : Nat) (b : Byte) (d : Nat) : (s.emcy c b d).spindle = s.spindle := rfl
@[simp] theorem State.emcy_power (c : Nat) (b : Byte) (d : Nat) : (s.emcy c b d).power = s.power := rfl
@[simp] theorem State.emcy_dl (c : Nat) (b : Byte) (d : Nat) : (s.emcy c b d).dl = s.dl := rfl
@[simp] theorem State.emcy_ovr (c : Nat) (b : Byte) (d : Nat) : (s.emcy c b d).ovr = s.ovr := rfl
@[simp] theorem State.emcy_harts (c : Nat) (b : Byte) (d : Nat) : (s.emcy c b d).harts = s.harts := rfl
@[simp] theorem State.emcy_mtimecmp (c : Nat) (b : Byte) (d : Nat) : (s.emcy c b d).mtimecmp = s.mtimecmp := rfl
@[simp] theorem State.emcy_lmem0 (c : Nat) (b : Byte) (d : Nat) : (s.emcy c b d).lmem0 = s.lmem0 := rfl
@[simp] theorem State.emcy_lmem1 (c : Nat) (b : Byte) (d : Nat) : (s.emcy c b d).lmem1 = s.lmem1 := rfl
@[simp] theorem State.emcy_lmem2 (c : Nat) (b : Byte) (d : Nat) : (s.emcy c b d).lmem2 = s.lmem2 := rfl
@[simp] theorem State.emcy_lmem3 (c : Nat) (b : Byte) (d : Nat) : (s.emcy c b d).lmem3 = s.lmem3 := rfl
@[simp] theorem State.emcy_nor (c : Nat) (b : Byte) (d : Nat) : (s.emcy c b d).nor = s.nor := rfl
@[simp] theorem State.emcy_cache (c : Nat) (b : Byte) (d : Nat) : (s.emcy c b d).cache = s.cache := rfl
@[simp] theorem State.emcy_ecc (c : Nat) (b : Byte) (d : Nat) : (s.emcy c b d).ecc = s.ecc := rfl
@[simp] theorem State.emcy_clk (c : Nat) (b : Byte) (d : Nat) : (s.emcy c b d).clk = s.clk := rfl
@[simp] theorem State.emcy_tap (c : Nat) (b : Byte) (d : Nat) : (s.emcy c b d).tap = s.tap := rfl
@[simp] theorem State.emcy_mon (c : Nat) (b : Byte) (d : Nat) : (s.emcy c b d).mon = s.mon := rfl
@[simp] theorem State.emcy_boot (c : Nat) (b : Byte) (d : Nat) : (s.emcy c b d).boot = s.boot := rfl
@[simp] theorem State.emcy_pins (c : Nat) (b : Byte) (d : Nat) : (s.emcy c b d).pins = s.pins := rfl

/-! ### note changes ovr -/

@[simp] theorem State.note_pending (b : List Byte) : (s.note b).pending = s.pending := by unfold State.note; split <;> rfl
@[simp] theorem State.note_regs (b : List Byte) : (s.note b).regs = s.regs := by unfold State.note; split <;> rfl
@[simp] theorem State.note_rdata (b : List Byte) : (s.note b).rdata = s.rdata := by unfold State.note; split <;> rfl
@[simp] theorem State.note_freeCtr (b : List Byte) : (s.note b).freeCtr = s.freeCtr := by unfold State.note; split <;> rfl
@[simp] theorem State.note_formed (b : List Byte) : (s.note b).formed = s.formed := by unfold State.note; split <;> rfl
@[simp] theorem State.note_die (b : List Byte) : (s.note b).die = s.die := by unfold State.note; split <;> rfl
@[simp] theorem State.note_time (b : List Byte) : (s.note b).time = s.time := by unfold State.note; split <;> rfl
@[simp] theorem State.note_evr (b : List Byte) : (s.note b).evr = s.evr := by unfold State.note; split <;> rfl
@[simp] theorem State.note_port (b : List Byte) : (s.note b).port = s.port := by unfold State.note; split <;> rfl
@[simp] theorem State.note_queues (b : List Byte) : (s.note b).queues = s.queues := by unfold State.note; split <;> rfl
@[simp] theorem State.note_cmds (b : List Byte) : (s.note b).cmds = s.cmds := by unfold State.note; split <;> rfl
@[simp] theorem State.note_tenants (b : List Byte) : (s.note b).tenants = s.tenants := by unfold State.note; split <;> rfl
@[simp] theorem State.note_buf (b : List Byte) : (s.note b).buf = s.buf := by unfold State.note; split <;> rfl
@[simp] theorem State.note_pages (b : List Byte) : (s.note b).pages = s.pages := by unfold State.note; split <;> rfl
@[simp] theorem State.note_lastBank (b : List Byte) : (s.note b).lastBank = s.lastBank := by unfold State.note; split <;> rfl
@[simp] theorem State.note_stagings (b : List Byte) : (s.note b).stagings = s.stagings := by unfold State.note; split <;> rfl
@[simp] theorem State.note_nextToken (b : List Byte) : (s.note b).nextToken = s.nextToken := by unfold State.note; split <;> rfl
@[simp] theorem State.note_banks (b : List Byte) : (s.note b).banks = s.banks := by unfold State.note; split <;> rfl
@[simp] theorem State.note_shed (b : List Byte) : (s.note b).shed = s.shed := by unfold State.note; split <;> rfl
@[simp] theorem State.note_shedIn (b : List Byte) : (s.note b).shedIn = s.shedIn := by unfold State.note; split <;> rfl
@[simp] theorem State.note_admits (b : List Byte) : (s.note b).admits = s.admits := by unfold State.note; split <;> rfl
@[simp] theorem State.note_critSeen (b : List Byte) : (s.note b).critSeen = s.critSeen := by unfold State.note; split <;> rfl
@[simp] theorem State.note_chans (b : List Byte) : (s.note b).chans = s.chans := by unfold State.note; split <;> rfl
@[simp] theorem State.note_fifoA (b : List Byte) : (s.note b).fifoA = s.fifoA := by unfold State.note; split <;> rfl
@[simp] theorem State.note_fifoB (b : List Byte) : (s.note b).fifoB = s.fifoB := by unfold State.note; split <;> rfl
@[simp] theorem State.note_bushels (b : List Byte) : (s.note b).bushels = s.bushels := by unfold State.note; split <;> rfl
@[simp] theorem State.note_due (b : List Byte) : (s.note b).due = s.due := by unfold State.note; split <;> rfl
@[simp] theorem State.note_sys (b : List Byte) : (s.note b).sys = s.sys := by unfold State.note; split <;> rfl
@[simp] theorem State.note_rwc (b : List Byte) : (s.note b).rwc = s.rwc := by unfold State.note; split <;> rfl
@[simp] theorem State.note_chain (b : List Byte) : (s.note b).chain = s.chain := by unfold State.note; split <;> rfl
@[simp] theorem State.note_tables (b : List Byte) : (s.note b).tables = s.tables := by unfold State.note; split <;> rfl
@[simp] theorem State.note_loops (b : List Byte) : (s.note b).loops = s.loops := by unfold State.note; split <;> rfl
@[simp] theorem State.note_spl (b : List Byte) : (s.note b).spl = s.spl := by unfold State.note; split <;> rfl
@[simp] theorem State.note_swap (b : List Byte) : (s.note b).swap = s.swap := by unfold State.note; split <;> rfl
@[simp] theorem State.note_swapClear (b : List Byte) : (s.note b).swapClear = s.swapClear := by unfold State.note; split <;> rfl
@[simp] theorem State.note_shock (b : List Byte) : (s.note b).shock = s.shock := by unfold State.note; split <;> rfl
@[simp] theorem State.note_spindle (b : List Byte) : (s.note b).spindle = s.spindle := by unfold State.note; split <;> rfl
@[simp] theorem State.note_power (b : List Byte) : (s.note b).power = s.power := by unfold State.note; split <;> rfl
@[simp] theorem State.note_dl (b : List Byte) : (s.note b).dl = s.dl := by unfold State.note; split <;> rfl
@[simp] theorem State.note_dict (b : List Byte) : (s.note b).dict = s.dict := by unfold State.note; split <;> rfl
@[simp] theorem State.note_harts (b : List Byte) : (s.note b).harts = s.harts := by unfold State.note; split <;> rfl
@[simp] theorem State.note_mtimecmp (b : List Byte) : (s.note b).mtimecmp = s.mtimecmp := by unfold State.note; split <;> rfl
@[simp] theorem State.note_lmem0 (b : List Byte) : (s.note b).lmem0 = s.lmem0 := by unfold State.note; split <;> rfl
@[simp] theorem State.note_lmem1 (b : List Byte) : (s.note b).lmem1 = s.lmem1 := by unfold State.note; split <;> rfl
@[simp] theorem State.note_lmem2 (b : List Byte) : (s.note b).lmem2 = s.lmem2 := by unfold State.note; split <;> rfl
@[simp] theorem State.note_lmem3 (b : List Byte) : (s.note b).lmem3 = s.lmem3 := by unfold State.note; split <;> rfl
@[simp] theorem State.note_nor (b : List Byte) : (s.note b).nor = s.nor := by unfold State.note; split <;> rfl
@[simp] theorem State.note_cache (b : List Byte) : (s.note b).cache = s.cache := by unfold State.note; split <;> rfl
@[simp] theorem State.note_ecc (b : List Byte) : (s.note b).ecc = s.ecc := by unfold State.note; split <;> rfl
@[simp] theorem State.note_clk (b : List Byte) : (s.note b).clk = s.clk := by unfold State.note; split <;> rfl
@[simp] theorem State.note_tap (b : List Byte) : (s.note b).tap = s.tap := by unfold State.note; split <;> rfl
@[simp] theorem State.note_mon (b : List Byte) : (s.note b).mon = s.mon := by unfold State.note; split <;> rfl
@[simp] theorem State.note_boot (b : List Byte) : (s.note b).boot = s.boot := by unfold State.note; split <;> rfl
@[simp] theorem State.note_pins (b : List Byte) : (s.note b).pins = s.pins := by unfold State.note; split <;> rfl

/-! ### cause changes tenants -/

@[simp] theorem State.cause_pending (t b : Nat) : (s.cause t b).pending = s.pending := rfl
@[simp] theorem State.cause_regs (t b : Nat) : (s.cause t b).regs = s.regs := rfl
@[simp] theorem State.cause_rdata (t b : Nat) : (s.cause t b).rdata = s.rdata := rfl
@[simp] theorem State.cause_freeCtr (t b : Nat) : (s.cause t b).freeCtr = s.freeCtr := rfl
@[simp] theorem State.cause_formed (t b : Nat) : (s.cause t b).formed = s.formed := rfl
@[simp] theorem State.cause_die (t b : Nat) : (s.cause t b).die = s.die := rfl
@[simp] theorem State.cause_time (t b : Nat) : (s.cause t b).time = s.time := rfl
@[simp] theorem State.cause_evr (t b : Nat) : (s.cause t b).evr = s.evr := rfl
@[simp] theorem State.cause_port (t b : Nat) : (s.cause t b).port = s.port := rfl
@[simp] theorem State.cause_queues (t b : Nat) : (s.cause t b).queues = s.queues := rfl
@[simp] theorem State.cause_cmds (t b : Nat) : (s.cause t b).cmds = s.cmds := rfl
@[simp] theorem State.cause_buf (t b : Nat) : (s.cause t b).buf = s.buf := rfl
@[simp] theorem State.cause_pages (t b : Nat) : (s.cause t b).pages = s.pages := rfl
@[simp] theorem State.cause_lastBank (t b : Nat) : (s.cause t b).lastBank = s.lastBank := rfl
@[simp] theorem State.cause_stagings (t b : Nat) : (s.cause t b).stagings = s.stagings := rfl
@[simp] theorem State.cause_nextToken (t b : Nat) : (s.cause t b).nextToken = s.nextToken := rfl
@[simp] theorem State.cause_banks (t b : Nat) : (s.cause t b).banks = s.banks := rfl
@[simp] theorem State.cause_shed (t b : Nat) : (s.cause t b).shed = s.shed := rfl
@[simp] theorem State.cause_shedIn (t b : Nat) : (s.cause t b).shedIn = s.shedIn := rfl
@[simp] theorem State.cause_admits (t b : Nat) : (s.cause t b).admits = s.admits := rfl
@[simp] theorem State.cause_critSeen (t b : Nat) : (s.cause t b).critSeen = s.critSeen := rfl
@[simp] theorem State.cause_chans (t b : Nat) : (s.cause t b).chans = s.chans := rfl
@[simp] theorem State.cause_fifoA (t b : Nat) : (s.cause t b).fifoA = s.fifoA := rfl
@[simp] theorem State.cause_fifoB (t b : Nat) : (s.cause t b).fifoB = s.fifoB := rfl
@[simp] theorem State.cause_bushels (t b : Nat) : (s.cause t b).bushels = s.bushels := rfl
@[simp] theorem State.cause_due (t b : Nat) : (s.cause t b).due = s.due := rfl
@[simp] theorem State.cause_sys (t b : Nat) : (s.cause t b).sys = s.sys := rfl
@[simp] theorem State.cause_rwc (t b : Nat) : (s.cause t b).rwc = s.rwc := rfl
@[simp] theorem State.cause_chain (t b : Nat) : (s.cause t b).chain = s.chain := rfl
@[simp] theorem State.cause_tables (t b : Nat) : (s.cause t b).tables = s.tables := rfl
@[simp] theorem State.cause_loops (t b : Nat) : (s.cause t b).loops = s.loops := rfl
@[simp] theorem State.cause_spl (t b : Nat) : (s.cause t b).spl = s.spl := rfl
@[simp] theorem State.cause_swap (t b : Nat) : (s.cause t b).swap = s.swap := rfl
@[simp] theorem State.cause_swapClear (t b : Nat) : (s.cause t b).swapClear = s.swapClear := rfl
@[simp] theorem State.cause_shock (t b : Nat) : (s.cause t b).shock = s.shock := rfl
@[simp] theorem State.cause_spindle (t b : Nat) : (s.cause t b).spindle = s.spindle := rfl
@[simp] theorem State.cause_power (t b : Nat) : (s.cause t b).power = s.power := rfl
@[simp] theorem State.cause_dl (t b : Nat) : (s.cause t b).dl = s.dl := rfl
@[simp] theorem State.cause_ovr (t b : Nat) : (s.cause t b).ovr = s.ovr := rfl
@[simp] theorem State.cause_dict (t b : Nat) : (s.cause t b).dict = s.dict := rfl
@[simp] theorem State.cause_harts (t b : Nat) : (s.cause t b).harts = s.harts := rfl
@[simp] theorem State.cause_mtimecmp (t b : Nat) : (s.cause t b).mtimecmp = s.mtimecmp := rfl
@[simp] theorem State.cause_lmem0 (t b : Nat) : (s.cause t b).lmem0 = s.lmem0 := rfl
@[simp] theorem State.cause_lmem1 (t b : Nat) : (s.cause t b).lmem1 = s.lmem1 := rfl
@[simp] theorem State.cause_lmem2 (t b : Nat) : (s.cause t b).lmem2 = s.lmem2 := rfl
@[simp] theorem State.cause_lmem3 (t b : Nat) : (s.cause t b).lmem3 = s.lmem3 := rfl
@[simp] theorem State.cause_nor (t b : Nat) : (s.cause t b).nor = s.nor := rfl
@[simp] theorem State.cause_cache (t b : Nat) : (s.cause t b).cache = s.cache := rfl
@[simp] theorem State.cause_ecc (t b : Nat) : (s.cause t b).ecc = s.ecc := rfl
@[simp] theorem State.cause_clk (t b : Nat) : (s.cause t b).clk = s.clk := rfl
@[simp] theorem State.cause_tap (t b : Nat) : (s.cause t b).tap = s.tap := rfl
@[simp] theorem State.cause_mon (t b : Nat) : (s.cause t b).mon = s.mon := rfl
@[simp] theorem State.cause_boot (t b : Nat) : (s.cause t b).boot = s.boot := rfl
@[simp] theorem State.cause_pins (t b : Nat) : (s.cause t b).pins = s.pins := rfl

/-! ### causeWriter changes tenants -/

@[simp] theorem State.causeWriter_pending (n b : Nat) : (s.causeWriter n b).pending = s.pending := by unfold State.causeWriter; split <;> rfl
@[simp] theorem State.causeWriter_regs (n b : Nat) : (s.causeWriter n b).regs = s.regs := by unfold State.causeWriter; split <;> rfl
@[simp] theorem State.causeWriter_rdata (n b : Nat) : (s.causeWriter n b).rdata = s.rdata := by unfold State.causeWriter; split <;> rfl
@[simp] theorem State.causeWriter_freeCtr (n b : Nat) : (s.causeWriter n b).freeCtr = s.freeCtr := by unfold State.causeWriter; split <;> rfl
@[simp] theorem State.causeWriter_formed (n b : Nat) : (s.causeWriter n b).formed = s.formed := by unfold State.causeWriter; split <;> rfl
@[simp] theorem State.causeWriter_die (n b : Nat) : (s.causeWriter n b).die = s.die := by unfold State.causeWriter; split <;> rfl
@[simp] theorem State.causeWriter_time (n b : Nat) : (s.causeWriter n b).time = s.time := by unfold State.causeWriter; split <;> rfl
@[simp] theorem State.causeWriter_evr (n b : Nat) : (s.causeWriter n b).evr = s.evr := by unfold State.causeWriter; split <;> rfl
@[simp] theorem State.causeWriter_port (n b : Nat) : (s.causeWriter n b).port = s.port := by unfold State.causeWriter; split <;> rfl
@[simp] theorem State.causeWriter_queues (n b : Nat) : (s.causeWriter n b).queues = s.queues := by unfold State.causeWriter; split <;> rfl
@[simp] theorem State.causeWriter_cmds (n b : Nat) : (s.causeWriter n b).cmds = s.cmds := by unfold State.causeWriter; split <;> rfl
@[simp] theorem State.causeWriter_buf (n b : Nat) : (s.causeWriter n b).buf = s.buf := by unfold State.causeWriter; split <;> rfl
@[simp] theorem State.causeWriter_pages (n b : Nat) : (s.causeWriter n b).pages = s.pages := by unfold State.causeWriter; split <;> rfl
@[simp] theorem State.causeWriter_lastBank (n b : Nat) : (s.causeWriter n b).lastBank = s.lastBank := by unfold State.causeWriter; split <;> rfl
@[simp] theorem State.causeWriter_stagings (n b : Nat) : (s.causeWriter n b).stagings = s.stagings := by unfold State.causeWriter; split <;> rfl
@[simp] theorem State.causeWriter_nextToken (n b : Nat) : (s.causeWriter n b).nextToken = s.nextToken := by unfold State.causeWriter; split <;> rfl
@[simp] theorem State.causeWriter_banks (n b : Nat) : (s.causeWriter n b).banks = s.banks := by unfold State.causeWriter; split <;> rfl
@[simp] theorem State.causeWriter_shed (n b : Nat) : (s.causeWriter n b).shed = s.shed := by unfold State.causeWriter; split <;> rfl
@[simp] theorem State.causeWriter_shedIn (n b : Nat) : (s.causeWriter n b).shedIn = s.shedIn := by unfold State.causeWriter; split <;> rfl
@[simp] theorem State.causeWriter_admits (n b : Nat) : (s.causeWriter n b).admits = s.admits := by unfold State.causeWriter; split <;> rfl
@[simp] theorem State.causeWriter_critSeen (n b : Nat) : (s.causeWriter n b).critSeen = s.critSeen := by unfold State.causeWriter; split <;> rfl
@[simp] theorem State.causeWriter_chans (n b : Nat) : (s.causeWriter n b).chans = s.chans := by unfold State.causeWriter; split <;> rfl
@[simp] theorem State.causeWriter_fifoA (n b : Nat) : (s.causeWriter n b).fifoA = s.fifoA := by unfold State.causeWriter; split <;> rfl
@[simp] theorem State.causeWriter_fifoB (n b : Nat) : (s.causeWriter n b).fifoB = s.fifoB := by unfold State.causeWriter; split <;> rfl
@[simp] theorem State.causeWriter_bushels (n b : Nat) : (s.causeWriter n b).bushels = s.bushels := by unfold State.causeWriter; split <;> rfl
@[simp] theorem State.causeWriter_due (n b : Nat) : (s.causeWriter n b).due = s.due := by unfold State.causeWriter; split <;> rfl
@[simp] theorem State.causeWriter_sys (n b : Nat) : (s.causeWriter n b).sys = s.sys := by unfold State.causeWriter; split <;> rfl
@[simp] theorem State.causeWriter_rwc (n b : Nat) : (s.causeWriter n b).rwc = s.rwc := by unfold State.causeWriter; split <;> rfl
@[simp] theorem State.causeWriter_chain (n b : Nat) : (s.causeWriter n b).chain = s.chain := by unfold State.causeWriter; split <;> rfl
@[simp] theorem State.causeWriter_tables (n b : Nat) : (s.causeWriter n b).tables = s.tables := by unfold State.causeWriter; split <;> rfl
@[simp] theorem State.causeWriter_loops (n b : Nat) : (s.causeWriter n b).loops = s.loops := by unfold State.causeWriter; split <;> rfl
@[simp] theorem State.causeWriter_spl (n b : Nat) : (s.causeWriter n b).spl = s.spl := by unfold State.causeWriter; split <;> rfl
@[simp] theorem State.causeWriter_swap (n b : Nat) : (s.causeWriter n b).swap = s.swap := by unfold State.causeWriter; split <;> rfl
@[simp] theorem State.causeWriter_swapClear (n b : Nat) : (s.causeWriter n b).swapClear = s.swapClear := by unfold State.causeWriter; split <;> rfl
@[simp] theorem State.causeWriter_shock (n b : Nat) : (s.causeWriter n b).shock = s.shock := by unfold State.causeWriter; split <;> rfl
@[simp] theorem State.causeWriter_spindle (n b : Nat) : (s.causeWriter n b).spindle = s.spindle := by unfold State.causeWriter; split <;> rfl
@[simp] theorem State.causeWriter_power (n b : Nat) : (s.causeWriter n b).power = s.power := by unfold State.causeWriter; split <;> rfl
@[simp] theorem State.causeWriter_dl (n b : Nat) : (s.causeWriter n b).dl = s.dl := by unfold State.causeWriter; split <;> rfl
@[simp] theorem State.causeWriter_ovr (n b : Nat) : (s.causeWriter n b).ovr = s.ovr := by unfold State.causeWriter; split <;> rfl
@[simp] theorem State.causeWriter_dict (n b : Nat) : (s.causeWriter n b).dict = s.dict := by unfold State.causeWriter; split <;> rfl
@[simp] theorem State.causeWriter_harts (n b : Nat) : (s.causeWriter n b).harts = s.harts := by unfold State.causeWriter; split <;> rfl
@[simp] theorem State.causeWriter_mtimecmp (n b : Nat) : (s.causeWriter n b).mtimecmp = s.mtimecmp := by unfold State.causeWriter; split <;> rfl
@[simp] theorem State.causeWriter_lmem0 (n b : Nat) : (s.causeWriter n b).lmem0 = s.lmem0 := by unfold State.causeWriter; split <;> rfl
@[simp] theorem State.causeWriter_lmem1 (n b : Nat) : (s.causeWriter n b).lmem1 = s.lmem1 := by unfold State.causeWriter; split <;> rfl
@[simp] theorem State.causeWriter_lmem2 (n b : Nat) : (s.causeWriter n b).lmem2 = s.lmem2 := by unfold State.causeWriter; split <;> rfl
@[simp] theorem State.causeWriter_lmem3 (n b : Nat) : (s.causeWriter n b).lmem3 = s.lmem3 := by unfold State.causeWriter; split <;> rfl
@[simp] theorem State.causeWriter_nor (n b : Nat) : (s.causeWriter n b).nor = s.nor := by unfold State.causeWriter; split <;> rfl
@[simp] theorem State.causeWriter_cache (n b : Nat) : (s.causeWriter n b).cache = s.cache := by unfold State.causeWriter; split <;> rfl
@[simp] theorem State.causeWriter_ecc (n b : Nat) : (s.causeWriter n b).ecc = s.ecc := by unfold State.causeWriter; split <;> rfl
@[simp] theorem State.causeWriter_clk (n b : Nat) : (s.causeWriter n b).clk = s.clk := by unfold State.causeWriter; split <;> rfl
@[simp] theorem State.causeWriter_tap (n b : Nat) : (s.causeWriter n b).tap = s.tap := by unfold State.causeWriter; split <;> rfl
@[simp] theorem State.causeWriter_mon (n b : Nat) : (s.causeWriter n b).mon = s.mon := by unfold State.causeWriter; split <;> rfl
@[simp] theorem State.causeWriter_boot (n b : Nat) : (s.causeWriter n b).boot = s.boot := by unfold State.causeWriter; split <;> rfl
@[simp] theorem State.causeWriter_pins (n b : Nat) : (s.causeWriter n b).pins = s.pins := by unfold State.causeWriter; split <;> rfl

/-! ### What was set reads back -/

@[simp] theorem State.chan_setChan_self (n : Nat) (x : Chan) : (s.setChan n x).chan n = x := by simp [State.setChan, State.chan]
theorem State.chan_setChan_ne (n m : Nat) (x : Chan) (h : m ≠ n) : (s.setChan n x).chan m = s.chan m := by
  simp [State.setChan, State.chan, sget_sput_ne _ _ _ _ _ _ h]
@[simp] theorem State.ten_setTen_self (n : Nat) (x : Tenant) : (s.setTen n x).ten n = x := by simp [State.setTen, State.ten]
theorem State.ten_setTen_ne (n m : Nat) (x : Tenant) (h : m ≠ n) : (s.setTen n x).ten m = s.ten m := by
  simp [State.setTen, State.ten, sget_sput_ne _ _ _ _ _ _ h]
@[simp] theorem State.queue_setQueue_self (n : Nat) (x : Queue) : (s.setQueue n x).queue n = x := by simp [State.setQueue, State.queue]
theorem State.queue_setQueue_ne (n m : Nat) (x : Queue) (h : m ≠ n) : (s.setQueue n x).queue m = s.queue m := by
  simp [State.setQueue, State.queue, sget_sput_ne _ _ _ _ _ _ h]
@[simp] theorem State.rw_setRw_self (n : Nat) (x : Rwc) : (s.setRw n x).rw n = x := by simp [State.setRw, State.rw]
theorem State.rw_setRw_ne (n m : Nat) (x : Rwc) (h : m ≠ n) : (s.setRw n x).rw m = s.rw m := by
  simp [State.setRw, State.rw, sget_sput_ne _ _ _ _ _ _ h]
@[simp] theorem State.loop_setLoop_self (n : Nat) (x : Loop) : (s.setLoop n x).loop n = x := by simp [State.setLoop, State.loop]
theorem State.loop_setLoop_ne (n m : Nat) (x : Loop) (h : m ≠ n) : (s.setLoop n x).loop m = s.loop m := by
  simp [State.setLoop, State.loop, sget_sput_ne _ _ _ _ _ _ h]
@[simp] theorem State.bushel_setBushel_self (n : Nat) (x : Bushel) : (s.setBushel n x).bushel n = x := by simp [State.setBushel, State.bushel]
theorem State.bushel_setBushel_ne (n m : Nat) (x : Bushel) (h : m ≠ n) : (s.setBushel n x).bushel m = s.bushel m := by
  simp [State.setBushel, State.bushel, sget_sput_ne _ _ _ _ _ _ h]
@[simp] theorem State.intake_setIntake_self (n : Nat) (x : Intake) : (s.setIntake n x).intake n = x := by simp [State.setIntake, State.intake]
theorem State.intake_setIntake_ne (n m : Nat) (x : Intake) (h : m ≠ n) : (s.setIntake n x).intake m = s.intake m := by
  simp [State.setIntake, State.intake, sget_sput_ne _ _ _ _ _ _ h]
@[simp] theorem State.own_setOwn_self (n : Nat) (x : OvrOwn) : (s.setOwn n x).own n = x := by simp [State.setOwn, State.own]
theorem State.own_setOwn_ne (n m : Nat) (x : OvrOwn) (h : m ≠ n) : (s.setOwn n x).own m = s.own m := by
  simp [State.setOwn, State.own, sget_sput_ne _ _ _ _ _ _ h]
@[simp] theorem State.hart_setHart_self (n : Nat) (x : Hart) : (s.setHart n x).hart n = x := by simp [State.setHart, State.hart]
theorem State.hart_setHart_ne (n m : Nat) (x : Hart) (h : m ≠ n) : (s.setHart n x).hart m = s.hart m := by
  simp [State.setHart, State.hart, sget_sput_ne _ _ _ _ _ _ h]
@[simp] theorem State.slot_setSlot_self (n : Nat) (x : Slot) : (s.setSlot n x).slot n = x := by simp [State.setSlot, State.slot]
theorem State.slot_setSlot_ne (n m : Nat) (x : Slot) (h : m ≠ n) : (s.setSlot n x).slot m = s.slot m := by
  simp [State.setSlot, State.slot, sget_sput_ne _ _ _ _ _ _ h]
@[simp] theorem State.bank_setBank_self (n : Nat) (x : Bank) : (s.setBank n x).bank n = x := by simp [State.setBank, State.bank]
theorem State.bank_setBank_ne (n m : Nat) (x : Bank) (h : m ≠ n) : (s.setBank n x).bank m = s.bank m := by
  simp [State.setBank, State.bank, sget_sput_ne _ _ _ _ _ _ h]
@[simp] theorem State.shedOf_setShed_self (n : Nat) (x : Shed) : (s.setShed n x).shedOf n = x := by simp [State.setShed, State.shedOf]
theorem State.shedOf_setShed_ne (n m : Nat) (x : Shed) (h : m ≠ n) : (s.setShed n x).shedOf m = s.shedOf m := by
  simp [State.setShed, State.shedOf, sget_sput_ne _ _ _ _ _ _ h]
@[simp] theorem State.shedInOf_setShedIn_self (n : Nat) (x : Shed) : (s.setShedIn n x).shedInOf n = x := by simp [State.setShedIn, State.shedInOf]
theorem State.shedInOf_setShedIn_ne (n m : Nat) (x : Shed) (h : m ≠ n) : (s.setShedIn n x).shedInOf m = s.shedInOf m := by
  simp [State.setShedIn, State.shedInOf, sget_sput_ne _ _ _ _ _ _ h]

end Sys2Proof.Machine
end

