-- ==== Sys2Proof/Laws/Registers.lean ====
section
/-! SUPPORT. The laws of the register store: a field reads what was written, cut to its width; another field stays; what
leaves the store alone leaves every field and whether the logic die runs. -/

namespace Sys2Proof.Machine

variable (s : State)

/-! ### Read after write -/

/-- A field reads what was set, cut to its width. -/
theorem State.getF_setF_self (f : Field) (i v : Nat) (h : f.w ≤ 32) : (s.setF f i v).getF f i = v % 2 ^ f.w := by
  simp only [State.getF, State.setF, sget_sput_self, BitVec.toNat_ofNat]
  have h1 : v % 2 ^ f.w < 2 ^ f.w := Nat.mod_lt _ (Nat.two_pow_pos _)
  have h2 : 2 ^ f.w ≤ 2 ^ 32 := Nat.pow_le_pow_right (by decide) h
  exact Nat.mod_eq_of_lt (by omega)

/-- A field that lies elsewhere stays. -/
theorem State.getF_setF_ne (f g : Field) (i j v : Nat) (h : g.key j ≠ f.key i) : (s.setF f i v).getF g j = s.getF g j := by
  simp [State.getF, State.setF, sget_sput_ne _ _ _ _ _ _ h]

/-- States with the same register store read the same fields. -/
theorem State.getF_congr {s t : State} (h : t.regs = s.regs) (f : Field) (i : Nat) : t.getF f i = s.getF f i := by
  simp [State.getF, h]

/-- A bit raised reads 1. -/
theorem State.getF_raise_self (f : Field) (i : Nat) (h : f.w ≤ 32) (h1 : 1 ≤ f.w) : (s.raise f i).getF f i = 1 := by
  rw [State.raise, State.getF_setF_self s f i 1 h]
  exact Nat.mod_eq_of_lt (Nat.one_lt_two_pow (by omega))

/-- A field lowered reads 0. -/
theorem State.getF_lower_self (f : Field) (i : Nat) (h : f.w ≤ 32) : (s.lower f i).getF f i = 0 := by
  rw [State.lower, State.getF_setF_self s f i 0 h]
  exact Nat.zero_mod _

/-- A counter bumped reads one more, cut to its width. -/
theorem State.getF_bump_self (f : Field) (i k : Nat) (h : f.w ≤ 32) :
    (s.bump f i k).getF f i = (s.getF f i + k) % 2 ^ f.w := by
  rw [State.bump, State.getF_setF_self s f i _ h]

/-- A saturating counter reads the sum or its largest value. -/
theorem State.getF_bumpSat_self (f : Field) (i k : Nat) (h : f.w ≤ 32) :
    (s.bumpSat f i k).getF f i = satN f.w (s.getF f i + k) := by
  rw [State.bumpSat, State.getF_setF_self s f i _ h]
  apply Nat.mod_eq_of_lt
  have := Nat.two_pow_pos f.w
  unfold satN
  omega

/-- A bit set reads what was set. -/
theorem State.getF_setBit_self (f : Field) (i : Nat) (b : Bool) (h : f.w ≤ 32) (h1 : 1 ≤ f.w) :
    (s.setBit f i b).getF f i = b2n b := by
  rw [State.setBit, State.getF_setF_self s f i _ h]
  apply Nat.mod_eq_of_lt
  have := Nat.one_lt_two_pow (n := f.w) (by omega)
  cases b <;> simp [b2n] <;> omega

theorem State.getF_raise_ne (f g : Field) (i j : Nat) (h : g.key j ≠ f.key i) : (s.raise f i).getF g j = s.getF g j :=
  s.getF_setF_ne f g i j 1 h
theorem State.getF_lower_ne (f g : Field) (i j : Nat) (h : g.key j ≠ f.key i) : (s.lower f i).getF g j = s.getF g j :=
  s.getF_setF_ne f g i j 0 h
theorem State.getF_resetF_ne (f g : Field) (i j : Nat) (h : g.key j ≠ f.key i) : (s.resetF f i).getF g j = s.getF g j :=
  s.getF_setF_ne f g i j _ h
theorem State.getF_bump_ne (f g : Field) (i j k : Nat) (h : g.key j ≠ f.key i) : (s.bump f i k).getF g j = s.getF g j :=
  s.getF_setF_ne f g i j _ h
theorem State.getF_bumpSat_ne (f g : Field) (i j k : Nat) (h : g.key j ≠ f.key i) :
    (s.bumpSat f i k).getF g j = s.getF g j := s.getF_setF_ne f g i j _ h
theorem State.getF_setBit_ne (f g : Field) (i j : Nat) (b : Bool) (h : g.key j ≠ f.key i) :
    (s.setBit f i b).getF g j = s.getF g j := s.getF_setF_ne f g i j _ h

/-- An update of the register store answers the state with its register store changed. -/
theorem State.setF_eta (f : Field) (i v : Nat) : s.setF f i v = { s with regs := (s.setF f i v).regs } := rfl

/-! ### The logic die runs -/

/-- A command of the logic die has its effect while the logic die runs. -/
theorem State.whenLive_of_live (f : State → State) (h : s.live = true) : s.whenLive f = f s := by simp [State.whenLive, h]

/-- It has none while the logic die does not run. -/
theorem State.whenLive_of_not_live (f : State → State) (h : s.live = false) : s.whenLive f = s := by
  simp [State.whenLive, h]

/-- States with the same die state and clock run alike. -/
theorem State.live_congr {s t : State} (h : t.die = s.die) (h' : t.clk = s.clk) : t.live = s.live := by
  unfold State.live
  rw [h, h']

/-! ### What leaves the register store alone -/

@[simp] theorem State.setChan_getF (n : Nat) (x : Chan) (f : Field) (i : Nat) : (s.setChan n x).getF f i = s.getF f i := State.getF_congr (by simp) f i
@[simp] theorem State.setChan_flag (n : Nat) (x : Chan) (f : Field) (i : Nat) : (s.setChan n x).flag f i = s.flag f i := by simp [State.flag]
@[simp] theorem State.setTen_getF (n : Nat) (x : Tenant) (f : Field) (i : Nat) : (s.setTen n x).getF f i = s.getF f i := State.getF_congr (by simp) f i
@[simp] theorem State.setTen_flag (n : Nat) (x : Tenant) (f : Field) (i : Nat) : (s.setTen n x).flag f i = s.flag f i := by simp [State.flag]
@[simp] theorem State.setQueue_getF (n : Nat) (x : Queue) (f : Field) (i : Nat) : (s.setQueue n x).getF f i = s.getF f i := State.getF_congr (by simp) f i
@[simp] theorem State.setQueue_flag (n : Nat) (x : Queue) (f : Field) (i : Nat) : (s.setQueue n x).flag f i = s.flag f i := by simp [State.flag]
@[simp] theorem State.setRw_getF (n : Nat) (x : Rwc) (f : Field) (i : Nat) : (s.setRw n x).getF f i = s.getF f i := State.getF_congr (by simp) f i
@[simp] theorem State.setRw_flag (n : Nat) (x : Rwc) (f : Field) (i : Nat) : (s.setRw n x).flag f i = s.flag f i := by simp [State.flag]
@[simp] theorem State.setLoop_getF (n : Nat) (x : Loop) (f : Field) (i : Nat) : (s.setLoop n x).getF f i = s.getF f i := State.getF_congr (by simp) f i
@[simp] theorem State.setLoop_flag (n : Nat) (x : Loop) (f : Field) (i : Nat) : (s.setLoop n x).flag f i = s.flag f i := by simp [State.flag]
@[simp] theorem State.setBushel_getF (n : Nat) (x : Bushel) (f : Field) (i : Nat) : (s.setBushel n x).getF f i = s.getF f i := State.getF_congr (by simp) f i
@[simp] theorem State.setBushel_flag (n : Nat) (x : Bushel) (f : Field) (i : Nat) : (s.setBushel n x).flag f i = s.flag f i := by simp [State.flag]
@[simp] theorem State.setIntake_getF (n : Nat) (x : Intake) (f : Field) (i : Nat) : (s.setIntake n x).getF f i = s.getF f i := State.getF_congr (by simp) f i
@[simp] theorem State.setIntake_flag (n : Nat) (x : Intake) (f : Field) (i : Nat) : (s.setIntake n x).flag f i = s.flag f i := by simp [State.flag]
@[simp] theorem State.setOwn_getF (n : Nat) (x : OvrOwn) (f : Field) (i : Nat) : (s.setOwn n x).getF f i = s.getF f i := State.getF_congr (by simp) f i
@[simp] theorem State.setOwn_flag (n : Nat) (x : OvrOwn) (f : Field) (i : Nat) : (s.setOwn n x).flag f i = s.flag f i := by simp [State.flag]
@[simp] theorem State.setHart_getF (n : Nat) (x : Hart) (f : Field) (i : Nat) : (s.setHart n x).getF f i = s.getF f i := State.getF_congr (by simp) f i
@[simp] theorem State.setHart_flag (n : Nat) (x : Hart) (f : Field) (i : Nat) : (s.setHart n x).flag f i = s.flag f i := by simp [State.flag]
@[simp] theorem State.setSlot_getF (n : Nat) (x : Slot) (f : Field) (i : Nat) : (s.setSlot n x).getF f i = s.getF f i := State.getF_congr (by simp) f i
@[simp] theorem State.setSlot_flag (n : Nat) (x : Slot) (f : Field) (i : Nat) : (s.setSlot n x).flag f i = s.flag f i := by simp [State.flag]
@[simp] theorem State.setBank_getF (n : Nat) (x : Bank) (f : Field) (i : Nat) : (s.setBank n x).getF f i = s.getF f i := State.getF_congr (by simp) f i
@[simp] theorem State.setBank_flag (n : Nat) (x : Bank) (f : Field) (i : Nat) : (s.setBank n x).flag f i = s.flag f i := by simp [State.flag]
@[simp] theorem State.setShed_getF (n : Nat) (x : Shed) (f : Field) (i : Nat) : (s.setShed n x).getF f i = s.getF f i := State.getF_congr (by simp) f i
@[simp] theorem State.setShed_flag (n : Nat) (x : Shed) (f : Field) (i : Nat) : (s.setShed n x).flag f i = s.flag f i := by simp [State.flag]
@[simp] theorem State.setShedIn_getF (n : Nat) (x : Shed) (f : Field) (i : Nat) : (s.setShedIn n x).getF f i = s.getF f i := State.getF_congr (by simp) f i
@[simp] theorem State.setShedIn_flag (n : Nat) (x : Shed) (f : Field) (i : Nat) : (s.setShedIn n x).flag f i = s.flag f i := by simp [State.flag]
@[simp] theorem State.modPort_getF (g : Port → Port) (f : Field) (i : Nat) : (s.modPort g).getF f i = s.getF f i := State.getF_congr (by simp) f i
@[simp] theorem State.modPort_flag (g : Port → Port) (f : Field) (i : Nat) : (s.modPort g).flag f i = s.flag f i := by simp [State.flag]
@[simp] theorem State.modSpn_getF (g : Spindle → Spindle) (f : Field) (i : Nat) : (s.modSpn g).getF f i = s.getF f i := State.getF_congr (by simp) f i
@[simp] theorem State.modSpn_flag (g : Spindle → Spindle) (f : Field) (i : Nat) : (s.modSpn g).flag f i = s.flag f i := by simp [State.flag]
@[simp] theorem State.intakeEvent_getF (e : Event) (f : Field) (i : Nat) : (s.intakeEvent e).getF f i = s.getF f i := State.getF_congr (by simp) f i
@[simp] theorem State.intakeEvent_flag (e : Event) (f : Field) (i : Nat) : (s.intakeEvent e).flag f i = s.flag f i := by simp [State.flag]
@[simp] theorem State.event_getF (c u a d : Nat) (f : Field) (i : Nat) : (s.event c u a d).getF f i = s.getF f i := State.getF_congr (by simp) f i
@[simp] theorem State.event_flag (c u a d : Nat) (f : Field) (i : Nat) : (s.event c u a d).flag f i = s.flag f i := by simp [State.flag]
@[simp] theorem State.eventC_getF (c u d : Nat) (f : Field) (i : Nat) : (s.eventC c u d).getF f i = s.getF f i := State.getF_congr (by simp) f i
@[simp] theorem State.eventC_flag (c u d : Nat) (f : Field) (i : Nat) : (s.eventC c u d).flag f i = s.flag f i := by simp [State.flag]
@[simp] theorem State.denied_getF (a d : Nat) (f : Field) (i : Nat) : (s.denied a d).getF f i = s.getF f i := State.getF_congr (by simp) f i
@[simp] theorem State.denied_flag (a d : Nat) (f : Field) (i : Nat) : (s.denied a d).flag f i = s.flag f i := by simp [State.flag]
@[simp] theorem State.reserved_getF (a d : Nat) (f : Field) (i : Nat) : (s.reserved a d).getF f i = s.getF f i := State.getF_congr (by simp) f i
@[simp] theorem State.reserved_flag (a d : Nat) (f : Field) (i : Nat) : (s.reserved a d).flag f i = s.flag f i := by simp [State.flag]
@[simp] theorem State.emcy_getF (c : Nat) (b : Byte) (d : Nat) (f : Field) (i : Nat) : (s.emcy c b d).getF f i = s.getF f i := State.getF_congr (by simp) f i
@[simp] theorem State.emcy_flag (c : Nat) (b : Byte) (d : Nat) (f : Field) (i : Nat) : (s.emcy c b d).flag f i = s.flag f i := by simp [State.flag]
@[simp] theorem State.note_getF (b : List Byte) (f : Field) (i : Nat) : (s.note b).getF f i = s.getF f i := State.getF_congr (by simp) f i
@[simp] theorem State.note_flag (b : List Byte) (f : Field) (i : Nat) : (s.note b).flag f i = s.flag f i := by simp [State.flag]
@[simp] theorem State.cause_getF (t b : Nat) (f : Field) (i : Nat) : (s.cause t b).getF f i = s.getF f i := State.getF_congr (by simp) f i
@[simp] theorem State.cause_flag (t b : Nat) (f : Field) (i : Nat) : (s.cause t b).flag f i = s.flag f i := by simp [State.flag]
@[simp] theorem State.causeWriter_getF (n b : Nat) (f : Field) (i : Nat) : (s.causeWriter n b).getF f i = s.getF f i := State.getF_congr (by simp) f i
@[simp] theorem State.causeWriter_flag (n b : Nat) (f : Field) (i : Nat) : (s.causeWriter n b).flag f i = s.flag f i := by simp [State.flag]

/-! ### What leaves the die and its clock alone -/

@[simp] theorem State.setChan_live (n : Nat) (x : Chan) : (s.setChan n x).live = s.live := State.live_congr (by simp) (by simp)
@[simp] theorem State.setTen_live (n : Nat) (x : Tenant) : (s.setTen n x).live = s.live := State.live_congr (by simp) (by simp)
@[simp] theorem State.setQueue_live (n : Nat) (x : Queue) : (s.setQueue n x).live = s.live := State.live_congr (by simp) (by simp)
@[simp] theorem State.setRw_live (n : Nat) (x : Rwc) : (s.setRw n x).live = s.live := State.live_congr (by simp) (by simp)
@[simp] theorem State.setLoop_live (n : Nat) (x : Loop) : (s.setLoop n x).live = s.live := State.live_congr (by simp) (by simp)
@[simp] theorem State.setBushel_live (n : Nat) (x : Bushel) : (s.setBushel n x).live = s.live := State.live_congr (by simp) (by simp)
@[simp] theorem State.setIntake_live (n : Nat) (x : Intake) : (s.setIntake n x).live = s.live := State.live_congr (by simp) (by simp)
@[simp] theorem State.setOwn_live (n : Nat) (x : OvrOwn) : (s.setOwn n x).live = s.live := State.live_congr (by simp) (by simp)
@[simp] theorem State.setHart_live (n : Nat) (x : Hart) : (s.setHart n x).live = s.live := State.live_congr (by simp) (by simp)
@[simp] theorem State.setSlot_live (n : Nat) (x : Slot) : (s.setSlot n x).live = s.live := State.live_congr (by simp) (by simp)
@[simp] theorem State.setBank_live (n : Nat) (x : Bank) : (s.setBank n x).live = s.live := State.live_congr (by simp) (by simp)
@[simp] theorem State.setShed_live (n : Nat) (x : Shed) : (s.setShed n x).live = s.live := State.live_congr (by simp) (by simp)
@[simp] theorem State.setShedIn_live (n : Nat) (x : Shed) : (s.setShedIn n x).live = s.live := State.live_congr (by simp) (by simp)
@[simp] theorem State.modPort_live (g : Port → Port) : (s.modPort g).live = s.live := State.live_congr (by simp) (by simp)
@[simp] theorem State.modSpn_live (g : Spindle → Spindle) : (s.modSpn g).live = s.live := State.live_congr (by simp) (by simp)
@[simp] theorem State.intakeEvent_live (e : Event) : (s.intakeEvent e).live = s.live := State.live_congr (by simp) (by simp)
@[simp] theorem State.event_live (c u a d : Nat) : (s.event c u a d).live = s.live := State.live_congr (by simp) (by simp)
@[simp] theorem State.eventC_live (c u d : Nat) : (s.eventC c u d).live = s.live := State.live_congr (by simp) (by simp)
@[simp] theorem State.denied_live (a d : Nat) : (s.denied a d).live = s.live := State.live_congr (by simp) (by simp)
@[simp] theorem State.reserved_live (a d : Nat) : (s.reserved a d).live = s.live := State.live_congr (by simp) (by simp)
@[simp] theorem State.emcy_live (c : Nat) (b : Byte) (d : Nat) : (s.emcy c b d).live = s.live := State.live_congr (by simp) (by simp)
@[simp] theorem State.note_live (b : List Byte) : (s.note b).live = s.live := State.live_congr (by simp) (by simp)
@[simp] theorem State.cause_live (t b : Nat) : (s.cause t b).live = s.live := State.live_congr (by simp) (by simp)
@[simp] theorem State.causeWriter_live (n b : Nat) : (s.causeWriter n b).live = s.live := State.live_congr (by simp) (by simp)
@[simp] theorem State.setF_live (f : Field) (i v : Nat) : (s.setF f i v).live = s.live := State.live_congr (by simp) (by simp)
@[simp] theorem State.raise_live (f : Field) (i : Nat) : (s.raise f i).live = s.live := State.live_congr (by simp) (by simp)
@[simp] theorem State.lower_live (f : Field) (i : Nat) : (s.lower f i).live = s.live := State.live_congr (by simp) (by simp)
@[simp] theorem State.resetF_live (f : Field) (i : Nat) : (s.resetF f i).live = s.live := State.live_congr (by simp) (by simp)
@[simp] theorem State.bump_live (f : Field) (i k : Nat) : (s.bump f i k).live = s.live := State.live_congr (by simp) (by simp)
@[simp] theorem State.bumpSat_live (f : Field) (i k : Nat) : (s.bumpSat f i k).live = s.live := State.live_congr (by simp) (by simp)
@[simp] theorem State.setBit_live (f : Field) (i : Nat) (b : Bool) : (s.setBit f i b).live = s.live := State.live_congr (by simp) (by simp)

end Sys2Proof.Machine
end

