-- ==== Sys2Proof/Tests/Slice0.lean ====
section
/-! SUPPORT. Tests: an ill-formed term for each well-formedness check; for each statement, states and operands that meet the
hypotheses of its clauses together; a few single steps whose results the spec prints. -/

namespace Sys2Proof.Tests

open Sys2Proof Sys2Proof.Machine

set_option Elab.async false

/-! ## Well-formed commands: an ill-formed term for each check, refused -/

theorem test_wf_refuses_1 : ([
    .registerWrite 1 0 0, .registerWrite 0 (2 ^ 32) 0, .arbStatRead 12, .eccCntRead 16, .spWriteGrains 16 0 0 0 [] 0, .spWriteGrains 0 64 0 0 [] 0,
    .spWriteGrains 0 0 65536 0 [] 0, .spReadStream 16 0 0 0, .spReadStream 0 64 0 0, .spReadStream 0 0 65536 0, .spMgmtWrite 16 0 0 0 [] 0 0,
    .spMgmtWrite 0 64 0 0 [] 0 0, .spMgmtWrite 0 0 65536 0 [] 0 0, .spMgmtRead 16 0 0 0, .spMgmtRead 0 64 0 0, .spMgmtRead 0 0 65536 0,
    .spDoorbell 16 0 0 0, .spDoorbell 0 64 0 0, .spDoorbell 0 0 65536 0, .spNop 16 0 0 0, .spNop 0 64 0 0, .spNop 0 0 65536 0,
    .commitEdge false 256 0, .qdbWrite 1 0, .queueConfigWrite 1 0 0, .queueConfigWrite 0 (2 ^ 32) 0, .poolConfigWrite 1 0 0,
    .poolConfigWrite 0 (2 ^ 32) 0, .descriptorFetch 256, .readGrains 256, .readGrainsComplete 256, .queryHead 256, .seal 256, .openChannel 256,
    .closeChannel 256, .releaseBushel 256, .verifyRange 256, .verifyRangeComplete 256 [] false, .flush 256, .mirrorResync 256, .readEvents 256,
    .zeroWindow 256, .zeroWindowComplete 256, .setReservation 256, .queuedWriteGrains 256] : List Instr).all (fun i => !i.wf) = true := by decide

theorem test_wf_refuses_2 : ([
    .forwardedOpcode 256, .fwdPost 1 0, .sessionChallenge 16, .sessionRespond 16, .sessionClose 16, .nonceExpiry 16, .lockoutExpiry 16,
    .tenantConfigWrite 1 0 0, .tenantConfigWrite 0 16 0, .keyWrite 1 0 0 0, .keyWrite 0 16 0 0, .keyWrite 0 0 8 0, .chanRightsWrite 1 0 0,
    .chanRightsWrite 0 64 0, .windowConfigWrite 1 0 0 false 0, .windowConfigWrite 0 16 0 false 0, .windowConfigWrite 0 0 8 false 0,
    .bufRegionWrite 1 false 0, .mirrorRateWrite 1 0, .bankArbitration 16 0 [], .grantCutoff 16 0, .arbCounterClear 1, .deferredRecordForm 64,
    .bfreePush 1 0, .ldgSysWrite 1 false 0, .srecAppend 1, .srecBegin 1 0, .srecBegin 0 2, .scanStart 1 0 [], .chainMark 0 false false false false,
    .zoneMultiplierSettle 2, .tableApply 1, .bmapWrite 1 0 0, .bmapWrite 0 8192 0, .writeGateOpen 2, .recordWritten 2,
    .preampWriteFault 2 false false, .sectorReadComplete 2 0 none 0 {}, .sectorReadPortGo 1 0, .sectorReadPortGo 0 2, .aevArm 1 0 0,
    .aevArm 0 16 0, .aevDisarm 1 0, .aevDisarm 0 16, .aevFire 16] : List Instr).all (fun i => !i.wf) = true := by decide

theorem test_wf_refuses_3 : ([
    .servoSample 2 none false 0 0 0 false, .seekTimeout 2, .lostTimeout 2, .spindleSample 0 0 false false, .actSeek 1 0, .actSeek 0 2,
    .actPark 1 0 false, .actPark 0 2 false, .actAcquire 1 0, .actAcquire 0 2, .channelSeekTarget 2 0 0, .channelSeekTarget 0 (2 ^ 20) 0,
    .channelSeekTarget 0 0 8, .loadTimeout 2, .loopSwap 1 0, .coefBankWrite 1 0 0, .coefBankWrite 0 (2 ^ 32) 0, .loopCtrlWrite 1 0, .shockHoldEnd 2,
    .shockQuietEnd 2, .spindleStart 1 false, .spindleStop 1, .spindleHeat 1 false, .plQueueEmpty 2, .retractComplete 2 false, .ovrMirrorFrameRx [0],
    .ovrSealNoteRx [0], .ovrCancelRx [0], .ovrHeartbeatRx [0], .mirrorFrameQueue 64, .catchUpSend 64 [], .provTimeout 64, .ovrConfigWrite 1 0 0,
    .ovrConfigWrite 0 (2 ^ 32) 0, .dictEnable 1, .canTimeFrame 0 (List.replicate 9 0), .sdoInitiate [0], .sdoSegment [0], .bulkWrInit [0],
    .bulkRdInit [0], .bulkSeg [0], .bulkWinAck [0], .bulkEnd [0], .bulkEndAck [0], .bulkAbort [0]] : List Instr).all (fun i => !i.wf) = true := by decide

theorem test_wf_refuses_4 : ([
    .dictFwPost 1 0, .rpdoRx 8 [], .rpdoRx 0 (List.replicate 9 0), .tpdoEventTimer 8, .timeStart 1, .coreLoad 4 0 1 0 2 false false,
    .coreLoad 0 (2 ^ 32) 1 0 2 false false, .coreLoad 0 0 3 0 2 false false, .coreLoad 0 0 1 32 2 false false, .coreLoad 0 0 1 0 3 false false,
    .coreStore 4 0 1 0 2, .coreStore 0 (2 ^ 32) 1 0 2, .coreStore 0 0 3 0 2, .coreStore 0 0 1 32 2, .coreStore 0 0 1 0 3, .coreAmo 4 0 0 0 0,
    .coreAmo 0 (2 ^ 32) 0 0 0, .coreAmo 0 0 9 0 0, .coreAmo 0 0 0 32 0, .coreAmo 0 0 0 0 32, .coreLr 4 0 0, .coreLr 0 (2 ^ 32) 0, .coreLr 0 0 32,
    .coreSc 4 0 0 0, .coreSc 0 (2 ^ 32) 0 0, .coreSc 0 0 32 0, .coreSc 0 0 0 32, .fenceI 4, .cboClean 4 0, .cboClean 0 (2 ^ 32), .cboFlush 4 0,
    .cboFlush 0 (2 ^ 32), .cboInval 4 0, .cboInval 0 (2 ^ 32), .cboZero 4 0, .cboZero 0 (2 ^ 32), .cacheFillComplete 4, .cacheRangeClean 1,
    .cacheRangeFlush 1, .cacheRangeInvalidate 1, .cacheRangeZero 1, .cacheControlWrite 1 false 0, .mtimecmpHiWrite 1 0 0, .mtimecmpHiWrite 0 4 0,
    .machineTimerInterrupt 4] : List Instr).all (fun i => !i.wf) = true := by decide

theorem test_wf_refuses_5 : ([
    .walkerStep 0 0 false false 0, .walkerStep 7 0 false false 0, .ceLogPop 1, .ueLogPop 1, .retireMapWrite 1 0 0, .retireMapWrite 0 128 0,
    .haltRepair 1 0 0, .haltRepair 0 64 0, .haltRepair 0 0 4096, .haltSplit 1 0, .haltSplit 0 64, .pllEnable 1 0, .clkSrcWrite 1 0,
    .sensorSample 6 0 false false, .sensorSample 20 0 false false, .thresholdSlotWrite 1 0 0 0, .thresholdSlotWrite 0 32 0 0,
    .thresholdSlotWrite 0 0 3 0, .evrClear 1, .coreRelease 1 0, .coreRelease 0 4, .coreReset 1 0, .coreReset 0 4, .resumeApply 1, .resumeDiscard 1,
    .bootFloorWrite 1 0, .softwareReset 1, .wdtKick 1 0, .laneTrained 2 false] : List Instr).all (fun i => !i.wf) = true := by decide

theorem test_wf_accepts_1 : ([
    .registerWrite 0 0 0, .arbStatRead 0, .eccCntRead 0, .spWriteGrains 0 0 0 0 [] 0, .spReadStream 0 0 0 0, .spMgmtWrite 0 0 0 0 [] 0 0,
    .spMgmtRead 0 0 0 0, .spDoorbell 0 0 0 0, .spNop 0 0 0 0, .commitEdge false 0 0, .qdbWrite 0 0, .queueConfigWrite 0 0 0, .poolConfigWrite 0 0 0,
    .descriptorFetch 0, .readGrains 0, .readGrainsComplete 0, .queryHead 0, .seal 0, .openChannel 0, .closeChannel 0, .releaseBushel 0,
    .verifyRange 0, .verifyRangeComplete 0 [] false, .flush 0, .mirrorResync 0, .readEvents 0, .zeroWindow 0, .zeroWindowComplete 0, .setReservation 0,
    .queuedWriteGrains 0, .forwardedOpcode 0, .fwdPost 0 0, .sessionChallenge 0, .sessionRespond 0, .sessionClose 0, .nonceExpiry 0, .lockoutExpiry 0,
    .tenantConfigWrite 0 0 0, .keyWrite 0 0 0 0, .chanRightsWrite 0 0 0, .windowConfigWrite 0 0 0 false 0, .bufRegionWrite 0 false 0,
    .mirrorRateWrite 0 0, .bankArbitration 0 0 [], .grantCutoff 0 0, .arbCounterClear 0, .deferredRecordForm 0, .bfreePush 0 0,
    .ldgSysWrite 0 false 0, .srecAppend 0, .srecBegin 0 0, .scanStart 0 0 [], .chainMark 1 false false false false, .zoneMultiplierSettle 0,
    .tableApply 0, .bmapWrite 0 0 0, .writeGateOpen 0, .recordWritten 0, .preampWriteFault 0 false false, .sectorReadComplete 0 0 none 0 {}] : List Instr).all (fun i => i.wf) = true := by decide

theorem test_wf_accepts_2 : ([
    .sectorReadPortGo 0 0, .aevArm 0 0 0, .aevDisarm 0 0, .aevFire 0, .servoSample 0 none false 0 0 0 false, .seekTimeout 0, .lostTimeout 0,
    .spindleSample 1 0 false false, .actSeek 0 0, .actPark 0 0 false, .actAcquire 0 0, .channelSeekTarget 0 0 0, .loadTimeout 0, .loopSwap 0 0,
    .coefBankWrite 0 0 0, .loopCtrlWrite 0 0, .shockHoldEnd 0, .shockQuietEnd 0, .spindleStart 0 false, .spindleStop 0, .spindleHeat 0 false,
    .plQueueEmpty 0, .retractComplete 0 false, .ovrMirrorFrameRx (List.replicate 16 0), .ovrSealNoteRx (List.replicate 16 0),
    .ovrCancelRx (List.replicate 16 0), .ovrHeartbeatRx (List.replicate 16 0), .mirrorFrameQueue 0, .catchUpSend 0 [], .provTimeout 0,
    .ovrConfigWrite 0 0 0, .dictEnable 0, .canTimeFrame 0 [], .sdoInitiate (List.replicate 8 0), .sdoSegment (List.replicate 8 0),
    .bulkWrInit (List.replicate 64 0), .bulkRdInit (List.replicate 64 0), .bulkSeg (List.replicate 64 0), .bulkWinAck (List.replicate 64 0),
    .bulkEnd (List.replicate 64 0), .bulkEndAck (List.replicate 64 0), .bulkAbort (List.replicate 64 0), .dictFwPost 0 0, .rpdoRx 0 [],
    .tpdoEventTimer 0, .timeStart 0, .coreLoad 0 0 1 0 2 false false, .coreStore 0 0 1 0 2, .coreAmo 0 0 0 0 0, .coreLr 0 0 0, .coreSc 0 0 0 0,
    .fenceI 0, .cboClean 0 0, .cboFlush 0 0, .cboInval 0 0, .cboZero 0 0, .cacheFillComplete 0, .cacheRangeClean 0, .cacheRangeFlush 0,
    .cacheRangeInvalidate 0] : List Instr).all (fun i => i.wf) = true := by decide

theorem test_wf_accepts_3 : ([
    .cacheRangeZero 0, .cacheControlWrite 0 false 0, .mtimecmpHiWrite 0 0 0, .machineTimerInterrupt 0, .walkerStep 1 0 false false 0, .ceLogPop 0,
    .ueLogPop 0, .retireMapWrite 0 0 0, .haltRepair 0 0 0, .haltSplit 0 0, .pllEnable 0 0, .clkSrcWrite 0 0, .sensorSample 0 0 false false,
    .thresholdSlotWrite 0 0 0 0, .evrClear 0, .coreRelease 0 0, .coreReset 0 0, .resumeApply 0, .resumeDiscard 0, .bootFloorWrite 0 0,
    .softwareReset 0, .wdtKick 0 0, .laneTrained 0 false] : List Instr).all (fun i => i.wf) = true := by decide


/-! ## Small states -/

/-- Sets register fields. -/
def put (l : List (Field × Nat × Nat)) (s : State) : State := l.foldl (fun s e => s.setF e.1 e.2.1 e.2.2) s

/-- The next state of a command. -/
def next (c : Instr) (s : State) : State := match exec c s with | .next t => t | _ => s

/-- A tenant's reservation. -/
def share : Share := { pages := 64, tagsW := 8, tagsR := 8, tagsC := 8, slotsA := 16, slotsB := 16, rate := 0, energy := 1000 }

/-- The port open, tenant 1 with a session and the write right to channel 0, energy and pools set. -/
def port : State :=
  (put [(Reg.SP_CTRL_PORT_EN, 0, 1), (Reg.SP_CTRL_ADMIT_EN, 0, 1), (Reg.ENG_CTRL_EN, 0, 1), (Reg.ENG_LEND_E, 0, 1000),
    (Reg.ENG_STATUS_LEND_OK, 0, 1), (Reg.SPN_STATE_AT_SPEED, 0, 1), (Reg.SPN_STATE_STATE, 0, 7), (Reg.CHAN_RIGHTS_WRITER_EN, 0, 1),
    (Reg.CHAN_RIGHTS_WRITER, 0, 1), (Reg.COST_SCRUPLES, 0, 5), (Reg.LDG_CTRL_EN, 0, 1), (Reg.CHAN_RIGHTS_WRITER_EN, 1, 1),
    (Reg.CHAN_RIGHTS_WRITER, 1, 1)] State.reset).setTen 1 { sess := 2, share := share, keySet := true }

/-- Channel 0 open in bushel 2. -/
def open0 : State :=
  (port.setChan 0 { isOpen := true, everOpened := true, frameMax := 4, bushel := 2, promised := 10, durable := 7, written := 7, opening := 1 }).setBushel 2
    { state := .opened }

/-! ## Registers and the port: the hypotheses of each clause are met -/

theorem test_wit_registerWrite : State.reset.live = true ∧ 0x400C0004 % 4 = 0 ∧ plainRegister 0x400F0004 = true ∧
    registerApart 0x400F0004 = true ∧ plainRegister 0x40100008 = true ∧ registerApart 0x40100008 = true ∧
    regFields 0x40000010 = [] ∧ 0x40000002 % 4 ≠ 0 := by decide +kernel

theorem test_wit_port : open0.portTurn = true ∧ open0.mayFrame 1 0 = true ∧ open0.mayFrame 2 0 = false ∧ open0.mayFrame 1 1 = true ∧
    (open0.chan 1).accepts = false ∧ open0.chanReady 0 = true ∧ open0.energyStep 0 = true ∧ open0.creditStep 0 (some 1) = true ∧
    open0.spn ≠ 3 ∧ seqLt ((open0.chan 0).durable + 1) 9 = true ∧ seqLe ((open0.chan 0).durable + 1) 7 = false := by decide +kernel

theorem test_wit_frameOfOne : (List.replicate 1024 (0 : Word)).length = 1024 * 1 := List.length_replicate

theorem test_wit_portRefusals : let h := open0.setChan 0 { open0.chan 0 with halted := true }
    let e := put [(Reg.SP_CTRL_ADMIT_EN, 0, 0)] open0
    let c := open0.setTen 1 { open0.ten 1 with share := { share with pages := 3 } }
    h.portTurn = true ∧ h.mayFrame 1 0 = true ∧ (h.chan 0).accepts = true ∧ (h.chan 0).halted = true ∧
    e.portTurn = true ∧ e.mayFrame 1 0 = true ∧ e.chanReady 0 = true ∧ e.energyStep 0 = false ∧
    c.portTurn = true ∧ c.mayFrame 1 0 = true ∧ c.chanReady 0 = true ∧ c.energyStep 0 = true ∧ c.creditStep 0 (some 1) = false := by decide +kernel

/-- A frame of channel 0 on the port, with the CRC and the trailer given. -/
def framed (crc : Word) : State :=
  { open0 with port := { open0.port with frame := some { phase := .writing, word0 := 0, word1 := 8, ty := 0, tid := 1, chan := 0, len := 1, tag := 0, driven := true,
                                                         pages := [1024], crc := crc, trailer := 1 } } }

theorem test_wit_commitEdge : (framed 1).live = true ∧ ((framed 1).chan 0).halted = false ∧ ((framed 1).chan 0).isOpen = true ∧
    (framed 1).port.frame.map (fun f => f.phase == .writing && f.ty == 0 && f.driven && f.crc == f.trailer && !f.statusLost) = some true ∧
    (framed 2).port.frame.map (fun f => f.crc == f.trailer) = some false ∧
    (((framed 1).setChan 0 {}).chan 0).isOpen = false := by decide +kernel

/-- A grain not yet WRITTEN. -/
def grain (n : Nat) (seq : Word) : Rec :=
  { kind := .grain, chan := n, seq := seq, opening := 1, hdr := [], page := 1024, act := 0, bushel := 2, gen := 0, cost := 5, account := .record }

/-- Channel 0 with its grain 7 resident. -/
def resident0 : State := open0.setRw 0 { open0.rw 0 with wq := [grain 0 7] }

theorem test_wit_readStream : resident0.portTurn = true ∧ (resident0.sessionOpen 1 && resident0.assigned 1 0) = true ∧
    resident0.readable 0 = true ∧ resident0.tagOk 1 (some 1) = true ∧ (resident0.sessionOpen 2 && resident0.assigned 2 0) = false ∧
    (resident0.sessionOpen 1 && resident0.assigned 1 1) = true ∧ resident0.readable 1 = false ∧
    (readSeqs 7 1).all (fun g => seqLe g (resident0.readHead 0)) = true ∧ (readSeqs 7 1).all (fun g => (resident0.resident 0 g).isSome) = true ∧
    (readSeqs 7 2).all (fun g => seqLe g (resident0.readHead 0)) = false ∧ (readSeqs 6 1).all (fun g => (resident0.resident 0 g).isSome) = false ∧
    (resident0.setTen 1 { sess := 2 }).tagOk 1 (some 1) = false := by decide +kernel

theorem test_wit_readData :
    let f : Frame := { phase := .reading, word0 := 0, word1 := 7, ty := 1, tid := 1, chan := 0, len := 1, tag := 0, pages := [1024] }
    let s : State := { open0 with port := { open0.port with frame := some f } }
    s.live = true ∧ s.port.frame.map (·.phase) = some .reading ∧ s.ecc.bad = [] := by decide +kernel

theorem test_wit_management : open0.mgmtBad 1 0 0 = true ∧ open0.mgmtBad 1 1 0x100 = false ∧ open0.sessionOpen 1 = true := by decide +kernel

theorem test_wit_mgmtCrc : crc32c (leBytes 4 (headerWord 2 1 0 0 1).toNat ++ leBytes 4 (0x100 : Word).toNat ++ wordsBytes [5]) ≠ 0 := by decide +kernel

/-- Queues 10 and 11 of tenant 1: a submission queue of 16 entries and its completion queue. -/
def queues : State :=
  (put [(Reg.QCFG_EN, 10, 1), (Reg.QCFG_OWNER, 10, 1), (Reg.QCFG_LOG2_DEPTH, 10, 4), (Reg.QCFG_CQ, 10, 11), (Reg.QCFG_EN, 11, 1),
    (Reg.QCFG_OWNER, 11, 1), (Reg.QCFG_LOG2_DEPTH, 11, 4), (Reg.QCFG_DIR, 11, 1), (Reg.QIDX_TAIL, 10, 2), (Reg.QIDX_TAIL, 11, 2),
    (Reg.QUEUE_CTRL_FETCH_EN, 0, 1), (Reg.WIN_EN, 8, 1), (Reg.WIN_BASE, 8, 256), (Reg.WPAGES_PAGES, 8, 16), (Reg.QBASE_BASE, 11, 1)] open0)

theorem test_wit_doorbell : queues.portTurn = true ∧ queues.sessionOpen 1 = true ∧ queues.sessionOpen 2 = false ∧ queues.flag Reg.QCFG_EN 10 = true ∧
    queues.qOwner 10 = some 1 ∧ queues.qDepth 10 = 16 ∧ queues.flag Reg.QCFG_DIR 10 = false ∧ queues.flag Reg.QCFG_DIR 11 = true ∧
    (queues.getF Reg.QIDX_TAIL 10 + 16 - queues.getF Reg.QIDX_HEAD 10) % 16 = 2 ∧
    (queues.getF Reg.QIDX_TAIL 11 + 16 - queues.getF Reg.QIDX_HEAD 11) % 16 = 2 ∧
    (let d := put [(Reg.QCFG_EN, 10, 0)] queues; d.portTurn = true ∧ d.sessionOpen 1 = true ∧ d.qOwner 10 = some 1 ∧ d.qDepth 10 = 16 ∧
      d.flag Reg.QCFG_EN 10 = false) := by decide +kernel

theorem test_wit_closedPort : State.reset.live = true ∧ State.reset.portOpen = false ∧ State.reset.port.frame = none ∧
    6 ≤ bitsOf (0xC0000000 : Word).toNat 29 3 ∧ bitsOf (0x00010000 : Word).toNat 16 3 ≠ 0 := by decide +kernel

theorem test_wit_cutShort : (framed 1).live = true ∧ (framed 1).port.frame.isSome = true ∧ State.reset.port.frame = none ∧
    { State.reset.port with out := [(1 : Word)] }.out ≠ [] ∧ { State.reset.port with seated := false }.seated = false := by decide +kernel

/-! ## Queues, commands and tenants -/

/-- The descriptor of a command. -/
def desc (op chan seq count : Nat) (args : List Byte := []) : List Byte :=
  padTo 64 (leBytes 2 op ++ leBytes 2 0 ++ leBytes 4 7 ++ leBytes 4 chan ++ leBytes 4 seq ++ leBytes 4 count ++ leBytes 8 0 ++ args)

/-- A command in flight from queue 10. -/
def cmd (op chan seq count : Nat) (args : List Byte := []) : Cmd :=
  { tag := 3, sq := 10, owner := some 1, desc := desc op chan seq count args, op := op, cmdId := 7, sqHead := 1, cq := 11 }

/-- The queues with one command fetched. -/
def fetched (c : Cmd) : State := { queues with cmds := [c] }

/-- What `turn` asks, of a command that was fetched. -/
def turnOk (s : State) (c : Cmd) : Bool := s.fetched 10 c.op == some c && !s.blocked c && s.ringSound c.cq

theorem test_wit_firmwareDoorbell :
    let s := put [(Reg.QCFG_FW, 10, 1), (Reg.QCFG_FW, 11, 1)] queues
    s.live = true ∧ s.flag Reg.QCFG_FW 10 = true ∧ s.flag Reg.QCFG_EN 10 = true ∧ s.flag Reg.QCFG_DIR 10 = false ∧ s.qDepth 10 = 16 ∧
    s.flag Reg.QCFG_FW 11 = true ∧ s.flag Reg.QCFG_EN 11 = true ∧ s.flag Reg.QCFG_DIR 11 = true ∧ queues.flag Reg.QCFG_FW 10 = false := by
  decide +kernel

theorem test_wit_queueConfig : privileged 0x13 = true ∧ privileged 0x14 = false ∧ queues.flag Reg.QCFG_EN 12 = false ∧
    queues.flag Reg.QCFG_EN 11 = true ∧ bitsOf (0x2000 : Word).toNat 12 20 ≠ queues.getF Reg.QBASE_BASE 11 ∧
    qcfgRest.any (fun f => queues.afterWrite 0x13 (0x30013 : Word) f 11 != queues.getF f 11) = true ∧
    bitOf (0x10013 : Word).toNat 0 = true ∧
    queues.ringOk (fun f => queues.afterWrite 0x13 (0x10013 : Word) f 12) (queues.getF Reg.QBASE_BASE 12) = true ∧
    queues.afterWrite 0x13 (0x10013 : Word) Reg.QCFG_DIR 12 = 1 := by decide +kernel

theorem test_wit_poolConfig : State.reset.live = true ∧ State.reset.poolsIdle = true ∧ queues.poolsIdle = false ∧
    1024 < bitsOf (0x01E00200 : Word).toNat 0 11 + bitsOf (0x01E00200 : Word).toNat 16 11 + 64 ∧
    (regFields 0x40020010).all (fun e => e.1.legal (bitsOf (0x01E00200 : Word).toNat e.1.lo e.1.w)) = true ∧
    Reg.POOL_SLOTS_A.legal (bitsOf (0x00400040 : Word).toNat 0 11) = true ∧ Reg.POOL_SLOTS_B.legal (bitsOf (0x00400040 : Word).toNat 16 11) = true := by
  decide +kernel

/-- A descriptor at the head of queue 10. -/
def ring (d : List Byte) : State := put [(Reg.POOL_PAGES_READ, 0, 16)] (queues.bufWrite 0x100000 d)

theorem test_wit_fetch : let s := ring (desc 0x02 0 0 0)
    let d := s.headDesc 10
    let w := ring (desc 0x10 0 8 1)
    let e := w.headDesc 10
    let z := ring (desc 0xEE 0 0 0)
    let u := (ring (desc 0x02 0 0 0)).setQueue 10 { replay := [{ cmdId := 7, res0 := 0, res1 := 0, code := 0 }] }
    s.live = true ∧ s.canFetch 10 = true ∧ s.ecc.bad = [] ∧ s.ringSound (s.getF Reg.QCFG_CQ 10) = true ∧ s.getF Reg.QCFG_CQ 10 ≠ 10 ∧
    s.qDepth 10 ≤ 4096 ∧ dCmdId d = 7 ∧ s.queue 10 = {} ∧ s.cmds = [] ∧ s.examine (s.qOwner 10) d = none ∧
    s.outranked 10 = false ∧ s.fetchable 10 d = true ∧ s.storedFor 10 d = none ∧ dOp d ≠ 0x10 ∧ w.canFetch 10 = true ∧
    w.outranked 10 = false ∧ w.fetchable 10 e = true ∧ w.storedFor 10 e = none ∧ w.examine (w.qOwner 10) e = none ∧
    dOp e = 0x10 ∧ w.spn ≠ 3 ∧ w.writeChecks (w.qOwner 10) (dChan e) (dCount e) (dSeq e) = none ∧
    z.canFetch 10 = true ∧ z.outranked 10 = false ∧ z.fetchable 10 (z.headDesc 10) = true ∧ z.storedFor 10 (z.headDesc 10) = none ∧
    z.examine (z.qOwner 10) (z.headDesc 10) = some 0x20 ∧ u.canFetch 10 = true ∧ u.outranked 10 = false ∧
    u.fetchable 10 (u.headDesc 10) = true ∧ (u.storedFor 10 (u.headDesc 10)).isSome = true := by decide +kernel

/-- Queue 10 is firmware's and rings its tail; a queue whose tail has no room to fetch; a queue of higher PRIO that could fetch as well. -/
theorem test_wit_fetchWaits : let s := ring (desc 0x02 0 0 0)
    let p := put [(Reg.QCFG_EN, 12, 1), (Reg.QCFG_OWNER, 12, 1), (Reg.QCFG_LOG2_DEPTH, 12, 4), (Reg.QCFG_CQ, 12, 11), (Reg.QCFG_PRIO, 12, 1),
      (Reg.QIDX_TAIL, 12, 1), (Reg.QBASE_BASE, 12, 2)] (s.bufWrite 0x102000 (desc 0x02 0 0 0))
    State.reset.live = true ∧ State.reset.canFetch 10 = false ∧ p.live = true ∧ p.outranked 10 = true ∧ p.outranked 12 = false := by decide +kernel

theorem test_wit_grainReads : let c := cmd 0x01 0 6 1
    let s := fetched c
    let n := fetched (cmd 0x01 5 6 1)
    let g := fetched (cmd 0x01 0 8 1)
    let v := put [(Reg.BMAP_VALID, 2, 1)] s
    turnOk v c = true ∧ v.hasOpening 0 = true ∧ (v.chan 0).lost = none ∧ seqLe 6 (v.readHead 0) = true ∧ v.releasedFor 0 6 c.tag = false ∧
    v.resident 0 6 = none ∧ v.flag Reg.BMAP_VALID (v.bushelFor 0 6) = true ∧ s.flag Reg.BMAP_VALID (s.bushelFor 0 6) = false ∧
    dCount c.desc = 1 ∧ turnOk s c = true ∧ s.hasOpening 0 = true ∧ c.ends = none ∧ (s.chan 0).lost = none ∧ seqLe 6 (s.readHead 0) = true ∧
    s.releasedFor 0 6 c.tag = false ∧ s.resident 0 6 = none ∧ turnOk n (cmd 0x01 5 6 1) = true ∧ n.hasOpening 5 = false ∧
    turnOk g (cmd 0x01 0 8 1) = true ∧ (seqsFrom 8 1).all (fun q => seqLe q (g.readHead 0)) = false := by decide +kernel

theorem test_wit_verifyRange : let c := cmd 0x07 0 6 1
    let s := (fetched c).setChan 0 { open0.chan 0 with sealed := 6 }
    turnOk s c = true ∧ s.hasOpening 0 = true ∧ seqLe 6 (s.heads 0).2.2.2 = true ∧ turnOk (fetched (cmd 0x07 5 6 1)) (cmd 0x07 5 6 1) = true ∧
    (fetched (cmd 0x07 5 6 1)).hasOpening 5 = false ∧ turnOk (fetched c) c = true ∧ seqLe 6 ((fetched c).heads 0).2.2.2 = false ∧
    s.rangeReleased 0 6 6 c.tag = false ∧ (let r := s.setBushel 2 { state := .released }
      turnOk r c = true ∧ r.hasOpening 0 = true ∧ seqLe 6 (r.heads 0).2.2.2 = true ∧ r.rangeReleased 0 6 6 c.tag = true) := by
  decide +kernel

theorem test_wit_grainReadsEnd : let c : Cmd := { cmd 0x01 0 6 1 with running := true }
    let e : Cmd := { c with ends := some (0x26, 6) }
    let v : Cmd := { cmd 0x07 0 6 1 with running := true }
    (fetched c).cmds.find? (fun d => d.sq == 10 && d.op == 0x01 && d.running && (fetched c).readOver d) = some c ∧
    (fetched c).ringSound c.cq = true ∧ c.ends = none ∧
    (fetched e).cmds.find? (fun d => d.sq == 10 && d.op == 0x01 && d.running && (fetched e).readOver d) = some e ∧ (fetched v).ringSound v.cq = true ∧
    (fetched v).underWay 10 0x07 = some v ∧ dCount v.desc = 1 ∧ (fetched v).verified [] 0 6 1 = 0 := by decide +kernel

theorem test_wit_headsAsked : let q := cmd 0x02 0 0 0
    let f : Cmd := { cmd 0x08 0 0 0 with waits := [(0, 7)] }
    let a : Cmd := { cmd 0x08 0 0 0 [1] with waits := [(0, 7)] }
    let w := (fetched f).setChan 0 { open0.chan 0 with written := 5 }
    let m : Cmd := { cmd 0x09 0 0 0 with target := 7 }
    let u : Cmd := cmd 0x09 5 0 0
    let l := put [(Reg.OVR_CTRL_EN, 0, 1), (Reg.OVR_OWN_MASK, 0, 1)] ((fetched m).setChan 0 { open0.chan 0 with mirror := true, mirrored := 7 })
    turnOk (fetched q) q = true ∧ (fetched q).hasOpening 0 = true ∧ (fetched q).cmdAddr q + 32 ≤ 0x1000000 ∧
    turnOk (fetched (cmd 0x02 5 0 0)) (cmd 0x02 5 0 0) = true ∧ (fetched (cmd 0x02 5 0 0)).hasOpening 5 = false ∧
    turnOk (fetched f) f = true ∧ bitOf (dArg f.desc 28 1) 0 = false ∧ ((fetched f).chan 0).everOpened = true ∧
    ((fetched f).chan 0).halted = false ∧ seqLe 7 ((fetched f).chan 0).written = true ∧ turnOk w f = true ∧
    (w.chan 0).everOpened = true ∧ (w.chan 0).halted = false ∧ seqLe 7 (w.chan 0).written = false ∧ turnOk (fetched a) a = true ∧
    bitOf (dArg a.desc 28 1) 0 = true ∧ (∀ x ∈ a.waits, ((fetched a).chan x.1).halted = false ∧ seqLe x.2 ((fetched a).chan x.1).written = true) ∧
    turnOk l m = true ∧ (l.chan 0).accepts = true ∧ (l.chan 0).halted = false ∧ (l.chan 0).mirror = true ∧ l.owns 0 = true ∧
    l.flag Reg.OVR_CTRL_EN = true ∧ l.linkUp = false ∧ (l.chan 0).mirrored = (l.chan 0).durable ∧ seqLe m.target (l.chan 0).mirrored = true ∧
    turnOk (fetched u) u = true ∧ (fetched u).flag Reg.OVR_CTRL_EN = false ∧ ((fetched u).chan 5).accepts = false ∧
    (let o := put [(Reg.OVR_CTRL_EN, 0, 1), (Reg.OVR_OWN_MASK, 0, 32)] (fetched u)
     turnOk o u = true ∧ (o.chan 5).accepts = false ∧ o.owns 5 = true ∧ o.flag Reg.OVR_CTRL_EN = true) ∧
    (let o := put [(Reg.OVR_STATUS_UP, 0, 1)] l
     turnOk o m = true ∧ o.linkUp = true ∧ (o.chan 0).accepts = true ∧ (o.chan 0).halted = false ∧ (o.chan 0).mirror = true ∧
     o.owns 0 = true ∧ (o.chan 0).mirrored = (o.chan 0).durable ∧ seqLe m.target (o.chan 0).mirrored = true) := by decide +kernel

theorem test_wit_seal : let c := cmd 0x03 0 6 0
    let k : Credit := { page := 1030, act := 0, cost := 5, tid := some 1 }
    let s : State := { (fetched c).setChan 0 { open0.chan 0 with credit := some k } with time := { valid := true } }
    let d := (fetched c).setChan 0 { open0.chan 0 with sealed := 6, ordinal := 1, seals := [{ ordinal := 1, covers := 6, written := true, chain := [] }] }
    let g := cmd 0x03 0 9 0
    turnOk s c = true ∧ (s.chan 0).everOpened = true ∧ (s.chan 0).halted = false ∧ seqLe 6 (s.chan 0).sealed = false ∧
    seqLt (s.chan 0).durable 6 = false ∧ (s.chan 0).sealFor 6 = none ∧ s.due = [] ∧ s.creditFree 0 = true ∧ s.time.valid = true ∧
    (s.setCmd { c with running := true, target := dSeq c.desc }).debitOk (s.costOf (s.chan 0).bushel) = true ∧ (s.chan 0).credit = some k ∧
    (s.chan 0).mirror = false ∧ turnOk d c = true ∧ seqLe 6 (d.chan 0).sealed = true ∧ ((d.chan 0).sealFor 6).isSome = true ∧
    (d.chan 0).sealsFrom = none ∧ (d.chan 0).everOpened = true ∧ (d.chan 0).halted = false ∧
    turnOk (fetched g) g = true ∧ seqLt ((fetched g).chan 0).durable 9 = true := by decide +kernel

theorem test_wit_openChannel : let c := cmd 0x04 1 1 0 [4, 0, 0]
    let s : State := { fetched c with fifoA := [5], time := { valid := true } }
    let o := cmd 0x04 0 1 0 [4, 0, 0]
    turnOk s c = true ∧ (s.chan 1).isOpen = false ∧ s.owns 1 = true ∧ bitOf (dArg c.desc 30 1) 0 = false ∧ s.time.valid = true ∧
    s.sealCreditOk 1 5 = true ∧ s.nextPage.isSome = true ∧ s.flag Reg.ARB_STATUS_SHORTFALL = false ∧ turnOk (fetched c) c = true ∧
    (fetched c).fifoA = [] ∧ (fetched c).fifoB = [] ∧ turnOk (fetched o) o = true ∧ ((fetched o).chan 0).isOpen = true := by decide +kernel

theorem test_wit_closeChannel : let c := cmd 0x05 0 0 0
    let k : Credit := { page := 1030, act := 0, cost := 5, tid := some 1 }
    let s := (fetched c).setChan 0 { open0.chan 0 with credit := some k }
    let b : State := { fetched c with cmds := [c, { cmd 0x10 0 8 1 with tag := 4 }] }
    let h := (fetched c).setChan 0 { open0.chan 0 with halted := true }
    turnOk s c = true ∧ (s.chan 0).accepts = true ∧ (s.chan 0).halted = false ∧ s.writeBusy 0 = false ∧ s.due = [] ∧
    (s.chan 0).credit.isSome = true ∧ turnOk b c = true ∧ b.writeBusy 0 = true ∧ (b.chan 0).accepts = true ∧ turnOk h c = true ∧
    (h.chan 0).accepts = true ∧ (h.chan 0).halted = true ∧ turnOk (fetched (cmd 0x05 5 0 0)) (cmd 0x05 5 0 0) = true ∧
    ((fetched (cmd 0x05 5 0 0)).chan 5).accepts = false := by decide +kernel

theorem test_wit_keeper : let r := cmd 0x06 0 0 0 [3, 0, 0, 0]
    let s := (fetched r).setBushel 3 { state := .closed, chan := 1 }
    let e := cmd 0x0A 0 0 2
    let z := cmd 0x0B 0 0 0 [1, 0]
    let zr : Cmd := { z with running := true }
    let w := cmd 0x0C 0 0 0 [2]
    let x := fetched w
    turnOk s r = true ∧ (s.cmds.takeWhile (fun d => d.tag != r.tag)).any (fun d => (d.op == 0x01 || d.op == 0x07) &&
      dChan d.desc == (s.bushel (dArg r.desc 28 4)).chan) = false ∧ dArg r.desc 28 4 = 3 ∧
    (s.bushel 3).state = .closed ∧ s.bushelSealed 3 = true ∧ turnOk (fetched r) r = true ∧
    ((fetched r).bushel 3).state ≠ .closed ∧ turnOk (fetched e) e = true ∧ (fetched e).cmdAddr e + 16 * dCount e.desc ≤ 0x1000000 ∧
    turnOk (fetched z) z = true ∧ (fetched zr).underWay 10 0x0B = some zr ∧ (fetched zr).ringSound zr.cq = true ∧
    (fetched zr).winBase 1 0 + 4096 * (fetched zr).getF Reg.WPAGES_PAGES 8 ≤ 0x1000000 ∧ turnOk x w = true ∧
    (x.setTen 2 { x.ten 2 with share := shareOf w.desc }).sharesFit = false ∧
    (let y := (put [(Reg.ENG_BUDGET_E, 0, 1000)] x); turnOk y w = true ∧ (y.setTen 2 { y.ten 2 with share := shareOf w.desc }).sharesFit = true) := by
  decide +kernel

theorem test_wit_queuedWrite : let c : Cmd := { cmd 0x10 0 8 1 with pages := [1024] }
    let f := cmd 0x80 0 0 0
    let g : Cmd := { f with running := true }
    turnOk (fetched c) c = true ∧ (fetched f).cmds.find? (fun c => c.sq == 10 && forwarded c.op && !c.running) = some f ∧
    (fetched f).ecc.bad = [] ∧ f.desc.length = 64 ∧
    4096 * (fetched f).getF Reg.FWD_BASE_BASE + 128 * (fetched f).getF Reg.FWD_CTRL_TAIL + 128 ≤ 0x1000000 ∧
    (fetched g).cmds.find? (fun c => c.tag == 3 && forwarded c.op) = some g ∧ (fetched g).ringSound g.cq = true ∧
    codeDefined 0 = true ∧ codeDefined 0x0F = false ∧
    (let x := put [(Reg.WIN_EN, 8, 0)] (fetched g)
     x.live = true ∧ x.cmds.find? (fun c => c.tag == 3 && forwarded c.op) = some g ∧ x.ringHeld g.cq = false) := by decide +kernel

theorem test_wit_sessions : let s := put [(Reg.TCFG_EN, 1, 1)] State.reset
    let k : Tenant := { sess := 1, nonce := some 5, run := 3 }
    s.live = true ∧ s.tenantIs 1 = true ∧ (s.ten 1).sess ≠ 2 ∧ (s.ten 1).sess ≠ 3 ∧ ((s.setTen 1 { sess := 3 }).ten 1).sess = 3 ∧
    ((s.setTen 1 k).ten 1).sess = 1 ∧ ((s.setTen 1 k).ten 1).nonce = some 5 ∧ ((s.setTen 1 k).ten 1).run = 3 := by decide +kernel

theorem test_wit_tenants : let s := put [(Reg.TCFG_EN, 1, 1), (Reg.TCFG_EN, 2, 1)] open0
    s.live = true ∧ ((s.chan 0).isOpen = true ∧ s.mayWrite 1 0 = true) ∧ s.flag Reg.TCFG_EN 2 = true ∧
    (∀ n < 64, (s.chan n).isOpen = true → s.mayWrite 2 n = false) ∧ (∀ q < 256, s.flag Reg.QCFG_EN q = true → s.qOwner q ≠ some 2) ∧
    bitOf (0 : Word).toNat 0 = false := by decide +kernel

theorem test_wit_windows : let s := put [(Reg.BUF_WREG_LO, 0, 256), (Reg.BUF_WREG_LAST, 0, 511), (Reg.WPAGES_PAGES, 16, 4)] queues
    (s.chan 0).isOpen = true ∧ bitsOf (0x12 : Word).toNat 0 4 ≠ s.getF Reg.CHAN_RIGHTS_WRITER 0 ∧ (s.chan 1).isOpen = false ∧
    s.overlaps 2 (bitsOf (0x80000100 : Word).toNat 0 12) (s.getF Reg.WPAGES_PAGES 16) = true ∧ bitOf (0x80000100 : Word).toNat 31 = true ∧
    s.overlaps 2 (bitsOf (0x80000180 : Word).toNat 0 12) (s.getF Reg.WPAGES_PAGES 16) = false ∧
    s.getF Reg.BUF_WREG_LO ≤ bitsOf (0x80000180 : Word).toNat 0 12 ∧
    bitsOf (0x80000180 : Word).toNat 0 12 + s.getF Reg.WPAGES_PAGES 16 ≤ s.getF Reg.BUF_WREG_LAST + 1 ∧ s.windowUsed 2 0 = false ∧
    bitsOf (0x800000FF : Word).toNat 0 12 < s.getF Reg.BUF_WREG_LO := by decide +kernel

/-! ## Buffer and energy -/

theorem test_wit_bufferRegions : queues.live = true ∧ (∃ i < 128, queues.flag Reg.WIN_EN i = true) ∧
    (∀ i < 128, State.reset.flag Reg.WIN_EN i = false) ∧
    regionsMeet (State.reset.getF Reg.BUF_POOL_BASE_PAGE) (bitsOf (0x01FF0100 : Word).toNat 0 12) (bitsOf (0x01FF0100 : Word).toNat 16 12) = false ∧
    queues.mediaFloor < queues.shareSum Share.rate + bitsOf (0x00FFFFFF : Word).toNat 0 24 ∧
    queues.shareSum Share.rate + bitsOf (0 : Word).toNat 0 24 ≤ queues.mediaFloor := by decide +kernel

theorem test_wit_arbiter : let s := put [(Reg.ARB_CFG_MASKED, 1, 0), (Reg.ARB_CFG_MASKED, 2, 0)] State.reset
    let k : State := s.setBank 2 { grant := some { who := 4, beats := 9 } }
    let m := put [(Reg.ARB_CFG_MASKED, 3, 1)] s
    let pending (s : State) (reqs : List (Nat × Nat × Nat)) : List Request :=
      (s.bank 0).reqs.map (fun (r : Request) => { r with waited := r.waited + (6 - r.late), late := 0 }) ++
      (reqs.filter (fun r => decide (r.1 < 12))).map (fun r => ({ who := r.1, beats := r.2.1, waited := min r.2.2 6 } : Request))
    s.live = true ∧ (pending m [(3, 4, 2)]).filter (fun r => !m.flag Reg.ARB_CFG_MASKED r.who) = [] ∧
    (pending s [(1, 4, 2), (2, 4, 9)]).filter (fun r => !s.flag Reg.ARB_CFG_MASKED r.who) ≠ [] ∧
    (∀ r ∈ pending s [(1, 4, 2), (2, 4, 9)], r.who < 12) ∧
    (k.bank 2).grant = some { who := 4, beats := 9 } ∧ k.live = true := by decide +kernel

/-- The bytes of page 1040. -/
def page1040 : List Byte := (fetched (cmd 0x01 0 6 1)).bufRead (4096 * 1040) 4096

/-- The header of a grain whose body is those bytes, under the bushel's generation (R120). -/
def hdrValid : List Byte := fullHdr ((fetched (cmd 0x01 0 6 1)).bushel 2).gen (hdr28 .grain 0 6 {} 0 0 1 page1040)

/-- A staging of the command with tag 3. -/
def staged (hdr : List Byte) : State :=
  { fetched (cmd 0x01 0 6 1) with stagings := [{ token := 5, page := 1040, chan := 0, seq := 6, tid := some 1, bushel := 2, tag := 3, hdr := hdr }] }

theorem test_wit_stagings :
    (staged []).live = true ∧ ((staged []).stagings.find? (fun t => t.token == 5 && !t.checked)).map (·.revoked) = some false ∧ (staged []).ecc.bad = [] ∧
    recordValid ((staged []).bushel 2).gen [] ((staged []).bufRead (4096 * 1040) 4096) = false ∧
    (staged []).cmds.find? (fun d => d.tag == 3) = some (cmd 0x01 0 6 1) ∧ (cmd 0x01 0 6 1).ends = none := by decide +kernel

theorem test_wit_stagingValid : recordValid ((staged hdrValid).bushel 2).gen hdrValid ((staged hdrValid).bufRead (4096 * 1040) 4096) = true := by
  have h (s : State) (l : List Staging) : ({ s with stagings := l }.bushel 2).gen = (s.bushel 2).gen ∧
    { s with stagings := l }.bufRead (4096 * 1040) 4096 = s.bufRead (4096 * 1040) 4096 := ⟨rfl, rfl⟩
  rw [staged, (h _ _).1, (h _ _).2]
  exact recordValid_fullHdr _ .grain 0 6 {} 0 0 1 page1040

theorem test_wit_energyMeasured : let s := put [(Reg.ENG_STATUS_LEND_OK, 0, 0), (Reg.ENG_REOPEN_E, 0, 10)] open0
    ((16000 :: State.reset.power.vholds).take 4).min? = some 16000 ∧ s.flag Reg.ENG_CTRL_EN = true ∧ s.lendOk = false ∧
    s.commit + s.getF Reg.ENG_REOPEN_E ≤ s.lend := by decide +kernel

theorem test_wit_shortfall : let s := (put [(Reg.ARB_STATUS_SHORTFALL, 0, 1), (Reg.ARB_MIRROR_RATE_RATE, 0, 100)] open0)
    s.live = true ∧ s.flag Reg.ARB_STATUS_SHORTFALL = true ∧ s.mediaNow < s.resvSum ∧ (s.chan 0).isOpen = true ∧
    open0.flag Reg.ARB_STATUS_SHORTFALL = false := by decide +kernel

/-! ## The ledger -/

/-- The recorder of records on, the time valid, pools set, bushels 0 to 2 mapped. -/
def ledger : State :=
  { put [(Reg.LDG_CTRL_EN, 0, 1), (Reg.LDG_CTRL_TEAR_RSV, 0, 1), (Reg.BMAP_VALID, 0, 1), (Reg.BMAP_VALID, 1, 1), (Reg.BMAP_VALID, 2, 1),
         (Reg.POOL_PAGES_WRITE, 0, 480), (Reg.POOL_PAGES_READ, 0, 16), (Reg.POOL_SLOTS_A, 0, 64), (Reg.POOL_SLOTS_B, 0, 64),
         (Reg.BUF_POOL_BASE_PAGE, 0, 1024), (Reg.BMAP_HEAD, 1, 4)] open0 with time := { valid := true } }

theorem test_wit_bushelsPushed : let full : State := { ledger with fifoA := List.replicate 16 3 }
    let busy : State := { ledger with sys := some { parts := [.append], bushel := 0, gen := 0, place := 0 } }
    ledger.live = true ∧ ledger.flag Reg.BMAP_VALID 9 = false ∧ (0 : Word).toNat < 8192 ∧ ledger.flag Reg.BMAP_VALID 0 = true ∧
    ledger.flag Reg.BMAP_VALID 1 = true ∧ ledger.chans.all (fun e => e.2.lost.isNone || e.2.spare.isSome) = true ∧
    ledger.getF Reg.BMAP_HEAD 0 < 4 ∧ ledger.fifoA.length < 16 ∧ 4 ≤ ledger.getF Reg.BMAP_HEAD 1 ∧ ledger.fifoB.length < 16 ∧
    16 ≤ full.fifoA.length ∧ full.flag Reg.BMAP_VALID 0 = true ∧ busy.sysBusy = true ∧ ledger.sysBusy = false ∧
    privileged 0x13 = true ∧ privileged 1 = false := by decide +kernel

theorem test_wit_systemRecords : let full := put [(Reg.LDG_SYS_PLACE, 0, 16383)] ledger
    ledger.sysBusy = false ∧ 16384 < full.getF Reg.LDG_SYS_PLACE + full.getF Reg.LDG_CTRL_TEAR_RSV + 1 ∧ full.sysBusy = false ∧
    ledger.flag Reg.BMAP_VALID 1 = true ∧ 1 ≠ ledger.sysBushel ∧ ledger.flag Reg.LDG_CTRL_EN = true ∧
    1 ≤ ledger.getF Reg.LDG_CTRL_TEAR_RSV ∧ ledger.getF Reg.LDG_SYS_PLACE + ledger.getF Reg.LDG_CTRL_TEAR_RSV + 1 ≤ 16384 ∧
    ledger.time.valid = true ∧ ledger.writePagesOk 1 none = true ∧ ledger.slotsOk (ledger.actOf ledger.sysBushel) 1 none = true ∧
    ledger.debitOk (ledger.costOf ledger.sysBushel) = true ∧ ledger.nextPage.isSome = true := by decide +kernel

theorem test_wit_waitingRecords : let c : SysCmd := { parts := [.append], bushel := 0, gen := 0, place := 0 }
    let s : State := { ledger with sys := some c }
    let k : Credit := { page := 1030, act := 0, cost := 5, tid := some 1 }
    let d : State := { ledger.setChan 0 { ledger.chan 0 with credit := some k } with due := [.seal 0 1 none] }
    s.live = true ∧ s.time.valid = true ∧ s.sys = some c ∧ c.parts = .append :: [] ∧ c.formed = false ∧ s.writePagesOk 1 none = true ∧
    s.slotsOk (s.actOf c.bushel) 1 none = true ∧ s.debitOk (s.costOf c.bushel) = true ∧ s.nextPage.isSome = true ∧
    d.sys = none ∧ d.time.waiting = [] ∧ d.due = [.seal 0 1 none] ∧ d.creditFree 0 = true ∧
    d.debitOk (d.costOf (d.chan 0).bushel) = true ∧ (d.chan 0).credit = some k ∧ (d.chan 0).mirror = false := by decide +kernel

/-- Channel 0 with the record under the gate of read/write channel 0. -/
def gated (r : Rec) : State := ledger.setRw 0 { ledger.rw 0 with gate := some r }

theorem test_wit_recordsReachWritten : let g := grain 0 7
    let x : Rec := { grain 0 7 with kind := .seal }
    (gated g).live = true ∧ ((gated g).rw 0).gate = some g ∧ g.system = false ∧ g.intake = false ∧ (gated g).cmds.filter (·.running) = [] ∧
    (gated g).due = [] ∧ g.kind = .grain ∧ ((gated g).chan 0).lost = none ∧ x.kind = .seal ∧ x.opening = ((gated x).chan x.chan).opening := by
  decide +kernel

/-! ## The chain band and the channels -/

/-- Tables in force, the chain locked at speed, both channels on and on track at the first track of bushel 2. -/
def onTrack : State :=
  let s : State := put [(Reg.CHN_CTRL_EN, 0, 1), (Reg.CHN_STATUS_LOCK, 0, 1), (Reg.CHN_RPM_RPM8, 0, 57600), (Reg.RWC_CTRL_EN, 0, 1),
    (Reg.RWC_CTRL_EN, 1, 1), (Reg.TABLE_STATUS_OK, 0, 1), (Reg.ACT_STATE_ON_TRK_WR, 0, 1), (Reg.ACT_STATE_ON_TRK_RD, 0, 1),
    (Reg.BMAP_START_TRACK, 2, 16), (Reg.ACT_STATE_WINH, 0, 0), (Reg.CHN_WMIN_RPM, 0, 0), (Reg.CHN_ANGLE_MARK, 0, 12)] ledger
  let t : State := { s with tables := { tracks := 4000, zones := [(16, 64, 0, 16, 0)] } }
  (t.setRw 0 { t.rw 0 with settled := true }).setLoop 0 { t.loop 0 with target := 65536 }

theorem test_wit_writeGateOpens : let s := onTrack.setRw 0 { onTrack.rw 0 with wq := [grain 0 7] }
    let h := s.setRw 0 { s.rw 0 with faultLow := true }
    s.live = true ∧ (s.rw 0).gate = none ∧ (s.firsts [] (s.rw 0).wq).find? (fun r => !r.system && decide (16384 ≤ s.nextPlace r)) = none ∧
    s.pickWrite 0 = some (grain 0 7, true) ∧ s.writeGateOk 0 (grain 0 7) = true ∧ s.ecc.bad = [] ∧ (grain 0 7).system = false ∧
    h.pickWrite 0 = some (grain 0 7, true) ∧ h.writeGateOk 0 (grain 0 7) = false := by decide +kernel

theorem test_wit_chainMarks : let s := { onTrack with chain := { onTrack.chain with since := 65535 } }
    let u := { put [(Reg.CHN_STATUS_LOCK, 0, 0)] onTrack with chain := { good := 256 } }
    State.reset.flag Reg.CHN_CTRL_EN = false ∧ onTrack.flag Reg.CHN_CTRL_EN = true ∧ onTrack.flag Reg.CHN_STATUS_LOCK = true ∧
    s.flag Reg.CHN_STATUS_LOCK = true ∧ s.chain.since = 65535 ∧ u.flag Reg.CHN_STATUS_LOCK = false ∧ 256 ≤ u.chain.good ∧
    u.flag Reg.CHN_CTRL_EN = true ∧ onTrack.bothAtRest = true ∧ (onTrack.rw 0).gate = none ∧ (onTrack.rw 1).gate = none ∧ onTrack.chain.since ≠ 65535 ∧
    onTrack.live = true := by decide +kernel

/-- One zone staged, no code loaded, the channels off. -/
def zoneStaged : State :=
  put [(Reg.RWC_CTRL_EN, 0, 0), (Reg.RWC_CTRL_EN, 1, 0), (Reg.TRACKS_COUNT, 0, 4000), (Reg.ZONE0_EN, 0, 1), (Reg.ZONE0_FIRST_TRACK, 0, 16),
    (Reg.ZONE1_M, 0, 64), (Reg.ZONE1_CODE, 0, 0), (Reg.ZONE2_S, 0, 64), (Reg.ZONE2_SKEW, 0, 0), (Reg.BMAP_VALID, 0, 0),
    (Reg.BMAP_VALID, 1, 0), (Reg.BMAP_VALID, 2, 0)] onTrack

theorem test_wit_tableApply : zoneStaged.flag Reg.RWC_CTRL_EN 0 = false ∧ zoneStaged.flag Reg.RWC_CTRL_EN 1 = false ∧
    (∀ c ∈ [1, 2, 3], zoneStaged.codeLoaded c = true → zoneStaged.codeOk c = true) ∧ (∀ z < 32, zoneStaged.zoneFault z = false) ∧
    zoneStaged.regs.all (fun e => decide (e.1 / 32 < 0x400B8000) || decide (0x400C0000 ≤ e.1 / 32) || decide (e.1 % 32 ≠ 31)) = true ∧
    onTrack.flag Reg.RWC_CTRL_EN 0 = true := by decide +kernel

theorem test_wit_bmapWrite : (onTrack.bushel 2).state = .opened ∧ (onTrack.bushel 5).state ≠ .opened ∧
    16 ≤ bitsOf (0x80001000 : Word).toNat 8 20 ∧
    runFault onTrack.tables.zones onTrack.tables.tracks (bitsOf (0x80001000 : Word).toNat 3 5) (bitsOf (0x80001000 : Word).toNat 8 20) = false := by
  decide +kernel

/-- A sector read of the port waits at channel 0. -/
def portRead : State := onTrack.setRw 0 { onTrack.rw 0 with reads := [{ what := .port, place := 0x2000 }] }

/-- The read gate of channel 0 is open for a read of the port at a step of the ladder. -/
def reading (k : Nat) : State :=
  onTrack.setRw 0 { onTrack.rw 0 with rgate := some { what := .port, place := 0x2000, ladder := k } }

theorem test_wit_sectorReads : let n := put [(Reg.RWC_LADDER_STEP_EN, 0, 1)] (reading 0)
    let b := put [(Reg.RWC_SR_STAT_BUSY, 0, 1)] portRead
    let g := put [(Reg.RWC_SR_DEST_OFFSET, 0, 256), (Reg.BUF_WREG_LO, 0, 256), (Reg.BUF_WREG_LAST, 0, 511)] onTrack
    let w := portRead.setRw 0 { portRead.rw 0 with reads := [{ what := .port, place := 0x2000, ladder := 2, samples := true }] }
    let ok : Seen := { sync := some (0, 0), bytes := List.replicate 4128 1 }
    (portRead.rw 0).rgate = none ∧ (portRead.readTurn 0).map (·.again) = some false ∧ (w.rw 0).rgate = none ∧
    (w.readTurn 0).map (·.again) = some true ∧ ((reading 0).rw 0).rgate = some { what := .port, place := 0x2000, ladder := 0 } ∧
    (reading 0).decodes 0 0 ok = true ∧ (reading 0).ecc.bad = [] ∧ 0x2000 + 4128 ≤ 0x1000000 ∧ (reading 0).decodes 0 0 {} = false ∧
    2 * ({} : Seen).edges < preBits (reading 0).layout.pre16 / 2 - 1 ∧ n.decodes 0 0 { edges := 40 } = false ∧
    ((n.rw 0).rgate).map (·.ladder) = some 0 ∧ preBits n.layout.pre16 / 2 - 1 ≤ 2 * 40 ∧ syncFound n.layout 0 { edges := 40 } = false ∧
    n.nextStep 0 0 = some 1 ∧ (reading 6).decodes 0 6 {} = false ∧ (reading 6).nextStep 0 6 = none ∧
    b.flag Reg.RWC_SR_STAT_BUSY 0 = true ∧ g.flag Reg.RWC_SR_STAT_BUSY 0 = false ∧ g.getF Reg.RWC_SR_LOC_HEAD 0 / 4 = 0 ∧
    pagesAll g.fwPage (32 * g.getF Reg.RWC_SR_DEST_OFFSET 0) 4128 = true ∧ g.portTarget 0 = true := by decide +kernel

theorem test_wit_angularEvents : let b := put [(Reg.CHN_ANGLE_MARK, 0, 100), (Reg.AEV0_TARGET_LO, 3, 50)] onTrack
    let f := put [(Reg.AEV1_STATE, 3, 1)] b
    b.getF Reg.AEV1_STATE 3 ≠ 1 ∧ b.getF Reg.AEV0_TARGET_LO 3 + 2 ^ 32 * bitsOf (0 : Word).toNat 0 8 ≤ b.angleFwd ∧
    b.angleFwd < b.getF Reg.AEV0_TARGET_LO 3 + 2 ^ 32 * bitsOf (1 : Word).toNat 0 8 ∧ f.getF Reg.AEV1_STATE 3 = 1 ∧
    f.flag Reg.CHN_STATUS_LOCK = true ∧ f.aevTarget 3 ≤ f.angleFwd := by decide +kernel

/-! ## Loops and spindle -/

/-- Actuator 0 tracking, its loop and the spindle loop enabled. -/
def tracking : State := put [(Reg.ACT_STATE_STATE, 0, 3), (Reg.LOOP_CTRL_EN, 0, 7), (Reg.ACT_STATE_STATE, 1, 3)] onTrack

theorem test_wit_servoTrack : let m := put [(Reg.ACT_STATE_MISS, 0, 3)] tracking
    let pv := tracking.predict 0 (0x01000000 : Word).toNat
    tracking.live = true ∧ tracking.actState 0 = 3 ∧ tracking.swap = [] ∧ (tracking.rw 0).gate = none ∧ (tracking.loop 0).replan = none ∧
    (tracking.loop 0).held = none ∧ (tracking.loop 0).want = (tracking.loop 0).jog ∧ tracking.flag Reg.CHN_STATUS_LOCK = true ∧
    (5 : Int).natAbs ≤ 256 * tracking.getF Reg.WINDOW_SV_WIN 0 ∧ (tracking.loop 0).headNew = false ∧ burstOk (tracking.loop 0).burst 100 = true ∧
    satI 32 (clampI (((40 : Word).toNat : Int) - (tracking.loop 0).jog) 0 4294967295 - pv.1) ≤ 256 * (tracking.getF Reg.WINDOW_MISS_DEV 0 : Int) ∧
    -(256 * (tracking.getF Reg.WINDOW_MISS_DEV 0 : Int)) ≤ satI 32 (clampI (((40 : Word).toNat : Int) - (tracking.loop 0).jog) 0 4294967295 - pv.1) ∧
    tracking.getF Reg.ACT_STATE_MISS 0 < 3 ∧ 1 ≤ tracking.getF Reg.COUNTS_WR_N 0 ∧
    m.actState 0 = 3 ∧ m.getF Reg.ACT_STATE_MISS 0 = 3 := by decide +kernel

theorem test_wit_servoSearching : let s := put [(Reg.ACT_STATE_STATE, 0, 2)] tracking
    let k := s.setLoop 0 { s.loop 0 with acq := 7 }
    s.flag Reg.CHN_STATUS_LOCK = true ∧ (5 : Int).natAbs ≤ 256 * s.servoWindow 0 ∧ (5 : Int).natAbs ≤ 256 * k.servoWindow 0 ∧
    s.actState 0 = 2 ∧ s.swap = [] ∧ (s.rw 0).gate = none ∧ 1 ≤ s.getF Reg.COUNTS_ACQ_N 0 ∧ burstOk (s.loop 0).burst 100 = true ∧
    (s.loop 0).acq = 0 ∧ (s.loop 0).acq + 1 < s.getF Reg.COUNTS_ACQ_N 0 ∧ k.getF Reg.COUNTS_ACQ_N 0 ≤ (k.loop 0).acq + 1 ∧
    ((40 : Word).toNat : Int) - (k.predict 0 0).1 ≤ 256 * (k.getF Reg.WINDOW_MISS_DEV 0 : Int) ∧
    (k.predict 0 0).1 - ((40 : Word).toNat : Int) ≤ 256 * (k.getF Reg.WINDOW_MISS_DEV 0 : Int) := by decide +kernel

theorem test_wit_seekTargets : let f := put [(Reg.RWC_CTRL_EN, 0, 0), (Reg.SEEK_TGT_TRACK, 0, 99)] tracking
    let a := put [(Reg.ACT_STATE_STATE, 0, 2)] f
    let e := put [(Reg.RWC_CTRL_EN, 0, 1)] a
    let k := put [(Reg.ACT_STATE_STATE, 0, 4)] (f.setLoop 0 { f.loop 0 with seekCount := 2000 })
    tracking.flag Reg.RWC_CTRL_EN 0 = true ∧ f.flag Reg.RWC_CTRL_EN 0 = false ∧ f.getF Reg.SEEK_TGT_HEAD 0 / 4 = 0 ∧ a.actState 0 = 2 ∧
    a.getF Reg.SEEK_TGT_HEAD 0 / 4 = 0 ∧ 3 ≤ f.actState 0 ∧ f.actState 0 ≤ 5 ∧ (f.loop 0).replan = none ∧ 0 ≤ (f.loop 0).target ∧
    (f.loop 0).target ≠ 4096 * (99 : Int) ∧ f.getF Reg.SEEK_TGT_TRACK 0 = 99 ∧ e.flag Reg.RWC_CTRL_EN 0 = true ∧ e.actState 0 = 2 ∧
    e.tables.zones ≠ [] ∧ maker 0 20 = false ∧ (e.tables.zones.filter (fun y => decide (y.1 ≤ 20))).length - 1 ≠ (put [(Reg.RWC_STATUS_ZONE, 0, 3)] e).getF Reg.RWC_STATUS_ZONE 0 ∧
    k.actState 0 = 4 ∧ (k.loop 0).seekFailed = false ∧ k.getF Reg.COUNTS_SEEK_TMO 0 ≤ (k.loop 0).seekCount ∧
    (f.loop 0).seekCount < f.getF Reg.COUNTS_SEEK_TMO 0 := by decide +kernel

theorem test_wit_parksAndLoads : let r := put [(Reg.ACT_STATE_STATE, 0, 7)] tracking
    let l := put [(Reg.ACT_STATE_STATE, 0, 6)] tracking
    let p := put [(Reg.ACT_STATE_STATE, 0, 1)] tracking
    let q := p.setLoop 0 { p.loop 0 with loadReq := true }
    2 ≤ tracking.actState 0 ∧ tracking.actState 0 < 7 ∧ (tracking.rw 0).gate = none ∧ r.actState 0 = 7 ∧ l.actState 0 = 6 ∧ p.actState 0 = 1 ∧
    p.atSpeed = true ∧ p.flag Reg.DL_STATUS_DOWN = false ∧ p.parkHeld 0 = false ∧ tracking.actState 0 ≠ 1 ∧ (q.loop 0).loadReq = true := by
  decide +kernel

theorem test_wit_banksAndEnables : let w : State := { tracking with swap := [0] }
    let c := put [(Reg.CLK_STATUS_CUR, 0, 15), (Reg.LOOP_CTRL_EN, 0, 0), (Reg.ACT_STATE_STATE, 0, 0), (Reg.ACT_STATE_STATE, 1, 0)] tracking
    w.swap ≠ [] ∧ tracking.swap = [] ∧ bitsOf (0xF : Word).toNat 0 3 ≠ 0 ∧ bitsOf (8 : Word).toNat 0 3 = 0 ∧
    b2n (bitOf (tracking.getF Reg.LOOP_BANKS_ACTIVE) (0 / 2)) = 0 % 2 ∧ b2n (bitOf (tracking.getF Reg.LOOP_BANKS_ACTIVE) (5 / 2)) ≠ 5 % 2 ∧
    State.reset.onPll 2 = false ∧ c.onPll 2 = true ∧ c.getF Reg.LOOP_CTRL_EN = 0 ∧ c.actState 0 = 0 ∧ c.actState 1 = 0 ∧
    tracking.getF Reg.LOOP_CTRL_EN = 7 ∧ 2 ≤ tracking.actState 1 := by decide +kernel

theorem test_wit_shock : let g := tracking.setRw 0 { tracking.rw 0 with gate := some (grain 0 7) }
    let l : State := { tracking with shock := { low := true, peak := 900 } }
    let h := tracking.setLoop 0 { tracking.loop 0 with shockHold := some 8 }
    let i := tracking.setLoop 0 { tracking.loop 0 with shockHold := some 7 }
    let q := tracking.setLoop 0 { tracking.loop 0 with shockQuiet := some 36, pesHist := [(0, false), (0, false), (0, false), (0, false)] }
    let r := tracking.setLoop 0 { tracking.loop 0 with shockQuiet := some 35 }
    (tracking.rw 0).gate = none ∧ (tracking.rw 1).gate = none ∧ (g.rw 0).gate = some (grain 0 7) ∧ (g.rw 1).gate = none ∧ l.shock.low = true ∧
    (h.loop 0).shockHold = some 8 ∧ h.shock.low = false ∧ h.getF Reg.SHK_CTRL_SHK_HOLD ≤ 8 ∧ (i.loop 0).shockHold = some 7 ∧
    7 < i.getF Reg.SHK_CTRL_SHK_HOLD ∧ (q.loop 0).shockQuiet = some 36 ∧ q.getF Reg.SHK_CTRL_SHK_QUIET ≤ 36 ∧ (q.rw 0).gate = none ∧
    q.actState 0 = 3 ∧ (q.loop 0).jog = 0 ∧ (q.loop 0).want = 0 ∧ (q.loop 0).shockHold = none ∧ q.getF Reg.COUNTS_WR_N 0 ≤ (q.loop 0).pesHist.length ∧
    (∀ x ∈ (q.loop 0).pesHist, x.1 ≤ q.getF Reg.LIM_WR_WR_LIM 0 ∧ x.2 = false) ∧ (r.loop 0).shockQuiet = some 35 ∧
    35 < r.getF Reg.SHK_CTRL_SHK_QUIET := by decide +kernel

theorem test_wit_spindleSampled : let s := put [(Reg.SPN_NSET_RPM, 0, 7200), (Reg.SPN_CAP_RPM, 0, 7200), (Reg.SPN_STATE_AT_SPEED, 0, 0)] tracking
    let u : State := { s with spindle := { s.spindle with atCount := 400 } }
    let l := put [(Reg.CHN_RPM_RPM8, 0, 800)] tracking
    s.swap = [] ∧ s.getF Reg.ENG_STATUS_PL_STEP = 0 ∧ s.flag Reg.CHN_STATUS_LOCK = true ∧ (s.rw 0).gate = none ∧ (s.rw 1).gate = none ∧
    bitOf (s.getF Reg.LOOP_CTRL_EN) 2 = true ∧ u.atSpeed = false ∧ u.spn = 7 ∧
    256 * ((u.getF Reg.CHN_RPM_RPM8 : Int) - 8 * (u.nSet : Int)).natAbs ≤ 8 * u.nSet ∧ u.getF Reg.SPN_THR2_AT_N ≤ u.spindle.atCount + 1 ∧
    l.getF Reg.CHN_RPM_RPM8 < 8 * l.getF Reg.SPN_THR_UNLOAD_RPM ∧ l.flag Reg.CHN_STATUS_LOCK = true := by decide +kernel

/-- The sequencer in a state. -/
def spinning (n : Nat) : State := put [(Reg.SPN_STATE_STATE, 0, n), (Reg.WIND_RREF_R, 0, 1000), (Reg.SPN_STATE_TRY, 0, 1)] State.reset

theorem test_wit_spindleCommands : let v := put [(Reg.SPN_EST_RPM8, 0, 8000), (Reg.SPN_STATE_DIR_NOW, 0, 1)] (spinning 7)
    let q := (spinning 7).setRw 0 { wq := [grain 0 7] }
    (spinning 0).live = true ∧ (spinning 0).inLoss = false ∧
    (put [(Reg.ENG_STATUS_PL_ACTIVE, 0, 1)] (spinning 0)).inLoss = true ∧ (put [(Reg.ENG_STATUS_PL_ACTIVE, 0, 1)] (spinning 0)).isReversal false = false ∧
    (spinning 0).isReversal false = false ∧ (spinning 0).spn = 0 ∧ (spinning 3).spn = 3 ∧ (spinning 3).isReversal false = false ∧
    (spinning 8).spn = 8 ∧ (spinning 7).spn = 7 ∧ v.isReversal false = true ∧ 8 * v.getF Reg.SPN_THR2_REV_MAX_RPM < v.getF Reg.SPN_EST_RPM8 ∧
    (spinning 7).records = [] ∧ (spinning 7).bothAtRest = true ∧ (spinning 10).spn = 10 ∧ q.records ≠ [] ∧
    (spinning 0).getF Reg.WIND_RREF_R ≠ 0 ∧ State.reset.getF Reg.WIND_RREF_R = 0 ∧ State.reset.spn = 0 := by decide +kernel

theorem test_wit_spindleStart : let b (x : BrakeFor) : State := { spinning 2 with spindle := { (spinning 2).spindle with brake := x } }
    let g : State := { spinning 2 with spindle := { (spinning 2).spindle with brake := .gap, gapWait := true } }
    let f : State := { spinning 10 with spindle := { (spinning 10).spindle with starting := true } }
    let l := put [(Reg.SPN_STATE_TRY, 0, 7)] (spinning 4)
    (spinning 1).spn = 1 ∧ (spinning 1).spindle.dir = false ∧ (spinning 1).spindle.forHeat = false ∧ (spinning 1).inLoss = false ∧ (spinning 1).bothAtRest = true ∧
    ({ spinning 1 with spindle := { (spinning 1).spindle with forHeat := true } } : State).spindle.forHeat = true ∧ (spinning 2).bothAtRest = true ∧
    (put [(Reg.ENG_STATUS_PL_ACTIVE, 0, 1)] (spinning 4)).inLoss = true ∧
    8 * (spinning 1).getF Reg.SPN_DET_CATCH_MIN ≤ satN 16 8000 ∧ satN 16 80 < 8 * (spinning 1).getF Reg.SPN_DET_CATCH_MIN ∧ (spinning 8).spn = 8 ∧
    (b .detect).spn = 2 ∧ (b .detect).spindle.brake = .detect ∧ (b .detect).spindle.gapWait = false ∧ (spinning 4).spn = 4 ∧
    (∀ k < 6, [9, 3, 8, 3, 7, 6].getD 1 0 ≤ [9, 3, 8, 3, 7, 6].getD k 0) ∧ (∀ k < 1, [9, 3, 8, 3, 7, 6].getD 1 0 < [9, 3, 8, 3, 7, 6].getD k 0) ∧
    (spinning 5).spn = 5 ∧ 1 ≤ (spinning 5).getF Reg.SPN_START_SYNC_N ∧ (spinning 5).inLoss = false ∧
    (spinning 5).getF Reg.SPN_STATE_TRY < (spinning 5).getF Reg.SPN_START_START_TRIES ∧
    l.getF Reg.SPN_START_START_TRIES ≤ l.getF Reg.SPN_STATE_TRY ∧ l.spn = 4 ∧ g.spn = 2 ∧ g.spindle.brake = .gap ∧ g.spindle.gapWait = true ∧
    f.spn = 10 ∧ f.spindle.starting = true ∧ f.power.vinValid = true := by decide +kernel

theorem test_wit_commutation : let c := put [(Reg.CHN_STATUS_LOCK, 0, 1)] (spinning 6)
    let p : State := { c with spindle := { c.spindle with predicted := 5, crossings := [900000] } }
    let d := spinning 8
    let k : State := { spinning 2 with spindle := { (spinning 2).spindle with brake := .kick } }
    let num (r : Nat) : Int := ((satN 16 r : Int) - (spinning 3).getF Reg.WIND_RREF_R) * 100000
    let lim := ((spinning 3).getI Reg.SPN_HEAT_HEAT_TGT - 25) * (393 * ((spinning 3).getF Reg.WIND_RREF_R : Int))
    c.spn = 6 ∧ c.bothAtRest = true ∧ c.spindle.dir = false ∧ c.spindle.crossings = [] ∧ c.narrow 100000 = false ∧
    p.spn = 6 ∧ p.narrow 0 = true ∧ p.flag Reg.SPN_MOTOR_NARROW = false ∧ p.spindle.crossings ≠ [] ∧ d.spn = 8 ∧ d.bothAtRest = true ∧
    d.spindle.crossings = [] ∧ satN 16 (80000000000 / (d.getF Reg.SPN_MOTOR_POLE_PAIRS * 90000000)) < 8 * d.getF Reg.SPN_DET_CATCH_MIN ∧
    0 < c.getF Reg.SPN_MOTOR_POLE_PAIRS * 900000 ∧ 1 ≤ c.getF Reg.SPN_MOTOR_SKIP_MAX ∧
    8 * c.getF Reg.SPN_THR_HANDOFF_RPM ≤ satN 16 (80000000000 / (c.getF Reg.SPN_MOTOR_POLE_PAIRS * 900000)) ∧
    satN 16 (80000000000 / (c.getF Reg.SPN_MOTOR_POLE_PAIRS * 90000000)) < 8 * c.getF Reg.SPN_THR_HANDOFF_RPM ∧
    p.getF Reg.SPN_MOTOR_SKIP_MAX ≤ p.spindle.predicted + 1 ∧ k.spn = 2 ∧ k.spindle.brake = .kick ∧ (spinning 3).spn = 3 ∧
    num 800 < lim ∧ lim ≤ num 2000 ∧
    (let o := put [(Reg.CHN_STATUS_LOCK, 0, 1)] (spinning 0); o.spn ≤ 4 ∧ o.flag Reg.CHN_STATUS_LOCK = true ∧ o.bothAtRest = true ∧ o.spindle.crossings = [] ∧
      0 < o.getF Reg.SPN_MOTOR_POLE_PAIRS * 900000) := by decide +kernel

/-! ## Die link and power loss -/

theorem test_wit_dieLink : let c := (put [(Reg.ENG_ACT_SUM_MAX, 0, 100)] tracking).setLoop 0 { tracking.loop 0 with uPrev := 500 }
    let r := tracking.setLoop 0 { tracking.loop 0 with retReq := true }
    tracking.power.autoRetract = false ∧ (∀ a < 2, sget false a tracking.power.retract = false ∧ (tracking.loop a).retReq = false) ∧
    (tracking.loop 0).uPrev.natAbs + (tracking.loop 1).uPrev.natAbs ≤ tracking.getF Reg.ENG_ACT_SUM_MAX ∧
    c.getF Reg.ENG_ACT_SUM_MAX < (c.loop 0).uPrev.natAbs + (c.loop 1).uPrev.natAbs ∧ (r.loop 0).retReq = true ∧
    (∀ a < 2, sget false a c.power.retract = false ∧ (c.loop a).retReq = false) ∧ tracking.records = [] ∧ tracking.spn = 7 ∧ State.reset.spn = 0 ∧
    tracking.power.harvest = false ∧ tracking.power.driveNL = false ∧ tracking.spn ≠ 9 ∧
    (let n : State := { tracking with power := { tracking.power with driveNL := true } }
     n.power.driveNL = true ∧ n.records = [] ∧ (n.setRw 0 { wq := [grain 0 7] }).records ≠ [] ∧
     (n.setRw 0 { wq := [grain 0 7] }).power.driveNL = true) := by decide +kernel

theorem test_wit_dieLinkReceives : let d := put [(Reg.DL_STATUS_DOWN, 0, 1)] tracking
    let r := put [(Reg.ACT_STATE_STATE, 0, 7)] tracking
    let p := (put [(Reg.ACT_STATE_STATE, 0, 1)] tracking).setLoop 0 { tracking.loop 0 with loadReq := true }
    d.flag Reg.DL_STATUS_DOWN = true ∧ d.getF Reg.ENG_STATUS_PL_STEP = 0 ∧ tracking.flag Reg.DL_STATUS_DOWN = false ∧
    2 ≤ tracking.actState 0 ∧ tracking.actState 0 < 7 ∧ (tracking.rw 0).gate = none ∧ r.actState 0 = 7 ∧ p.actState 0 = 1 ∧
    (p.loop 0).loadReq = true ∧ tracking.power.vaon = true ∧ tracking.lossStands = false ∧
    tracking.actState 0 ≠ 7 ∧ (tracking.rw 1).gate = none := by decide +kernel

theorem test_wit_powerLossBegins : let k : State := { tracking with power := { tracking.power with loss := some .vin, charger := false, vinValid := false } }
    let u : State := { tracking with power := { tracking.power with armed := false } }
    let v : State := { tracking with power := { tracking.power with loss := some .vhold, charger := true } }
    let o : State := { tracking with power := { tracking.power with told := true } }
    let a := put [(Reg.ENG_STATUS_PL_ACTIVE, 0, 1), (Reg.ENG_STATUS_PL_STEP, 0, 2)] tracking
    tracking.flag Reg.DL_STATUS_DOWN = false ∧ k.power.charger = false ∧ k.lossStands = true ∧ u.power.armed = false ∧ tracking.lossStands = false ∧
    tracking.power.loss ≠ some .vhold ∧ v.lossStands = false ∧ v.power.vinValid = true ∧ tracking.power.armed = true ∧ tracking.power.told = false ∧
    o.power.told = true ∧ o.live = true ∧ a.live = true ∧ a.power.told = false ∧ a.flag Reg.ENG_STATUS_PL_DONE = false ∧
    a.chans.all (fun e => e.2.lost.isNone) = true ∧ a.sys = none ∧
    tracking.flag Reg.ENG_STATUS_PL_ACTIVE = false ∧ tracking.flag Reg.ENG_STATUS_PL_DONE = false ∧ tracking.getF Reg.ENG_STATUS_PL_STEP = 0 ∧
    tracking.chans.all (fun e => e.2.lost.isNone) = true ∧ tracking.sys = none ∧ a.flag Reg.ENG_STATUS_PL_ACTIVE = true ∧
    a.getF Reg.ENG_STATUS_PL_STEP = 2 := by decide +kernel

theorem test_wit_powerLossEnds : let d := put [(Reg.ENG_STATUS_PL_STEP, 0, 4), (Reg.ENG_STATUS_PL_ACTIVE, 0, 1)] tracking
    let v : State := { d with power := { d.power with loss := some .vin, vinValid := false } }
    let q := d.setRw 0 { d.rw 0 with wq := [grain 0 7] }
    let p := put [(Reg.ENG_STATUS_PL_STEP, 0, 5), (Reg.ACT_STATE_STATE, 0, 1), (Reg.ACT_STATE_STATE, 1, 1)] v
    4 ≤ d.getF Reg.ENG_STATUS_PL_STEP ∧ d.getF Reg.ENG_STATUS_PL_STEP ≤ 5 ∧ (d.rw 0).records = [] ∧ d.inLoss = true ∧ d.power.vinValid = true ∧ d.boot.pending = none ∧
    d.spn ≠ 9 ∧ v.power.vinValid = false ∧ (v.rw 0).records = [] ∧ 2 ≤ v.actState 0 ∧ v.actState 0 < 7 ∧ (q.rw 0).gate = none ∧ (q.rw 1).gate = none ∧
    q.inLoss = true ∧ q.records ≠ [] ∧ (q.rw 0).wq ≠ [] ∧ 2 ≤ q.actState 0 ∧ p.getF Reg.ENG_STATUS_PL_STEP = 5 ∧ p.bothAtRest = true ∧ p.records = [] ∧
    p.inLoss = true ∧ p.power.vinValid = false ∧ p.power.lost = false := by decide +kernel

theorem test_wit_powerDie : let h : State := { tracking with power := { tracking.power with harvest := true, drain := true } }
    let v : State := { tracking with power := { tracking.power with loss := some .vhold } }
    15000 ≤ 15800 ∧ tracking.flag Reg.ENG_STATUS_PL_DONE = false ∧ tracking.spn ≠ 9 ∧ v.power.loss = some .vhold ∧ h.power.harvest = true ∧
    h.power.drain = true ∧ tracking.power.harvest = false ∧ (put [(Reg.ACT_STATE_STATE, 0, 7)] tracking).actState 0 = 7 := by decide +kernel

/-! ## Ovore -/

/-- A link frame with its CRC (R241). -/
def withCrc (b : List Byte) : List Byte := b ++ leBytes 4 (crc32c b).toNat

/-- The link up, an intake of channel 0 with two credits, channel 1 open and mirrored. -/
def linked : State :=
  let s : State := put [(Reg.OVR_CTRL_EN, 0, 1), (Reg.OVR_STATUS_UP, 0, 1), (Reg.OVR_OWN_MASK, 0, 2), (Reg.BMAP_VALID, 3, 1), (Reg.TCFG_EN, 1, 1),
    (Reg.OVR_STATUS_TRAINED1, 0, 1)] ledger
  (s.setIntake 0 { isOpen := true, frameMax := 4, bushel := 3, promised := 10, outstanding := [(5, 1050), (5, 1051)] }).setChan 1
    { isOpen := true, everOpened := true, mirror := true, frameMax := 4, bushel := 1, durable := 7, written := 7, opening := 1, mirrored := 7 }

/-- A MIRROR frame of grain 1 of channel 0, before its CRC. -/
def mirrorFrame : List Byte := [1, 0, 0, 0, 0, 0, 0, 0, 0, 0, 0, 0, 0, 0, 0, 0, 0xD7, 0x51, 1, 0, 1] ++ List.replicate 4123 0

theorem test_wit_mirrorFrame : linked.ovrValid 1 (withCrc mirrorFrame) = true ∧ linked.flag Reg.OVR_CTRL_EN = true ∧
    State.reset.flag Reg.OVR_CTRL_EN = false ∧ linked.linkUp = true ∧
    bitOf (byteAt (withCrc mirrorFrame) 2).toNat 0 = false ∧ (byteAt (withCrc mirrorFrame) 18).toNat = 1 ∧
    (byteAt (withCrc mirrorFrame) 19).toNat % 64 = 0 ∧ (linked.intake 0).isOpen = true ∧ (linked.intake 0).outstanding = (5, 1050) :: [(5, 1051)] ∧
    linked.ecc.bad = [] ∧ linked.getF Reg.ENG_STATUS_PL_STEP < 3 ∧ (linked.intake 0).halted = false ∧
    BitVec.ofNat 16 (leAt (withCrc mirrorFrame) 34 2) = (linked.intake 0).opening ∧ linked.pendingOf 0 = [] ∧
    (linked.intake 0).received = (linked.intake 0).confirmed ∧
    BitVec.ofNat 32 (leAt (withCrc mirrorFrame) 20 4) = (linked.intake 0).confirmed + 1 :=
  ⟨ovrValid_of_crc _ _ _ (by simp only [mirrorFrame, List.length_append, List.length_replicate, List.length_cons, List.length_nil, ovrLen]) (by decide +kernel) (by decide +kernel) (by simp only [mirrorFrame, List.length_append, List.length_replicate, List.length_cons]; omega), by decide +kernel⟩

/-- A SEAL_NOTE frame of channel 0 at head 0 with ordinal 1, chain heads of zeros and signature bytes, before its CRC. -/
def sealFrame (sig : List Byte) : List Byte :=
  [2, 0, 0, 0, 0, 0, 0, 0, 0, 0, 0, 0, 0, 0, 0, 0, 0xD7, 0x51, 2, 0] ++ List.replicate 28 0 ++ ([1] ++ List.replicate 99 0) ++ sig

/-- A signature of that seal under the private key 1. -/
def sealSig : List Byte := beBytes 32 p256G.1 ++ beBytes 32 0x9fbc67a384dafb22536b024605192566488fb03d261f4638b5d2085e6f8eae98

/-- The partner's key is that of the private key 1; its chain heads are 32 zero bytes. -/
def keyed : State :=
  let k : List Nat := [0xf2d1176b, 0x47422ce1, 0xe5e6bcf8, 0xf240a463, 0x817d0377, 0xa033eb2d, 0x4539a1f4, 0x96c298d8,
    0xe242e34f, 0x9b7f1afe, 0x4aebe78e, 0x169e0f7c, 0x5733ce2b, 0xce5e316b, 0x6840b6cb, 0xf551bf37]
  (put ((Reg.OVR_CTRL_EN, 0, 1) :: (Reg.OVR_STATUS_UP, 0, 1) :: (List.range 16).map (fun i => (Reg.OVR_PEER_KEY_KEY, i, k.getD i 0)))
    State.reset).setIntake 0 { isOpen := true, bushel := 3, promised := 10, outstanding := [(5, 1050), (5, 1051)] }

theorem test_wit_sealNote : let f := withCrc (sealFrame sealSig)
    keyed.live = true ∧ keyed.flag Reg.OVR_CTRL_EN = true ∧ keyed.linkUp = true ∧ (byteAt f 19).toNat % 64 = 0 ∧
    (keyed.intake 0).isOpen = true ∧ (keyed.intake 0).outstanding = (5, 1050) :: [(5, 1051)] ∧ keyed.ecc.bad = [] ∧
    keyed.getF Reg.ENG_STATUS_PL_STEP < 3 ∧ (keyed.intake 0).halted = false ∧ (keyed.intake 0).truncated = false ∧
    BitVec.ofNat 16 (leAt f 34 2) = (keyed.intake 0).opening ∧ keyed.pendingOf 0 = [] ∧ (keyed.intake 0).received = (keyed.intake 0).confirmed ∧
    BitVec.ofNat 32 (leAt f 20 4) = (keyed.intake 0).confirmed ∧ (keyed.intake 0).ordinal < leAt (slice f 48 164) 0 4 ∧ (keyed.intake 0).act < 2 := by decide +kernel

theorem test_wit_sealFails : linked.sealCopyOk (linked.intake 0) (slice (withCrc (sealFrame sealSig)) 16 32)
    (slice (withCrc (sealFrame sealSig)) 48 164) = false := by decide +kernel

theorem test_wit_sealFrame : keyed.ovrValid 2 (withCrc (sealFrame sealSig)) = true ∧ linked.ovrValid 2 (withCrc (sealFrame sealSig)) = true :=
  ⟨ovrValid_of_crc _ _ _ (by decide +kernel) (by decide +kernel) (by decide +kernel) (by decide +kernel),
   ovrValid_of_crc _ _ _ (by decide +kernel) (by decide +kernel) (by decide +kernel) (by decide +kernel)⟩

theorem test_wit_sealVerifies : keyed.sealCopyOk (keyed.intake 0) (slice (withCrc (sealFrame sealSig)) 16 32)
    (slice (withCrc (sealFrame sealSig)) 48 164) = true := by decide +kernel

/-- A HEARTBEAT frame: its mask, its flags, its count of notes and a note, before its CRC. -/
def heartbeat (mask flags n : Nat) (nb : List Byte) : List Byte :=
  padTo 160 ([4, 0, 0, 0, 0, 0, 0, 0, 0, 0, 0, 0, 0, 0, 0, 0] ++ leBytes 8 mask ++ leBytes 1 flags ++ leBytes 1 n ++ List.replicate 6 0 ++ nb)

/-- A HEARTBEAT frame of this link is valid. -/
theorem heartbeat_valid (s : State) (b : List Byte) (hu : s.peerUid = List.replicate 8 0) (hl : b.length = 160) (h0 : byteAt b 0 = 4)
    (h1 : slice b 4 8 = List.replicate 8 0) : s.ovrValid 4 (withCrc b) = true :=
  ovrValid_of_crc _ _ _ (by simp [hl, ovrLen]) (by simp [h0]) (by rw [h1, hu]) (by simp [hl])

theorem test_wit_frameValid : linked.ovrValid 3 (withCrc ([3] ++ List.replicate 31 0)) = true ∧
    linked.ovrValid 4 (withCrc (heartbeat 1 1 0 [])) = true ∧ linked.ovrValid 4 (withCrc (heartbeat 1 1 1 (noteBytes 5 1 0 20 []))) = true ∧
    linked.ovrValid 4 (withCrc (heartbeat 1 1 1 (noteBytes 6 1 0 6 [1]))) = true ∧
    (linked.setChan 1 {}).ovrValid 4 (withCrc (heartbeat 2 1 0 [])) = true ∧ (linked.setChan 1 {}).ovrValid 4 (withCrc (heartbeat 1 0 0 [])) = true := by
  refine ⟨ovrValid_of_crc _ _ _ ?_ ?_ ?_ ?_, heartbeat_valid _ _ ?_ ?_ ?_ ?_, heartbeat_valid _ _ ?_ ?_ ?_ ?_, heartbeat_valid _ _ ?_ ?_ ?_ ?_,
    heartbeat_valid _ _ ?_ ?_ ?_ ?_, heartbeat_valid _ _ ?_ ?_ ?_ ?_⟩ <;> decide +kernel

theorem test_wit_linkFrames : let c := withCrc ([3] ++ List.replicate 31 0)
    let h := withCrc (heartbeat 1 1 0 [])
    let g := withCrc (heartbeat 1 1 1 (noteBytes 5 1 0 20 []))
    let k := withCrc (heartbeat 1 1 1 (noteBytes 6 1 0 6 [1]))
    let m := withCrc (heartbeat 2 1 0 [])
    let z := withCrc (heartbeat 1 0 0 [])
    let u := linked.setChan 1 {}
    let e : State := { u with ovr := { u.ovr with errs := 200 } }
    BitVec.ofNat 16 (leAt c 18 2) = (linked.intake ((byteAt c 16).toNat % 64)).opening ∧
    masksMeet (slice h 16 8) linked.ownMask = false ∧ bitOf (byteAt h 24).toNat 0 = true ∧
    bitOf (byteAt h 24).toNat 1 = false ∧ byteAt h 25 = 0 ∧ byteAt g 25 = 1 ∧ (byteAt g 33).toNat = 1 ∧ byteAt g 32 = 5 ∧
    (linked.chan 1).isOpen = true ∧ (linked.chan 1).mirror = true ∧ byteAt k 32 = 6 ∧
    bitOf (byteAt k 34).toNat 0 = false ∧ BitVec.ofNat 16 (leAt k 40 2) = (linked.chan 1).opening ∧ linked.cmds.filter (·.running) = [] ∧
    u.linkUp = true ∧ u.mirroredOwn = [] ∧ u.cmds.filter (fun c => c.op == 0x09 && c.running) = [] ∧
    masksMeet (slice m 16 8) u.ownMask = true ∧ masksMeet (slice z 16 8) u.ownMask = false ∧
    bitOf (byteAt z 24).toNat 0 = false ∧ linked.ovr.errs + 1 ≤ linked.getF Reg.OVR_CTRL_ERR_LIM ∧
    e.getF Reg.OVR_CTRL_ERR_LIM < e.ovr.errs + 1 ∧ e.mirroredOwn = [] := by decide +kernel

theorem test_wit_linkUpAndDown : let d := put [(Reg.OVR_STATUS_UP, 0, 0)] ((linked.setChan 1 {}).setIntake 0 {})
    let g : State := { d with ovr := { d.ovr with good := 3 } }
    d.linkUp = false ∧ (linked.setChan 1 {}).linkUp = true ∧ (linked.setChan 1 {}).mirroredOwn = [] ∧ d.ovr.good < 3 ∧
    (linked.setChan 1 {}).flag Reg.TCFG_EN 1 = true ∧ g.linkUp = false ∧ g.flag Reg.OVR_CTRL_EN = true ∧ g.flag Reg.OVR_STATUS_TRAINED1 = true ∧
    3 ≤ g.ovr.good ∧ g.mirroredOwn = [] ∧ g.openIntakes = [] := by decide +kernel

/-- A frame of channel 1 on the port, its first grain received. -/
def mirroredFrame : Frame := { phase := .writing, word0 := 0, word1 := 8, ty := 0, tid := 1, chan := 1, len := 1, tag := 0, pages := [1024] }

theorem test_wit_ownerFrames : let q := linked.setIntake 0 {}
    let b : State := { q with ovr := { q.ovr with beating := true } }
    let s : State := { linked with port := { linked.port with frame := some mirroredFrame } }
    let c := s.setOwn 1 { granted := 5 }
    let l := q.setOwn 1 { lagging := true, resync := true, pos := 7 }
    let r := (q.setOwn 1 { lagging := true, resync := true, pos := 6, granted := 5 }).setRw 0 { wq := [{ grain 0 7 with chan := 1 }] }
    q.openIntakes = [] ∧ q.lanesIdle = true ∧ b.openIntakes = [] ∧ b.lanesIdle = false ∧ s.port.frame = some mirroredFrame ∧ s.liveMirror 1 = true ∧
    mirroredFrame.pages[mirroredFrame.mirrored]? = some 1024 ∧ s.ecc.bad = [] ∧ c.ovrCredit 1 ≠ 0 ∧ c.liveMirror 1 = true ∧ s.ovrCredit 1 = 0 ∧
    q.catching 1 = false ∧ l.catching 1 = true ∧ (l.own 1).pos = (l.chan 1).durable ∧ (l.own 1).extras.length ≤ (l.own 1).posX ∧
    (l.own 1).search = false ∧ mirroredFrame.ty = 0 ∧ mirroredFrame.phase = .writing ∧ l.writeBusy 1 = false ∧ r.catching 1 = true ∧ (r.own 1).pos ≠ (r.chan 1).durable ∧ (r.own 1).extras[(r.own 1).posX]? = none ∧
    r.ovrCredit 1 ≠ 0 ∧ (r.chan 1).lost = none ∧ (r.residentRec 1 ((r.own 1).pos + 1)).isSome = true ∧ b.ovr.beatDue = false ∧ b.ovr.txq = [] := by
  decide +kernel

theorem test_wit_linkSettings : let g : Prov := { chan := 0, kind := 1, seq := 1, page := 1050, hdr := [], cost := 5, came := 0, committed := false }
    let s : State := { linked with ovr := { linked.ovr with prov := [g] } }
    let o := put [(Reg.OVR_CTRL_EN, 0, 0)] linked
    s.pendingOf 0 = [g] ∧ linked.pendingOf 0 = [] ∧ State.reset.onPll 3 = false ∧ bitOf (1 : Word).toNat 0 = true ∧ linked.flag Reg.OVR_CTRL_EN = true ∧
    o.flag Reg.OVR_CTRL_EN = false ∧
    (∀ b < 32, bitOf (0x12 : Word).toNat b = bitOf (o.getF Reg.OVR_OWN_MASK 0) b ∨ ((o.chan (32 * 0 + b)).isOpen = false ∧ (o.intake (32 * 0 + b)).isOpen = false)) ∧
    bitOf (0 : Word).toNat 1 ≠ bitOf (o.getF Reg.OVR_OWN_MASK 0) 1 ∧ (o.chan (32 * 0 + 1)).isOpen = true := by decide +kernel

/-! ## Dictionary and time -/

/-- The node on the bus in Operational, time valid with a wall time. -/
def node : State :=
  { put [(Reg.DICT_CTRL_EN, 0, 1), (Reg.DICT_STATUS_NMT, 0, 5), (Reg.DICT_STATUS_NODE_ID, 0, 0x20), (Reg.DICT_RIGHTS_CAN_WRITE_EN, 0, 1),
         (Reg.DICT_CTRL_AUTO_BOFF, 0, 1)] State.reset with time := { valid := true, master := true } }

theorem test_wit_nodeStates : node.live = true ∧ node.canOn = true ∧ node.nodeId = 0x20 ∧ State.reset.canOn = false ∧
    State.reset.flag Reg.DICT_CTRL_EN = false ∧ State.reset.getF Reg.DICT_STATUS_BUS ≠ 2 ∧ node.getF Reg.DICT_STATUS_NMT ≠ 0 ∧
    node.obj 0x1017 0 ≠ 0 ∧ node.rxWaiting < 32 ∧
    (let f : State := { node with dict := { node.dict with queue := List.replicate 32 { src := .sdo, index := 0x1008, sub := 0, write := false, frame := true } } }
     f.live = true ∧ f.canOn = true ∧ 32 ≤ f.rxWaiting) := by decide +kernel

theorem test_wit_busStates : let p := put [(Reg.DICT_STATUS_BUS, 0, 1)] node
    let o := put [(Reg.DICT_STATUS_BUS, 0, 2)] node
    let e : State := { node with dict := { node.dict with emcyDue := [{ code := 0x8110, b3 := 0xFF, detail := 0 }] } }
    node.nmtUp = true ∧ p.canOn = true ∧ p.getF Reg.DICT_STATUS_BUS = 1 ∧ e.emcyFree = true ∧ e.dict.emcyDue ≠ [] ∧ e.obj 0x1014 0 < 2 ^ 31 ∧
    node.emcyFree = true ∧ node.dict.emcyDue = [] ∧ node.dict.active = [] ∧ o.flag Reg.DICT_CTRL_EN = true ∧ o.nmtUp = true ∧
    o.getF Reg.DICT_STATUS_BUS = 2 ∧ o.flag Reg.DICT_CTRL_AUTO_BOFF = true := by decide +kernel

theorem test_wit_timeFrames : let t : State := { node with time := { node.time with ofs := 86400000000 - 700 } }
    let far : State := { node with time := { node.time with ofs := 0 } }
    let f : List Byte := [0, 0, 0, 0, 1, 0]
    node.obj 0x1012 0 % 2048 ≠ 0x7F ∧ 2 ^ 31 ≤ t.obj 0x1012 0 ∧ t.obj 0x1012 0 % 2048 = 0x100 ∧ f.length = 6 ∧ t.time.valid = true ∧
    t.getF Reg.ENG_STATUS_PL_STEP = 0 ∧ t.time.master = true ∧
    0 < ((leAt f 4 2 * 86400000000 + leAt f 0 4 % 2 ^ 28 * 1000 : Nat) : Int) - t.wall ∧
    ((leAt f 4 2 * 86400000000 + leAt f 0 4 % 2 ^ 28 * 1000 : Nat) : Int) - t.wall < 1000 ∧
    (t.time.dmt - t.time.lastAnchorDmt).toNat < t.getF Reg.TIME_CTRL_ANCHOR_S * 1000000 ∧
    1000000 ≤ ((leAt f 4 2 * 86400000000 + leAt f 0 4 % 2 ^ 28 * 1000 : Nat) : Int) - far.wall ∧ far.time.waiting.length < 8 := by decide +kernel

theorem test_wit_sdo : let x : Sdo := { index := 0x1012, sub := 0, write := true }
    let w : State := { node with dict := { node.dict with sdo := some x } }
    let y : Sdo := { index := 0x1008, sub := 0, write := false, data := List.replicate 9 1 }
    let z : Sdo := { y with data := List.replicate 7 1 }
    let r (y : Sdo) : State := { node with dict := { node.dict with sdo := some y } }
    node.dict.sdo = none ∧ (0x23 : Byte).toNat / 32 = 1 ∧ bitOf 0x23 1 = true ∧ bitOf 0x23 0 = true ∧ (0x40 : Byte).toNat / 32 = 2 ∧
    (0x60 : Byte).toNat / 32 = 3 ∧ w.dict.sdo = some x ∧ x.write = true ∧ bitOf 0x01 4 = x.toggle ∧ 0x01 / 32 = 0 ∧ bitOf 0x01 0 = true ∧
    bitOf 0x00 0 = false ∧ (r y).dict.sdo = some y ∧ y.write = false ∧ 0x60 / 32 = 3 ∧ bitOf 0x60 4 = y.toggle ∧ 7 < y.data.length ∧
    (r z).dict.sdo = some z ∧ z.data.length = 7 ∧ z.left = 0 ∧ bitOf 0x60 4 = z.toggle ∧ (r z).live = true ∧ (r z).canOn = true ∧
    (r z).nmtUp = true ∧ (r z).rxWaiting < 32 := by decide +kernel

/-- A frame of the bulk client: command, TAG, entry, SEQ, LAST, byte 7 and data. -/
def bulk (cmd i j seq last : Nat) (data : List Byte) : List Byte :=
  padTo 64 (leBytes 1 cmd ++ [9] ++ leBytes 2 i ++ leBytes 1 j ++ leBytes 1 seq ++ leBytes 1 last ++ [0] ++ data)

theorem test_wit_bulkWrites : let f := bulk 0x10 0x1012 0 0 0 [4, 0, 0, 0]
    let x : Bulk := { tag := 9, index := 0x1012, sub := 0, write := true, size := 112 }
    let w (x : Bulk) : State := { node with dict := { node.dict with bulk := some x } }
    let g := bulk 0x30 0x1012 0 1 0 (List.replicate 56 3)
    let y : Bulk := { x with size := 4, data := [1, 2, 3, 4], lastSeen := true }
    let e := bulk 0x40 0x1012 0 0 0 (leBytes 4 (crc32c y.data).toNat)
    let a := bulk 0x7F 0x1012 0 0 0 [0, 0, 0, 8]
    node.dict.bulk = none ∧ byteAt f 0 = 0x10 ∧ unusedZero f [8, 9, 10, 11] = true ∧ node.access .bulk (leAt f 2 2) (leAt f 4 1) true = none ∧
    (dictEntry (leAt f 2 2) (leAt f 4 1)).any (fun e => !e.lengthBad (leAt f 8 4) && leAt f 8 4 != 0 && decide (leAt f 8 4 ≤ 16384)) = true ∧
    (w x).dict.bulk = some x ∧ x.tag = byteAt g 1 ∧ x.index = leAt g 2 2 ∧ x.sub = leAt g 4 1 ∧ byteAt g 0 = 0x30 ∧
    unusedZero g (5 :: 6 :: (List.range 56).map (· + 8)) = true ∧ byteAt g 6 = 0 ∧ leAt g 5 1 = x.seq + 1 ∧ x.seq + 1 < x.blksize ∧
    x.data.length + 56 ≤ x.size ∧ g.length = 64 ∧ byteAt e 0 = 0x40 ∧ unusedZero e [8, 9, 10, 11] = true ∧ y.data.length = y.size ∧
    y.tag = byteAt e 1 ∧ (crc32c y.data).toNat = leAt e 8 4 ∧ (crc32c y.data).toNat ≠ leAt (bulk 0x40 0x1012 0 0 0 []) 8 4 ∧
    x.tag = byteAt a 1 ∧ byteAt a 0 = 0x7F ∧ unusedZero a [8, 9, 10, 11] = true := by decide +kernel

theorem test_wit_bulkReads : let f := bulk 0x11 0x2010 4 0 0 [0, 0, 0, 0, 16]
    let x : Bulk := { tag := 9, index := 0x2010, sub := 4, write := false, seq := 2, size := 64, data := List.replicate 64 1 }
    let w : State := { node with dict := { node.dict with bulk := some x } }
    let a := bulk 0x31 0x2010 4 2 0 [0, 0, 0, 0, 16]
    let b := bulk 0x31 0x2010 4 1 0 [0, 0, 0, 0, 16]
    let e := bulk 0x41 0x2010 4 0 0 []
    node.dict.bulk = none ∧ byteAt f 0 = 0x11 ∧ unusedZero f [8, 9, 10, 11, 12] = true ∧
    node.access .bulk (leAt f 2 2) (leAt f 4 1) false = none ∧ (dictEntry (leAt f 2 2) (leAt f 4 1)).any (·.dom) = true ∧ 1 ≤ leAt f 12 1 ∧
    leAt f 12 1 ≤ 16 ∧ w.dict.bulk = some x ∧ x.tag = byteAt a 1 ∧ x.index = leAt a 2 2 ∧ x.sub = leAt a 4 1 ∧ byteAt a 0 = 0x31 ∧
    unusedZero a [5, 12] = true ∧ leAt a 5 1 ≤ x.seq ∧ bulkSegs x.size ≤ x.base + leAt a 5 1 ∧ leAt b 5 1 ≤ x.seq ∧
    x.base + leAt b 5 1 < bulkSegs x.size ∧ x.ended = false ∧ x.waiting = false ∧ leAt a 12 1 = 16 ∧ leAt b 12 1 = 16 ∧
    ({ x with ended := true } : Bulk).ended = true ∧ w.rxWaiting < 32 ∧ x.tag = byteAt e 1 ∧ byteAt e 0 = 0x41 ∧ unusedZero e [] = true := by decide +kernel

theorem test_wit_dictionary :
    let r : DictReq := { src := .sdo, index := 0x1012, sub := 0, write := true, data := [0, 1, 0, 0x80], tag := 0x60 }
    let w : State := { node with dict := { node.dict with queue := [r] } }
    let q : DictReq := { src := .sdo, index := 0x100A, sub := 0, write := false }
    let f : State := { node with dict := { node.dict with fw := some q } }
    let g : State := { node with dict := { node.dict with queue := [q] } }
    w.canOn = true ∧ w.getF Reg.DICT_STATUS_NMT ≠ 0x04 ∧ r.src = .sdo ∧ r.mute = false ∧ q.mute = false ∧ g.dict.queue = [q] ∧ w.dict.refusing = false ∧ w.dict.fw = none ∧ w.dict.queue = r :: [] ∧ node.dict.queue = [] ∧
    w.access .sdo r.index r.sub r.write = none ∧ (dictEntry r.index r.sub).map (·.fw) = some false ∧
    (dictEntry r.index r.sub).map (fun e => w.writeCheckD e r.index r.sub r.data) = some none ∧
    f.canOn = true ∧ f.getF Reg.DICT_STATUS_NMT ≠ 0x04 ∧ node.access .sdo q.index q.sub q.write = none ∧ (dictEntry q.index q.sub).map (·.fw) = some true ∧ f.dict.fw = some q := by decide +kernel

theorem test_wit_processData : let s := (node.setObj 0x1600 0 1).setObj 0x1600 1 0x43000108
    let t := node.setObj 0x1A00 0 1
    let u := t.setObj 0x1800 5 20
    s.canOn = true ∧ s.getF Reg.DICT_STATUS_NMT = 0x05 ∧ s.obj 0x1400 1 < 2 ^ 31 ∧ ((s.mapped 0x1600).map (· % 256 / 8)).sum ≤ [(1 : Byte)].length ∧
    ([] : List Byte).length < ((s.mapped 0x1600).map (· % 256 / 8)).sum ∧ State.reset.getF Reg.DICT_STATUS_NMT ≠ 0x05 ∧ t.tpdoOn 0 = true ∧
    (sget {} 0 t.dict.tpdo).sent = false ∧ u.tpdoOn 0 = true ∧ u.obj 0x1800 5 ≠ 0 := by decide +kernel

theorem test_wit_startAndWrap : let s : State := { State.reset with time := { State.reset.time with retained := true } }
    node.live = true ∧ ({ node with time := { node.time with started := true } } : State).time.started = true ∧ s.live = true ∧
    s.time.started = false ∧ s.time.wrap = none ∧ State.reset.time.retained = false ∧ State.reset.time.anchorNo = 0 ∧
    ({ s with die := .off } : State).live = false := by decide +kernel

/-! ## Harts, cache, stored data -/

/-- Hart 0 runs in machine mode with its traps at 0x100. -/
def hart0 : State := (put [(Reg.CORE_RUN_RUN, 0, 1), (Reg.CACHE_WAYMASK_MASK, 0, 1)] State.reset).setHart 0 { csr := [(0x305, 0x100)] }

theorem test_wit_localMemory : let u := hart0.setHart 0 { hart0.hart 0 with machine := false }
    let r := hart0.setHart 0 { hart0.hart 0 with reservation := some 0x08100000 }
    hart0.live = true ∧ hart0.runs 0 = true ∧ hart0.ecc.bad = [] ∧ 0xFFFC + 4 ≤ lmemSize 0 ∧ 0xFFFC % 4 = 0 ∧
    (hart0.hart 0).pmpOk (hart0.hart 0).dataMode 0x08000000 4 1 = true ∧ (hart0.hart 0).pmpOk (hart0.hart 0).machine 0x08000000 4 4 = true ∧
    (hart0.hart 0).pmpOk (hart0.hart 0).dataMode 0x0800FFFC 4 2 = true ∧ (hart0.hart 0).pmpOk (hart0.hart 0).dataMode 0x08000000 4 3 = true ∧
    (r.hart 0).reservation = some ((0x08100000 + 0x10000 * 0 + 0) / 64 * 64) ∧ (hart0.hart 0).reservation ≠ some 0x08100000 ∧
    (u.hart 0).pmpOk (u.hart 0).dataMode 0x08000000 4 1 = false := by decide +kernel

theorem test_wit_traps : let t : State := { hart0.setHart 0 { csr := [(0x300, 8), (0x304, 128), (0x305, 0x100)] } with mtimecmp := [(0, 0)] }
    placeOf 0 0x30000000 4 = none ∧ placeOf 0 0x10000002 4 = some (.buffer 2) ∧ 0x10000002 % 4 ≠ 0 ∧ t.mtip 0 = true ∧ t.pendingInt 0 = some 7 ∧
    (t.hart 0).csrOf 0x305 &&& 3 = 0 ∧ t.runs 0 = true ∧ hart0.mtip 0 = false ∧ State.reset.runs 0 = false := by decide +kernel

/-- The cache holds a dirty line of the buffer at offset 0x40. -/
def dirtyLine : State := { hart0 with cache := { hart0.cache with lines := [{ base := 0x10000040, way := 0, dirty := true, bytes := List.replicate 64 7 }] } }

theorem test_wit_cacheBlocks : let s := put [(Reg.CACHE_CTRL_EN, 0, 1)] dirtyLine
    let u := hart0.setHart 0 { machine := false }
    dirtyLine.runs 0 = true ∧ (∀ m < 4, (dirtyLine.hart m).waiting = none) ∧ dirtyLine.ecc.bad = [] ∧ (dirtyLine.hart 0).machine = true ∧
    (dirtyLine.hart 0).pmpOk (dirtyLine.hart 0).dataMode 0x10000040 64 3 true = true ∧ (dirtyLine.line 0x10000040).map (·.dirty) = some true ∧
    (dirtyLine.line 0x10000040).map (·.bytes.length) = some 64 ∧ (dirtyLine.hart 0).pmpOk (dirtyLine.hart 0).dataMode 0x10000040 64 2 = true ∧
    s.uncached (0x40 / 0x100000) = false ∧ (s.line 0x10000040).isSome = true ∧ hart0.line 0x10000040 = none ∧ hart0.victim 0x10000040 = none ∧
    hart0.uncached (0x40 / 0x100000) = true ∧ (u.hart 0).machine = false ∧ (u.hart 0).csrOf 0x30A = 0 := by decide +kernel

theorem test_wit_cacheFills : let w : Waiting := { addr := 0x10000044, size := 4, op := 0, rd := 3 }
    let s := hart0.setHart 0 { hart0.hart 0 with waiting := some w }
    let x : Victim := { base := 0x10000040, dirty := true, bytes := List.replicate 64 7 }
    let v : State := { hart0 with cache := { hart0.cache with victims := [x] } }
    let g : Sweep := { op := 1, pos := 0x10000000, last := 0x10000080 }
    let p : State := { hart0 with cache := { hart0.cache with sweep := some g } }
    let z : State := { hart0 with cache := { hart0.cache with sweep := some { g with last := 0x10000040 } } }
    let r := put [(Reg.CRNG_BASE_ADDR, 0, 0x400000), (Reg.CRNG_SIZE_BYTES, 0, 128)] hart0
    (s.hart 0).waiting = some w ∧ w.addr = 0x10000000 + 0x44 ∧ 0x44 + w.size ≤ 0x1000000 ∧ 0x44 % 64 + w.size ≤ 64 ∧ s.cache.lines = [] ∧
    s.cache.victims = [] ∧ bitOf (s.getF Reg.CACHE_WAYMASK_MASK 0) 0 = true ∧ v.cache.victims = [x] ∧ x.bad = [] ∧ x.bytes.length = 64 ∧
    hart0.rangeRefused 1 = true ∧ r.rangeRefused 1 = false ∧ r.rangeRefused 4 = false ∧ hart0.cache.sweep = none ∧ p.cache.sweep = some g ∧
    (∀ m < 4, (p.hart m).waiting = none) ∧ p.line g.pos = none ∧ p.victim g.pos = none ∧ g.pos + 64 < g.last ∧ z.cache.sweep.isSome = true ∧
    (0x10000040 : Nat) ≤ g.pos + 64 := by decide +kernel

theorem test_wit_scrub : let b : BadWord := { mem := 0, word := 8, double := false, synd := 3 }
    let s : State := { put [(Reg.ECC_CTRL_SCRUB_EN, 0, 1)] State.reset with ecc := { State.reset.ecc with bad := [b] } }
    let n := put [(Reg.ECC_CTRL_SCRUB_EN, 0, 1)] State.reset
    let a := s.ecc.scrubAt
    (put [(Reg.ECC_CTRL_SCRUB_EN, 0, 0)] State.reset).scrubOn = false ∧ State.reset.ecc.bad = [] ∧ s.scrubOn = true ∧ a / 4096 < 4096 ∧ s.retired (a / 4096) = false ∧
    a + 32 * s.getF Reg.ARB_CFG_BURST 9 < 4096 * (a / 4096 + 1) ∧ s.ecc.bad = [b] ∧ a ≤ b.word ∧
    b.word < a + 32 * s.getF Reg.ARB_CFG_BURST 9 ∧ s.ecc.ce = [] ∧ n.scrubOn = true ∧ n.ecc.bad = [] := by decide +kernel

/-- Channel 0 halted at its grain 7, resident, with the digest given. -/
def lostGrain (d : List Byte) : State :=
  { open0.setChan 0 { open0.chan 0 with halted := true, lost := some 7, spare := some 4 } with rwc := [(0, { wq := [{ grain 0 7 with digest := d }] })] }

theorem test_wit_repairs : let r : Repair := { page := 1024, chan := 0, seq := 7, intake := false }
    let s : State := { resident0 with ecc := { resident0.ecc with repairs := [r] } }
    let w := put [(Reg.BUF_WREG_LO, 0, 256), (Reg.BUF_WREG_LAST, 0, 511)] (lostGrain [])
    let e := (lostGrain []).setRw 0 {}
    resident0.ecc.repairs = [] ∧ s.ecc.repairs = r :: [] ∧ s.records.find? (fun x => x.kind == .grain && x.page == r.page) = some (grain 0 7) ∧
    r.intake = false ∧ (s.chan 0).lost = none ∧ s.ecc.bad = [] ∧ ((lostGrain []).chan 0).lost = some 7 ∧ (w.residentRec 0 7).isSome = true ∧ w.fwPage 600 = true ∧ w.ecc.bad = [] ∧ (w.chan 0).cut = false ∧ (e.chan 0).cut = false ∧
    (open0.chan 0).spare = none ∧ (e.chan 0).spare = some 4 ∧ e.records = [] ∧ e.cmds.filter (·.running) = [] := by decide +kernel

/-- A body matches when the digest `d` is its SHA-256: no field but the digest depends on `d`. -/
theorem test_wit_repairMatch (d : List Byte) : (lostGrain d).residentRec 0 7 = some { grain 0 7 with digest := d } := by
  simp [lostGrain, State.residentRec, State.records, State.rw, Rwc.records, sget, grain]

theorem test_wit_repairDiffers (s : State) : sha256 (s.bufRead (4096 * 600) 4096) ≠ ({ grain 0 7 with digest := [] } : Rec).digest := by
  intro h
  have := congrArg List.length h
  simp at this

/-! ## Clocks, monitors, events -/

theorem test_wit_clockSources : let l := put [(Reg.CLK_PLL_EN, 0, 1), (Reg.CLK_STATUS_PLL_LOCK, 0, 1)] State.reset
    let c := put [(Reg.CLK_STATUS_CUR, 0, 19)] l
    let w : State := { State.reset with clk := { State.reset.clk with switching := [0] } }
    let r := put [(Reg.CLK_SRC_SRC, 0, 1)] w
    c.getF Reg.CLK_STATUS_CUR ≠ 0 ∧ State.reset.getF Reg.CLK_STATUS_CUR = 0 ∧ State.reset.getF Reg.CLK_SRC_SRC = bitsOf (0 : Word).toNat 0 5 ∧
    bitsOf (1 : Word).toNat 0 5 ≠ State.reset.getF Reg.CLK_SRC_SRC ∧ State.reset.getF Reg.CLK_STATUS_PLL_LOCK = 0 ∧ l.clk.switching = [] ∧
    l.getF Reg.SP_CTRL_PORT_EN = 0 ∧ l.getF Reg.QUEUE_CTRL_FETCH_EN = 0 ∧ l.getF Reg.LDG_CTRL_EN = 0 ∧ l.getF Reg.LOOP_CTRL_EN = 0 ∧
    l.getF Reg.OVR_CTRL_EN = 0 ∧ l.getF Reg.CLK_PLL_EN ≠ 0 ∧ State.reset.getF Reg.CLK_PLL_EN = 0 ∧ 0 ∈ r.clk.switching ∧
    bitOf (r.getF Reg.CLK_SRC_SRC) 0 = true := by decide +kernel

theorem test_wit_freeze : let p : State := { State.reset with die := .powerOn }
    let f : State := { State.reset with clk := { State.reset.clk with stopped := true } }
    let l := put [(Reg.CLK_PLL_EN, 0, 1)] State.reset
    State.reset.die = .running ∧ State.reset.clk.stopped = false ∧ State.reset.clk.xtalStopped = false ∧ Instr.resetNAssert ∉ State.reset.pending ∧
    Instr.logicDieBrownout ∉ State.reset.pending ∧
    State.reset.pending = [] ∧ ((gated (grain 0 7)).rw 0).gate = some (grain 0 7) ∧ (gated (grain 0 7)).die = .running ∧
    (gated (grain 0 7)).clk.stopped = false ∧ f.clk.stopped = true ∧ p.die = .powerOn ∧ l.getF Reg.CLK_PLL_EN ≠ 0 ∧ l.die = .running := by
  decide +kernel

theorem test_wit_leavesReset : let p : State := { State.reset with die := .powerOn, clk := { State.reset.clk with unreported := true } }
    let q : State := { p with clk := { p.clk with freezeLow := true } }
    let r : State := { State.reset with die := .reset }
    let z : State := { r with clk := { r.clk with freezeLow := true } }
    let y : State := { p with pins := { p.pins with testEn := true } }
    p.clk.stopped = false ∧ p.time.wrap = none ∧ p.die = .powerOn ∧ p.pins.testEn = false ∧ p.clk.freezeLow = false ∧ q.pins.testEn = false ∧
    y.pins.testEn = true ∧ y.clk.stopped = false ∧ y.die = .powerOn ∧ y.time.wrap = none ∧ q.clk.freezeLow = true ∧ r.die = .reset ∧
    r.clk.xtalStopped = false ∧ r.clk.freezeLow = false ∧ z.clk.freezeLow = true ∧ State.reset.die ≠ .powerOn ∧ State.reset.die ≠ .reset ∧
    State.reset.die ≠ .off := by decide +kernel

theorem test_wit_slots : let s := put [(Reg.THR0_ACTION, 0, 2), (Reg.THR2_ARG, 0, 1), (Reg.THR1_DWELL, 0, 1), (Reg.THR0_EN, 1, 0), (Reg.THR0_EN, 2, 0),
      (Reg.THR0_EN, 3, 0), (Reg.THR0_EN, 4, 0), (Reg.ACT_STATE_STATE, 0, 3)] State.reset
    State.reset.getF Reg.THR0_EN 0 ≠ 0 ∧ State.reset.getF Reg.THR0_SENSOR 0 = 0 ∧ 1 ≤ State.reset.slotN 0 ∧ (State.reset.rw 0).gate = none ∧
    (State.reset.rw 1).gate = none ∧ State.reset.getF Reg.THR0_DIR 4 ≠ 0 ∧ 1 ≤ State.reset.slotN 4 ∧ s.mon.slots = [] ∧ s.getF Reg.SPN_CAP_RPM = 7200 ∧
    (∀ m < 32, m ≠ 0 → s.getF Reg.THR0_EN m = 0) ∧ s.getF Reg.THR0_SENSOR 0 ≠ 3 ∧ s.slotN 0 = 1 ∧ s.getF Reg.THR0_DIR 0 = 0 ∧
    s.getI Reg.THR0_LEVEL 0 + (s.getF Reg.THR1_HYST 0 : Int) ≤ sensorValue 0 2000 ∧ s.getF Reg.THR0_ACTION 0 = 2 ∧
    bitOf (s.getF Reg.THR2_ARG 0) 0 = true ∧ s.getF Reg.ENG_STATUS_PL_STEP = 0 ∧ 2 ≤ s.actState 0 ∧ s.actState 0 < 7 := by decide +kernel

theorem test_wit_slotActions : let s := put [(Reg.THR1_DWELL, 0, 1), (Reg.THR0_EN, 1, 0), (Reg.THR0_EN, 2, 0), (Reg.THR0_EN, 3, 0), (Reg.THR0_EN, 4, 0)] State.reset
    let c := put [(Reg.THR0_ACTION, 0, 1), (Reg.THR2_ARG, 0, 5000)] s
    s.getF Reg.THR0_ACTION 0 = 0 ∧ s.slotN 0 = 1 ∧ (∀ m < 32, m ≠ 0 → c.getF Reg.THR0_EN m = 0) ∧ c.getF Reg.THR0_ACTION 0 = 1 ∧
    c.getF Reg.THR2_ARG 0 < 7200 ∧ c.slotN 0 = 1 ∧ c.mon.slots = [] ∧ c.getF Reg.SPN_CAP_RPM = 7200 := by decide +kernel

theorem test_wit_slotWrites : machineMode 0 = false ∧ privileged 0 = true ∧ State.reset.getF Reg.THR0_EN 0 ≠ 0 ∧ bitOf (0x8000 : Word).toNat 15 = true ∧
    bitOf (0 : Word).toNat 15 = false ∧ State.reset.getF Reg.THR0_EN 9 = 0 ∧ 1 ≤ bitsOf (0x10000 : Word).toNat 16 12 ∧
    State.reset.getF Reg.THR0_ACTION 9 ≠ 1 ∧ State.reset.getF Reg.THR0_ACTION 9 ≠ 2 ∧ bitsOf (0 : Word).toNat 0 13 = 0 ∧ bitsOf (5 : Word).toNat 0 13 ≠ 0 := by
  decide +kernel

theorem test_wit_age : let m : State := { State.reset with mon := { State.reset.mon with minuteMax := some 1520 } }
    let a := put [(Reg.MON_AGE_AGE, 0, 1345535999)] m
    State.reset.mon.minuteMax = none ∧ m.mon.minuteMax = some 1520 ∧ (1520 : Int) ≤ 1520 ∧ (1520 : Int) < 1680 ∧ a.mon.minuteMax = some 1520 ∧
    a.getF Reg.MON_AGE_AGE < 1345536000 ∧ 1345536000 ≤ a.getF Reg.MON_AGE_AGE + 459 ∧
    (∀ x ∈ ([1345536000, 2152857600, 2691072000] : List Nat), ¬(m.getF Reg.MON_AGE_AGE < x ∧ x ≤ m.getF Reg.MON_AGE_AGE + 459)) := by decide +kernel

/-- The recorder of the state at reset, changed. -/
def recorder (r : Recorder) : State := { State.reset with evr := r }

theorem test_wit_events : let e : Event := { code := 0x20 }
    let w : Window := { code := 0x02, unit := 0x20, last := e }
    let full : List Window := List.replicate 16 { code := 0x11, unit := 0, last := e }
    (recorder {}).evr.intake = [] ∧ (recorder { intake := [e] }).evr.intake = e :: [] ∧ (recorder { intake := [e] }).evr.dropped = 0 ∧
    0 < (recorder { intake := [e], dropped := 5 }).evr.dropped ∧ (recorder { windows := [w] }).evr.windows = [w] ∧ w.count = 0 ∧ w.unit = BitVec.ofNat 8 0x20 ∧
    0 < ({ w with count := 3 } : Window).count ∧ machineMode 0x20 = false ∧ (recorder { windows := full }).evr.windows.length = 16 ∧
    (∀ x ∈ full, x.code ≠ 0x02) ∧ (recorder { windows := full, intake := List.replicate 32 e }).evr.intake.length = 32 ∧
    (recorder { windows := full }).evr.droppedTotal.toNat < 65535 := by decide +kernel

/-! ## Start-up and reset -/

theorem test_wit_rails : let o : State := { State.reset with die := .off }
    let l : State := { o with power := { o.power with vaon := false } }
    o.die = .off ∧ o.power.vaon = true ∧ l.power.vaon = false ∧ State.reset.die ≠ .off ∧ State.reset.boot.ran = false ∧
    State.reset.boot.waiting = false ∧ State.reset.live = true := by decide +kernel

theorem test_wit_harts : State.reset.getF Reg.CORE_RUN_RUN < 16 ∧ bitOf (State.reset.getF Reg.CORE_RUN_RUN) 1 = false ∧
    bitOf ((put [(Reg.CORE_RUN_RUN, 0, 10)] State.reset).getF Reg.CORE_RUN_RUN) 1 = true ∧ let f : State := { State.reset with boot := { State.reset.boot with floor := 3 } }
    f.boot.floor.toNat < (4 : Word).toNat ∧ f.boot.raises < 64 ∧ (0 : Word).toNat ≤ f.boot.floor.toNat ∧ privileged 0x13 = true := by decide +kernel

theorem test_wit_resume : let x : SavedChan := { num := 3, chan := { isOpen := true, durable := 9, bushel := 6 }, place := 40, sealPlace := 30 }
    let r : Resume := { fields := [], keys := [(1, List.replicate 32 9)], shares := [(1, share)], chans := [x], checkpoint := 2, anchor := 5 }
    let s : State := { State.reset with boot := { State.reset.boot with resume := some r } }
    s.boot.resume = some r ∧ r.chans = [x] ∧ r.keys = [(1, List.replicate 32 9)] ∧ r.shares = [(1, share)] ∧ State.reset.boot.resume = none ∧
    machineMode 0x13 = true := by decide +kernel

theorem test_wit_resets : let w := put [(Reg.WDT_CTRL_EN, 0, 1)] State.reset
    let p : State := { State.reset with boot := { State.reset.boot with pending := some 2 } }
    let d : State := { put [(Reg.ENG_STATUS_PL_STEP, 0, 7)] p with evr := {} }
    let f : State := { State.reset with clk := { State.reset.clk with stopped := true } }
    let a : State := { w with boot := { w.boot with wdt := 2000000 } }
    let l := put [(Reg.ENG_STATUS_PL_STEP, 0, 4)] a
    State.reset.boot.pending = none ∧ State.reset.getF Reg.ENG_STATUS_PL_STEP = 0 ∧ a.boot.pending = none ∧
    1000 * a.getF Reg.WDT_CTRL_TIMEOUT_MS ≤ a.boot.wdt ∧ a.getF Reg.ENG_STATUS_PL_STEP = 0 ∧ l.boot.pending = none ∧
    l.getF Reg.ENG_STATUS_PL_STEP ≠ 0 ∧ l.getF Reg.WDT_CTRL_EN ≠ 0 ∧ 1000 * l.getF Reg.WDT_CTRL_TIMEOUT_MS ≤ l.boot.wdt ∧
    w.boot.wdt < 1000 * w.getF Reg.WDT_CTRL_TIMEOUT_MS ∧ machineMode 0x13 = true ∧ State.reset.chans.all (fun e => e.2.lost.isNone) = true ∧ State.reset.sys = none ∧
    w.getF Reg.WDT_CTRL_EN ≠ 0 ∧ w.boot.pending = none ∧ p.boot.pending.isSome = true ∧ State.reset.getF Reg.WDT_CTRL_EN = 0 ∧
    d.boot.pending = some 2 ∧ d.getF Reg.ENG_STATUS_PL_STEP = 7 ∧ d.evr.intake = [] ∧ d.evr.dropped = 0 ∧ d.live = true ∧ f.clk.stopped = true := by
  decide +kernel

/-- A scan of bushel 2, listed OPEN for channel 0, is under way; admission is closed. -/
def scanning : State :=
  { put [(Reg.ENG_STATUS_LEND_OK, 0, 0), (Reg.TABLE_STATUS_OK, 0, 1)] ledger with boot := { ledger.boot with scan := some { listed := [(2, 0, 0, 1, false)] } } }

/-- A body of zeros. -/
def zeroBody : List Byte := List.replicate 4096 0

/-- The header record of bushel 2 (R132), for channel 0. -/
def scanHeader : Found := { place := 0, hdr := fullHdr 0 (hdr28 .header 0 1 {} 0 0 1 zeroBody), body := zeroBody }

/-- Media that hold that record alone. -/
def scanMedia : Media := [(2, 0, scanHeader.hdr ++ scanHeader.body)]

theorem test_wit_scan : let r : State := { put [(Reg.TABLE_STATUS_OK, 0, 1)] ledger with boot := ledger.boot }
    let z : State := { scanning with boot := { scanning.boot with scan := some { listed := [] } } }
    let c := z.setChan 0 { isOpen := true, resumed := true }
    (r.bushel 5).state ≠ .opened ∧ (r.chan 1).isOpen = false ∧ (r.chan 1).nextOpening = 0 ∧ ledger.getF Reg.TABLE_STATUS_OK = 0 ∧ r.getF Reg.LDG_CTRL_EN ≠ 0 ∧ r.getF Reg.TABLE_STATUS_OK ≠ 0 ∧ r.time.valid = true ∧ r.boot.scanDone = false ∧
    r.boot.scan.isSome = false ∧ r.boot.scan = none ∧ scanning.cmds = [] ∧ scanning.getF Reg.ENG_STATUS_LEND_OK = 0 ∧
    scanning.boot.scan = some { listed := [(2, BitVec.ofNat 32 0, 0, BitVec.ofNat 16 1, false)] } ∧ (∀ m < 64, (scanning.chan m).resumed = false) ∧
    (scanning.scanOf [] 2 0).isNone = true ∧ c.boot.scan = some { listed := [] } ∧ (∀ m < 64, (c.chan m).resumed = decide (m = 0)) := by decide +kernel

theorem scanHeader_found : scanning.placeAt scanMedia 2 0 0 = some scanHeader := by
  have hl : scanHeader.hdr.length = 32 := by simp [scanHeader, fullHdr, hdr28_length]
  have hb : scanHeader.body.length = 4096 := List.length_replicate
  have hv : recordValid 0 scanHeader.hdr scanHeader.body = true := recordValid_fullHdr 0 .header 0 1 {} 0 0 1 _
  have hm : (scanning.flag Reg.BMAP_VALID 2 && decide (0 < 16384)) = true := by decide +kernel
  have ht : (scanHeader.hdr ++ scanHeader.body).take 32 = scanHeader.hdr := by rw [← hl]; exact List.take_left
  have hd : (scanHeader.hdr ++ scanHeader.body).drop 32 = scanHeader.body := by rw [← hl]; exact List.drop_left
  have hs : sectorOf scanMedia 2 0 = some (scanHeader.hdr ++ scanHeader.body) := rfl
  simp only [State.placeAt, hm, hs, ht, hd, hv, List.length_append, hl, hb]
  rfl

theorem test_wit_scanFound : ∃ r, scanning.scanOf scanMedia 2 0 = some r ∧ r.run.bad = false ∧ r.rolled = false ∧ r.lostNext = none ∧
    (byteAt r.header.hdr 3).toNat % 64 = 0 := by
  have hk : scanHeader.kind = 5 := by simp [Found.kind, scanHeader, byteAt, fullHdr, hdr28, leBytes, Kind.code]
  have hc : (byteAt scanHeader.hdr 3).toNat % 64 = 0 := by simp [scanHeader, byteAt, fullHdr, hdr28, leBytes]
  have hh := headerAt_first scanning scanMedia 2 0 scanHeader scanHeader_found hk
  have hw : (scanning.walk scanMedia 2 0 16384 1 0).1 = [] := by
    have : (scanning.walk scanMedia 2 0 16384 1 0).1.isEmpty = true := by decide +kernel
    simpa using this
  have hb : (scanning.startRun scanMedia scanHeader).bad = false := by
    have hl : scanning.lastSealOf scanMedia 0 = none := by
      have : (scanning.lastSealOf scanMedia 0).isNone = true := by decide +kernel
      simpa using this
    have hp : leAt scanHeader.body 24 4 = 0 := by decide +kernel
    simp only [State.startRun, hp, hl]; rfl
  have h := scanFrom_nil scanning scanMedia 8192 2 0 scanHeader _ hw hb
  exact ⟨_, by rw [State.scanOf, hh, Option.map_some], h.1, h.2.1, h.2.2.1, by rw [h.2.2.2]; exact hc⟩

/-! ## Results that the spec prints -/

/-- R42: the CRC-32C of the string "123456789". -/
theorem test_crcCheckString : crc32c ((List.range 9).map (fun i => BitVec.ofNat 8 (49 + i))) = 0xE3069283 := by decide +kernel

/-- spec/02, worked trace, steps 1, 11 and 19: the header word and the two status words. -/
theorem test_portWords : headerWord 0 1 1 0 2 = 0x02080002 ∧ statusWord 0 1 1 0 3 = 0x02080003 ∧ statusWord 0 1 1 2 0 = 0x02080200 := by decide +kernel

/-- spec/10, worked trace: E_CAP at 15.92 V with a KCAP of 0x09A0_0000. -/
theorem test_ecap : let s := put [(Reg.ENG_KCAP_K, 0, 0x09A00000), (Reg.ENG_CTRL_EN, 0, 1)] State.reset
    (next (.energyMeasure 15920) s).getF Reg.ENG_ECAP_E = 535787 := by decide +kernel

/-- spec/10, worked trace: E_KIN at 5,400 rpm and at 3,600 rpm with N_L of 2,600 rpm. -/
theorem test_ekin : let s (n : Nat) := put [(Reg.ENG_KKIN_K, 0, 0x0102B9C4), (Reg.CHN_WMIN_RPM, 0, 2400), (Reg.CHN_STATUS_LOCK, 0, 1),
      (Reg.SPN_STATE_STATE, 0, 7), (Reg.CHN_RPM_RPM8, 0, 8 * n)] State.reset
    (s 5400).ekin = 88431 ∧ (s 3600).ekin = 24476 := by decide +kernel

/-- spec/05, worked trace: MEDIA_FLOOR of 12,960, and MEDIA_NOW of 8,640 at 3,600 rpm. -/
theorem test_mediaRates : let s (n : Nat) := put [(Reg.ZONE_SMIN_GRAINS, 0, 96), (Reg.ARB_CTRL_DERATE, 0, 192), (Reg.SPN_NSET_RPM, 0, n),
      (Reg.CHN_RPM_RPM8, 0, 43200), (Reg.ACT_STATE_STATE, 0, 3), (Reg.ACT_STATE_STATE, 1, 3)] State.reset
    (s 5400).mediaFloor = 12960 ∧ (next .mediaNowRecompute (s 3600)).getF Reg.MEDIA_NOW_RATE = 8640 := by decide +kernel

/-- spec/17, worked trace, step 4: slot 0 at its reset values asserts at the eighth sample of the run. -/
theorem test_slotCrosses : let s := State.reset.setSlot 0 { up := 7 }
    let t := next (.sensorSample 0 1714 false false) s
    let u := next (.sensorSample 0 1710 false false) s
    (t.slot 0).asserted = true ∧ t.getF Reg.MON_EVENTS_CROSS = 1 ∧
    (t.evr.intake.getLast?).map (fun e => (e.code, e.unit, e.aux, e.detail)) = some (0x60, 0, 1, 0x010006B2) ∧
    (u.slot 0).asserted = false ∧ (u.slot 0).up = 0 := by decide +kernel

/-- spec/13, worked trace, step 2: the first TIME frame is adopted. -/
theorem test_timeAdopted : let s : State := { node with time := { valid := true, started := true, dmt := 1904003001250, epoch := 812 } }
    let t := next (.canTimeFrame 0x100 (leBytes 4 25200000 ++ leBytes 2 14700)) s
    t.time.ofs = 1268201196998750 ∧ t.time.master = true ∧ t.time.lastCause = 2 := by decide +kernel

/-- spec/09, worked trace, step 2: the winding at 2,051 mΩ is at −12.0 °C, in sixteenths. -/
theorem test_windingTemperature : let s := put [(Reg.SPN_STATE_STATE, 0, 3), (Reg.WIND_RREF_R, 0, 2400)] State.reset
    (next (.heaterMeasure 2051) s).getI Reg.WIND_T / 16 = -13 ∧ (next (.heaterMeasure 2051) s).getI Reg.WIND_T + 193 ≤ 1 := by decide +kernel

/-- spec/16, worked trace, steps 3 and 11: the freeze drives the port to HOLD and stops the clocks, and the read of a session key is denied. -/
theorem test_freeze : let t := next .freezeAssert State.reset
    t.clk.stopped = true ∧ t.clk.stopLast = 1 ∧ t.port.rdy0 = false ∧ t.port.bsyN = true ∧
    (next (.jtagFrzRead 0x40031000) t).tap.dr = 0x40031000 * 2 ^ 40 + 9 := by decide +kernel

/-- A stopped device: the state after a freeze, and the step of one that waits. -/
theorem test_wit_stands : let s : State := { next .freezeAssert State.reset with pending := [.railsUp] }
    s.standsAs s ∧ step s = .next { s with pending := [] } := by
  refine ⟨⟨?_, ?_, ?_, ?_, Or.inl ?_, rfl⟩, rfl⟩ <;> decide +kernel

end Sys2Proof.Tests
end

section
/-! The scope's rules of register accesses (spec/00 R2 to R6) and of the part's identity (R9): the register map by address,
the write of a word by the access codes, the reads that clear. -/

namespace Sys2Proof.Machine

/-! ### The register map by address -/

/-- A field that is found at an address lies there. -/
theorem Field.addr_of_index {f : Field} {a i : Nat} (h : f.index a = some i) : f.addr i = a := by
  simp only [Field.index, Option.ite_none_left_eq_some, Option.ite_none_right_eq_some, Option.some.injEq] at h
  obtain ⟨hle, hlt, rfl⟩ := h
  unfold Field.addr
  generalize hd : a - (0x40000000 + 0x10000 * f.blk + f.off) = d at hlt ⊢
  split_ifs at hlt ⊢ with hn h0 hm h1 h2
  · simp only [Nat.zero_div, Nat.zero_mod]; omega
  · omega
  · have := Nat.mul_div_cancel' (Nat.dvd_of_mod_eq_zero h1)
    simp only [hm, Nat.div_one, Nat.mod_one]; omega
  · omega
  · obtain ⟨h0, hr⟩ := h2
    have hq : (d / f.st * f.m + d % f.st / f.st2) / f.m = d / f.st := by
      rw [Nat.add_comm, Nat.add_mul_div_right _ _ (Nat.zero_lt_of_lt hr), Nat.div_eq_of_lt hr, Nat.zero_add]
    have hs := Nat.mul_div_cancel' (Nat.dvd_of_mod_eq_zero h0)
    have := Nat.div_add_mod d f.st
    rw [hq, Nat.mul_add_mod_of_lt hr, hs]
    omega
  · omega

/-- Every field of block `k` but the second read/write channel's says so. -/
theorem Reg.blk_of_mem {k : Nat} {f : Field} (hk : k ≠ 10) (h : f ∈ Reg.block k) : f.blk = k := by
  have all : ∀ k < 20, k ≠ 10 → ∀ f ∈ Reg.block k, f.blk = k := by decide +kernel
  by_cases h20 : k < 20
  · exact all k h20 hk f h
  · unfold Reg.block at h
    split at h
    case h_21 => cases h
    all_goals omega

theorem regBlock_ne_ten (a : Nat) : regBlock a ≠ 10 := by
  simp only [regBlock]
  split <;> omega

theorem mem_regFields {f : Field} {i a : Nat} (h : (f, i) ∈ regFields a) :
    f ∈ Reg.block (regBlock a) ∧ f.blk = regBlock a ∧ f.addr i = a := by
  unfold regFields at h
  split at h
  · simp at h
  obtain ⟨g, hg, hi⟩ := List.mem_filterMap.1 h
  obtain ⟨j, hj, e⟩ := Option.map_eq_some_iff.1 hi
  cases e
  exact ⟨hg, Reg.blk_of_mem (regBlock_ne_ten a) hg, Field.addr_of_index hj⟩

/-! ### The write of a word by the access codes -/

variable (s : State)

theorem State.writeField_withRegs (src : Nat) (f : Field) (i x : Nat) :
    s.writeField src f i x = { s with regs := (s.writeField src f i x).regs } := by
  unfold State.writeField
  split
  · rfl
  · split <;> rfl

/-- The value of a field that read `old`, after a write of `x` to it by `src` (R3, R6). -/
def Field.written (f : Field) (src old x : Nat) : Nat :=
  match f.acc with
  | .w1c => (old - (BitVec.ofNat 32 old &&& BitVec.ofNat 32 x).toNat) % 2 ^ f.w
  | _ => if f.takes src && f.legal x then x % 2 ^ f.w else old

theorem State.getF_writeField_self (src : Nat) (f : Field) (i x : Nat) (hw : f.w ≤ 32) :
    (s.writeField src f i x).getF f i = f.written src (s.getF f i) x := by
  unfold State.writeField Field.written
  cases f.acc
  case w1c => exact s.getF_setF_self f i _ hw
  all_goals
    simp only
    split
    · exact s.getF_setF_self f i x hw
    · rfl

theorem State.getF_writeField_ne (src : Nat) (f g : Field) (i j x : Nat) (h : g.key j ≠ f.key i) :
    (s.writeField src f i x).getF g j = s.getF g j := by
  unfold State.writeField
  split
  · exact s.getF_setF_ne f g i j _ h
  · split
    · exact s.getF_setF_ne f g i j _ h
    · rfl

/-- The write of word `v` by `src` to the fields `fs` one after the other, without its events. -/
def State.storeFields (s : State) (src : Nat) (v : Word) (fs : List (Field × Nat)) : State :=
  fs.foldl (fun s e => s.writeField src e.1 e.2 (bitsOf v.toNat e.1.lo e.1.w)) s

theorem State.storeFields_cons (src : Nat) (v : Word) (e : Field × Nat) (fs : List (Field × Nat)) :
    s.storeFields src v (e :: fs) = (s.writeField src e.1 e.2 (bitsOf v.toNat e.1.lo e.1.w)).storeFields src v fs := rfl

theorem State.storeFields_withRegs (src : Nat) (v : Word) (fs : List (Field × Nat)) :
    s.storeFields src v fs = { s with regs := (s.storeFields src v fs).regs } := by
  induction fs generalizing s with
  | nil => rfl
  | cons e fs ih =>
    rw [State.storeFields_cons, ih, State.writeField_withRegs]

@[simp] theorem State.storeFields_live (src : Nat) (v : Word) (fs : List (Field × Nat)) :
    (s.storeFields src v fs).live = s.live := by rw [State.storeFields_withRegs]; rfl
@[simp] theorem State.storeFields_time (src : Nat) (v : Word) (fs : List (Field × Nat)) :
    (s.storeFields src v fs).time = s.time := by rw [State.storeFields_withRegs]
@[simp] theorem State.storeFields_evr (src : Nat) (v : Word) (fs : List (Field × Nat)) :
    (s.storeFields src v fs).evr = s.evr := by rw [State.storeFields_withRegs]

theorem State.getF_storeFields_ne (src : Nat) (v : Word) (fs : List (Field × Nat)) (g : Field) (j : Nat)
    (h : ∀ e ∈ fs, g.key j ≠ e.1.key e.2) : (s.storeFields src v fs).getF g j = s.getF g j := by
  induction fs generalizing s with
  | nil => rfl
  | cons e fs ih =>
    obtain ⟨he, hfs⟩ := List.forall_mem_cons.1 h
    rw [State.storeFields_cons, ih _ hfs, State.getF_writeField_ne _ _ _ _ _ _ _ he]

/-- A field that shares its key with none of the others takes what a write of it alone gives. -/
theorem State.getF_storeFields_mem (src : Nat) (v : Word) (fs : List (Field × Nat)) (f : Field) (i : Nat) (h : (f, i) ∈ fs)
    (hw : f.w ≤ 32) (apart : fs.Pairwise (fun a b => a.1.key a.2 ≠ b.1.key b.2)) :
    (s.storeFields src v fs).getF f i = f.written src (s.getF f i) (bitsOf v.toNat f.lo f.w) := by
  induction fs generalizing s with
  | nil => cases h
  | cons e fs ih =>
    obtain ⟨he, hfs⟩ := List.pairwise_cons.1 apart
    rw [State.storeFields_cons]
    rcases List.mem_cons.1 h with rfl | hmem
    · rw [State.getF_storeFields_ne _ _ _ _ _ _ he, State.getF_writeField_self _ _ _ _ _ hw]
    · rw [ih _ hmem hfs, State.getF_writeField_ne _ _ _ _ _ _ _ (he _ hmem).symm]

/-! ### The two events of a write -/

/-- An event changes the recorder alone. -/
theorem State.eventC_withEvr (c u d : Nat) : s.eventC c u d = { s with evr := (s.eventC c u d).evr } := by
  unfold State.eventC State.intakeEvent
  simp only
  split_ifs <;> rfl

/-- What an event leaves in the recorder hangs on whether the logic die runs, on the time and on the recorder. -/
theorem State.eventC_evr_congr {s t : State} (hl : t.live = s.live) (ht : t.time = s.time) (he : t.evr = s.evr) (c u d : Nat) :
    (t.eventC c u d).evr = (s.eventC c u d).evr := by
  unfold State.eventC State.intakeEvent State.stamp
  simp only [hl, ht, he]
  split_ifs <;> simp only [he]

/-- The events of a write of word `v` to the fields `fs` of the register at `addr` by `src` (R3, R6). -/
def State.writeEvents (s : State) (src addr : Nat) (v : Word) (fs : List (Field × Nat)) : State :=
  let d := if fs.any (fun e => e.1.acc == .rwk) && !privileged src then s.denied src (regDetail addr) else s
  if fs.any (fun e => e.1.takes src && !e.1.legal (bitsOf v.toNat e.1.lo e.1.w)) then d.reserved src (regDetail addr) else d

theorem State.writeFields_eq (src addr : Nat) (v : Word) (fs : List (Field × Nat)) :
    s.writeFields src addr v fs = (s.storeFields src v fs).writeEvents src addr v fs := rfl

theorem State.writeEvents_withEvr (src addr : Nat) (v : Word) (fs : List (Field × Nat)) :
    s.writeEvents src addr v fs = { s with evr := (s.writeEvents src addr v fs).evr } := by
  simp only [State.writeEvents]
  split_ifs
  · rw [State.reserved, State.eventC_withEvr]
    simp
  · exact State.eventC_withEvr ..
  · exact State.eventC_withEvr ..
  · rfl

theorem State.writeEvents_evr_congr {s t : State} (hl : t.live = s.live) (ht : t.time = s.time) (he : t.evr = s.evr)
    (src addr : Nat) (v : Word) (fs : List (Field × Nat)) :
    (t.writeEvents src addr v fs).evr = (s.writeEvents src addr v fs).evr := by
  have hd : ∀ a d, (t.denied a d).evr = (s.denied a d).evr := State.eventC_evr_congr hl ht he 2
  simp only [State.writeEvents]
  split_ifs
  · exact State.eventC_evr_congr (by simp [hl]) (by simp [ht]) (hd ..) ..
  · exact State.eventC_evr_congr hl ht he ..
  · exact hd ..
  · exact he

/-! ### A plain register is written by its access codes alone -/

/-- Only the configuration registers of the two write channels hold their element 2 or 3 where PRIO is read-only (R117). -/
theorem arbCfg_off {f : Field} {i a : Nat} (hf : f ∈ Reg.block 4) (ha : f.addr i = a) (hi : i = 2 ∨ i = 3)
    (hlo : 0x100 ≤ a % 0x10000) (hhi : a % 0x10000 < 0x1C0) (hm : a % 0x10000 % 16 = 0) :
    a % 0x10000 = 0x120 ∨ a % 0x10000 = 0x130 := by
  have all : ∀ f ∈ Reg.block 4, ∀ i ∈ [2, 3], 0x100 ≤ f.addr i % 0x10000 → f.addr i % 0x10000 < 0x1C0 →
      f.addr i % 0x10000 % 16 = 0 → f.addr i % 0x10000 = 0x120 ∨ f.addr i % 0x10000 = 0x130 := by decide +kernel
  subst ha
  exact all f hf i (by simpa using hi) hlo hhi hm

/-- The event recorder's registers are read-only but for EVR_CLEAR at offset 0 (spec/17 R362). -/
theorem evr_ro {f : Field} {i a : Nat} (hf : f ∈ Reg.block 17) (ha : f.addr i = a) (h0 : a % 0x10000 ≠ 0) : f.acc = .ro := by
  have all : ∀ f ∈ Reg.block 17, f.acc = .ro ∨ f = Reg.EVR_CLEAR_CLEAR := by decide
  rcases all f hf with h | rfl
  · exact h
  · have hclear : Reg.EVR_CLEAR_CLEAR.addr i = 0x40110000 := by simp [Field.addr, Reg.EVR_CLEAR_CLEAR]
    omega

theorem State.writeFields_of_ro (src addr : Nat) (v : Word) (fs : List (Field × Nat)) (h : ∀ e ∈ fs, e.1.acc = .ro) :
    s.writeFields src addr v fs = s := by
  have hstore : s.storeFields src v fs = s := by
    induction fs with
    | nil => rfl
    | cons e fs ih =>
      obtain ⟨he, hfs⟩ := List.forall_mem_cons.1 h
      rw [State.storeFields_cons, State.writeField, he]
      simpa [Field.takes, he] using ih hfs
  have hk : fs.any (fun e => e.1.acc == .rwk) = false := by
    rw [List.any_eq_false]; intro e he; simp [h e he]
  have ht : fs.any (fun e => e.1.takes src && !e.1.legal (bitsOf v.toNat e.1.lo e.1.w)) = false := by
    rw [List.any_eq_false]; intro e he; simp [Field.takes, h e he]
  simp [State.writeFields_eq, State.writeEvents, hstore, hk, ht]

/-- PRIO of the write channels is read-only (R117); elsewhere a plain register of block 4 has no rule of its own. -/
theorem State.regWrite4_of_plain (src addr i : Nat) (v : Word) (f : Field) (hf : f ∈ Reg.block 4) (ha : f.addr i = addr)
    (h : [0, 0x14, 0x20, 0x24, 0x120, 0x130].contains (addr % 0x10000) = false) :
    s.regWrite4 src addr (addr % 0x10000) i v = s.genericWrite src addr v := by
  have hcfg := arbCfg_off (i := i) hf ha
  simp only [List.contains_eq_mem, List.mem_cons, List.not_mem_nil, or_false, decide_eq_false_iff_not, not_or] at h
  obtain ⟨h0, h14, h20, h24, h120, h130⟩ := h
  have hprio : ¬(addr % 0x10000 % 16 = 0 ∧ 0x100 ≤ addr % 0x10000 ∧ addr % 0x10000 < 0x1C0 ∧ (i = 2 ∨ i = 3)) := by
    rintro ⟨hm, hlo, hhi, hi⟩
    rcases hcfg hi hlo hhi hm with e | e
    · exact h120 e
    · exact h130 e
  simp only [State.regWrite4, h0, h14, h20, h24, if_false]
  rw [if_neg]
  simpa [and_assoc] using hprio

/-- A plain register of the event recorder is read-only: the write that leaves the state is the write by access codes. -/
theorem State.genericWrite_of_evr (src addr : Nat) (v : Word) (hb : regBlock addr = 17) (h0 : addr % 0x10000 ≠ 0) :
    s.genericWrite src addr v = s := by
  refine s.writeFields_of_ro src addr v _ ?_
  rintro ⟨f, i⟩ he
  obtain ⟨hf, -, ha⟩ := mem_regFields he
  exact evr_ro (hb ▸ hf) ha h0

/-- A write of a plain register does what the access codes of its fields say and no more (R3): in each block the registers
with an effect of their own are those that `plainRegister` leaves out. -/
theorem State.regWrite_of_plain (src addr : Nat) (v : Word) (h : plainRegister addr = true) :
    s.regWrite src addr v = s.genericWrite src addr v := by
  unfold plainRegister at h
  unfold State.regWrite
  split
  next hnil => simp [hnil] at h
  next f i l hcons =>
  obtain ⟨hf, hblk, haddr⟩ := mem_regFields (hcons ▸ List.mem_cons_self : (f, i) ∈ regFields addr)
  simp only [hcons] at h
  dsimp only
  split
  case h_19 => rfl
  all_goals
    rename_i hb
    simp only [hb] at h
  case h_5 =>
    exact s.regWrite4_of_plain src addr i v f (hb ▸ hblk ▸ hf) haddr (by simpa using h)
  case h_17 =>
    rw [s.genericWrite_of_evr src addr v (hblk ▸ hb) (by simpa using h)]
    simp [bne_iff_ne.1 h]
  all_goals
    simp only [List.contains_eq_mem, List.mem_cons, List.not_mem_nil, or_false, Bool.not_eq_true', Bool.and_eq_true, Bool.or_eq_true,
      Bool.and_eq_false_iff, decide_eq_true_eq, decide_eq_false_iff_not, not_or, bne_iff_ne, beq_eq_false_iff_ne] at h
  · obtain ⟨hne, hlast⟩ := h
    have hcmp : ¬(0x400 ≤ addr % 0x10000 ∧ addr % 0x10000 < 0x480 ∧ addr % 0x10000 % 32 = 0x14) := by omega
    simp only [State.regWrite0, hne, hcmp, if_false]
  · simp [State.regWrite1, h]
  · obtain ⟨hne, hlast⟩ := h
    have hcfg : ¬(0x1000 ≤ addr % 0x10000 ∧ addr % 0x10000 % 16 < 8) := by omega
    simp only [State.regWrite2, hne, hcfg, or_false, if_false]
  · simp [State.regWrite3, h]
  · simp [State.regWrite5, h]
  · simp [State.regWrite6, h]
  · simp [State.regWrite7, h]
  · simp [State.regWrite8, h]
  · simp [State.regWrite9, h]
  · obtain ⟨hne, hlt⟩ := h
    simp [State.regWrite11, hne, Nat.not_le.2 hlt, Nat.not_le.2 (hlt.trans (by decide : 0x7000 < 0x8000))]
  · simp [State.regWrite12, h]
  · rw [State.regWrite13, if_neg (by omega)]
  · simp [State.regWrite14, h]
  · simp [h]
  · rw [if_neg (by omega)]
  · simp [h]

/-! ### The value of a field after a write -/

theorem bitOf_eq_testBit (v n : Nat) : bitOf v n = v.testBit n := by
  rw [Nat.testBit_eq_decide_div_mod_eq]
  rfl

theorem bitsOf_lt (v lo w : Nat) : bitsOf v lo w < 2 ^ w := Nat.mod_lt _ (Nat.two_pow_pos w)

theorem bitOf_bitsOf (v lo w n : Nat) (h : n < w) : bitOf (bitsOf v lo w) n = bitOf v (lo + n) := by
  simp [bitOf_eq_testBit, bitsOf, Nat.testBit_mod_two_pow, Nat.testBit_div_two_pow, h, Nat.add_comm]

/-- Subtracting from `a` the bits that it shares with `x` clears them. -/
theorem testBit_sub_and (a x n : Nat) (ha : a < 2 ^ 32) (hn : n < 32) :
    (a - (BitVec.ofNat 32 a &&& BitVec.ofNat 32 x).toNat).testBit n = (a.testBit n && !x.testBit n) := by
  have hA : (BitVec.ofNat 32 a).toNat = a := by rw [BitVec.toNat_ofNat, Nat.mod_eq_of_lt ha]
  have hX : (BitVec.ofNat 32 x).getLsbD n = x.testBit n := by rw [BitVec.getLsbD_ofNat]; simp [hn]
  generalize BitVec.ofNat 32 a = A at *
  generalize BitVec.ofNat 32 x = X at *
  have hle : A &&& X ≤ A := by
    rw [BitVec.le_def, BitVec.toNat_and]
    exact Nat.and_le_left
  have hsub : A - (A &&& X) = A &&& ~~~X := by
    have hapart : (A &&& ~~~X) &&& (A &&& X) = 0#32 := by ext k; simp; grind
    have hjoin : A &&& ~~~X ||| A &&& X = A := by ext k; simp; grind
    rw [BitVec.sub_eq_iff_eq_add, BitVec.add_eq_or_of_and_eq_zero _ _ hapart, hjoin]
  rw [← hA, ← BitVec.toNat_sub_of_le hle, hsub, BitVec.testBit_toNat, BitVec.testBit_toNat, ← hX]
  simp [hn]

theorem Field.written_rw {f : Field} (src old : Nat) (v : Nat) (hf : f.acc = .rw) :
    f.written src old (bitsOf v f.lo f.w) = if f.legal (bitsOf v f.lo f.w) then bitsOf v f.lo f.w else old := by
  simp [Field.written, Field.takes, hf, Nat.mod_eq_of_lt (bitsOf_lt v f.lo f.w)]

theorem Field.written_rwk {f : Field} (src old : Nat) (v : Nat) (hf : f.acc = .rwk) :
    f.written src old (bitsOf v f.lo f.w) =
      if privileged src ∧ f.legal (bitsOf v f.lo f.w) then bitsOf v f.lo f.w else old := by
  simp [Field.written, Field.takes, hf, Nat.mod_eq_of_lt (bitsOf_lt v f.lo f.w)]

theorem Field.written_w1c {f : Field} (src old v n : Nat) (hf : f.acc = .w1c) (hw : f.w ≤ 32) (hold : old < 2 ^ 32) (hn : n < f.w) :
    bitOf (f.written src old (bitsOf v f.lo f.w)) n = (bitOf old n && !bitOf v (f.lo + n)) := by
  rw [← bitOf_bitsOf v f.lo f.w n hn]
  simp only [Field.written, hf, bitOf_eq_testBit, Nat.testBit_mod_two_pow, hn, decide_true, Bool.true_and]
  exact testBit_sub_and _ _ _ hold (by omega)

theorem Field.written_of_kept {f : Field} (src old x : Nat) (hw1c : f.acc ≠ .w1c) (ht : f.takes src = false) :
    f.written src old x = old := by
  unfold Field.written
  split
  · contradiction
  · simp [ht]

theorem State.getF_lt (f : Field) (i : Nat) : s.getF f i < 2 ^ 32 := BitVec.isLt _

/-- A field takes the value by RW, and by RWK from a writer with the right. -/
theorem Field.takes_eq (f : Field) (src : Nat) : f.takes src = (f.acc == .rw || (f.acc == .rwk && privileged src)) := by
  unfold Field.takes
  cases f.acc <;> rfl

theorem registerApart_iff (addr : Nat) : registerApart addr = true ↔
    (regFields addr).Pairwise (fun a b => a.1.key a.2 ≠ b.1.key b.2) ∧ ∀ e ∈ regFields addr, e.1.w ≤ 32 := by
  simp [registerApart]

theorem State.getF_genericWrite_ne (src addr : Nat) (v : Word) (g : Field) (j : Nat)
    (h : ∀ e ∈ regFields addr, g.key j ≠ e.1.key e.2) : (s.genericWrite src addr v).getF g j = s.getF g j := by
  rw [State.genericWrite, State.writeFields_eq, State.writeEvents_withEvr]
  exact s.getF_storeFields_ne src v _ g j h

theorem State.getF_genericWrite (src addr : Nat) (v : Word) (f : Field) (i : Nat) (hap : registerApart addr = true)
    (h : (f, i) ∈ regFields addr) :
    (s.genericWrite src addr v).getF f i = f.written src (s.getF f i) (bitsOf v.toNat f.lo f.w) := by
  obtain ⟨apart, hw⟩ := (registerApart_iff addr).1 hap
  rw [State.genericWrite, State.writeFields_eq, State.writeEvents_withEvr]
  exact s.getF_storeFields_mem src v _ f i h (hw _ h) apart

theorem State.genericWrite_frame (src addr : Nat) (v : Word) :
    s.genericWrite src addr v = { s with regs := (s.genericWrite src addr v).regs, evr := (s.genericWrite src addr v).evr } := by
  rw [State.genericWrite, State.writeFields_eq, State.writeEvents_withEvr, State.storeFields_withRegs]

theorem State.genericWrite_evr (src addr : Nat) (v : Word) :
    (s.genericWrite src addr v).evr = (s.writeEvents src addr v (regFields addr)).evr := by
  rw [State.genericWrite, State.writeFields_eq]
  exact State.writeEvents_evr_congr (by simp) (by simp) (by simp) ..

theorem exec_registerWrite_aligned (src addr : Nat) (v : Word) (hl : s.live = true) (ha : addr % 4 = 0) :
    exec (.registerWrite src addr v) s = .next (s.regWrite src addr v) := by
  change execRegisterWrite src addr v s = _
  rw [execRegisterWrite, State.whenLive_of_live _ _ hl, if_neg (not_not.2 ha)]

/-- Settles O2: a plain register's write is the write of its fields one by one, and each field is met once. -/
theorem registerWriteByAccessCode : Obligations.RegisterWriteByAccessCode := by
  intro s src addr v hl ha hplain hap
  refine ⟨s.genericWrite src addr v, ?_, ⟨s.genericWrite_frame src addr v, s.getF_genericWrite_ne src addr v⟩, ?_, ?_⟩
  · rw [exec_registerWrite_aligned s src addr v hl ha, s.regWrite_of_plain src addr v hplain]
  · intro f i hmem
    have hw := ((registerApart_iff addr).1 hap).2 _ hmem
    rw [s.getF_genericWrite src addr v f i hap hmem]
    cases hacc : f.acc
    case rw => exact f.written_rw src _ _ hacc
    case rwk => exact f.written_rwk src _ _ hacc
    case w1c => exact fun n hn => f.written_w1c src _ _ n hacc hw (s.getF_lt f i) hn
    all_goals exact f.written_of_kept src _ _ (by simp [hacc]) (by simp [Field.takes, hacc])
  · simp only [s.genericWrite_evr, State.writeEvents, Field.takes_eq]

/-! ### Accesses that meet no register and reads that clear -/

theorem State.regWrite_of_noField (src addr : Nat) (v : Word) (h : regFields addr = []) : s.regWrite src addr v = s := by
  rw [State.regWrite, h]

theorem exec_registerWrite_unaligned (src addr : Nat) (v : Word) (hl : s.live = true) (ha : addr % 4 ≠ 0)
    (hlo : 0x10 ≤ src) (hhi : src < 0x18) : exec (.registerWrite src addr v) s = .next (s.trap (src % 4) 7 addr) := by
  change execRegisterWrite src addr v s = _
  rw [execRegisterWrite, State.whenLive_of_live _ _ hl, if_pos ha, if_pos ⟨hlo, hhi⟩]

@[simp] theorem State.trap_regs (h cause tval : Nat) : (s.trap h cause tval).regs = s.regs := rfl

/-- A read that answers `w` and clears field `f`. -/
def State.readClear (s : State) (w : Word) (f : Field) (i : Nat) : State := State.setF { s with rdata := w } f i 0

theorem State.readClear_spec (w : Word) (f : Field) (i : Nat) (hw : f.w ≤ 32) :
    let t := s.readClear w f i
    t.rdata = w ∧ t.getF f i = 0 ∧ t = { s with regs := t.regs, rdata := t.rdata } ∧ fieldsKept s t [(f, i)] := by
  refine ⟨rfl, ?_, rfl, ?_⟩
  · rw [State.readClear, State.getF_setF_self _ _ _ _ hw, Nat.zero_mod]
  · intro g j h
    exact State.getF_setF_ne _ _ _ _ _ _ (h (f, i) List.mem_cons_self)

theorem State.readField_rc (f : Field) (i : Nat) (ha : f.acc = .rc) (hv : f.view = false) :
    s.readField (f, i) = s.setF f i 0 := by
  simp [State.readField, ha, hv]

/-- A read elsewhere than at DMT_LO: the word, then the fields that a read clears. -/
theorem State.regRead_eq (addr : Nat) (h : addr ≠ 0x400F0008) :
    s.regRead addr = (regFields addr).foldl State.readField { s with rdata := s.regWord addr } := by
  simp only [State.regRead, if_neg h]

theorem regFields_spBsyMax : regFields 0x40010020 = [(Reg.SP_BSY_MAX_TIME, 0)] := by decide +kernel
theorem regFields_shkLast : regFields 0x40070014 = [(Reg.SHK_LAST_PEAK, 0)] := by decide +kernel
theorem regFields_arbStat : ∀ n < 12, regFields (0x4004010C + 16 * n) = [(Reg.ARB_STAT_LWAIT, n), (Reg.ARB_STAT_CUTS, n)] := by
  decide +kernel
theorem regFields_eccCnt : ∀ b < 16, regFields (0x40050040 + 4 * b) = [(Reg.ECC_CNT_CE, b), (Reg.ECC_CNT_UE, b)] := by
  decide +kernel
theorem regFields_clkStop : regFields 0x40000110 = [(Reg.CLK_STOP_LAST, 0)] := by decide +kernel
theorem regFields_dmtLo : regFields 0x400F0008 = [(Reg.DMT_LO_DMT, 0)] := by decide +kernel
theorem regFields_dmtHi : regFields 0x400F000C = [(Reg.DMT_HI_DMT, 0)] := by decide +kernel

/-- A register that is one field reads as that field. -/
theorem State.regWord_single (addr : Nat) (f : Field) (i : Nat) (h : regFields addr = [(f, i)]) (hlo : f.lo = 0) :
    s.regWord addr = BitVec.ofNat 32 (s.fieldVal f i) := by
  simp [State.regWord, h, hlo]

/-- A register with a second field in its upper half. -/
theorem State.regWord_pair (addr : Nat) (f g : Field) (i : Nat) (h : regFields addr = [(f, i), (g, i)]) (hf : f.lo = 0)
    (hg : g.lo = 16) : s.regWord addr = BitVec.ofNat 32 (s.fieldVal f i + 65536 * s.fieldVal g i) := by
  simp [State.regWord, h, hf, hg, Nat.mul_comm]

/-- A field whose value the register store holds, and that is not write-only, reads as that value. -/
theorem State.fieldVal_stored (f : Field) (i : Nat) (ha : f.acc ≠ .wo) (hv : f.view = false) : s.fieldVal f i = s.getF f i := by
  simp [State.fieldVal, ha, hv]

/-- A read of a register whose one field is of code RC and in the register store. -/
theorem State.regRead_rc (addr : Nat) (f : Field) (i : Nat) (hne : addr ≠ 0x400F0008) (h : regFields addr = [(f, i)])
    (hlo : f.lo = 0) (ha : f.acc = .rc) (hv : f.view = false) :
    s.regRead addr = s.readClear (BitVec.ofNat 32 (s.getF f i)) f i := by
  rw [s.regRead_eq addr hne, s.regWord_single addr f i h hlo, h, s.fieldVal_stored f i (by simp [ha]) hv, List.foldl_cons,
    State.readField_rc _ f i ha hv]
  rfl

theorem exec_spBsyMaxRead (hl : s.live = true) : exec .spBsyMaxRead s =
    .next (s.readClear (BitVec.ofNat 32 (s.getF Reg.SP_BSY_MAX_TIME)) Reg.SP_BSY_MAX_TIME 0) := by
  change execSpBsyMaxRead s = _
  rw [execSpBsyMaxRead, State.whenLive_of_live _ _ hl, s.regRead_rc _ _ _ (by decide) regFields_spBsyMax rfl rfl rfl]

theorem exec_shkLastRead (hl : s.live = true) : exec .shkLastRead s =
    .next (s.readClear (BitVec.ofNat 32 (s.getF Reg.SHK_LAST_PEAK)) Reg.SHK_LAST_PEAK 0) := by
  change execShkLastRead s = _
  rw [execShkLastRead, State.whenLive_of_live _ _ hl, s.regRead_rc _ _ _ (by decide) regFields_shkLast rfl rfl rfl]

theorem exec_arbStatRead (n : Nat) (hn : n < 12) (hl : s.live = true) : exec (.arbStatRead n) s =
    .next (s.readClear (BitVec.ofNat 32 (s.getF Reg.ARB_STAT_LWAIT n + 65536 * s.getF Reg.ARB_STAT_CUTS n))
      Reg.ARB_STAT_LWAIT n) := by
  have hf := regFields_arbStat n hn
  change execArbStatRead n s = _
  rw [execArbStatRead, State.whenLive_of_live _ _ hl, State.when', decide_eq_true hn, if_pos rfl, s.regRead_eq _ (by omega),
    s.regWord_pair _ _ _ _ hf rfl rfl, hf, s.fieldVal_stored _ n (by decide) rfl, s.fieldVal_stored _ n (by decide) rfl]
  rfl

theorem exec_eccCntRead (b : Nat) (hb : b < 16) (hl : s.live = true) : exec (.eccCntRead b) s =
    .next ((s.readClear (BitVec.ofNat 32 (s.getF Reg.ECC_CNT_CE b + 65536 * s.getF Reg.ECC_CNT_UE b))
      Reg.ECC_CNT_CE b).setF Reg.ECC_CNT_UE b 0) := by
  have hf := regFields_eccCnt b hb
  change execEccCntRead b s = _
  rw [execEccCntRead, State.whenLive_of_live _ _ hl, State.when', decide_eq_true hb, if_pos rfl, s.regRead_eq _ (by omega),
    s.regWord_pair _ _ _ _ hf rfl rfl, hf, s.fieldVal_stored _ b (by decide) rfl, s.fieldVal_stored _ b (by decide) rfl]
  rfl

theorem eccCnt_keys_ne (b : Nat) : Reg.ECC_CNT_CE.key b ≠ Reg.ECC_CNT_UE.key b := by
  simp [Field.key, Field.addr, Reg.ECC_CNT_CE, Reg.ECC_CNT_UE]

theorem exec_clkStopRead (hl : s.live = true) : exec .clkStopRead s =
    .next { s with rdata := BitVec.ofNat 32 (s.clk.stopLast % 4), clk := { s.clk with stopLast := 0 } } := by
  change execClkStopRead s = _
  rw [execClkStopRead, State.whenLive_of_live _ _ hl, s.regRead_eq _ (by decide),
    s.regWord_single _ _ _ regFields_clkStop rfl, regFields_clkStop]
  rfl

theorem exec_dmtLoRead (hl : s.live = true) : exec .dmtLoRead s =
    .next { s with
      rdata := BitVec.ofNat 32 (s.time.dmt.toNat % 2 ^ 32)
      time := { s.time with hiLatch := BitVec.ofNat 16 (s.time.dmt.toNat / 2 ^ 32), hiHeld := true } } := by
  have hval : s.fieldVal Reg.DMT_LO_DMT 0 = s.time.dmt.toNat % 2 ^ 32 % 2 ^ 32 := rfl
  change execDmtLoRead s = _
  rw [execDmtLoRead, State.whenLive_of_live _ _ hl, State.regRead, s.regWord_single _ _ _ regFields_dmtLo rfl, regFields_dmtLo,
    hval, Nat.mod_mod]
  rfl

/-- The upper half of DMT fits the latch of DMT_HI. -/
theorem dmtHi_lt (d : Dmt) : d.toNat / 2 ^ 32 < 2 ^ 16 := by
  have := d.isLt
  omega

/-- While the latch of DMT_HI holds, DMT_HI reads as the latch (R285). -/
theorem State.regWord_dmtHi_held (h : s.time.hiHeld = true) : s.regWord 0x400F000C = BitVec.ofNat 32 s.time.hiLatch.toNat := by
  have hval : s.fieldVal Reg.DMT_HI_DMT 0 = (if s.time.hiHeld then s.time.hiLatch.toNat else s.time.dmt.toNat / 2 ^ 32) % 2 ^ 16 := rfl
  rw [s.regWord_single _ _ _ regFields_dmtHi rfl, hval, if_pos h, Nat.mod_eq_of_lt s.time.hiLatch.isLt]

/-- Settles O3: an access elsewhere does nothing or traps; each of the six rows is the read of its register. -/
theorem registerReadsThatClear : Obligations.RegisterReadsThatClear := by
  refine ⟨fun s src addr v hl => ⟨?_, exec_registerWrite_unaligned s src addr v hl, s.trap_regs ..⟩, fun s hl => ⟨?_, ?_, ?_, ?_, ?_, ?_⟩⟩
  · intro ha hnone
    rw [exec_registerWrite_aligned s src addr v hl ha, s.regWrite_of_noField src addr v hnone]
  · exact ⟨_, exec_spBsyMaxRead s hl, s.readClear_spec _ _ _ (by decide)⟩
  · exact fun n hn => ⟨_, exec_arbStatRead s n hn hl, s.readClear_spec _ _ _ (by decide)⟩
  · obtain ⟨hr, hf, hframe⟩ := s.readClear_spec (BitVec.ofNat 32 (s.getF Reg.SHK_LAST_PEAK)) Reg.SHK_LAST_PEAK 0 (by decide)
    exact ⟨_, exec_shkLastRead s hl, hf, hr, hframe⟩
  · intro b hb
    obtain ⟨-, hce, -, hkept⟩ := s.readClear_spec (BitVec.ofNat 32 (s.getF Reg.ECC_CNT_CE b + 65536 * s.getF Reg.ECC_CNT_UE b))
      Reg.ECC_CNT_CE b (by decide)
    refine ⟨_, exec_eccCntRead s b hb hl, rfl, ?_, ?_, rfl, ?_⟩
    · rw [State.getF_setF_ne _ _ _ _ _ _ (eccCnt_keys_ne b), hce]
    · rw [State.getF_setF_self _ _ _ _ (by decide), Nat.zero_mod]
    · intro g j h
      rw [State.getF_setF_ne _ _ _ _ _ _ (h _ (List.mem_cons_of_mem _ List.mem_cons_self))]
      exact hkept g j fun e he => h e (List.mem_cons.2 (.inl (List.mem_singleton.1 he)))
  · exact ⟨_, exec_clkStopRead s hl, rfl, rfl, rfl⟩
  · have hhi : (BitVec.ofNat 16 (s.time.dmt.toNat / 2 ^ 32)).toNat = s.time.dmt.toNat / 2 ^ 32 := by
      rw [BitVec.toNat_ofNat, Nat.mod_eq_of_lt (dmtHi_lt s.time.dmt)]
    refine ⟨_, exec_dmtLoRead s hl, rfl, hhi, ?_, rfl⟩
    rw [State.regWord_dmtHi_held _ rfl]
    exact congrArg _ hhi

/-! ### The part's identity (R9) -/

theorem regFields_deviceId : regFields 0x40000000 =
    [(Reg.DEVICE_ID_PART, 0), (Reg.DEVICE_ID_STEP_LETTER, 0), (Reg.DEVICE_ID_STEP_METAL, 0)] := by decide +kernel

theorem regFields_grade : regFields 0x40000004 = [(Reg.GRADE_AUTO, 0)] := by decide +kernel

/-- DEVICE_ID reads as its three fields, which the register store holds. -/
theorem State.regWord_deviceId : s.regWord 0x40000000 = BitVec.ofNat 32
    (s.getF Reg.DEVICE_ID_PART * 2 ^ 16 + s.getF Reg.DEVICE_ID_STEP_LETTER * 2 ^ 8 + s.getF Reg.DEVICE_ID_STEP_METAL) := by
  rw [State.regWord, regFields_deviceId]
  simp only [List.map_cons, List.map_nil, List.sum_cons, List.sum_nil]
  rw [s.fieldVal_stored _ 0 (by decide) rfl, s.fieldVal_stored _ 0 (by decide) rfl, s.fieldVal_stored _ 0 (by decide) rfl]
  simp [Reg.DEVICE_ID_PART, Reg.DEVICE_ID_STEP_LETTER, Reg.DEVICE_ID_STEP_METAL, Nat.add_assoc]

/-- R9 where the three fields of DEVICE_ID stand as at reset: GRADE and the identity object are the same in every state. -/
theorem State.identity_of_fields (hp : s.getF Reg.DEVICE_ID_PART = 0x6410) (hl : s.getF Reg.DEVICE_ID_STEP_LETTER = 0x0B)
    (hm : s.getF Reg.DEVICE_ID_STEP_METAL = 1) :
    s.regWord 0x40000000 = 0x64100B01 ∧ s.regWord 0x40000004 = (if Config.gradeAuto then 1 else 0) ∧
      s.dictNum 0x1018 2 = 0x6410 ∧ s.dictNum 0x1018 3 = 0x0B * 2 ^ 16 + 0x01 := by
  have hgrade : s.fieldVal Reg.GRADE_AUTO 0 = b2n Config.gradeAuto % 2 := rfl
  refine ⟨?_, ?_, rfl, rfl⟩
  · rw [s.regWord_deviceId, hp, hl, hm]
    rfl
  · rw [s.regWord_single _ _ _ regFields_grade rfl, hgrade]
    cases Config.gradeAuto <;> rfl

/-- Refutes O57: the statement ranges over every value of `State`, and DEVICE_ID reads from the register store, so the reset
state with PART stored as 0 reads 0x0000_0B01. The clauses hold where the stored fields do: `State.identity_of_fields`. -/
theorem not_partIdentity : ¬ Obligations.PartIdentity := by
  intro h
  obtain ⟨hid, -⟩ := h (State.reset.setF Reg.DEVICE_ID_PART 0 0)
  rw [State.regWord_deviceId] at hid
  exact absurd hid (by decide +kernel)

end Sys2Proof.Machine
end

section
/-! The operations that several commands share (buffer writes, pages, admissions, events): what each leaves as it was, and register
fields of one array. -/

namespace Sys2Proof.Machine
variable (s : State)

/-! ### What the shared operations leave alone -/

theorem State.breakRes_withHarts (l : List Nat) (a n : Nat) : s.breakRes l a n = { s with harts := (s.breakRes l a n).harts } := by
  unfold State.breakRes
  split <;> rfl

/-- A write to the buffer changes the buffer, its errors and the harts' reservations, and no more. -/
theorem State.bufWrite_withBuf (a : Nat) (bs : List Byte) : s.bufWrite a bs =
    { s with buf := (s.bufWrite a bs).buf, ecc := (s.bufWrite a bs).ecc, harts := (s.bufWrite a bs).harts } := by
  simp only [State.bufWrite]
  split
  · rw [State.breakRes_withHarts]
    split <;> rfl
  · split <;> rfl

@[simp] theorem State.bufWrite_regs (a : Nat) (bs : List Byte) : (s.bufWrite a bs).regs = s.regs := by rw [State.bufWrite_withBuf]
@[simp] theorem State.bufWrite_chans (a : Nat) (bs : List Byte) : (s.bufWrite a bs).chans = s.chans := by rw [State.bufWrite_withBuf]
@[simp] theorem State.bufWrite_rwc (a : Nat) (bs : List Byte) : (s.bufWrite a bs).rwc = s.rwc := by rw [State.bufWrite_withBuf]
@[simp] theorem State.bufWrite_time (a : Nat) (bs : List Byte) : (s.bufWrite a bs).time = s.time := by rw [State.bufWrite_withBuf]
@[simp] theorem State.bufWrite_die (a : Nat) (bs : List Byte) : (s.bufWrite a bs).die = s.die := by rw [State.bufWrite_withBuf]
@[simp] theorem State.bufWrite_clk (a : Nat) (bs : List Byte) : (s.bufWrite a bs).clk = s.clk := by rw [State.bufWrite_withBuf]
@[simp] theorem State.bufWrite_ovr (a : Nat) (bs : List Byte) : (s.bufWrite a bs).ovr = s.ovr := by rw [State.bufWrite_withBuf]

theorem State.fillPages_withBuf (ps : List Nat) (bs : List Byte) : s.fillPages ps bs =
    { s with buf := (s.fillPages ps bs).buf, ecc := (s.fillPages ps bs).ecc, harts := (s.fillPages ps bs).harts } := by
  induction ps generalizing s bs with
  | nil => rfl
  | cons p ps ih => rw [State.fillPages, ih, State.bufWrite_withBuf]

@[simp] theorem State.fillPages_regs (ps : List Nat) (bs : List Byte) : (s.fillPages ps bs).regs = s.regs := by rw [State.fillPages_withBuf]
@[simp] theorem State.fillPages_port (ps : List Nat) (bs : List Byte) : (s.fillPages ps bs).port = s.port := by rw [State.fillPages_withBuf]
@[simp] theorem State.fillPages_cmds (ps : List Nat) (bs : List Byte) : (s.fillPages ps bs).cmds = s.cmds := by rw [State.fillPages_withBuf]
@[simp] theorem State.fillPages_rwc (ps : List Nat) (bs : List Byte) : (s.fillPages ps bs).rwc = s.rwc := by rw [State.fillPages_withBuf]
@[simp] theorem State.fillPages_chans (ps : List Nat) (bs : List Byte) : (s.fillPages ps bs).chans = s.chans := by rw [State.fillPages_withBuf]
@[simp] theorem State.fillPages_ovr (ps : List Nat) (bs : List Byte) : (s.fillPages ps bs).ovr = s.ovr := by rw [State.fillPages_withBuf]
@[simp] theorem State.fillPages_power (ps : List Nat) (bs : List Byte) : (s.fillPages ps bs).power = s.power := by rw [State.fillPages_withBuf]

theorem State.allocPages_withPages (g : Page) (n : Nat) : (s.allocPages g n).1 =
    { s with pages := (s.allocPages g n).1.pages, lastBank := (s.allocPages g n).1.lastBank } := by
  induction n generalizing s with
  | zero => rfl
  | succ n ih =>
    unfold State.allocPages
    split
    · rfl
    · exact ih _

theorem State.takePages_withPages (len : Nat) (owner : Option Nat) : (s.takePages len owner).1 =
    { s with pages := (s.takePages len owner).1.pages, lastBank := (s.takePages len owner).1.lastBank } :=
  s.allocPages_withPages _ _

@[simp] theorem State.takePages_regs (n : Nat) (o : Option Nat) : (s.takePages n o).1.regs = s.regs := by rw [State.takePages_withPages]
@[simp] theorem State.takePages_port (n : Nat) (o : Option Nat) : (s.takePages n o).1.port = s.port := by rw [State.takePages_withPages]
@[simp] theorem State.takePages_cmds (n : Nat) (o : Option Nat) : (s.takePages n o).1.cmds = s.cmds := by rw [State.takePages_withPages]
@[simp] theorem State.takePages_rwc (n : Nat) (o : Option Nat) : (s.takePages n o).1.rwc = s.rwc := by rw [State.takePages_withPages]
@[simp] theorem State.takePages_chans (n : Nat) (o : Option Nat) : (s.takePages n o).1.chans = s.chans := by rw [State.takePages_withPages]
@[simp] theorem State.takePages_ovr (n : Nat) (o : Option Nat) : (s.takePages n o).1.ovr = s.ovr := by rw [State.takePages_withPages]
@[simp] theorem State.takePages_power (n : Nat) (o : Option Nat) : (s.takePages n o).1.power = s.power := by rw [State.takePages_withPages]

theorem State.takeSpinup_withPower : s.takeSpinup = { s with power := s.takeSpinup.power } := by
  unfold State.takeSpinup
  split <;> rfl

@[simp] theorem State.takeSpinup_regs : s.takeSpinup.regs = s.regs := by rw [State.takeSpinup_withPower]
@[simp] theorem State.takeSpinup_port : s.takeSpinup.port = s.port := by rw [State.takeSpinup_withPower]
@[simp] theorem State.takeSpinup_cmds : s.takeSpinup.cmds = s.cmds := by rw [State.takeSpinup_withPower]
@[simp] theorem State.takeSpinup_rwc : s.takeSpinup.rwc = s.rwc := by rw [State.takeSpinup_withPower]
@[simp] theorem State.takeSpinup_chans : s.takeSpinup.chans = s.chans := by rw [State.takeSpinup_withPower]
@[simp] theorem State.takeSpinup_ovr : s.takeSpinup.ovr = s.ovr := by rw [State.takeSpinup_withPower]

theorem State.causeWriter_withTenants (n bit : Nat) : s.causeWriter n bit = { s with tenants := (s.causeWriter n bit).tenants } := by
  unfold State.causeWriter
  split <;> rfl

/-- A change of the shedding state raises the SHED causes of the writers that it meets, and no more. -/
theorem State.shedding_withTenants (f : State → State) : s.shedding f = { f s with tenants := (s.shedding f).tenants } := by
  have fold : ∀ (l : List Nat) (u t : State), l.foldl (fun u n => if s.beingShed n != t.beingShed n then u.causeWriter n 3 else u) u =
      { u with tenants := (l.foldl (fun u n => if s.beingShed n != t.beingShed n then u.causeWriter n 3 else u) u).tenants } := by
    intro l
    induction l with
    | nil => exact fun _ _ => rfl
    | cons n l ih =>
      intro u t
      rw [List.foldl_cons, ih]
      split
      · rw [State.causeWriter_withTenants]
      · rfl
  exact fold _ _ _

/-- An admission is counted; in a shortfall it is taken from a quota, which may raise SHED causes. -/
theorem State.admitted_withShed (k len : Nat) : s.admitted k len =
    { s with admits := (s.admitted k len).admits, shed := (s.admitted k len).shed, shedIn := (s.admitted k len).shedIn
             tenants := (s.admitted k len).tenants } := by
  simp only [State.admitted]
  split
  · split
    · rw [State.shedding_withTenants]
      rfl
    · rfl
  · rfl

@[simp] theorem State.admitted_regs (k n : Nat) : (s.admitted k n).regs = s.regs := by rw [State.admitted_withShed]
@[simp] theorem State.admitted_port (k n : Nat) : (s.admitted k n).port = s.port := by rw [State.admitted_withShed]
@[simp] theorem State.admitted_cmds (k n : Nat) : (s.admitted k n).cmds = s.cmds := by rw [State.admitted_withShed]
@[simp] theorem State.admitted_rwc (k n : Nat) : (s.admitted k n).rwc = s.rwc := by rw [State.admitted_withShed]
@[simp] theorem State.admitted_chans (k n : Nat) : (s.admitted k n).chans = s.chans := by rw [State.admitted_withShed]
@[simp] theorem State.admitted_ovr (k n : Nat) : (s.admitted k n).ovr = s.ovr := by rw [State.admitted_withShed]
@[simp] theorem State.admitted_power (k n : Nat) : (s.admitted k n).power = s.power := by rw [State.admitted_withShed]
@[simp] theorem State.admitted_time (k n : Nat) : (s.admitted k n).time = s.time := by rw [State.admitted_withShed]
@[simp] theorem State.admitted_die (k n : Nat) : (s.admitted k n).die = s.die := by rw [State.admitted_withShed]
@[simp] theorem State.admitted_clk (k n : Nat) : (s.admitted k n).clk = s.clk := by rw [State.admitted_withShed]
@[simp] theorem State.admitted_buf (k n : Nat) : (s.admitted k n).buf = s.buf := by rw [State.admitted_withShed]

/-- An event changes the recorder alone. -/
theorem State.event_withEvr (c u a d : Nat) : s.event c u a d = { s with evr := (s.event c u a d).evr } := by
  unfold State.event State.intakeEvent
  split_ifs <;> rfl

/-- What an event leaves in the recorder hangs on whether the logic die runs, on the time and on the recorder. -/
theorem State.event_evr_congr {s t : State} (hl : t.live = s.live) (ht : t.time = s.time) (he : t.evr = s.evr) (c u a d : Nat) :
    (t.event c u a d).evr = (s.event c u a d).evr := by
  unfold State.event State.intakeEvent State.stamp
  simp only [hl, ht, he]
  split_ifs <;> simp only [he]

/-! ### Fields of one array of registers -/

/-- Two fields whose elements lie in one array of registers, each in its own place. -/
def Field.apart (f g : Field) : Bool :=
  f.st == g.st && f.m == g.m && f.st2 == g.st2 && 32 * (0x10000 * f.blk + f.off) + f.lo != 32 * (0x10000 * g.blk + g.off) + g.lo

theorem Field.key_ne_of_apart {f g : Field} (h : f.apart g = true) (i : Nat) : f.key i ≠ g.key i := by
  simp only [Field.apart, Bool.and_eq_true, beq_iff_eq, bne_iff_ne] at h
  obtain ⟨⟨⟨hst, hm⟩, hst2⟩, hbase⟩ := h
  simp only [Field.key, Field.addr, hst, hm, hst2]
  omega

theorem State.getF_setF_apart (f g : Field) (i v : Nat) (h : g.apart f = true) : (s.setF f i v).getF g i = s.getF g i :=
  s.getF_setF_ne f g i i v (Field.key_ne_of_apart h i)

end Sys2Proof.Machine
end

section
/-! The energy account of an admitted write frame (spec/01 R24; spec/10 R219, R222). -/

namespace Sys2Proof.Machine
variable (s : State)

/-! ### The committed energy -/

theorem State.flag_congr {s t : State} (h : t.regs = s.regs) (f : Field) (i : Nat) : t.flag f i = s.flag f i := by
  simp only [State.flag, State.getF_congr h]

theorem State.lend_congr {s t : State} (h : t.regs = s.regs) : t.lend = s.lend := by
  simp only [State.lend, State.flag_congr h, State.getF_congr h]

/-- ENG_COMMIT hangs on the frame on the port, the commands, the records, the channels, the link and the spin-up charge. -/
theorem State.commit_congr {s t : State} (hf : t.port.frame = s.port.frame) (hc : t.cmds = s.cmds) (hr : t.rwc = s.rwc)
    (hch : t.chans = s.chans) (ho : t.ovr = s.ovr) (hp : t.power = s.power) : t.commit = s.commit := by
  simp only [State.commit, State.earmarks, State.debits, State.sealRes, State.intakeEnergy, State.frames, State.records, State.rw,
    State.openChans, hf, hc, hr, hch, ho, hp, if_true]

/-- A frame that comes onto the port adds its earmark, and an admission the spin-up charge that it takes (R218, R222). -/
theorem State.commit_of_frame {s t : State} {f : Frame} (hnone : s.port.frame = none) (hsome : t.port.frame = some f)
    (hph : f.phase = .writing) (hc : t.cmds = s.cmds) (hr : t.rwc = s.rwc) (hch : t.chans = s.chans) (ho : t.ovr = s.ovr) :
    t.commit + s.power.spinup.getD 0 = s.commit + f.earmark + t.power.spinup.getD 0 := by
  simp only [State.commit, State.earmarks, State.debits, State.sealRes, State.intakeEnergy, State.frames, State.records, State.rw,
    State.openChans, hnone, hsome, hc, hr, hch, ho, if_true, Option.toList_some, Option.toList_none, List.filter_nil, List.filter_cons,
    hph, List.map_cons, List.map_nil, List.sum_cons, List.sum_nil, beq_self_eq_true, Bool.and_true]
  omega

/-- What `takeSpinup` adds to the account (R222). -/
theorem State.spinup_takeSpinup : s.takeSpinup.power.spinup.getD 0 =
    s.power.spinup.getD 0 + (if s.needSpinup then s.getF Reg.ENG_SPINUP_E else 0) := by
  unfold State.takeSpinup
  split
  next h =>
    have hnone : s.power.spinup = none := by
      simp only [State.needSpinup, Bool.and_eq_true, Option.isNone_iff_eq_none] at h
      exact h.2
    simp [hnone]
  next => simp

/-- An account within ENG_LEND leaves admission as it is (R220). -/
theorem State.checkEnergy_of_le (h : s.commit ≤ s.lend) : s.checkEnergy = s := by
  simp [State.checkEnergy, Nat.not_lt.2 h]

theorem State.earmarkOf_mono (n : Nat) {a b : Nat} (h : a ≤ b) : s.earmarkOf n a ≤ s.earmarkOf n b := by
  have hz : a * s.costOf (s.chan n).bushel ≤ b * s.costOf (s.chan n).bushel := Nat.mul_le_mul_right _ h
  simp only [State.earmarkOf, State.willRoll, decide_eq_true_eq]
  split_ifs <;> omega

/-- The energy credit of a whole frame covers every shorter one (R219). -/
theorem State.energyOk_covers {n len : Nat} (h : s.energyOk n (s.chan n).frameMax = true) (hlen : len ≤ (s.chan n).frameMax) :
    s.commit + s.earmarkOf n len + (if s.needSpinup then s.getF Reg.ENG_SPINUP_E else 0) ≤ s.lend := by
  simp only [State.energyOk, Bool.and_eq_true, decide_eq_true_eq] at h
  obtain ⟨⟨⟨hle, -⟩, -⟩, -⟩ := h
  have := s.earmarkOf_mono n hlen
  omega

/-! ### An admitted write frame (R24, R38, R222) -/

theorem State.heatFill_of_not_heat (h : s.spn ≠ 3) : s.heatFill = s := by simp [State.heatFill, h]

/-- The count of an accepted header lies below every field that an earmark reads. -/
theorem State.takeHeader_getF (f : Field) (i : Nat) (h : 1 < f.blk) : s.takeHeader.getF f i = s.getF f i := by
  rw [State.takeHeader, State.getF_bump_ne, State.modPort_getF]
  simp only [Field.key, Field.addr, Reg.SP_CNT_ACCEPT_COUNT]
  omega

theorem State.takeHeader_flag (f : Field) (i : Nat) (h : 1 < f.blk) : s.takeHeader.flag f i = s.flag f i := by
  simp only [State.flag, s.takeHeader_getF f i h]

theorem State.takeHeader_earmarkOf (n len : Nat) : s.takeHeader.earmarkOf n len = s.earmarkOf n len := by
  have hz : ∀ b, s.takeHeader.costOf b = s.costOf b := fun b => by
    simp only [State.costOf, s.takeHeader_getF Reg.COST_SCRUPLES _ (by decide), s.takeHeader_getF Reg.BMAP_ZONE _ (by decide)]
  have hw : s.takeHeader.willRoll n len = s.willRoll n len := by
    simp only [State.willRoll, s.takeHeader_getF Reg.LDG_CTRL_TEAR_RSV _ (by decide)]
    rfl
  simp only [State.earmarkOf, hz, hw]
  rfl

theorem State.takeHeader_needSpinup : s.takeHeader.needSpinup = s.needSpinup := by
  simp only [State.needSpinup, State.atSpeed, s.takeHeader_flag Reg.SPN_STATE_AT_SPEED _ (by decide)]
  rfl

theorem State.takeHeader_lend : s.takeHeader.lend = s.lend := by
  simp only [State.lend, s.takeHeader_flag Reg.ENG_CTRL_EN _ (by decide),
    s.takeHeader_getF Reg.ENG_LEND_E _ (by decide)]

/-- The credits of an admitted write: a frame with its earmark is on the port, the spin-up charge is taken, and of what the
account hangs on nothing else has moved; the reserve's fill and the account are then judged. -/
theorem State.acceptWrite_eq (tid n len : Nat) (seq : Word) (data : List Word) (trailer : Word) :
    ∃ (u : State) (f : Frame), s.acceptWrite tid n len seq data trailer = u.heatFill.checkEnergy ∧ u.port.frame = some f ∧
      f.phase = .writing ∧ f.earmark = s.earmarkOf n len ∧ u.regs = s.regs ∧ u.cmds = s.cmds ∧ u.rwc = s.rwc ∧ u.chans = s.chans ∧
      u.ovr = s.ovr ∧ u.power = s.takeSpinup.power := by
  refine ⟨_, _, rfl, by rw [State.admitted_port, State.modPort], rfl, rfl, ?_⟩
  simp

/-- A write frame that meets no refusal and no HOLD, with all its data words, is taken. -/
theorem exec_spWriteGrains_admitted (tid n len : Nat) (trailer : Word) (data : List Word) (hturn : s.portTurn = true)
    (hmay : s.mayFrame tid n = true) (hready : s.chanReady n = true) (henergy : s.energyStep n = true)
    (hcredit : s.creditStep n (some tid) = true) (hpos : 1 ≤ len) (hmax : len ≤ (s.chan n).frameMax)
    (hdata : data.length = 1024 * len) : exec (.spWriteGrains tid n len ((s.chan n).durable + 1) data trailer) s =
      .next (s.takeHeader.acceptWrite tid n len ((s.chan n).durable + 1) data trailer) := by
  have hcheck : s.writeCheck tid n len ((s.chan n).durable + 1) = none := by
    simp only [State.mayFrame, State.chanReady, State.energyStep, State.creditStep, Bool.and_eq_true, Bool.not_eq_true'] at *
    simp [State.writeCheck, State.writeChecks, hmay, hready, henergy, hcredit, Nat.not_lt.2 hmax, Nat.ne_of_gt hpos]
  simp only [State.portTurn, Bool.and_eq_true, Option.isNone_iff_eq_none] at hturn
  obtain ⟨hopen, hframe⟩ := hturn
  have hlive : s.live = true := by
    simp only [State.portOpen, Bool.and_eq_true] at hopen
    exact hopen.1.1
  change execSpWriteGrains tid n len _ data trailer s = _
  simp only [execSpWriteGrains, State.header, hopen, hframe, hlive, hcheck, hdata, Option.isSome_none, Bool.not_true, Bool.false_eq_true,
    if_true, if_false]

/-- Settles O7: the account rises by the earmark and the spin-up charge, which the check of step 9 found within ENG_LEND for a
whole frame of the channel, so admission stays open. -/
theorem admissionStaysWithinLend : Obligations.AdmissionStaysWithinLend := by
  intro s tid n len trailer data hturn hmay hready henergy hcredit hpos hmax hdata hspn
  refine ⟨_, exec_spWriteGrains_admitted s tid n len trailer data hturn hmay hready henergy hcredit hpos hmax hdata, ?_⟩
  obtain ⟨u, f, heq, hframe, hphase, hearmark, hregs, hcmds, hrwc, hchans, hovr, hpower⟩ :=
    s.takeHeader.acceptWrite_eq tid n len ((s.chan n).durable + 1) data trailer
  simp only [State.portTurn, Bool.and_eq_true, Option.isNone_iff_eq_none] at hturn
  simp only [State.energyStep, Bool.and_eq_true] at henergy
  have hlend : u.lend = s.lend := by rw [State.lend_congr hregs, s.takeHeader_lend]
  have hspinup : u.power.spinup.getD 0 = s.power.spinup.getD 0 + (if s.needSpinup then s.getF Reg.ENG_SPINUP_E else 0) := by
    rw [hpower, State.spinup_takeSpinup, s.takeHeader_needSpinup, s.takeHeader_getF Reg.ENG_SPINUP_E _ (by decide)]
    rfl
  have hcommit : u.commit = s.commit + s.earmarkOf n len + (if s.needSpinup then s.getF Reg.ENG_SPINUP_E else 0) := by
    have := State.commit_of_frame (s := s) hturn.2 hframe hphase hcmds hrwc hchans hovr
    rw [hearmark, s.takeHeader_earmarkOf] at this
    omega
  have hwithin : u.commit ≤ u.lend := by
    rw [hcommit, hlend]
    exact s.energyOk_covers henergy.2 hmax
  have hheat : u.spn ≠ 3 := by
    rw [State.spn, State.getF_congr hregs, s.takeHeader_getF Reg.SPN_STATE_STATE _ (by decide)]
    exact hspn
  rw [heq, u.heatFill_of_not_heat hheat, u.checkEnergy_of_le hwithin]
  exact ⟨hlend, hcommit, hwithin⟩

end Sys2Proof.Machine
end

section
/-! Write gates, records that reach WRITTEN and tears (spec/01 R10, R14; spec/07 R147, R159, R160). -/

namespace Sys2Proof.Machine
variable (s : State)

/-! ### A record reaches WRITTEN (R10, R14) -/

theorem State.layPage_withBuf (p : Nat) : s.layPage p =
    { s with buf := (s.layPage p).buf, ecc := (s.layPage p).ecc, harts := (s.layPage p).harts } := by
  unfold State.layPage
  split
  · split
    · rfl
    · exact s.bufWrite_withBuf _ _
  · rfl

theorem State.chanWritten_withChans (r : Rec) : s.chanWritten r =
    { s with pages := (s.chanWritten r).pages, chans := (s.chanWritten r).chans, bushels := (s.chanWritten r).bushels
             boot := (s.chanWritten r).boot } := by
  simp only [State.chanWritten]
  split
  · rfl
  · split <;> rfl
  · rfl

@[simp] theorem State.layPage_regs (p : Nat) : (s.layPage p).regs = s.regs := by rw [State.layPage_withBuf]
@[simp] theorem State.layPage_rwc (p : Nat) : (s.layPage p).rwc = s.rwc := by rw [State.layPage_withBuf]
@[simp] theorem State.layPage_chans (p : Nat) : (s.layPage p).chans = s.chans := by rw [State.layPage_withBuf]
@[simp] theorem State.layPage_evr (p : Nat) : (s.layPage p).evr = s.evr := by rw [State.layPage_withBuf]
@[simp] theorem State.layPage_cmds (p : Nat) : (s.layPage p).cmds = s.cmds := by rw [State.layPage_withBuf]
@[simp] theorem State.layPage_port (p : Nat) : (s.layPage p).port = s.port := by rw [State.layPage_withBuf]
@[simp] theorem State.layPage_due (p : Nat) : (s.layPage p).due = s.due := by rw [State.layPage_withBuf]
@[simp] theorem State.chanWritten_regs (r : Rec) : (s.chanWritten r).regs = s.regs := by rw [State.chanWritten_withChans]
@[simp] theorem State.chanWritten_rwc (r : Rec) : (s.chanWritten r).rwc = s.rwc := by rw [State.chanWritten_withChans]
@[simp] theorem State.chanWritten_evr (r : Rec) : (s.chanWritten r).evr = s.evr := by rw [State.chanWritten_withChans]
@[simp] theorem State.chanWritten_cmds (r : Rec) : (s.chanWritten r).cmds = s.cmds := by rw [State.chanWritten_withChans]
@[simp] theorem State.chanWritten_port (r : Rec) : (s.chanWritten r).port = s.port := by rw [State.chanWritten_withChans]
@[simp] theorem State.chanWritten_due (r : Rec) : (s.chanWritten r).due = s.due := by rw [State.chanWritten_withChans]

theorem State.chanWritten_chan_ne (r : Rec) (m : Nat) (h : m ≠ r.chan) : (s.chanWritten r).chan m = s.chan m := by
  simp only [State.chanWritten]
  split
  · exact State.chan_setChan_ne _ _ _ _ h
  · split
    · rfl
    · exact State.chan_setChan_ne _ _ _ _ h
  · rfl

/-- A grain that is WRITTEN moves WRITTEN_HEAD to the grain before the first that is not, or that never will be. -/
theorem State.chanWritten_grain (r : Rec) (h : r.kind = .grain) : (s.chanWritten r).chan r.chan =
    { s.chan r.chan with
      written := seqMax (s.chan r.chan).written
        (stopBefore (s.chan r.chan).gap (stopBefore (s.chan r.chan).lost (s.belowUnwritten r.chan false (s.chan r.chan).durable))) } := by
  simp only [State.chanWritten, h]
  exact State.chan_setChan_self _ _ _

/-- A seal of the opening that is WRITTEN moves SEALED_HEAD and leaves the heads of the grains. -/
theorem State.chanWritten_seal (r : Rec) (h : r.kind = .seal) (ho : r.opening = (s.chan r.chan).opening) :
    ((s.chanWritten r).chan r.chan).sealed = seqMax (s.chan r.chan).sealed (stopBefore (s.chan r.chan).gap r.seq) ∧
      ((s.chanWritten r).chan r.chan).durable = (s.chan r.chan).durable ∧
      ((s.chanWritten r).chan r.chan).written = (s.chan r.chan).written := by
  simp only [State.chanWritten, h, ho, bne_self_eq_false, Bool.false_eq_true, if_false]
  simp only [State.chan, State.setBushel, State.setChan, sget_sput_self, and_self]

theorem State.settleCmds_of_idle (h : s.cmds.filter (·.running) = []) : s.settleCmds = s := by
  rw [State.settleCmds, h, List.foldl_nil]

theorem State.dueNow_of_nil (n : Nat) (h : s.due = []) : s.dueNow n = s := by
  rw [State.dueNow, h, List.length_nil, State.tryDue]

/-- A channel's record reaches WRITTEN where no command and no due record waits. -/
theorem State.recordWritten_of_idle (r : Rec) (hsys : r.system = false) (hint : r.intake = false)
    (hrun : s.cmds.filter (·.running) = []) (hdue : s.due = []) :
    s.recordWritten r = ((s.bump Reg.RWC_CNT_WR_COUNT r.act).chanWritten r).layPage r.page := by
  simp only [State.recordWritten, hsys, hint, Bool.false_eq_true, if_false]
  rw [State.settleCmds_of_idle, State.dueNow_of_nil]
  · simpa using hdue
  · simpa using hrun

/-- The records that wait hang on the gates and the queues alone. -/
theorem State.records_setRw_congr (ch : Nat) {x y : Rwc} (h : x.records = y.records) : (s.setRw ch x).records = (s.setRw ch y).records := by
  have hrw : ∀ a, ((s.setRw ch x).rw a).records = ((s.setRw ch y).rw a).records := fun a => by
    by_cases ha : a = ch
    · rw [ha, State.rw_setRw_self, State.rw_setRw_self, h]
    · rw [State.rw_setRw_ne _ _ _ _ ha, State.rw_setRw_ne _ _ _ _ ha]
  rw [State.records, State.records, hrw, hrw]

theorem State.belowUnwritten_congr {s t : State} (hr : t.records = s.records) (hc : t.chans = s.chans) (n : Nat) (top : Word) :
    t.belowUnwritten n false top = s.belowUnwritten n false top := by
  simp only [State.belowUnwritten, hr, State.chan, hc, Bool.false_eq_true, if_false]

theorem exec_recordWritten (ch : Nat) (r : Rec) (hl : s.live = true) (hg : (s.rw ch).gate = some r) :
    exec (.recordWritten ch) s = .next ((s.setRw ch (s.rw ch).closed).recordWritten r) := by
  change execRecordWritten ch s = _
  rw [execRecordWritten, State.whenLive_of_live _ _ hl]
  simp only [hg]

theorem Rwc.records_closed (x : Rwc) : x.closed.records = ({ x with gate := none } : Rwc).records := rfl

/-- The first clause of O24: a channel's record under the gate reaches WRITTEN. -/
theorem recordWritten_spec (ch : Nat) (r : Rec) (hl : s.live = true) (hg : (s.rw ch).gate = some r) (hsys : r.system = false)
    (hint : r.intake = false) (hrun : s.cmds.filter (·.running) = []) (hdue : s.due = []) :
    ∃ t, exec (.recordWritten ch) s = .next t ∧ (t.rw ch).gate = none ∧ (t.rw ch).wq = (s.rw ch).wq ∧
      t.getF Reg.RWC_CNT_WR_COUNT r.act = (s.getF Reg.RWC_CNT_WR_COUNT r.act + 1) % 2 ^ 32 ∧
      fieldsKept s t [(Reg.RWC_CNT_WR_COUNT, r.act)] ∧ (∀ m, m ≠ r.chan → t.chan m = s.chan m) ∧
      (r.kind = .grain →
        let below := (s.setRw ch { s.rw ch with gate := none }).belowUnwritten r.chan false (s.chan r.chan).durable
        t.chan r.chan = { s.chan r.chan with
          written := seqMax (s.chan r.chan).written (stopBefore (s.chan r.chan).gap (stopBefore (s.chan r.chan).lost below)) }) ∧
      (r.kind = .seal → r.opening = (s.chan r.chan).opening →
        (t.chan r.chan).sealed = seqMax (s.chan r.chan).sealed (stopBefore (s.chan r.chan).gap r.seq) ∧
        (t.chan r.chan).durable = (s.chan r.chan).durable ∧ (t.chan r.chan).written = (s.chan r.chan).written) ∧
      t.evr = s.evr ∧ t.cmds = s.cmds ∧ t.port = s.port := by
  let u : State := (s.setRw ch (s.rw ch).closed).bump Reg.RWC_CNT_WR_COUNT r.act
  have hchan : ∀ m, ((u.chanWritten r).layPage r.page).chan m = (u.chanWritten r).chan m := fun m => by
    simp only [State.chan, State.layPage_chans]
  have hrw : ((u.chanWritten r).layPage r.page).rw ch = (s.rw ch).closed := by
    rw [State.rw, State.layPage_rwc, State.chanWritten_rwc]
    exact State.rw_setRw_self _ _ _
  have hget : ∀ f i, ((u.chanWritten r).layPage r.page).getF f i = u.getF f i :=
    State.getF_congr (by rw [State.layPage_regs, State.chanWritten_regs])
  have hbelow : u.belowUnwritten r.chan false (s.chan r.chan).durable =
      (s.setRw ch { s.rw ch with gate := none }).belowUnwritten r.chan false (s.chan r.chan).durable :=
    State.belowUnwritten_congr (s.records_setRw_congr ch (Rwc.records_closed _)) rfl _ _
  refine ⟨(u.chanWritten r).layPage r.page, ?_, by rw [hrw]; rfl, by rw [hrw]; rfl, ?_, ?_, ?_, ?_, ?_, ?_, ?_, ?_⟩
  · rw [exec_recordWritten s ch r hl hg, State.recordWritten_of_idle (s.setRw ch (s.rw ch).closed) r hsys hint hrun hdue]
  · rw [hget, State.getF_bump_self _ _ _ _ (by decide), State.setRw_getF]
    rfl
  · intro f i hne
    rw [hget, State.getF_bump_ne _ _ _ _ _ _ (hne _ List.mem_cons_self), State.setRw_getF]
  · intro m hm
    rw [hchan, u.chanWritten_chan_ne r m hm]
    rfl
  · intro hk
    rw [hchan, u.chanWritten_grain r hk, ← hbelow]
    rfl
  · intro hk ho
    rw [hchan]
    exact u.chanWritten_seal r hk ho
  · simp [u]
  · simp [u]
  · simp [u]

/-! ### The write gate opens (R147, R159) -/

/-- Where no bushel of a waiting record is used up, and no gate is open, the gate is judged for the record that R159 takes. -/
theorem exec_writeGateOpen (ch : Nat) (r : Rec) (new : Bool) (hl : s.live = true) (hg : (s.rw ch).gate = none)
    (hroom : (s.firsts [] (s.rw ch).wq).find? (fun r => !r.system && decide (16384 ≤ s.nextPlace r)) = none)
    (hpick : s.pickWrite ch = some (r, new)) : exec (.writeGateOpen ch) s = .next
      (if !s.writeGateOk ch r then s
        else if (s.readForWrite ch r).2 then (s.readForWrite ch r).1.openGate ch r new else (s.readForWrite ch r).1) := by
  have hmove : s.moveExhausted ch = s := by simp only [State.moveExhausted, hroom]
  change execWriteGateOpen ch s = _
  rw [execWriteGateOpen, State.whenLive_of_live _ _ hl]
  simp only [hmove, hg, Option.isSome_none, Bool.false_eq_true, if_false, hpick]

theorem State.bufCheck_of_sound (a n reader : Nat) (h : s.ecc.bad = []) : s.bufCheck a n reader = (s, false) := by
  simp [State.bufCheck, h]

theorem State.readForWrite_of_sound (ch : Nat) (r : Rec) (h : s.ecc.bad = []) : s.readForWrite ch r = (s, true) := by
  simp [State.readForWrite, s.bufCheck_of_sound _ _ _ h]

/-- A record that is no system record goes to the next place of its bushel. -/
theorem State.openGate_spec (ch : Nat) (r : Rec) (new : Bool) (hsys : r.system = false) :
    let t := s.openGate ch r new
    (t.rw ch).gate = some { r with place := s.nextPlace r, torn := false } ∧
      (t.rw ch).wq = (s.rw ch).wq.filter (fun y => y.form != r.form) ∧
      (t.bushel r.bushel).next = (s.bushel r.bushel).next + 1 ∧
      (t.bushel r.bushel).lastSeq =
        (if r.kind = .grain ∧ (s.bushel r.bushel).state = .opened then r.seq else (s.bushel r.bushel).lastSeq) ∧
      (t.rw ch).sector = s.sectorBits r (s.nextPlace r) ∧
      (∀ m, m ≠ ch → t.rw m = s.rw m) ∧ (∀ m, m ≠ r.bushel → t.bushel m = s.bushel m) ∧
      t = { s with rwc := t.rwc, bushels := t.bushels } := by
  have hplace : s.nextPlace r = (s.bushel r.bushel).next := by simp [State.nextPlace, hsys]
  simp only [State.openGate, hsys, Bool.false_and, Bool.false_eq_true, if_false, State.rw_setRw_self, hplace]
  refine ⟨trivial, trivial, ?_, ?_, rfl, fun m hm => ?_, fun m hm => ?_, rfl⟩
  · rw [State.bushel, State.setRw_bushels, ← State.bushel, State.bushel_setBushel_self]
  · rw [State.bushel, State.setRw_bushels, ← State.bushel, State.bushel_setBushel_self]
  · rw [State.rw_setRw_ne _ _ _ _ hm]
    rfl
  · rw [State.bushel, State.setRw_bushels, ← State.bushel, State.bushel_setBushel_ne _ _ _ _ hm]

/-! ### The write-fault input (R147, R160) -/

theorem exec_preampWriteFault (ch : Nat) (low torn : Bool) (hl : s.live = true) : exec (.preampWriteFault ch low torn) s = .next
    (if low then ((s.setRw ch { s.rw ch with faultLow := low }).raise Reg.RWC_EVENTS_PREAMP_FAULT ch).forceOff ch 6 torn
      else s.setRw ch { s.rw ch with faultLow := low }) := by
  change execPreampWriteFault ch low torn s = _
  rw [execPreampWriteFault, State.whenLive_of_live _ _ hl]

theorem State.forceOff_of_closed (ch cause : Nat) (torn : Bool) (h : (s.rw ch).gate = none) : s.forceOff ch cause torn = s := by
  simp only [State.forceOff, h]

theorem State.tear_withRwc (ch cause : Nat) (r : Rec) : s.tear ch cause r =
    { s with regs := (s.tear ch cause r).regs, rwc := (s.tear ch cause r).rwc, evr := (s.tear ch cause r).evr } := by
  unfold State.tear
  rw [State.event_withEvr]
  rfl

/-- A torn record is back at the head of its queue, and the tear is counted and recorded with its cause and place. -/
theorem State.tear_spec (ch cause : Nat) (r : Rec) (hc : cause < 8) :
    (s.tear ch cause r).rw ch = { s.rw ch with wq := { r with torn := true } :: (s.rw ch).wq } ∧
      (s.tear ch cause r).getF Reg.RWC_EVENTS_TEAR ch = 1 ∧
      (s.tear ch cause r).getF Reg.RWC_CNT_TEAR_COUNT ch = (s.getF Reg.RWC_CNT_TEAR_COUNT ch + 1) % 2 ^ 32 ∧
      (s.tear ch cause r).getF Reg.RWC_TEAR_LAST_CAUSE ch = cause ∧
      (s.tear ch cause r).evr = (s.event 0x22 cause r.place r.bushel).evr := by
  simp only [State.tear]
  refine ⟨?_, ?_, ?_, ?_, ?_⟩
  · simp only [State.rw, State.event_rwc, State.setF_rwc, State.bump_rwc, State.raise_rwc, State.setRw, sget_sput_self]
  · simp (disch := decide) only [State.event_getF, State.raise, State.bump, State.getF_setF_apart, State.getF_setF_self]
    rfl
  · simp (disch := decide) only [State.event_getF, State.raise, State.bump, State.getF_setF_apart, State.getF_setF_self, State.setRw_getF]
    rfl
  · simp (disch := decide) only [State.event_getF, State.getF_setF_apart, State.getF_setF_self]
    exact Nat.mod_eq_of_lt hc
  · exact State.event_evr_congr (by simp) (by simp) (by simp) _ _ _ _

theorem State.forceOff_of_torn (ch cause : Nat) (r : Rec) (h : (s.rw ch).gate = some r) :
    s.forceOff ch cause true = (s.setRw ch { s.rw ch with gate := none, sector := [] }).tear ch cause r := by
  simp only [State.forceOff, h, if_true]

/-- Settles O24: the record under the gate completes as `recordWritten_spec` says, the gate opens as `State.openGate_spec` says, and
a fault before the dram is a tear. -/
theorem writeGateAndWrittenRecords : Obligations.WriteGateAndWrittenRecords := by
  refine ⟨recordWritten_spec, fun s ch r new hl hg hroom hpick => ⟨fun hbad => ?_, fun hok hsound hsys => ?_⟩, fun s ch r hl => ⟨?_, ?_, ?_⟩⟩
  · rw [exec_writeGateOpen s ch r new hl hg hroom hpick, hbad]
    rfl
  · refine ⟨s.openGate ch r new, ?_, s.openGate_spec ch r new hsys⟩
    rw [exec_writeGateOpen s ch r new hl hg hroom hpick, hok, s.readForWrite_of_sound ch r hsound]
    rfl
  · exact ⟨_, exec_preampWriteFault s ch false false hl, by simp, rfl, fun m hm => State.rw_setRw_ne _ _ _ _ hm⟩
  · intro hg
    have hclosed : (((s.setRw ch { s.rw ch with faultLow := true }).raise Reg.RWC_EVENTS_PREAMP_FAULT ch).rw ch).gate = none := by
      rw [State.rw, State.raise_rwc, ← State.rw, State.rw_setRw_self, hg]
    refine ⟨_, exec_preampWriteFault s ch true false hl, ?_⟩
    rw [if_pos rfl, State.forceOff_of_closed _ ch 6 false hclosed]
    refine ⟨?_, State.getF_raise_self _ _ _ (by decide) (by decide), rfl, ?_⟩
    · rw [State.rw, State.raise_rwc, ← State.rw, State.rw_setRw_self]
    · intro f i hne
      rw [State.getF_raise_ne _ _ _ _ _ (hne _ List.mem_cons_self), State.setRw_getF]
  · intro hg
    let u : State := (s.setRw ch { s.rw ch with faultLow := true }).raise Reg.RWC_EVENTS_PREAMP_FAULT ch
    have hu : u.rw ch = { s.rw ch with faultLow := true } := by
      rw [State.rw, State.raise_rwc, ← State.rw, State.rw_setRw_self]
    let v : State := u.setRw ch { u.rw ch with gate := none, sector := [] }
    have hv : v.rw ch = { s.rw ch with faultLow := true, gate := none, sector := [] } := by rw [State.rw_setRw_self, hu]
    have hcount : v.getF Reg.RWC_CNT_TEAR_COUNT ch = s.getF Reg.RWC_CNT_TEAR_COUNT ch := by
      simp (disch := decide) only [u, v, State.raise, State.setRw_getF, State.getF_setF_apart]
    have hevr : (v.event 0x22 6 r.place r.bushel).evr = (s.event 0x22 6 r.place r.bushel).evr :=
      State.event_evr_congr (by simp [u, v]) (by simp [u, v]) (by simp [u, v]) _ _ _ _
    obtain ⟨hrw, htear, hcnt, hcause, he⟩ := v.tear_spec ch 6 r (by decide)
    refine ⟨v.tear ch 6 r, ?_, by rw [hrw, hv], by rw [hrw, hv], htear, by rw [hcnt, hcount], hcause, he.trans hevr, ?_, ?_⟩
    · rw [exec_preampWriteFault s ch true true hl, if_pos rfl, State.forceOff_of_torn _ ch 6 r (by rw [hu, hg])]
    · rw [State.tear_withRwc]
      rfl
    · rw [State.tear_withRwc]
      rfl

end Sys2Proof.Machine
end

section
/-! OPEN_CHANNEL with no free bushel (spec/03 R65, spec/06 R142): what the statement of the channels' commands leaves open. -/

namespace Sys2Proof.Machine

/-! ### OPEN_CHANNEL with no free bushel and a completion queue beyond the 256 that there are (R55, R87, R142) -/

/-- A queue number beyond the 256 of spec/03 whose pending bit shares its place in the register store with NO_BUSHEL. -/
def strayQueue : Nat := 32 * 0x2FEDC + 1

/-- An OPEN_CHANNEL of firmware that wants an interrupt, its completion queue `strayQueue`. -/
def strayOpen : Cmd := { tag := 0, sq := 0, owner := none, desc := [], op := 0x04, cmdId := 0, irq := true, sqHead := 0, cq := strayQueue }

/-- The reset state with `strayOpen` fetched. -/
def strayState : State := { State.reset.setF Reg.QCFG_FW strayQueue 1 with cmds := [strayOpen] }

/-- The words of FWCQ_PEND go on, past the eighth, to the place of LDG_EVENTS. -/
theorem fwcqPend_meets_noBushel : Reg.FWCQ_PEND_Q.key (strayQueue / 32) = Reg.LDG_EVENTS_NO_BUSHEL.key 0 := by decide

theorem strayState_turn : strayState.turn 0 0x04 strayOpen := by
  refine ⟨?_, ?_, ?_⟩ <;> decide +kernel

/-- The completion sets the pending bit of its queue, bit 1 of the place at which NO_BUSHEL has just been set. -/
theorem strayState_noBushel {t : State} (h : exec (.openChannel 0) strayState = .next t) : t.getF Reg.LDG_EVENTS_NO_BUSHEL = 3 := by
  have hval : (match exec (.openChannel 0) strayState with | .next u => u.getF Reg.LDG_EVENTS_NO_BUSHEL | _ => 0) = 3 := by decide +kernel
  rw [h] at hval
  exact hval

/-- Refutes O16: the statement bounds no queue number. -/
theorem not_channelLifeCommands : ¬ Obligations.ChannelLifeCommands := by
  rintro ⟨-, hopen, -⟩
  obtain ⟨-, hnone, -⟩ := hopen strayState 0 strayOpen (by decide +kernel) strayState_turn
  obtain ⟨t, r0, hexec, -, hbit, -⟩ := hnone (by decide +kernel) (by decide +kernel) (by decide +kernel) rfl rfl
  rw [strayState_noBushel hexec] at hbit
  exact absurd hbit (by decide)

end Sys2Proof.Machine
end

section
/-! Parts of byte strings, and what a read of the buffer returns after a write. -/

namespace Sys2Proof.Machine

/-! ### Parts of byte strings -/

@[simp] theorem slice_length (l : List Byte) (i n : Nat) : (slice l i n).length = n := by
  simp only [slice, List.length_append, List.length_take, List.length_replicate]
  omega

theorem slice_getElem (l : List Byte) (i n k : Nat) (h : k < (slice l i n).length) : (slice l i n)[k] = byteAt l (i + k) := by
  simp only [slice, byteAt, List.getElem_append, List.length_take, List.length_drop, List.getElem_take, List.getElem_drop,
    List.getElem_replicate, List.getD_eq_getElem?_getD]
  have hk : k < n := by simpa using h
  by_cases hl : i + k < l.length
  · rw [dif_pos (by omega), List.getElem?_eq_getElem hl, Option.getD_some]
  · rw [dif_neg (by omega), List.getElem?_eq_none (by omega), Option.getD_none]

theorem byteAt_eq_getElem (l : List Byte) (k : Nat) (h : k < l.length) : byteAt l k = l[k] := by
  simp [byteAt, h]

theorem byteAt_slice (l : List Byte) (i n k : Nat) (h : k < n) : byteAt (slice l i n) k = byteAt l (i + k) := by
  rw [byteAt_eq_getElem _ _ (by simpa using h), slice_getElem]

theorem slice_slice (l : List Byte) (i n j m : Nat) (h : j + m ≤ n) : slice (slice l i n) j m = slice l (i + j) m := by
  refine List.ext_getElem (by simp) fun k hk _ => ?_
  rw [slice_length] at hk
  rw [slice_getElem, slice_getElem, byteAt_slice _ _ _ _ (by omega), Nat.add_assoc]

theorem leAt_slice (l : List Byte) (i n j m : Nat) (h : j + m ≤ n) : leAt (slice l i n) j m = leAt l (i + j) m := by
  rw [leAt, slice_slice _ _ _ _ _ h, leAt]

theorem take_slice (l : List Byte) (i n k : Nat) (h : k ≤ n) : (slice l i n).take k = slice l i k := by
  refine List.ext_getElem (by simpa using h) fun j hj _ => ?_
  rw [List.getElem_take, slice_getElem, slice_getElem]

/-- Padding leaves what lies before it. -/
theorem slice_padTo (n : Nat) (l : List Byte) (i m : Nat) (h : i + m ≤ l.length) : slice (padTo n l) i m = slice l i m :=
  slice_append_left _ _ _ _ h

theorem take_padTo (n : Nat) (l : List Byte) (k : Nat) (h : k ≤ l.length) : (padTo n l).take k = l.take k :=
  List.take_append_of_le_length h

theorem padTo_of_length (n : Nat) (l : List Byte) (h : l.length = n) : padTo n l = l := by simp [padTo, h]

theorem padTo_length (n : Nat) (l : List Byte) (h : l.length ≤ n) : (padTo n l).length = n := by
  simp only [padTo, List.length_append, List.length_replicate]
  omega

/-! ### What was stored reads back -/

theorem fillBytes_nil (d : Byte) (n a b : Nat) : fillBytes d n a [] = fillBytes d n b [] := by
  cases n <;> rfl

/-- Filling from the cells of some bytes gives the bytes. -/
theorem fillBytes_cellsOf (d : Byte) (a : Nat) (bs : List Byte) : fillBytes d bs.length a (cellsOf d a bs) = bs := by
  induction bs generalizing a with
  | nil => rfl
  | cons b r ih =>
    have hr := ih (a + 1)
    have hrange := cellsOf_range d (a + 1) r
    rw [cellsOf, List.length_cons]
    by_cases hb : b = d
    · rw [if_pos hb]
      cases hcells : cellsOf d (a + 1) r with
      | nil => rw [fillBytes, fillBytes_nil d _ 0 (a + 1), ← hcells, hr, hb]
      | cons e l =>
        have hne : e.1 ≠ a := by
          have := hrange e (by simp [hcells])
          omega
        rw [fillBytes, if_neg hne, ← hcells, hr, hb]
    · rw [if_neg hb, fillBytes, if_pos rfl, hr]

/-- A read of the bytes that were stored last gives them. -/
theorem readBytes_writeBytes (d : Byte) (a : Nat) (bs : List Byte) (m : List Host.Cell) :
    readBytes d a bs.length (writeBytes d a bs m) = bs := by
  have hin : (writeBytes d a bs m).filter (fun e => decide (a ≤ e.1) && decide (e.1 < a + bs.length)) = cellsOf d a bs := by
    rw [writeBytes, splice, List.filter_append, List.filter_append, List.filter_filter, List.filter_filter,
      List.filter_eq_nil_iff.2, List.filter_eq_self.2, List.filter_eq_nil_iff.2, List.nil_append, List.append_nil]
    · intro e _
      simp only [Bool.and_eq_true, decide_eq_true_eq]
      omega
    · intro e he
      have := cellsOf_range d a bs e he
      simpa using this
    · intro e _
      simp only [Bool.and_eq_true, decide_eq_true_eq]
      omega
  rw [readBytes, hin, fillBytes_cellsOf]

variable (s : State)

/-- With no word in error, bytes within the buffer are stored as they are. -/
theorem State.bufWrite_of_sound (a : Nat) (bs : List Byte) (h : s.ecc.bad = []) (hfit : a + bs.length ≤ 0x1000000) :
    (s.bufWrite a bs).buf = writeBytes 0 a bs s.buf ∧ (s.bufWrite a bs).ecc = s.ecc := by
  have htake : bs.take (0x1000000 - a) = bs := List.take_of_length_le (by omega)
  have hres : ∀ l x n, (s.breakRes l x n).ecc = s.ecc := fun l x n => by rw [State.breakRes_withHarts]
  simp only [State.bufWrite, htake]
  split <;> simp [hres, h]

theorem State.bufByte_bufWrite (a k : Nat) (bs : List Byte) (h : s.ecc.bad = []) (hfit : a + bs.length ≤ 0x1000000)
    (hk : k < bs.length) : (s.bufWrite a bs).bufByte (a + k) = byteAt bs k := by
  rw [State.bufByte, (s.bufWrite_of_sound a bs h hfit).1, sget_writeBytes_self _ _ _ _ _ hk, byteAt_eq_getElem _ _ hk]

theorem State.bufRead_bufWrite (a : Nat) (bs : List Byte) (h : s.ecc.bad = []) (hfit : a + bs.length ≤ 0x1000000) :
    (s.bufWrite a bs).bufRead a bs.length = bs := by
  rw [State.bufRead, (s.bufWrite_of_sound a bs h hfit).1, readBytes_writeBytes]

end Sys2Proof.Machine
end

section
/-! Members, credits and notes of an intake (spec/11 R244, R246, R249): what each operation leaves as it was, and a member that arrives. -/

namespace Sys2Proof.Machine
variable (s : State)

/-! ### Notes and grants -/

theorem State.note_withNotes (b : List Byte) : s.note b = { s with ovr := { s.ovr with notes := (s.note b).ovr.notes } } := by
  unfold State.note
  split <;> rfl

theorem State.note_of_up (b : List Byte) (h : s.linkUp = true) :
    s.note b = { s with ovr := { s.ovr with notes := s.ovr.notes ++ [b] } } := by
  rw [State.note, if_pos h]

theorem State.allocPages_fst {g : Page} {n : Nat} {t : State} {l : List Nat} (h : s.allocPages g n = (t, l)) :
    ∃ ps b, t = { s with pages := ps, lastBank := b } :=
  ⟨_, _, (congrArg Prod.fst h).symm.trans (s.allocPages_withPages g n)⟩

/-- Grants take pages and raise what is outstanding in an intake, and no more. -/
theorem State.grants_withIntakes (n fuel : Nat) : s.grants n fuel =
    { s with pages := (s.grants n fuel).pages, lastBank := (s.grants n fuel).lastBank
             ovr := { s.ovr with intakes := (s.grants n fuel).ovr.intakes } } := by
  induction fuel generalizing s with
  | zero => rfl
  | succ fuel ih =>
    unfold State.grants
    split
    · split
      next t p h =>
        obtain ⟨ps, b, rfl⟩ := s.allocPages_fst h
        rw [ih]
        rfl
      next => rfl
    · rfl

theorem State.grants_intake (n fuel : Nat) : ∃ o g,
    (s.grants n fuel).intake n = { s.intake n with outstanding := o, granted := g } := by
  induction fuel generalizing s with
  | zero => exact ⟨_, _, rfl⟩
  | succ fuel ih =>
    unfold State.grants
    split
    · split
      next t p h =>
        obtain ⟨ps, b, rfl⟩ := s.allocPages_fst h
        obtain ⟨o, g, hog⟩ := ih (State.setIntake { s with pages := ps, lastBank := b } n { s.intake n with
          outstanding := (s.intake n).outstanding ++ [(s.costOf (s.intake n).bushel, p)], granted := (s.intake n).granted + 1 })
        rw [State.intake_setIntake_self] at hog
        exact ⟨o, g, hog⟩
      next => exact ⟨_, _, rfl⟩
    · exact ⟨_, _, rfl⟩

/-- A grant takes pages, raises what is outstanding in an intake and queues a note, and no more. -/
theorem State.grant_withIntakes (n : Nat) (always : Bool) : s.grant n always =
    { s with pages := (s.grant n always).pages, lastBank := (s.grant n always).lastBank
             ovr := { s.ovr with intakes := (s.grant n always).ovr.intakes, notes := (s.grant n always).ovr.notes } } := by
  simp only [State.grant]
  split
  · rw [State.note_withNotes, State.grants_withIntakes]
  · rw [State.grants_withIntakes]

@[simp] theorem State.grant_regs (n : Nat) (always : Bool) : (s.grant n always).regs = s.regs := by rw [State.grant_withIntakes]
@[simp] theorem State.grant_chans (n : Nat) (always : Bool) : (s.grant n always).chans = s.chans := by rw [State.grant_withIntakes]
@[simp] theorem State.grant_rwc (n : Nat) (always : Bool) : (s.grant n always).rwc = s.rwc := by rw [State.grant_withIntakes]
@[simp] theorem State.grant_buf (n : Nat) (always : Bool) : (s.grant n always).buf = s.buf := by rw [State.grant_withIntakes]
theorem State.grant_prov (n : Nat) (always : Bool) : (s.grant n always).ovr.prov = s.ovr.prov := by rw [State.grant_withIntakes]

theorem State.grant_intake (n : Nat) (always : Bool) : ∃ o g,
    (s.grant n always).intake n = { s.intake n with outstanding := o, granted := g } := by
  obtain ⟨o, g, h⟩ := s.grants_intake n 128
  refine ⟨o, g, ?_⟩
  rw [← h]
  simp only [State.grant]
  split
  · rw [State.note_withNotes]
    rfl
  · rfl

/-- A halted intake is granted nothing. -/
theorem State.grant_of_halted (n : Nat) (h : (s.intake n).halted = true) : s.grant n false = s := by
  have hmay : s.mayGrant n = false := by simp [State.mayGrant, h]
  have hsame : s.grants n 128 = s := by rw [State.grants, hmay]; rfl
  simp [State.grant, hsame]

/-! ### Members that wait for confirmation -/

@[simp] theorem State.dropProv_regs (n : Nat) (p : Prov → Bool) : (s.dropProv n p).regs = s.regs := rfl
@[simp] theorem State.dropProv_chans (n : Nat) (p : Prov → Bool) : (s.dropProv n p).chans = s.chans := rfl
@[simp] theorem State.dropProv_rwc (n : Nat) (p : Prov → Bool) : (s.dropProv n p).rwc = s.rwc := rfl

/-- Where intake `n` has nothing pending, a drop finds nothing and what was received is what is confirmed. -/
theorem State.dropProv_of_none (n : Nat) (p : Prov → Bool) (h : s.pendingOf n = []) : s.dropProv n p =
    (s.dropPages []).setIntake n { s.intake n with received := (s.intake n).confirmed } := by
  have hne : ∀ g ∈ s.ovr.prov, (g.chan == n) = false := by
    simpa [State.pendingOf, List.filter_eq_nil_iff] using h
  have hgone : s.ovr.prov.filter (fun g => g.chan == n && p g) = [] := by
    rw [List.filter_eq_nil_iff]
    intro g hg
    simp [hne g hg]
  have hstay : s.ovr.prov.filter (fun g => !(g.chan == n && p g)) = s.ovr.prov := by
    rw [List.filter_eq_self]
    intro g hg
    simp [hne g hg]
  simp only [State.dropProv, hgone, hstay, List.map_nil]
  change (s.dropPages []).setIntake n { s.intake n with
    received := ((s.pendingOf n).filter (·.kind == 1)).foldl (fun h g => seqMax h g.seq) (s.intake n).confirmed } = _
  rw [h]
  rfl

theorem State.dropProv_intake_of_none (n : Nat) (p : Prov → Bool) (h : s.pendingOf n = []) :
    (s.dropProv n p).intake n = { s.intake n with received := (s.intake n).confirmed } := by
  rw [s.dropProv_of_none n p h, State.intake_setIntake_self]

theorem State.dropProv_prov_of_none (n : Nat) (p : Prov → Bool) (h : s.pendingOf n = []) : (s.dropProv n p).ovr.prov = s.ovr.prov := by
  rw [s.dropProv_of_none n p h]
  rfl

theorem State.intake_congr {s t : State} (h : t.ovr = s.ovr) (n : Nat) : t.intake n = s.intake n := by
  rw [State.intake, h, State.intake]

/-- A member that joins an intake with nothing pending is its only one. -/
theorem insertProv_filter (g : Prov) (l : List Prov) (h : l.filter (fun x => x.chan == g.chan) = []) :
    (insertProv g l).filter (fun x => x.chan == g.chan) = [g] := by
  induction l with
  | nil => simp [insertProv]
  | cons x l ih =>
    obtain ⟨hx, hl⟩ := List.forall_mem_cons.1 (List.filter_eq_nil_iff.1 h)
    have hne : ¬(x.chan = g.chan ∧ seqLt g.seq x.seq = true) := fun hand => hx (by simp [hand.1])
    rw [insertProv, if_neg hne, List.filter_cons, if_neg hx]
    exact ih (List.filter_eq_nil_iff.2 hl)

/-- A member of intake `n` takes the first of its credits, whose page `p` is filled with the body; `rest` are the credits that
stay. A grain that the catch-up brings takes the place of the provisional one of its number. -/
def State.creditTaken (s : State) (n kind : Nat) (committed : Bool) (seq : Word) (body : List Byte) (p : Nat)
    (rest : List (Nat × Nat)) : State :=
  ((s.setIntake n { s.intake n with outstanding := rest }).dropProv n
    (fun g => committed && kind == 1 && g.kind == 1 && g.seq == seq)).bufWrite (4096 * p) (padTo 4096 body)

/-- Member `g` takes its place among those pending. -/
def State.pend (s : State) (g : Prov) : State := { s with ovr := { s.ovr with prov := insertProv g s.ovr.prov } }

/-- Of a grain, its number is received and its admission counts. -/
def State.grainReceived (s : State) (n kind : Nat) (seq : Word) : State :=
  if kind = 1 then (s.setIntake n { s.intake n with received := seqMax (s.intake n).received seq }).admitted (64 + n) 1 else s

/-- The member that a frame brings. -/
def State.memberOf (s : State) (n kind : Nat) (committed : Bool) (hdr : List Byte) (z p : Nat) : Prov :=
  { chan := n, kind := kind, seq := BitVec.ofNat 32 (leAt hdr 4 4), page := p, hdr := hdr.take 28, cost := z, came := s.time.dmt
    committed := committed }

/-- What a member that follows leaves before its turn is judged (R249). `z` is the cost of the credit that it takes. -/
def State.arrived (s : State) (n kind : Nat) (committed : Bool) (hdr body : List Byte) (z p : Nat) (rest : List (Nat × Nat)) : State :=
  let u := s.creditTaken n kind committed (BitVec.ofNat 32 (leAt hdr 4 4)) body p rest
  (u.pend (u.memberOf n kind committed hdr z p)).grainReceived n kind (BitVec.ofNat 32 (leAt hdr 4 4))

theorem seqLt_succ (x : Word) : seqLt x (x + 1) = true := by simp [seqLt]

@[simp] theorem seqLt_self (x : Word) : seqLt x x = false := by simp [seqLt]
@[simp] theorem seqLe_self (x : Word) : seqLe x x = true := by simp [seqLe]

section
variable {s} {n z p : Nat} {hdr body : List Byte} {rest : List (Nat × Nat)}
  (hup : s.linkUp = true) (hstep : s.pastStep3 = false) (hopen : (s.intake n).isOpen = true)
  (hout : (s.intake n).outstanding = (z, p) :: rest) (hlive : (s.intake n).halted = false)
  (hopening : BitVec.ofNat 16 (leAt hdr 18 2) = (s.intake n).opening) (hrec : (s.intake n).received = (s.intake n).confirmed)
include hup hstep hopen hout hlive hopening hrec

/-- A provisional grain that follows arrives. -/
theorem State.memberRx_provisional (hseq : BitVec.ofNat 32 (leAt hdr 4 4) = (s.intake n).confirmed + 1) :
    s.memberRx n 1 false hdr body = (s.arrived n 1 false hdr body z p rest).confirm n := by
  simp only [State.memberRx, hout]
  rw [if_neg (by simp [hup, hstep]), if_neg (by simp [hopen]), if_neg (by simp [hopening, hlive]), if_neg (by simp),
    if_neg (by simp [hseq, hrec])]
  rfl

/-- A seal that comes at the head, of an ordinal not yet held, arrives. -/
theorem State.memberRx_seal (hpend : s.pendingOf n = []) (hseq : BitVec.ofNat 32 (leAt hdr 4 4) = (s.intake n).confirmed) (htr : (s.intake n).truncated = false)
    (hord : (s.intake n).ordinal < leAt body 0 4) :
    s.memberRx n 2 true hdr body = (s.arrived n 2 true hdr body z p rest).confirm n := by
  simp only [State.memberRx, hout]
  rw [if_neg (by simp [hup, hstep]), if_neg (by simp [hopen]), if_neg (by simp [hopening, hlive]),
    if_neg (by simp [hseq, htr, hpend, Nat.not_le.2 hord]), if_neg (by simp [hseq, hrec])]
  rfl

end

section
variable (n kind : Nat) (committed : Bool) (seq : Word) (hdr body : List Byte) (z p : Nat) (rest : List (Nat × Nat))

theorem State.creditTaken_frame : let u := s.creditTaken n kind committed seq body p rest
    u.regs = s.regs ∧ u.chans = s.chans ∧ u.rwc = s.rwc ∧ u.time = s.time ∧ u.die = s.die ∧ u.clk = s.clk := by
  simp only [State.creditTaken, State.bufWrite_regs, State.bufWrite_chans, State.bufWrite_rwc, State.bufWrite_time, State.bufWrite_die,
    State.bufWrite_clk]
  exact ⟨rfl, rfl, rfl, rfl, rfl, rfl⟩

/-- With nothing pending, what the intake has received is what it has confirmed. -/
theorem State.creditTaken_intake (hpend : s.pendingOf n = []) : let u := s.creditTaken n kind committed seq body p rest
    u.intake n = { s.intake n with outstanding := rest, received := (s.intake n).confirmed } ∧ u.ovr.prov = s.ovr.prov := by
  have hpend' : (s.setIntake n { s.intake n with outstanding := rest }).pendingOf n = [] := hpend
  constructor
  · rw [State.creditTaken, State.intake_congr (State.bufWrite_ovr _ _ _), State.dropProv_intake_of_none _ _ _ hpend',
      State.intake_setIntake_self]
  · rw [State.creditTaken, State.bufWrite_ovr, State.dropProv_prov_of_none _ _ _ hpend']
    rfl

theorem State.grainReceived_frame : let u := s.grainReceived n kind seq
    u.regs = s.regs ∧ u.chans = s.chans ∧ u.rwc = s.rwc ∧ u.time = s.time ∧ u.die = s.die ∧ u.clk = s.clk ∧ u.buf = s.buf ∧
      u.ovr.prov = s.ovr.prov := by
  unfold State.grainReceived
  split <;> simp [State.setIntake]

theorem State.grainReceived_intake : (s.grainReceived n kind seq).intake n =
    { s.intake n with received := if kind = 1 then seqMax (s.intake n).received seq else (s.intake n).received } := by
  unfold State.grainReceived
  split
  · rw [State.intake_congr (State.admitted_ovr _ _ _), State.intake_setIntake_self]
  · rfl

/-- The register store, the channels and the queues of records stay as they are. -/
theorem State.arrived_frame : let u := s.arrived n kind committed hdr body z p rest
    u.regs = s.regs ∧ u.chans = s.chans ∧ u.rwc = s.rwc ∧ u.time = s.time ∧ u.live = s.live := by
  obtain ⟨hregs, hchans, hrwc, htime, hdie, hclk⟩ := s.creditTaken_frame n kind committed (BitVec.ofNat 32 (leAt hdr 4 4)) body p rest
  simp only [State.arrived]
  obtain ⟨hregs', hchans', hrwc', htime', hdie', hclk', -⟩ := State.grainReceived_frame
    ((s.creditTaken n kind committed (BitVec.ofNat 32 (leAt hdr 4 4)) body p rest).pend
      ((s.creditTaken n kind committed (BitVec.ofNat 32 (leAt hdr 4 4)) body p rest).memberOf n kind committed hdr z p))
    n kind (BitVec.ofNat 32 (leAt hdr 4 4))
  exact ⟨hregs'.trans hregs, hchans'.trans hchans, hrwc'.trans hrwc, htime'.trans htime,
    State.live_congr (hdie'.trans hdie) (hclk'.trans hclk)⟩

/-- The member is the intake's only one, on its credit's page; of a grain the number is received. -/
theorem State.arrived_pending (hpend : s.pendingOf n = []) : let u := s.arrived n kind committed hdr body z p rest
    u.pendingOf n = [s.memberOf n kind committed hdr z p] ∧
      u.intake n = { s.intake n with
        outstanding := rest
        received := if kind = 1 then seqMax (s.intake n).confirmed (BitVec.ofNat 32 (leAt hdr 4 4)) else (s.intake n).confirmed } := by
  obtain ⟨hint, hprov⟩ := s.creditTaken_intake n kind committed (BitVec.ofNat 32 (leAt hdr 4 4)) body p rest hpend
  obtain ⟨-, -, -, htime, -⟩ := s.creditTaken_frame n kind committed (BitVec.ofNat 32 (leAt hdr 4 4)) body p rest
  simp only [State.arrived]
  generalize s.creditTaken n kind committed (BitVec.ofNat 32 (leAt hdr 4 4)) body p rest = u at hint hprov htime
  have hmember : u.memberOf n kind committed hdr z p = s.memberOf n kind committed hdr z p := by rw [State.memberOf, htime, State.memberOf]
  rw [hmember]
  constructor
  · obtain ⟨-, -, -, -, -, -, -, hkept⟩ :=
      (u.pend (s.memberOf n kind committed hdr z p)).grainReceived_frame n kind (BitVec.ofNat 32 (leAt hdr 4 4))
    rw [State.pendingOf, hkept, State.pend]
    simp only [hprov]
    exact insertProv_filter (s.memberOf n kind committed hdr z p) s.ovr.prov hpend
  · rw [State.grainReceived_intake, show (u.pend (s.memberOf n kind committed hdr z p)).intake n = u.intake n from rfl, hint]

/-- The body lies in the credit's page, and the rest of the buffer is as it was. -/
theorem State.arrived_buf (hsound : s.ecc.bad = []) (hp : p < 4096) (hbody : body.length ≤ 4096) :
    let u := s.arrived n kind committed hdr body z p rest
    u.bufRead (4096 * p) 4096 = padTo 4096 body ∧ (∀ k < 4096, u.bufByte (4096 * p + k) = byteAt (padTo 4096 body) k) ∧
      ∀ x, x < 4096 * p ∨ 4096 * p + 4096 ≤ x → u.bufByte x = s.bufByte x := by
  have hlen := padTo_length 4096 body hbody
  let w : State := (s.setIntake n { s.intake n with outstanding := rest }).dropProv n
    (fun g => committed && kind == 1 && g.kind == 1 && g.seq == BitVec.ofNat 32 (leAt hdr 4 4))
  have hbuf : (s.arrived n kind committed hdr body z p rest).buf = (w.bufWrite (4096 * p) (padTo 4096 body)).buf := by
    obtain ⟨-, -, -, -, -, -, hkept, -⟩ :=
      ((s.creditTaken n kind committed (BitVec.ofNat 32 (leAt hdr 4 4)) body p rest).pend
        ((s.creditTaken n kind committed (BitVec.ofNat 32 (leAt hdr 4 4)) body p rest).memberOf n kind committed hdr z p)).grainReceived_frame
          n kind (BitVec.ofNat 32 (leAt hdr 4 4))
    exact hkept
  have hw : w.ecc.bad = [] := hsound
  have hbyte : ∀ x, (s.arrived n kind committed hdr body z p rest).bufByte x = (w.bufWrite (4096 * p) (padTo 4096 body)).bufByte x :=
    fun x => by rw [State.bufByte, hbuf, State.bufByte]
  refine ⟨?_, fun k hk => ?_, fun x hx => ?_⟩
  · have hread := w.bufRead_bufWrite (4096 * p) (padTo 4096 body) hw (by omega)
    rw [hlen] at hread
    rw [State.bufRead, hbuf, ← State.bufRead, hread]
  · rw [hbyte, w.bufByte_bufWrite _ _ _ hw (by omega) (by omega)]
  · rw [hbyte, w.bufByte_bufWrite_ne _ _ _ (by omega)]
    rfl

end

end Sys2Proof.Machine
end

section
/-! A valid frame is counted, and the link goes down (spec/11 R242, R253). -/

namespace Sys2Proof.Machine
variable (s : State)

/-! ### A valid frame is counted (R242) -/

section
variable (f : List Byte)

theorem State.ovrCount_withRegs : s.ovrCount f =
    { s with regs := (s.ovrCount f).regs, ovr := { s.ovr with fseqRx := byteAt f 1, rxSeen := true } } := by
  simp only [State.ovrCount]
  split <;> rfl

theorem State.ovrCount_fieldsKept : fieldsKept s (s.ovrCount f) [(Reg.OVR_CNT_RX_COUNT, 0), (Reg.OVR_CNT_GAP_COUNT, 0)] := by
  intro g i hne
  have hrx : (s.bump Reg.OVR_CNT_RX_COUNT).getF g i = s.getF g i := State.getF_bump_ne _ _ _ _ _ _ (hne (Reg.OVR_CNT_RX_COUNT, 0) (by simp))
  simp only [State.ovrCount]
  split
  · rw [← hrx]
    exact State.getF_bump_ne _ _ _ _ _ _ (hne (Reg.OVR_CNT_GAP_COUNT, 0) (by simp))
  · exact hrx

theorem State.ovrCount_rxCount : (s.ovrCount f).getF Reg.OVR_CNT_RX_COUNT = (s.getF Reg.OVR_CNT_RX_COUNT + 1) % 2 ^ 32 := by
  have hbump : (s.bump Reg.OVR_CNT_RX_COUNT).getF Reg.OVR_CNT_RX_COUNT = (s.getF Reg.OVR_CNT_RX_COUNT + 1) % 2 ^ 32 :=
    State.getF_bump_self _ _ _ _ (by decide)
  simp only [State.ovrCount]
  split
  · exact (State.getF_bump_ne _ _ _ _ _ _ (by decide)).trans hbump
  · exact hbump

theorem State.ovrCount_getF (g : Field) (i : Nat)
    (h : ∀ e ∈ [(Reg.OVR_CNT_RX_COUNT, 0), (Reg.OVR_CNT_GAP_COUNT, 0)], g.key i ≠ e.1.key e.2) :
    (s.ovrCount f).getF g i = s.getF g i := s.ovrCount_fieldsKept f g i h

@[simp] theorem State.ovrCount_linkUp : (s.ovrCount f).linkUp = s.linkUp := by
  rw [State.linkUp, State.flag, State.ovrCount_getF _ _ _ _ (by decide), State.linkUp, State.flag]

@[simp] theorem State.ovrCount_pastStep3 : (s.ovrCount f).pastStep3 = s.pastStep3 := by
  rw [State.pastStep3, State.ovrCount_getF _ _ _ _ (by decide), State.pastStep3]

theorem State.ovrCount_ownMaskWord (i : Nat) (h : i < 2) : (s.ovrCount f).getF Reg.OVR_OWN_MASK i = s.getF Reg.OVR_OWN_MASK i :=
  State.ovrCount_getF _ _ _ _ (by interval_cases i <;> decide)

@[simp] theorem State.ovrCount_ownMask : (s.ovrCount f).ownMask = s.ownMask := by
  rw [State.ownMask, State.ovrCount_ownMaskWord _ _ _ (by decide), State.ovrCount_ownMaskWord _ _ _ (by decide), State.ownMask]

@[simp] theorem State.ovrCount_peerKey : (s.ovrCount f).peerKey = s.peerKey := by
  have hword : ∀ i ∈ List.range 16, (s.ovrCount f).getF Reg.OVR_PEER_KEY_KEY i = s.getF Reg.OVR_PEER_KEY_KEY i := fun i hi =>
    State.ovrCount_getF _ _ _ _ (by
      have : ∀ i < 16, ∀ e ∈ [(Reg.OVR_CNT_RX_COUNT, 0), (Reg.OVR_CNT_GAP_COUNT, 0)], Reg.OVR_PEER_KEY_KEY.key i ≠ e.1.key e.2 := by decide
      exact this i (List.mem_range.1 hi))
  rw [State.peerKey, State.peerKey]
  exact congrArg List.flatten (List.map_congr_left fun i hi => by rw [hword i hi])

@[simp] theorem State.ovrCount_intake (n : Nat) : (s.ovrCount f).intake n = s.intake n := by rw [State.ovrCount_withRegs]; rfl
@[simp] theorem State.ovrCount_pendingOf (n : Nat) : (s.ovrCount f).pendingOf n = s.pendingOf n := by rw [State.ovrCount_withRegs]; rfl
@[simp] theorem State.ovrCount_chans : (s.ovrCount f).chans = s.chans := by rw [State.ovrCount_withRegs]
@[simp] theorem State.ovrCount_cmds : (s.ovrCount f).cmds = s.cmds := by rw [State.ovrCount_withRegs]
@[simp] theorem State.ovrCount_rwc : (s.ovrCount f).rwc = s.rwc := by rw [State.ovrCount_withRegs]
@[simp] theorem State.ovrCount_ecc : (s.ovrCount f).ecc = s.ecc := by rw [State.ovrCount_withRegs]

end

/-! ### The link goes down (R253) -/

/-- The mirrored channels of this cartridge hang on the channels, EN and the OWNED mask. -/
theorem State.mirroredOwn_congr {s t : State} (hc : t.chans = s.chans) (hen : t.flag Reg.OVR_CTRL_EN = s.flag Reg.OVR_CTRL_EN)
    (hm : ∀ i < 2, t.getF Reg.OVR_OWN_MASK i = s.getF Reg.OVR_OWN_MASK i) : t.mirroredOwn = s.mirroredOwn := by
  refine List.filter_congr fun n hn => ?_
  have hn' : n / 32 < 2 := by
    have := List.mem_range.1 hn
    omega
  simp only [State.chan, hc, State.owns, hen, hm _ hn']

theorem State.mirroredOwn_congr_regs {s t : State} (hc : t.chans = s.chans) (hr : t.regs = s.regs) : t.mirroredOwn = s.mirroredOwn :=
  State.mirroredOwn_congr hc (State.flag_congr hr _ _) fun _ _ => State.getF_congr hr _ _

@[simp] theorem State.ovrCount_mirroredOwn (f : List Byte) : (s.ovrCount f).mirroredOwn = s.mirroredOwn :=
  State.mirroredOwn_congr (s.ovrCount_chans f) (by rw [State.flag, State.ovrCount_getF _ _ _ _ (by decide), State.flag])
    (s.ovrCount_ownMaskWord f)

/-- What every step of a sequence of updates leaves, the sequence leaves. -/
theorem State.foldl_kept {α β : Type} (proj : State → α) (f : State → β → State) (h : ∀ s x, proj (f s x) = proj s) (l : List β)
    (s : State) : proj (l.foldl f s) = proj s := by
  induction l generalizing s with
  | nil => rfl
  | cons x l ih => rw [List.foldl_cons, ih, h]

/-- The commands by code, and whether they run. -/
def State.cmdKinds (s : State) : List (Nat × Bool) := s.cmds.map (fun c => (c.op, c.running))

/-- What a link that goes down finds: the register store, the channels and the commands. -/
def State.linkView (s : State) : Sparse Word × Sparse Chan × List (Nat × Bool) := (s.regs, s.chans, s.cmdKinds)

/-- Commands alike by code hold alike no MIRROR_RESYNC that runs. -/
theorem State.resyncs_none {s t : State} (h : t.cmdKinds = s.cmdKinds) (hs : s.cmds.filter (fun c => c.op == 0x09 && c.running) = []) :
    t.cmds.filter (fun c => c.op == 0x09 && c.running) = [] := by
  have hfilter : ∀ u : State, (u.cmds.filter (fun c => c.op == 0x09 && c.running)).map (fun c => (c.op, c.running)) =
      u.cmdKinds.filter (fun e => e.1 == 0x09 && e.2) := fun u => by
    rw [State.cmdKinds, List.filter_map]
    rfl
  rw [← List.map_eq_nil_iff (f := fun c : Cmd => (c.op, c.running)), hfilter, h, ← hfilter, hs, List.map_nil]

theorem State.unmirror_linkView (n : Nat) (g : Word) : (s.unmirror n g).linkView = s.linkView := by
  have hkinds : (s.unmirror n g).cmdKinds = s.cmdKinds := by
    simp only [State.unmirror, State.cmdKinds, List.map_map]
    refine List.map_congr_left fun c _ => ?_
    simp only [Function.comp]
    split <;> rfl
  rw [State.linkView, hkinds]
  rfl

/-- Dropping queued frames leaves the register store, the channels and what the commands are. -/
theorem State.dropOvr_linkView (p : OvrFrame → Bool) : (s.dropOvr p).linkView = s.linkView := by
  rw [State.dropOvr]
  refine (State.foldl_kept State.linkView _ (fun u f => ?_) _ _).trans rfl
  have hcredit : (if f.ty = 3 then u else u.setOwn f.chan { u.own f.chan with sent := (u.own f.chan).sent - 1 }).linkView = u.linkView := by
    split <;> rfl
  have hunsent : ∀ v : State, (if f.ty = 1 ∧ f.committed = false then v.unmirror f.chan f.seq else v).linkView = v.linkView := fun v => by
    split
    · exact v.unmirror_linkView _ _
    · rfl
  dsimp only
  split
  · exact (hunsent _).trans hcredit
  · exact (hunsent _).trans hcredit

theorem State.dropProv_linkView (n : Nat) (p : Prov → Bool) :
    ((s.dropProv n p).linkView, (s.dropProv n p).ovr.good) = (s.linkView, s.ovr.good) := rfl

theorem State.causeAll_ovr (bit : Nat) : (s.causeAll bit).ovr = s.ovr := by
  refine State.foldl_kept State.ovr _ (fun u n => ?_) _ _
  split <;> rfl

theorem State.causeAll_linkView (bit : Nat) : (s.causeAll bit).linkView = s.linkView := by
  refine State.foldl_kept State.linkView _ (fun u n => ?_) _ _
  split <;> rfl

theorem State.diverge_of_none (event cause : Nat) (h : s.mirroredOwn = []) : s.diverge event cause = s := by
  simp only [State.diverge, h, State.each, List.foldl_nil]

/-- UP and LAST_CAUSE are none of what says which mirrored channels are this cartridge's. -/
theorem State.mirroredOwn_lowered {t : State} {cause : Nat} (hc : t.chans = s.chans)
    (hr : t.regs = ((s.lower Reg.OVR_STATUS_UP).setF Reg.OVR_STATUS_LAST_CAUSE 0 cause).regs) : t.mirroredOwn = s.mirroredOwn := by
  have hget : ∀ g i, g.key i ≠ Reg.OVR_STATUS_LAST_CAUSE.key 0 → g.key i ≠ Reg.OVR_STATUS_UP.key 0 → t.getF g i = s.getF g i :=
    fun g i hcause hup => (State.getF_congr hr g i).trans ((State.getF_setF_ne _ _ _ _ _ _ hcause).trans (State.getF_lower_ne _ _ _ _ _ hup))
  have hmask : ∀ i < 2, t.getF Reg.OVR_OWN_MASK i = s.getF Reg.OVR_OWN_MASK i := fun i hi =>
    hget _ _ (by interval_cases i <;> decide) (by interval_cases i <;> decide)
  exact State.mirroredOwn_congr hc (by rw [State.flag, hget _ _ (by decide) (by decide), State.flag]) hmask

/-- A link goes down that mirrors no channel of this cartridge and has no MIRROR_RESYNC that runs: UP and LAST_CAUSE alone change
in the register store. -/
theorem State.linkDown_of_quiet (cause : Nat) (hup : s.linkUp = true) (hmir : s.mirroredOwn = [])
    (hcmds : s.cmds.filter (fun c => c.op == 0x09 && c.running) = []) :
    (s.linkDown cause).regs = ((s.lower Reg.OVR_STATUS_UP).setF Reg.OVR_STATUS_LAST_CAUSE 0 cause).regs ∧
      (s.linkDown cause).ovr.good = 0 := by
  suffices h : ∀ t, s.linkDown cause = t →
      t.regs = ((s.lower Reg.OVR_STATUS_UP).setF Reg.OVR_STATUS_LAST_CAUSE 0 cause).regs ∧ t.ovr.good = 0 from h _ rfl
  intro t ht
  rw [State.linkDown, if_neg (by simp [hup])] at ht
  extract_lets dropped lowered o emptied lagged gone diverged told at ht
  obtain ⟨hregs, hchans, hkinds⟩ : dropped.regs = s.regs ∧ dropped.chans = s.chans ∧ dropped.cmdKinds = s.cmdKinds := by
    simpa only [State.linkView, Prod.mk.injEq] using s.dropOvr_linkView (fun _ => true)
  have hlowered : lowered.regs = ((s.lower Reg.OVR_STATUS_UP).setF Reg.OVR_STATUS_LAST_CAUSE 0 cause).regs := by
    simp only [lowered, State.setF, State.lower, hregs]
  have hquiet : emptied.mirroredOwn = [] := (s.mirroredOwn_lowered (t := emptied) hchans hlowered).trans hmir
  have hlagged : lagged = emptied := by simp only [lagged, hquiet, State.each, List.foldl_nil]
  have hkept : (gone.linkView, gone.ovr.good) = (lagged.linkView, lagged.ovr.good) :=
    State.foldl_kept (fun u => (u.linkView, u.ovr.good)) _ (fun u n => u.dropProv_linkView n _) _ _
  obtain ⟨⟨hregs', hchans', hkinds'⟩, hgood⟩ : (gone.regs = emptied.regs ∧ gone.chans = emptied.chans ∧ gone.cmdKinds = emptied.cmdKinds) ∧
      gone.ovr.good = emptied.ovr.good := by
    simpa only [State.linkView, Prod.mk.injEq, hlagged] using hkept
  have hdiverged : diverged = gone :=
    State.diverge_of_none _ _ _ ((State.mirroredOwn_congr_regs hchans' hregs').trans hquiet)
  have htold : told.linkView = gone.linkView := by
    rw [State.causeAll_linkView, hdiverged]
    simp [State.linkView, State.cmdKinds]
  obtain ⟨hregs'', -, hkinds''⟩ : told.regs = gone.regs ∧ told.chans = gone.chans ∧ told.cmdKinds = gone.cmdKinds := by
    simpa only [State.linkView, Prod.mk.injEq] using htold
  rw [State.resyncs_none (hkinds''.trans (hkinds'.trans hkinds)) hcmds, List.foldl_nil] at ht
  subst ht
  refine ⟨hregs''.trans (hregs'.trans hlowered), ?_⟩
  rw [State.causeAll_ovr, State.emcy_ovr, State.event_ovr, hdiverged, hgood]

end Sys2Proof.Machine
end

section
/-! CANCEL and HEARTBEAT frames, their notes, and invalid frames (spec/01 R15; spec/11 R244, R246, R250, R253, R255; spec/15 R325). -/

namespace Sys2Proof.Machine
variable (s : State)

/-! ### Frames while this side is paired (R237) -/

theorem State.ovrRx_of_unpaired (ty : Nat) (f : List Byte) (g : State → State) (h : s.flag Reg.OVR_CTRL_EN = false) : s.ovrRx ty f g = s := by
  simp [State.ovrRx, State.when', h]

theorem State.ovrRx_of_valid {ty : Nat} {f : List Byte} (g : State → State) (hen : s.flag Reg.OVR_CTRL_EN = true)
    (hv : s.ovrValid ty f = true) : s.ovrRx ty f g = g (s.ovrCount f) := by
  simp [State.ovrRx, State.when', hen, hv]

/-- No frame has an effect while EN is 0. -/
theorem exec_ovrFrames_unpaired (f : List Byte) (hl : s.live = true) (h : s.flag Reg.OVR_CTRL_EN = false) :
    exec (.ovrMirrorFrameRx f) s = .next s ∧ exec (.ovrSealNoteRx f) s = .next s ∧ exec (.ovrCancelRx f) s = .next s ∧
      exec (.ovrHeartbeatRx f) s = .next s := by
  change execOvrMirrorFrameRx f s = _ ∧ execOvrSealNoteRx f s = _ ∧ execOvrCancelRx f s = _ ∧ execOvrHeartbeatRx f s = _
  simp only [execOvrMirrorFrameRx, execOvrSealNoteRx, execOvrCancelRx, execOvrHeartbeatRx, State.whenLive_of_live _ _ hl,
    State.ovrRx_of_unpaired _ _ _ _ h, and_self]

theorem State.tryUp_of_up (h : s.linkUp = true) : s.tryUp = s := by simp [State.tryUp, h]

section
variable {s} {f : List Byte} (hl : s.live = true) (hen : s.flag Reg.OVR_CTRL_EN = true)
include hl hen

/-! ### CANCEL (R250) -/

theorem exec_ovrCancelRx (hv : s.ovrValid 3 f = true)
    (hopening : BitVec.ofNat 16 (leAt f 18 2) = (s.intake ((byteAt f 16).toNat % 64)).opening) :
    exec (.ovrCancelRx f) s = .next (((s.ovrCount f).dropProv ((byteAt f 16).toNat % 64) (fun g => g.kind == 1 && !g.committed &&
      decide ((g.seq - BitVec.ofNat 32 (leAt f 20 4)).toNat < (byteAt f 17).toNat))).grant ((byteAt f 16).toNat % 64) false) := by
  change execOvrCancelRx f s = _
  rw [execOvrCancelRx, State.whenLive_of_live _ _ hl, State.ovrRx_of_valid _ _ hen hv]
  simp only [State.ovrCount_intake, hopening, bne_self_eq_false, Bool.false_eq_true, if_false]

theorem ovrCancelRx_spec (hv : s.ovrValid 3 f = true)
    (hopening : BitVec.ofNat 16 (leAt f 18 2) = (s.intake ((byteAt f 16).toNat % 64)).opening) : ∃ t, exec (.ovrCancelRx f) s = .next t ∧
      t.ovr.prov = s.ovr.prov.filter (fun g => !(g.chan == (byteAt f 16).toNat % 64 && (g.kind == 1 && !g.committed &&
        decide ((g.seq - BitVec.ofNat 32 (leAt f 20 4)).toNat < (byteAt f 17).toNat)))) ∧ t.chans = s.chans ∧ t.rwc = s.rwc ∧
      t.getF Reg.OVR_CNT_RX_COUNT = (s.getF Reg.OVR_CNT_RX_COUNT + 1) % 2 ^ 32 := by
  refine ⟨_, exec_ovrCancelRx hl hen hv hopening, ?_, by simp, by simp, ?_⟩
  · rw [State.grant_prov, State.ovrCount_withRegs]
    rfl
  · rw [State.getF_congr (State.grant_regs _ _ _), State.getF_congr (State.dropProv_regs _ _ _), State.ovrCount_rxCount]

/-! ### HEARTBEAT (R244, R253, R255) -/

/-- The valid HEARTBEATs that count toward the link. -/
def State.withGood (s : State) (k : Nat) : State := { s with ovr := { s.ovr with good := k } }

theorem exec_ovrHeartbeatRx_overlap (hv : s.ovrValid 4 f = true) (hmeet : masksMeet (slice f 16 8) s.ownMask = true) :
    exec (.ovrHeartbeatRx f) s = .next ((((s.ovrCount f).raise Reg.OVR_EVENTS_OVERLAP).withGood 0).linkDown 3) := by
  change execOvrHeartbeatRx f s = _
  rw [execOvrHeartbeatRx, State.whenLive_of_live _ _ hl, State.ovrRx_of_valid _ _ hen hv]
  simp only [State.ovrCount_ownMask, hmeet, if_true]
  rfl

theorem exec_ovrHeartbeatRx_unpaired (hv : s.ovrValid 4 f = true) (hmeet : masksMeet (slice f 16 8) s.ownMask = false)
    (hoff : bitOf (byteAt f 24).toNat 0 = false) :
    exec (.ovrHeartbeatRx f) s = .next (((s.ovrCount f).withGood 0).linkDown 4) := by
  change execOvrHeartbeatRx f s = _
  rw [execOvrHeartbeatRx, State.whenLive_of_live _ _ hl, State.ovrRx_of_valid _ _ hen hv]
  simp only [State.ovrCount_ownMask, hmeet, hoff, if_true, Bool.false_eq_true, if_false, Bool.not_false]
  rfl

/-- What a HEARTBEAT leaves before its notes. -/
def State.beaten (s : State) (f : List Byte) : State := (s.ovrCount f).withGood (min 3 (s.ovr.good + 1))

theorem exec_ovrHeartbeatRx_beat (hv : s.ovrValid 4 f = true) (hup : s.linkUp = true) (hmeet : masksMeet (slice f 16 8) s.ownMask = false)
    (hon : bitOf (byteAt f 24).toNat 0 = true) (hpower : bitOf (byteAt f 24).toNat 1 = false) : exec (.ovrHeartbeatRx f) s = .next
      (((List.range (min 8 (byteAt f 25).toNat)).map (fun i => slice f (32 + 16 * i) 16)).foldl State.noteRx (s.beaten f)) := by
  have hgood : (s.ovrCount f).ovr.good = s.ovr.good := by rw [State.ovrCount_withRegs]
  have hbeaten : (s.beaten f).tryUp = s.beaten f := State.tryUp_of_up _ ((s.ovrCount_linkUp f).trans hup)
  change execOvrHeartbeatRx f s = _
  rw [execOvrHeartbeatRx, State.whenLive_of_live _ _ hl, State.ovrRx_of_valid _ _ hen hv]
  simp only [State.ovrCount_ownMask, hmeet, hon, hpower, Bool.false_eq_true, if_false, Bool.not_true]
  rw [← hbeaten, State.beaten, hgood]
  rfl

end

theorem State.beaten_withRegs (f : List Byte) : s.beaten f = { s with
    regs := (s.ovrCount f).regs, ovr := { s.ovr with fseqRx := byteAt f 1, rxSeen := true, good := min 3 (s.ovr.good + 1) } } := by
  rw [State.beaten, State.ovrCount_withRegs]
  rfl

/-! ### The notes of a HEARTBEAT (R15, R244, R246, R325) -/

section
variable {s} {n : Nat} (hopen : (s.chan n).isOpen = true) (hmirror : (s.chan n).mirror = true)
include hopen hmirror

theorem State.noteGrant_of_mirrored (total : Word) : s.noteGrant n total = s.setOwn n { s.own n with granted := total } := by
  simp [State.noteGrant, hopen, hmirror]

/-- MIRRORED_HEAD as a CONFIRM up to `seq` leaves it. -/
def Chan.confirmed (c : Chan) (seq : Word) : Chan :=
  if c.halted then c else { c with mirrored := seqMax c.mirrored (seqMin seq c.durable) }

/-- A CONFIRM without LAG, for the channel's opening, where no command waits. -/
theorem State.noteConfirm_spec (seq : Word) (hrun : s.cmds.filter (·.running) = []) :
    let t := s.noteConfirm n seq false (s.chan n).opening
    t.chan n = (s.chan n).confirmed seq ∧ (t.own n).lagging = (s.own n).lagging ∧ ∀ m, m ≠ n → t.chan m = s.chan m := by
  suffices h : ∀ t, s.noteConfirm n seq false (s.chan n).opening = t →
      t.chan n = (s.chan n).confirmed seq ∧ (t.own n).lagging = (s.own n).lagging ∧ ∀ m, m ≠ n → t.chan m = s.chan m from h _ rfl
  intro t ht
  rw [State.noteConfirm] at ht
  extract_lets head headed o gone taken at ht
  rw [if_neg (by simp [hopen, hmirror])] at ht
  obtain ⟨hchan, hother, hlagging, hcmds⟩ : headed.chan n = (s.chan n).confirmed seq ∧ (∀ m, m ≠ n → headed.chan m = s.chan m) ∧
      o.lagging = (s.own n).lagging ∧ headed.cmds = s.cmds := by
    simp only [o, headed, head, Chan.confirmed]
    split
    · exact ⟨rfl, fun _ _ => rfl, rfl, rfl⟩
    · exact ⟨State.chan_setChan_self _ _ _, fun m hm => State.chan_setChan_ne _ _ _ _ hm, rfl, rfl⟩
  have htaken : taken = headed.setOwn n { o with
      extras := o.extras.drop gone, posX := o.posX - gone, pos := if seqLt o.pos head then head else o.pos } := if_pos rfl
  rw [if_neg (by decide), htaken, State.settleCmds_of_idle _ (by rw [State.setOwn_cmds, hcmds, hrun])] at ht
  subst ht
  exact ⟨hchan, by rw [State.own_setOwn_self, hlagging], hother⟩

end

section
variable {s} {f : List Byte} (hl : s.live = true) (hen : s.flag Reg.OVR_CTRL_EN = true) (hv : s.ovrValid 4 f = true)
  (hup : s.linkUp = true) (hmeet : masksMeet (slice f 16 8) s.ownMask = false)
  (hon : bitOf (byteAt f 24).toNat 0 = true) (hpower : bitOf (byteAt f 24).toNat 1 = false)
include hl hen hv hup hmeet hon hpower

/-- A HEARTBEAT without notes. -/
theorem exec_ovrHeartbeatRx_bare (hnotes : byteAt f 25 = 0) : exec (.ovrHeartbeatRx f) s = .next (s.beaten f) := by
  rw [exec_ovrHeartbeatRx_beat hl hen hv hup hmeet hon hpower, hnotes]
  rfl

/-- A HEARTBEAT with one note. -/
theorem exec_ovrHeartbeatRx_note (hnotes : byteAt f 25 = 1) :
    exec (.ovrHeartbeatRx f) s = .next ((s.beaten f).noteRx (slice f 32 16)) := by
  rw [exec_ovrHeartbeatRx_beat hl hen hv hup hmeet hon hpower, hnotes]
  rfl

variable {n : Nat} (hn : n < 64) (hnotes : byteAt f 25 = 1) (hchan : (byteAt f 33).toNat = n)
  (hopen : (s.chan n).isOpen = true) (hmirror : (s.chan n).mirror = true)
include hn hnotes hchan hopen hmirror

theorem exec_ovrHeartbeatRx_grant (hkind : byteAt f 32 = 5) : ∃ t, exec (.ovrHeartbeatRx f) s = .next t ∧
    (t.own n).granted = BitVec.ofNat 32 (leAt f 36 4) ∧ (∀ m, m ≠ n → t.own m = s.own m) ∧ t.chans = s.chans := by
  have hchans : (s.beaten f).chans = s.chans := by rw [State.beaten_withRegs]
  have hchan' : (s.beaten f).chan n = s.chan n := by rw [State.chan, hchans, State.chan]
  have hnote : (s.beaten f).noteRx (slice f 32 16) = (s.beaten f).noteGrant n (BitVec.ofNat 32 (leAt f 36 4)) := by
    simp [State.noteRx, byteAt_slice, leAt_slice, hkind, hchan, Nat.not_le.2 hn]
  refine ⟨_, exec_ovrHeartbeatRx_note hl hen hv hup hmeet hon hpower hnotes, ?_⟩
  rw [hnote, State.noteGrant_of_mirrored (by rw [hchan', hopen]) (by rw [hchan', hmirror])]
  refine ⟨by rw [State.own_setOwn_self], fun m hm => ?_, hchans⟩
  rw [State.own_setOwn_ne _ _ _ _ hm, State.own, State.beaten_withRegs, State.own]

theorem exec_ovrHeartbeatRx_confirm (hkind : byteAt f 32 = 6) (hlag : bitOf (byteAt f 34).toNat 0 = false)
    (hopening : BitVec.ofNat 16 (leAt f 40 2) = (s.chan n).opening) (hrun : s.cmds.filter (·.running) = []) :
    ∃ t, exec (.ovrHeartbeatRx f) s = .next t ∧ t.chan n = (s.chan n).confirmed (BitVec.ofNat 32 (leAt f 36 4)) ∧
      (t.own n).lagging = (s.own n).lagging ∧ ∀ m, m ≠ n → t.chan m = s.chan m := by
  have hchan' : ∀ m, (s.beaten f).chan m = s.chan m := fun m => by rw [State.chan, State.beaten_withRegs, State.chan]
  have hown : (s.beaten f).own n = s.own n := by rw [State.own, State.beaten_withRegs, State.own]
  have hnote : (s.beaten f).noteRx (slice f 32 16) =
      (s.beaten f).noteConfirm n (BitVec.ofNat 32 (leAt f 36 4)) false ((s.beaten f).chan n).opening := by
    simp [State.noteRx, byteAt_slice, leAt_slice, hkind, hchan, Nat.not_le.2 hn, hlag, hopening, hchan']
  refine ⟨_, exec_ovrHeartbeatRx_note hl hen hv hup hmeet hon hpower hnotes, ?_⟩
  obtain ⟨hself, hlagging, hother⟩ := State.noteConfirm_spec (s := s.beaten f) (n := n) (by rw [hchan', hopen]) (by rw [hchan', hmirror])
    (BitVec.ofNat 32 (leAt f 36 4)) (by rw [State.beaten_withRegs, hrun])
  rw [hnote]
  exact ⟨by rw [hself, hchan'], by rw [hlagging, hown], fun m hm => (hother m hm).trans (hchan' m)⟩

end

/-! ### A link that a frame takes down -/

section
variable {s} {f : List Byte}
  (hup : s.linkUp = true) (hmir : s.mirroredOwn = []) (hcmds : s.cmds.filter (fun c => c.op == 0x09 && c.running) = [])
include hup hmir hcmds

/-- After a quiet link went down: the link's state, its cause, and every other field. -/
theorem State.linkDown_fields (cause : Nat) (hc : cause < 8) : (s.linkDown cause).linkUp = false ∧
    (s.linkDown cause).getF Reg.OVR_STATUS_LAST_CAUSE = cause ∧ (s.linkDown cause).ovr.good = 0 ∧
      fieldsKept s (s.linkDown cause) [(Reg.OVR_STATUS_UP, 0), (Reg.OVR_STATUS_LAST_CAUSE, 0)] := by
  obtain ⟨hregs, hgood⟩ := s.linkDown_of_quiet cause hup hmir hcmds
  have hget : ∀ g i, (s.linkDown cause).getF g i = ((s.lower Reg.OVR_STATUS_UP).setF Reg.OVR_STATUS_LAST_CAUSE 0 cause).getF g i :=
    State.getF_congr hregs
  refine ⟨?_, ?_, hgood, fun g i hne => ?_⟩
  · rw [State.linkUp, State.flag, hget, State.getF_setF_ne _ _ _ _ _ _ (by decide), State.getF_lower_self _ _ _ (by decide)]
    rfl
  · rw [hget, State.getF_setF_self _ _ _ _ (by decide)]
    exact Nat.mod_eq_of_lt hc
  · rw [hget, State.getF_setF_ne _ _ _ _ _ _ (hne (Reg.OVR_STATUS_LAST_CAUSE, 0) (by simp)),
      State.getF_lower_ne _ _ _ _ _ (hne (Reg.OVR_STATUS_UP, 0) (by simp))]


/-- States alike in UP, EN, the OWNED mask, the channels and the commands are alike in what a link that goes down meets. -/
theorem State.quiet_congr {t : State} (hc : t.chans = s.chans) (hcm : t.cmds = s.cmds)
    (h : ∀ e ∈ [(Reg.OVR_STATUS_UP, 0), (Reg.OVR_CTRL_EN, 0), (Reg.OVR_OWN_MASK, 0), (Reg.OVR_OWN_MASK, 1)],
      t.getF e.1 e.2 = s.getF e.1 e.2) :
    t.linkUp = true ∧ t.mirroredOwn = [] ∧ t.cmds.filter (fun c => c.op == 0x09 && c.running) = [] := by
  simp only [List.forall_mem_cons, List.not_mem_nil, false_implies, implies_true, and_true] at h
  obtain ⟨hUp, hEn, hmask0, hmask1⟩ := h
  refine ⟨?_, (State.mirroredOwn_congr hc ?_ fun i hi => ?_).trans hmir, by rw [hcm, hcmds]⟩
  · rw [← hup, State.linkUp, State.flag, hUp, State.linkUp, State.flag]
  · rw [State.flag, hEn, State.flag]
  · interval_cases i
    · exact hmask0
    · exact hmask1

variable (hl : s.live = true) (hen : s.flag Reg.OVR_CTRL_EN = true)
include hl hen

/-- A HEARTBEAT whose OWNED mask meets this cartridge's. -/
theorem ovrHeartbeatRx_overlap (hv : s.ovrValid 4 f = true) (hmeet : masksMeet (slice f 16 8) s.ownMask = true) :
    ∃ t, exec (.ovrHeartbeatRx f) s = .next t ∧ t.linkUp = false ∧ t.getF Reg.OVR_EVENTS_OVERLAP = 1 ∧
      t.getF Reg.OVR_STATUS_LAST_CAUSE = 3 := by
  have hget : ∀ g i, g.key i ≠ Reg.OVR_EVENTS_OVERLAP.key 0 →
      (((s.ovrCount f).raise Reg.OVR_EVENTS_OVERLAP).withGood 0).getF g i = (s.ovrCount f).getF g i :=
    fun g i hne => State.getF_raise_ne _ _ _ _ _ hne
  obtain ⟨hup', hmir', hcmds'⟩ := State.quiet_congr (t := ((s.ovrCount f).raise Reg.OVR_EVENTS_OVERLAP).withGood 0) hup hmir hcmds
    (s.ovrCount_chans f) (s.ovrCount_cmds f) (by
      simp only [List.forall_mem_cons, List.not_mem_nil, false_implies, implies_true, and_true]
      refine ⟨?_, ?_, ?_, ?_⟩ <;> rw [hget _ _ (by decide), State.ovrCount_getF _ _ _ _ (by decide)])
  obtain ⟨hdown, hcause, -, hkept⟩ := State.linkDown_fields hup' hmir' hcmds' 3 (by decide)
  refine ⟨_, exec_ovrHeartbeatRx_overlap hl hen hv hmeet, hdown, ?_, hcause⟩
  rw [hkept _ _ (by decide)]
  exact State.getF_raise_self _ _ _ (by decide) (by decide)

/-- A HEARTBEAT of a partner whose EN is 0. -/
theorem ovrHeartbeatRx_unpaired (hv : s.ovrValid 4 f = true) (hmeet : masksMeet (slice f 16 8) s.ownMask = false)
    (hoff : bitOf (byteAt f 24).toNat 0 = false) :
    ∃ t, exec (.ovrHeartbeatRx f) s = .next t ∧ t.linkUp = false ∧ t.getF Reg.OVR_STATUS_LAST_CAUSE = 4 ∧ t.ovr.good = 0 := by
  obtain ⟨hup', hmir', hcmds'⟩ := State.quiet_congr (t := (s.ovrCount f).withGood 0) hup hmir hcmds
    (s.ovrCount_chans f) (s.ovrCount_cmds f) (fun e he => State.ovrCount_getF _ _ _ _ (by revert e; decide))
  obtain ⟨hdown, hcause, hgood, -⟩ := State.linkDown_fields hup' hmir' hcmds' 4 (by decide)
  exact ⟨_, exec_ovrHeartbeatRx_unpaired hl hen hv hmeet hoff, hdown, hcause, hgood⟩

end

/-! ### Invalid frames (R253) -/

/-- What an invalid frame leaves before the limit is judged: `k` of them in the window. -/
def State.badCounted (s : State) (k : Nat) : State :=
  State.bump { s with ovr := { s.ovr with errs := k, good := 0 } } Reg.OVR_CNT_BAD_COUNT

theorem exec_ovrInvalidFrameRx (fresh : Bool) (hl : s.live = true) (hen : s.flag Reg.OVR_CTRL_EN = true) :
    exec (.ovrInvalidFrameRx fresh) s = .next
      (let k := if fresh then 1 else s.ovr.errs + 1
       if s.getF Reg.OVR_CTRL_ERR_LIM < k then (s.badCounted k).linkDown 2 else s.badCounted k) := by
  have hlim : ∀ k, (s.badCounted k).getF Reg.OVR_CTRL_ERR_LIM = s.getF Reg.OVR_CTRL_ERR_LIM := fun k =>
    State.getF_bump_ne _ _ _ _ _ _ (by decide)
  change execOvrInvalidFrameRx fresh s = _
  rw [execOvrInvalidFrameRx, State.whenLive_of_live _ _ hl, State.when', if_pos hen]
  dsimp only
  rw [← hlim]
  rfl

theorem State.badCounted_fieldsKept (k : Nat) : fieldsKept s (s.badCounted k) [(Reg.OVR_CNT_BAD_COUNT, 0)] := fun g i hne =>
  State.getF_bump_ne _ _ _ _ _ _ (hne (Reg.OVR_CNT_BAD_COUNT, 0) (by simp))

/-- The clause of O35 about invalid frames. -/
theorem ovrInvalidFrameRx_spec (fresh : Bool) (hl : s.live = true) (hen : s.flag Reg.OVR_CTRL_EN = true) :
    let k := if fresh then 1 else s.ovr.errs + 1
    (k ≤ s.getF Reg.OVR_CTRL_ERR_LIM → ∃ t, exec (.ovrInvalidFrameRx fresh) s = .next t ∧ t.ovr = { s.ovr with errs := k, good := 0 } ∧
      t.getF Reg.OVR_CNT_BAD_COUNT = (s.getF Reg.OVR_CNT_BAD_COUNT + 1) % 2 ^ 32 ∧ t = { s with regs := t.regs, ovr := t.ovr } ∧
      fieldsKept s t [(Reg.OVR_CNT_BAD_COUNT, 0)]) ∧
    (s.getF Reg.OVR_CTRL_ERR_LIM < k → s.linkUp = true → s.mirroredOwn = [] → s.cmds.filter (fun c => c.op == 0x09 && c.running) = [] →
      ∃ t, exec (.ovrInvalidFrameRx fresh) s = .next t ∧ t.linkUp = false ∧ t.getF Reg.OVR_STATUS_LAST_CAUSE = 2) := by
  intro k
  constructor
  · intro hle
    refine ⟨s.badCounted k, ?_, rfl, State.getF_bump_self _ _ _ _ (by decide), rfl, s.badCounted_fieldsKept k⟩
    rw [exec_ovrInvalidFrameRx s fresh hl hen]
    exact congrArg _ (if_neg (Nat.not_lt.2 hle))
  · intro hlt hup hmir hcmds
    obtain ⟨hup', hmir', hcmds'⟩ := State.quiet_congr (t := s.badCounted k) hup hmir hcmds rfl rfl
      (fun e he => s.badCounted_fieldsKept k _ _ (by revert e; decide))
    obtain ⟨hdown, hcause, -, -⟩ := State.linkDown_fields hup' hmir' hcmds' 2 (by decide)
    refine ⟨(s.badCounted k).linkDown 2, ?_, hdown, hcause⟩
    rw [exec_ovrInvalidFrameRx s fresh hl hen]
    exact congrArg _ (if_pos hlt)

end Sys2Proof.Machine
end

section
/-! MIRROR frames of provisional grains (spec/11 R246, R249). -/

namespace Sys2Proof.Machine
variable (s : State)

/-! ### MIRROR frames (R246, R249) -/

theorem seqMax_succ (x : Word) : seqMax x (x + 1) = x + 1 := if_pos (seqLt_succ x)

/-- A frame that is counted finds the link up and the port not past step 3 of a power loss. -/
theorem State.ovrCount_followed {s : State} {f : List Byte} (hstep : s.getF Reg.ENG_STATUS_PL_STEP < 3) (hup : s.linkUp = true) :
    (s.ovrCount f).linkUp = true ∧ (s.ovrCount f).pastStep3 = false :=
  ⟨(s.ovrCount_linkUp f).trans hup, (s.ovrCount_pastStep3 f).trans (by simpa [State.pastStep3] using hstep)⟩

/-- A member whose turn has not come waits. -/
theorem State.confirm_of_waiting {n : Nat} {g : Prov} (hpend : s.pendingOf n = [g]) (hwait : (s.intake n).next g = false) :
    s.confirm n = s := by
  have hrun : s.confirmRun n 1 = s := by
    simp only [State.confirmRun, hpend, hwait, Bool.and_false, Bool.false_eq_true, if_false]
  simp only [State.confirm, hpend, List.length_singleton, hrun, if_true]

theorem State.memberRx_of_no_credit {n kind : Nat} {committed : Bool} {hdr body : List Byte} (hopen : (s.intake n).isOpen = true)
    (hout : (s.intake n).outstanding = []) : s.memberRx n kind committed hdr body = s.confirmNote n true := by
  simp only [State.memberRx, hout, hopen, if_true]

section
variable {s} {f : List Byte} {n : Nat} (hl : s.live = true) (hen : s.flag Reg.OVR_CTRL_EN = true)
  (hn : (byteAt f 19).toNat % 64 = n) (hup : s.linkUp = true) (hopen : (s.intake n).isOpen = true)
include hl hen hn

/-- The frame of a provisional grain. -/
theorem exec_ovrMirrorFrameRx_provisional (hv : s.ovrValid 1 f = true) (hprov : bitOf (byteAt f 2).toNat 0 = false)
    (hkind : (byteAt f 18).toNat = 1) :
    exec (.ovrMirrorFrameRx f) s = .next ((s.ovrCount f).memberRx n 1 false (slice f 16 32) (slice f 48 4096)) := by
  have hkind' : (byteAt (slice f 16 32) 2).toNat = 1 := by rw [byteAt_slice _ _ _ _ (by decide), hkind]
  have hn' : (byteAt (slice f 16 32) 3).toNat % 64 = n := by rw [byteAt_slice _ _ _ _ (by decide), hn]
  change execOvrMirrorFrameRx f s = _
  rw [execOvrMirrorFrameRx, State.whenLive_of_live _ _ hl, State.ovrRx_of_valid _ _ hen hv]
  simp only [hkind', hn', hprov, true_or, if_true]

include hup hopen

/-- Without a credit a provisional grain is answered. -/
theorem ovrMirrorFrameRx_no_credit (hv : s.ovrValid 1 f = true) (hprov : bitOf (byteAt f 2).toNat 0 = false)
    (hkind : (byteAt f 18).toNat = 1) (hout : (s.intake n).outstanding = []) : ∃ t, exec (.ovrMirrorFrameRx f) s = .next t ∧
      t.ovr.notes = s.ovr.notes ++ [noteBytes 6 n 1 (s.intake n).confirmed (leBytes 2 (s.intake n).opening.toNat)] ∧
      t.getF Reg.OVR_CNT_RX_COUNT = (s.getF Reg.OVR_CNT_RX_COUNT + 1) % 2 ^ 32 ∧ t.ovr.prov = s.ovr.prov ∧
      t = { s with regs := t.regs, ovr := t.ovr } := by
  have hnote : (s.ovrCount f).confirmNote n true = { s.ovrCount f with ovr := { (s.ovrCount f).ovr with
      notes := (s.ovrCount f).ovr.notes ++ [noteBytes 6 n 1 (s.intake n).confirmed (leBytes 2 (s.intake n).opening.toNat)] } } := by
    simp only [State.confirmNote, State.ovrCount_intake]
    exact State.note_of_up _ _ ((s.ovrCount_linkUp f).trans hup)
  refine ⟨(s.ovrCount f).confirmNote n true, ?_, ?_⟩
  · rw [exec_ovrMirrorFrameRx_provisional hl hen hn hv hprov hkind,
      State.memberRx_of_no_credit _ (by rw [State.ovrCount_intake, hopen]) (by rw [State.ovrCount_intake, hout])]
  · rw [hnote]
    refine ⟨?_, s.ovrCount_rxCount f, ?_, ?_⟩ <;> rw [State.ovrCount_withRegs]

variable {z p : Nat} {rest : List (Nat × Nat)} (hout : (s.intake n).outstanding = (z, p) :: rest) (hp : p < 4096)
  (hsound : s.ecc.bad = []) (hstep : s.getF Reg.ENG_STATUS_PL_STEP < 3) (hlive : (s.intake n).halted = false)
  (hopening : BitVec.ofNat 16 (leAt f 34 2) = (s.intake n).opening) (hpend : s.pendingOf n = [])
  (hrec : (s.intake n).received = (s.intake n).confirmed)
include hout hp hsound hstep hlive hopening hpend hrec

/-- A provisional grain that follows waits on its credit's page for the COMMIT note. -/
theorem ovrMirrorFrameRx_follows (hv : s.ovrValid 1 f = true) (hprov : bitOf (byteAt f 2).toNat 0 = false)
    (hkind : (byteAt f 18).toNat = 1) (hseq : BitVec.ofNat 32 (leAt f 20 4) = (s.intake n).confirmed + 1) :
    ∃ (t : State) (g : Prov),
        exec (.ovrMirrorFrameRx f) s = .next t ∧ g.chan = n ∧ g.kind = 1 ∧ g.seq = BitVec.ofNat 32 (leAt f 20 4) ∧ g.page = p ∧ g.cost = z ∧
        g.committed = false ∧ g.hdr = slice f 16 28 ∧ t.pendingOf n = [g] ∧ (t.intake n).received = BitVec.ofNat 32 (leAt f 20 4) ∧
        (t.intake n).outstanding = rest ∧ (t.intake n).confirmed = (s.intake n).confirmed ∧
        (∀ k < 4096, t.bufByte (4096 * p + k) = byteAt f (48 + k)) ∧
        (∀ x, x < 4096 * p ∨ 4096 * p + 4096 ≤ x → t.bufByte x = s.bufByte x) ∧ t.chans = s.chans := by
  have hint : (s.ovrCount f).intake n = s.intake n := s.ovrCount_intake f n
  have hseqAt : leAt (slice f 16 32) 4 4 = leAt f 20 4 := leAt_slice _ _ _ _ _ (by decide)
  obtain ⟨hpending, hintake⟩ := (s.ovrCount f).arrived_pending n 1 false (slice f 16 32) (slice f 48 4096) z p rest
    ((s.ovrCount_pendingOf f n).trans hpend)
  obtain ⟨-, hchans, -, -, -⟩ := (s.ovrCount f).arrived_frame n 1 false (slice f 16 32) (slice f 48 4096) z p rest
  obtain ⟨-, hbytes, hrest⟩ := (s.ovrCount f).arrived_buf n 1 false (slice f 16 32) (slice f 48 4096) z p rest
    (by rw [s.ovrCount_ecc, hsound]) hp (by simp)
  have hrx : (s.ovrCount f).memberRx n 1 false (slice f 16 32) (slice f 48 4096) =
      (s.ovrCount f).arrived n 1 false (slice f 16 32) (slice f 48 4096) z p rest := by
    rw [State.memberRx_provisional (s.ovrCount_followed hstep hup).1 (s.ovrCount_followed hstep hup).2 (by rw [hint, hopen])
      (by rw [hint, hout]) (by rw [hint, hlive]) (by rw [hint, leAt_slice _ _ _ _ _ (by decide), hopening]) (by rw [hint, hrec])
      (by rw [hint, hseqAt, hseq])]
    exact State.confirm_of_waiting _ hpending rfl
  refine ⟨_, (s.ovrCount f).memberOf n 1 false (slice f 16 32) z p, (exec_ovrMirrorFrameRx_provisional hl hen hn hv hprov hkind).trans
    (congrArg _ hrx), rfl, rfl, congrArg (BitVec.ofNat 32) hseqAt, rfl, rfl, rfl, take_slice _ _ _ _ (by decide), hpending, ?_, ?_, ?_, fun k hk => ?_,
    fun x hx => ?_, hchans.trans (s.ovrCount_chans f)⟩
  · rw [hintake, if_pos rfl, hint, hseqAt, hseq, seqMax_succ]
  · rw [hintake]
  · rw [hintake, hint]
  · rw [hbytes k hk, padTo_of_length _ _ (slice_length _ _ _), byteAt_slice _ _ _ _ hk]
  · rw [hrest x hx, State.bufByte, State.ovrCount_withRegs, State.bufByte]

end

end Sys2Proof.Machine
end

section
/-! A member is confirmed, and what a seal's copy leaves (spec/11 R249, R251). -/

namespace Sys2Proof.Machine
variable (s : State)

/-! ### A member is confirmed (R249) -/

/-- Member `g` leaves the pending ones. -/
def State.unpend (s : State) (g : Prov) : State := { s with ovr := { s.ovr with prov := s.ovr.prov.erase g } }

theorem State.pendingOf_unpend {n : Nat} {g : Prov} (h : s.pendingOf n = [g]) : (s.unpend g).pendingOf n = [] := by
  have hmem : g ∈ s.ovr.prov ∧ (g.chan == n) = true := List.mem_filter.1 (show g ∈ s.pendingOf n by simp [h])
  have hcount : s.ovr.prov.countP (fun g => g.chan == n) = 1 := by
    rw [List.countP_eq_length_filter, ← State.pendingOf, h, List.length_singleton]
  rw [State.pendingOf, ← List.length_eq_zero_iff, ← List.countP_eq_length_filter, State.unpend, List.countP_erase, hcount]
  simp [hmem.1, hmem.2]

/-- The only member is confirmed in its turn; the answer is one CONFIRM note, and the credits return. -/
theorem State.confirm_of_one {n : Nat} {g : Prov} (hpend : s.pendingOf n = [g])
    (hturn : ((s.intake n).isOpen && !(s.intake n).halted && !s.pastStep3 && (s.intake n).next g) = true)
    (hgone : ((s.unpend g).confirmOne g).pendingOf n = []) : s.confirm n =
      (if (((s.unpend g).confirmOne g).intake n).halted then (s.unpend g).confirmOne g
        else ((s.unpend g).confirmOne g).confirmNote n false).grant n false := by
  have hrun : s.confirmRun n 1 = (s.unpend g).confirmOne g := by
    simp only [State.confirmRun, hpend]
    exact if_pos hturn
  simp only [State.confirm, hpend, List.length_singleton, hrun, hgone, List.length_nil, Nat.zero_ne_one, if_false]

/-! ### Seal copies (R251) -/

theorem State.peerKey_congr {s t : State} (h : t.regs = s.regs) : t.peerKey = s.peerKey := by
  simp only [State.peerKey, State.getF_congr h]

/-- A seal copy is judged by the header's first 20 bytes and the body's first 164. -/
theorem State.sealCopyOk_stored {s t : State} (hkey : t.peerKey = s.peerKey) (i : Intake) (hdr body : List Byte) (hbody : body.length = 164) :
    t.sealCopyOk i (hdr.take 28) (padTo 4096 body) = s.sealCopyOk i hdr body := by
  have hslice : ∀ a b, a + b ≤ 164 → slice (padTo 4096 body) a b = slice body a b := fun a b h => slice_padTo _ _ _ _ (by omega)
  simp only [State.sealCopyOk, hkey, hslice 28 32 (by decide), hslice 60 32 (by decide), hslice 100 32 (by decide), hslice 132 32 (by decide),
    take_padTo 4096 body 100 (by omega), List.take_take, show min 20 28 = 20 from rfl]

section
variable {s} {g : Prov} (hkind : g.kind = 2)
include hkind

theorem State.confirmOne_of_bad_seal (hbad : s.sealCopyOk (s.intake g.chan) g.hdr (s.bufRead (4096 * g.page) 4096) = false) :
    s.confirmOne g = (s.dropPages [g.page]).intakeHalt g.chan g.seq := by
  simp only [State.confirmOne, hkind, hbad, Bool.not_false, if_true]

/-- The intake's chain ends in a seal copy with body `body`. -/
def State.sealTaken (s : State) (n : Nat) (body : List Byte) : State :=
  s.setIntake n { s.intake n with ordinal := leAt body 0 4, chain := slice body 60 32, sealChain := slice body 60 32, truncated := false }

theorem State.confirmOne_of_good_seal (htr : (s.intake g.chan).truncated = false)
    (hok : s.sealCopyOk (s.intake g.chan) g.hdr (s.bufRead (4096 * g.page) 4096) = true) :
    s.confirmOne g = (s.copyRec g .seal (s.bufRead (4096 * g.page) 4096) (leAt (s.bufRead (4096 * g.page) 4096) 0 4)).sealTaken g.chan
      (s.bufRead (4096 * g.page) 4096) := by
  simp only [State.confirmOne, hkind, hok, htr, Bool.not_true, Bool.false_eq_true, if_false]
  rfl

end

/-- The record of a confirmed member waits for its actuator. -/
theorem State.copyRec_spec (g : Prov) (kind : Kind) (body : List Byte) (ordinal : Nat) : let t := s.copyRec g kind body ordinal
    (∃ r ∈ (t.rw (s.intake g.chan).act).wq, r.kind = kind ∧ r.intake = true ∧ r.chan = g.chan ∧ r.page = g.page ∧ r.ordinal = ordinal) ∧
      t.intake g.chan = { s.intake g.chan with promised := (s.intake g.chan).promised + 1 } ∧ t.ovr.prov = s.ovr.prov ∧
      t.chans = s.chans := by
  refine ⟨?_, State.intake_setIntake_self _ _ _, rfl, rfl⟩
  simp only [State.copyRec, State.queueRec, State.rw_setRw_self]
  exact ⟨_, List.mem_append_right _ (List.mem_singleton_self _), rfl, rfl, rfl, rfl, rfl⟩

/-- An intake with nothing pending halts (R251). -/
theorem State.intakeHalt_spec (n : Nat) (seq : Word) (hnone : s.pendingOf n = []) : let t := s.intakeHalt n seq
    (t.intake n).halted = true ∧ t.getF Reg.OVR_EVENTS_CHAIN_MISMATCH = 1 ∧ t.pendingOf n = [] ∧ t.chans = s.chans ∧ t.rwc = s.rwc := by
  let u : State := s.dropProv n fun _ => true
  let v : State := (u.setIntake n { u.intake n with halted := true }).raise Reg.OVR_EVENTS_CHAIN_MISMATCH
  let w : State := v.event 0x45 n (u.intake n).opening.toNat seq.toNat
  have hovr : w.ovr = (u.setIntake n { u.intake n with halted := true }).ovr := State.event_ovr _ _ _ _ _
  have hprov : (w.confirmNote n true).ovr.prov = s.ovr.prov := by
    rw [State.confirmNote, State.note_withNotes]
    exact (congrArg Ovore.prov hovr).trans (s.dropProv_prov_of_none n _ hnone)
  have hint : (w.confirmNote n true).intake n = w.intake n := by
    rw [State.confirmNote, State.note_withNotes]
    rfl
  change ((w.confirmNote n true).intake n).halted = true ∧ (w.confirmNote n true).getF Reg.OVR_EVENTS_CHAIN_MISMATCH = 1 ∧
    (w.confirmNote n true).pendingOf n = [] ∧ (w.confirmNote n true).chans = s.chans ∧ (w.confirmNote n true).rwc = s.rwc
  refine ⟨?_, ?_, ?_, ?_, ?_⟩
  · rw [hint, State.intake_congr hovr, State.intake_setIntake_self]
  · rw [State.confirmNote, State.note_getF, State.event_getF]
    exact State.getF_raise_self _ _ _ (by decide) (by decide)
  · rw [State.pendingOf, hprov, ← State.pendingOf, hnone]
  · rw [State.confirmNote, State.note_chans, State.event_chans]
    rfl
  · rw [State.confirmNote, State.note_rwc, State.event_rwc]
    rfl

section
variable {s} {f : List Byte} {n z p : Nat} {rest : List (Nat × Nat)} (hl : s.live = true) (hen : s.flag Reg.OVR_CTRL_EN = true)
  (hn : (byteAt f 19).toNat % 64 = n) (hup : s.linkUp = true) (hopen : (s.intake n).isOpen = true)
  (hout : (s.intake n).outstanding = (z, p) :: rest) (hp : p < 4096) (hsound : s.ecc.bad = [])
  (hstep : s.getF Reg.ENG_STATUS_PL_STEP < 3) (hlive : (s.intake n).halted = false) (htr : (s.intake n).truncated = false)
  (hopening : BitVec.ofNat 16 (leAt f 34 2) = (s.intake n).opening) (hpend : s.pendingOf n = [])
  (hrec : (s.intake n).received = (s.intake n).confirmed) (hseq : BitVec.ofNat 32 (leAt f 20 4) = (s.intake n).confirmed)
  (hord : (s.intake n).ordinal < leAt (slice f 48 164) 0 4)

/-- What a seal's frame leaves before its copy is judged. -/
def State.sealArrived (s : State) (f : List Byte) (n z p : Nat) (rest : List (Nat × Nat)) : State :=
  (s.ovrCount f).arrived n 2 true (slice f 16 32) (slice f 48 164) z p rest

/-- The seal's copy as a member of the intake. -/
def State.sealMember (s : State) (f : List Byte) (n z p : Nat) : Prov := (s.ovrCount f).memberOf n 2 true (slice f 16 32) z p

include hl hen hn hup hopen hout hstep hlive htr hopening hpend hrec hseq hord

/-- The frame of the next seal. -/
theorem exec_ovrSealNoteRx_next (hv : s.ovrValid 2 f = true) :
    exec (.ovrSealNoteRx f) s = .next ((s.sealArrived f n z p rest).confirm n) := by
  have hint : (s.ovrCount f).intake n = s.intake n := s.ovrCount_intake f n
  have hn' : (byteAt (slice f 16 32) 3).toNat % 64 = n := by rw [byteAt_slice _ _ _ _ (by decide), hn]
  change execOvrSealNoteRx f s = _
  rw [execOvrSealNoteRx, State.whenLive_of_live _ _ hl, State.ovrRx_of_valid _ _ hen hv]
  simp only [hn']
  exact congrArg _ (State.memberRx_seal (State.ovrCount_followed hstep hup).1 (State.ovrCount_followed hstep hup).2 (by rw [hint, hopen])
    (by rw [hint, hout]) (by rw [hint, hlive]) (by rw [hint, leAt_slice _ _ _ _ _ (by decide), hopening]) (by rw [hint, hrec])
    (by rw [s.ovrCount_pendingOf, hpend]) (by rw [hint, leAt_slice _ _ _ _ _ (by decide), hseq]) (by rw [hint, htr]) (by rw [hint]; exact hord))

end

end Sys2Proof.Machine
end

section
/-! SEAL_NOTE frames, and the obligation about the partner's frames (spec/11 R251). -/

namespace Sys2Proof.Machine

/-! ### SEAL_NOTE frames (R251) -/

section
variable {s : State} {f : List Byte} {n z p : Nat} {rest : List (Nat × Nat)}
  (hup : s.linkUp = true) (hopen : (s.intake n).isOpen = true) (hp : p < 4096) (hsound : s.ecc.bad = [])
  (hstep : s.getF Reg.ENG_STATUS_PL_STEP < 3) (hlive : (s.intake n).halted = false) (htr : (s.intake n).truncated = false)
  (hpend : s.pendingOf n = []) (hseq : BitVec.ofNat 32 (leAt f 20 4) = (s.intake n).confirmed)

theorem State.sealArrived_kept : let v := s.sealArrived f n z p rest
    v.regs = (s.ovrCount f).regs ∧ v.chans = s.chans ∧ v.rwc = s.rwc := by
  obtain ⟨hregs, hchans, hrwc, -, -⟩ := (s.ovrCount f).arrived_frame n 2 true (slice f 16 32) (slice f 48 164) z p rest
  exact ⟨hregs, hchans.trans (s.ovrCount_chans f), hrwc.trans (s.ovrCount_rwc f)⟩

include hpend in
theorem State.sealArrived_pending : let v := s.sealArrived f n z p rest
    v.pendingOf n = [s.sealMember f n z p] ∧
      v.intake n = { s.intake n with outstanding := rest, received := (s.intake n).confirmed } := by
  obtain ⟨hpending, hint⟩ := (s.ovrCount f).arrived_pending n 2 true (slice f 16 32) (slice f 48 164) z p rest
    ((s.ovrCount_pendingOf f n).trans hpend)
  refine ⟨hpending, ?_⟩
  rw [State.sealArrived, hint, s.ovrCount_intake]
  rfl

include hp hsound in
theorem State.sealArrived_read :
    (s.sealArrived f n z p rest).bufRead (4096 * p) 4096 = padTo 4096 (slice f 48 164) := by
  obtain ⟨hread, -, -⟩ := (s.ovrCount f).arrived_buf n 2 true (slice f 16 32) (slice f 48 164) z p rest (by rw [s.ovrCount_ecc, hsound]) hp
    (by simp)
  exact hread

include hup hopen hstep hlive htr hpend hseq in
/-- It is the seal's turn. -/
theorem State.sealArrived_turn : let v := s.sealArrived f n z p rest
    ((v.intake n).isOpen && !(v.intake n).halted && !v.pastStep3 && (v.intake n).next (s.sealMember f n z p)) = true := by
  obtain ⟨hregs, -, -⟩ := State.sealArrived_kept (s := s) (f := f) (n := n) (z := z) (p := p) (rest := rest)
  obtain ⟨-, hint⟩ := State.sealArrived_pending (f := f) (z := z) (p := p) (rest := rest) hpend
  have hpast : (s.sealArrived f n z p rest).pastStep3 = false := by
    rw [State.pastStep3, State.getF_congr hregs, ← State.pastStep3, (State.ovrCount_followed hstep hup).2]
  have hmember : (s.sealMember f n z p).seq = (s.intake n).confirmed := by
    rw [← hseq, ← leAt_slice f 16 32 4 4 (by decide)]
    rfl
  have hnext : ((s.sealArrived f n z p rest).intake n).next (s.sealMember f n z p) = true := by
    rw [hint]
    simp only [Intake.next, htr, hmember]
    simp [State.sealMember, State.memberOf]
  simp only [hnext, hpast]
  rw [hint]
  simp [hopen, hlive]

include hp hsound hpend in
/-- The copy is judged as it came. -/
theorem State.sealArrived_judged : let w := (s.sealArrived f n z p rest).unpend (s.sealMember f n z p)
    w.sealCopyOk (w.intake n) (s.sealMember f n z p).hdr (w.bufRead (4096 * p) 4096) =
      s.sealCopyOk (s.intake n) (slice f 16 32) (slice f 48 164) := by
  obtain ⟨hregs, -, -⟩ := State.sealArrived_kept (s := s) (f := f) (n := n) (z := z) (p := p) (rest := rest)
  obtain ⟨-, hint⟩ := State.sealArrived_pending (f := f) (z := z) (p := p) (rest := rest) hpend
  have hread := State.sealArrived_read (f := f) (n := n) (z := z) (rest := rest) hp hsound
  generalize s.sealArrived f n z p rest = v at hregs hint hread
  have hkey : (v.unpend (s.sealMember f n z p)).peerKey = s.peerKey := (State.peerKey_congr hregs).trans (s.ovrCount_peerKey f)
  dsimp only
  rw [show (v.unpend (s.sealMember f n z p)).bufRead (4096 * p) 4096 = padTo 4096 (slice f 48 164) from hread,
    show (v.unpend (s.sealMember f n z p)).intake n = { s.intake n with outstanding := rest, received := (s.intake n).confirmed } from hint]
  exact State.sealCopyOk_stored hkey _ (slice f 16 32) (slice f 48 164) (slice_length _ _ _)

/-- A copy that verifies: its record waits for its actuator, and the intake's chain ends in it. -/
theorem State.copied_spec (w : State) (g : Prov) (body : List Byte) (hchan : g.chan = n) (hnone : w.pendingOf n = [])
    (hlive : (w.intake n).halted = false) :
    let t := (w.copyRec g .seal body (leAt body 0 4)).sealTaken n body
    (∃ r ∈ (t.rw (w.intake n).act).wq, r.kind = .seal ∧ r.intake = true ∧ r.chan = n ∧ r.page = g.page ∧ r.ordinal = leAt body 0 4) ∧
      (t.intake n).ordinal = leAt body 0 4 ∧ (t.intake n).sealChain = slice body 60 32 ∧ (t.intake n).halted = false ∧
      t.pendingOf n = [] ∧ t.chans = w.chans := by
  subst hchan
  obtain ⟨hrec, hint, hprov, hchans⟩ := w.copyRec_spec g .seal body (leAt body 0 4)
  intro t
  have ht : t.intake g.chan = { (w.copyRec g .seal body (leAt body 0 4)).intake g.chan with
      ordinal := leAt body 0 4, chain := slice body 60 32, sealChain := slice body 60 32, truncated := false } :=
    State.intake_setIntake_self _ _ _
  refine ⟨hrec, by rw [ht], by rw [ht], by rw [ht, hint]; exact hlive, ?_, hchans⟩
  change List.filter _ (w.copyRec g .seal body (leAt body 0 4)).ovr.prov = []
  rw [hprov]
  exact hnone

/-- A CONFIRM note and the credits that return leave the records and the channels. -/
theorem State.answered_kept (t : State) : let u := (t.confirmNote n false).grant n false
    u.rwc = t.rwc ∧ u.chans = t.chans ∧ (u.intake n).ordinal = (t.intake n).ordinal ∧
      (u.intake n).sealChain = (t.intake n).sealChain ∧ (u.intake n).halted = (t.intake n).halted := by
  have hnote : (t.confirmNote n false).intake n = t.intake n := by
    rw [State.confirmNote, State.note_withNotes]
    rfl
  obtain ⟨o, g, hgrant⟩ := (t.confirmNote n false).grant_intake n false
  rw [hnote] at hgrant
  refine ⟨?_, ?_, by rw [hgrant], by rw [hgrant], by rw [hgrant]⟩
  · rw [State.grant_rwc, State.confirmNote, State.note_rwc]
  · rw [State.grant_chans, State.confirmNote, State.note_chans]

section
variable (hl : s.live = true) (hen : s.flag Reg.OVR_CTRL_EN = true) (hv : s.ovrValid 2 f = true)
  (hn : (byteAt f 19).toNat % 64 = n) (hout : (s.intake n).outstanding = (z, p) :: rest)
  (hopening : BitVec.ofNat 16 (leAt f 34 2) = (s.intake n).opening) (hrec : (s.intake n).received = (s.intake n).confirmed)
  (hord : (s.intake n).ordinal < leAt (slice f 48 164) 0 4)
include hl hen hv hn hup hopen hout hp hsound hstep hlive htr hopening hpend hrec hseq hord

/-- The seal of a SEAL_NOTE frame that follows is confirmed as member `g` of a state `w` which has its copy in page `p`. -/
theorem ovrSealNoteRx_confirms : ∃ (w : State) (g : Prov), g.chan = n ∧ g.page = p ∧ g.kind = 2 ∧ w.pendingOf n = [] ∧
    w.intake n = { s.intake n with outstanding := rest, received := (s.intake n).confirmed } ∧
    w.bufRead (4096 * p) 4096 = padTo 4096 (slice f 48 164) ∧
    w.sealCopyOk (w.intake n) g.hdr (w.bufRead (4096 * p) 4096) = s.sealCopyOk (s.intake n) (slice f 16 32) (slice f 48 164) ∧
    w.chans = s.chans ∧ w.rwc = s.rwc ∧
    ((w.confirmOne g).pendingOf n = [] → exec (.ovrSealNoteRx f) s = .next
      ((if ((w.confirmOne g).intake n).halted then w.confirmOne g else (w.confirmOne g).confirmNote n false).grant n false)) := by
  have hexec := exec_ovrSealNoteRx_next hl hen hn hup hopen hout hstep hlive htr hopening hpend hrec hseq hord hv
  have hturn := State.sealArrived_turn (z := z) (p := p) (rest := rest) hup hopen hstep hlive htr hpend hseq
  obtain ⟨hpending, hint⟩ := State.sealArrived_pending (f := f) (z := z) (p := p) (rest := rest) hpend
  obtain ⟨-, hchans, hrwc⟩ := State.sealArrived_kept (s := s) (f := f) (n := n) (z := z) (p := p) (rest := rest)
  have hread := State.sealArrived_read (f := f) (n := n) (z := z) (rest := rest) hp hsound
  have hjudged := State.sealArrived_judged (f := f) (z := z) (rest := rest) hp hsound hpend
  generalize s.sealArrived f n z p rest = v at *
  exact ⟨v.unpend (s.sealMember f n z p), s.sealMember f n z p, rfl, rfl, rfl, v.pendingOf_unpend hpending, hint, hread, hjudged, hchans, hrwc,
    fun hgone => hexec.trans (congrArg _ (v.confirm_of_one hpending hturn hgone))⟩

theorem ovrSealNoteRx_verified (hok : s.sealCopyOk (s.intake n) (slice f 16 32) (slice f 48 164) = true) : ∃ (t : State) (r : Rec),
    exec (.ovrSealNoteRx f) s = .next t ∧ r ∈ (t.rw (s.intake n).act).wq ∧ r.kind = .seal ∧ r.intake = true ∧ r.chan = n ∧ r.page = p ∧
      r.ordinal = leAt (slice f 48 164) 0 4 ∧ (t.intake n).ordinal = leAt (slice f 48 164) 0 4 ∧
      (t.intake n).sealChain = slice (slice f 48 164) 60 32 ∧ (t.intake n).halted = false ∧ t.chans = s.chans := by
  obtain ⟨w, g, hgchan, hgpage, hgkind, hnone, hint, hread, hjudged, hchans, -, hexec⟩ := ovrSealNoteRx_confirms hup hopen hp hsound hstep
    hlive htr hpend hseq hl hen hv hn hout hopening hrec hord
  have hone : w.confirmOne g =
      (w.copyRec g .seal (padTo 4096 (slice f 48 164)) (leAt (padTo 4096 (slice f 48 164)) 0 4)).sealTaken n (padTo 4096 (slice f 48 164)) := by
    subst hgchan hgpage
    rw [State.confirmOne_of_good_seal hgkind (by rw [hint, htr]) (by rw [hjudged, hok]), hread]
  have hslice : ∀ a b, a + b ≤ 164 → slice (padTo 4096 (slice f 48 164)) a b = slice (slice f 48 164) a b := fun a b h =>
    slice_padTo _ _ _ _ (by rw [slice_length]; exact h)
  have hle : leAt (padTo 4096 (slice f 48 164)) 0 4 = leAt (slice f 48 164) 0 4 := by rw [leAt, hslice 0 4 (by decide), leAt]
  obtain ⟨⟨r, hmem, hkind, hintake, hrchan, hpage, hordinal⟩, hord', hchain, hlive', hgone, hkept⟩ :=
    State.copied_spec w g (padTo 4096 (slice f 48 164)) hgchan hnone (by rw [hint, hlive])
  rw [← hone] at hmem hord' hchain hlive' hgone hkept
  obtain ⟨hrwc, hchans', hord'', hchain', hlive''⟩ := State.answered_kept (n := n) (w.confirmOne g)
  refine ⟨((w.confirmOne g).confirmNote n false).grant n false, r, ?_, ?_, hkind, hintake, hrchan, hpage.trans hgpage, hordinal.trans hle,
    hord''.trans (hord'.trans hle), hchain'.trans (hchain.trans (hslice 60 32 (by decide))), hlive''.trans hlive',
    hchans'.trans (hkept.trans hchans)⟩
  · rw [hexec hgone, hlive']
    rfl
  · rw [State.rw, hrwc, ← State.rw]
    rw [hint] at hmem
    exact hmem

theorem ovrSealNoteRx_mismatch (hbad : s.sealCopyOk (s.intake n) (slice f 16 32) (slice f 48 164) = false) :
    ∃ t, exec (.ovrSealNoteRx f) s = .next t ∧ (t.intake n).halted = true ∧
        t.getF Reg.OVR_EVENTS_CHAIN_MISMATCH = 1 ∧ t.pendingOf n = [] ∧ t.chans = s.chans ∧ t.rwc = s.rwc := by
  obtain ⟨w, g, hgchan, hgpage, hgkind, hnone, hint, hread, hjudged, hchans, hrwc, hexec⟩ := ovrSealNoteRx_confirms hup hopen hp hsound hstep
    hlive htr hpend hseq hl hen hv hn hout hopening hrec hord
  have hone : w.confirmOne g = (w.dropPages [p]).intakeHalt n g.seq := by
    subst hgchan hgpage
    exact State.confirmOne_of_bad_seal hgkind (by rw [hjudged, hbad])
  obtain ⟨hhalted, hevent, hgone, hkeptChans, hkeptRwc⟩ := (w.dropPages [p]).intakeHalt_spec n g.seq hnone
  rw [← hone] at hhalted hevent hgone hkeptChans hkeptRwc
  refine ⟨w.confirmOne g, ?_, hhalted, hevent, hgone, hkeptChans.trans hchans, hkeptRwc.trans hrwc⟩
  rw [hexec hgone, hhalted, if_pos rfl, State.grant_of_halted _ _ hhalted]

end

end

/-! ### The obligation -/

/-- Settles O35: EN comes first (`exec_ovrFrames_unpaired`); each kind of frame then has its theorem above. -/
theorem partnerFramesReceived : Obligations.PartnerFramesReceived := by
  refine ⟨fun s f z p rest hl => ⟨exec_ovrFrames_unpaired s f hl, ?_⟩, ?_, ?_⟩
  · intro n seq hen hv hprov hkind hup hopen
    exact ⟨ovrMirrorFrameRx_no_credit hl hen rfl hup hopen hv hprov hkind, fun hout hp hsound hstep hlive hopening hpend hrec hseq =>
      ovrMirrorFrameRx_follows hl hen rfl hup hopen hout hp hsound hstep hlive hopening hpend hrec hv hprov hkind hseq⟩
  · intro s f z p rest hl n body hen hv hup hopen hout hp hsound hstep hlive htr hopening hpend hrec hseq hord
    exact ⟨fun hok _ => ovrSealNoteRx_verified hup hopen hp hsound hstep hlive htr hpend hseq hl hen hv rfl hout hopening hrec hord hok,
      ovrSealNoteRx_mismatch hup hopen hp hsound hstep hlive htr hpend hseq hl hen hv rfl hout hopening hrec hord⟩
  · intro s f hl hen
    refine ⟨ovrCancelRx_spec hl hen, fun hv hup hmeet hon hpower => ⟨fun hbare => ?_, fun n hn hone hchan hopen hmirror => ⟨?_, ?_⟩⟩,
      fun hv hup hmir hcmds => ⟨?_, ?_⟩, fun fresh => ovrInvalidFrameRx_spec s fresh hl hen⟩
    · refine ⟨s.beaten f, exec_ovrHeartbeatRx_bare hl hen hv hup hmeet hon hpower hbare, ?_, ?_, s.ovrCount_fieldsKept f⟩ <;>
        rw [State.beaten_withRegs]
    · exact exec_ovrHeartbeatRx_grant hl hen hv hup hmeet hon hpower hn hone hchan hopen hmirror
    · exact exec_ovrHeartbeatRx_confirm hl hen hv hup hmeet hon hpower hn hone hchan hopen hmirror
    · exact ovrHeartbeatRx_overlap hup hmir hcmds hl hen hv
    · exact ovrHeartbeatRx_unpaired hup hmir hcmds hl hen hv

end Sys2Proof.Machine
end

section
/-! The headers of the Stream Port (spec/02 R36 to R40, R42): what HOLD, a refusal and an admission leave, and the order in which
a WRITE_GRAINS header is judged. -/

namespace Sys2Proof.Machine

/-! ### Sequence numbers and the CRC (R40, R42) -/

theorem seqLt_iff (x y : Word) : seqLt x y = true ↔ 1 ≤ (y - x).toNat ∧ (y - x).toNat < 2 ^ 31 := by
  simp [seqLt]

theorem seqLe_eq_false_iff (x y : Word) : seqLe x y = false ↔ 2 ^ 31 ≤ (y - x).toNat := by
  simp [seqLe]

theorem readSeqs_getElem? (seq : Word) {len k : Nat} (h : k < len) : (readSeqs seq len)[k]? = some (seq + BitVec.ofNat 32 k) := by
  simp [readSeqs, h]

/-- The check value of R42. -/
theorem crc32c_check : crc32c [0x31, 0x32, 0x33, 0x34, 0x35, 0x36, 0x37, 0x38, 0x39] = 0xE3069283 := by decide +kernel

/-- Settles O4: the distance of two words is their difference modulo 2³². -/
theorem sequenceOrderAndCrc : Obligations.SequenceOrderAndCrc := by
  refine ⟨fun x y => ?_, fun seq len k h => readSeqs_getElem? seq h, crc32c_check⟩
  have hdist : (y - x).toNat = (y.toNat + 2 ^ 32 - x.toNat) % 2 ^ 32 := by
    rw [BitVec.toNat_sub]
    congr 1
    omega
  rw [seqLt_iff, hdist]
  omega

variable (s : State)

/-! ### The answer to a header (R36 to R38) -/

theorem State.setF_onlyFields (f : Field) (i v : Nat) : onlyFields s (s.setF f i v) [(f, i)] :=
  ⟨rfl, fun g j h => s.getF_setF_ne f g i j v (h _ List.mem_cons_self)⟩

/-- One change of the register store after another touches the fields of both. -/
theorem fieldsKept.trans {s u t : State} {l l' : List (Field × Nat)} (h : fieldsKept s u l) (h' : fieldsKept u t l') :
    fieldsKept s t (l' ++ l) := fun f i hne =>
  (h' f i fun e he => hne e (List.mem_append_left _ he)).trans (h f i fun e he => hne e (List.mem_append_right _ he))

/-- An answer that counts in `cnt` is the port's words with the count. -/
theorem State.answered_bump (cnt : Field) (hw : cnt.w = 32) (r0 r1 bsy1 : Bool) (out : List Word) :
    answered s ((s.modPort (fun p => { p with rdy0 := r0, rdy1 := r1, bsy1 := bsy1, bsyN := true, out := out })).bump cnt)
      r0 r1 bsy1 out cnt :=
  ⟨State.setF_onlyFields _ cnt 0 _, by rw [State.getF_bump_self _ _ _ _ hw.le, State.modPort_getF, hw]⟩

theorem State.hold_heldBack (r0 : Bool) : heldBack s (s.hold r0) r0 := s.answered_bump _ rfl _ _ _ _

theorem State.refuse_refusedWith (r0 : Bool) (ty tid chan code : Nat) (head : Word) :
    refusedWith s (s.refuse r0 ty tid chan code head) r0 ty tid chan code head := s.answered_bump _ rfl _ _ _ _

theorem State.takeHeader_answered : answered s s.takeHeader true true true [] Reg.SP_CNT_ACCEPT_COUNT := s.answered_bump _ rfl _ _ _ _

theorem State.portTurn_iff : s.portTurn = true ↔ s.portOpen = true ∧ s.port.frame = none := by
  simp [State.portTurn]

theorem State.live_of_portOpen (h : s.portOpen = true) : s.live = true := by
  simp only [State.portOpen, Bool.and_eq_true] at h
  exact h.1.1

/-- A header that may be judged is judged. -/
theorem State.header_of_turn (f : State → State) (h : s.portTurn = true) : s.header f = f s := by
  obtain ⟨hopen, hframe⟩ := s.portTurn_iff.1 h
  simp [State.header, s.live_of_portOpen hopen, hopen, hframe]

/-- While the port is closed every header meets HOLD, whatever it asks (R38 step 1). -/
theorem State.header_of_closed (f : State → State) (hl : s.live = true) (hclosed : s.portOpen = false) (hframe : s.port.frame = none) :
    s.header f = s.hold false := by
  simp [State.header, hl, hclosed, hframe]

/-! ### WRITE_GRAINS turned away (R38, R39) -/

theorem State.mayFrame_iff (tid n : Nat) : s.mayFrame tid n = true ↔ s.sessionOpen tid = true ∧ s.mayWrite tid n = true := by
  simp [State.mayFrame]

/-- Step 6 of R38. -/
theorem State.writeCheck_of_stranger (tid n len : Nat) (seq : Word) (h : s.mayFrame tid n = false) :
    s.writeCheck tid n len seq = some (false, some 6) := by
  have h' : (!s.sessionOpen tid || !s.mayWrite tid n) = true := by
    rw [← Bool.not_and, ← State.mayFrame, h]
    rfl
  rw [State.writeCheck, if_pos h']

/-- Past step 6 the channel decides. -/
theorem State.writeCheck_of_mayFrame (tid n len : Nat) (seq : Word) (h : s.mayFrame tid n = true) :
    s.writeCheck tid n len seq = s.writeChecks (some tid) n len seq := by
  obtain ⟨hs, hw⟩ := (s.mayFrame_iff tid n).1 h
  simp [State.writeCheck, hs, hw]

section
variable {s} {n len : Nat} {seq : Word} {owner : Option Nat}

theorem State.writeChecks_of_closed (h : (s.chan n).accepts = false) : s.writeChecks owner n len seq = some (false, some 5) := by
  simp [State.writeChecks, h]

theorem State.writeChecks_of_halted (ha : (s.chan n).accepts = true) (hh : (s.chan n).halted = true) :
    s.writeChecks owner n len seq = some (false, some 7) := by
  simp [State.writeChecks, ha, hh]

theorem State.chanReady_iff : s.chanReady n = true ↔ (s.chan n).accepts = true ∧ (s.chan n).halted = false := by
  simp [State.chanReady]

/-- Step 9 of R38. -/
theorem State.writeChecks_of_short (hr : s.chanReady n = true) (he : s.energyStep n = false) :
    s.writeChecks owner n len seq = some (false, some 4) := by
  obtain ⟨ha, hh⟩ := State.chanReady_iff.1 hr
  have he' : (!s.admitOpen (s.chan n).cls || !s.energyOk n (s.chan n).frameMax) = true := by
    rw [← Bool.not_and, ← State.energyStep, he]
    rfl
  simp only [State.writeChecks, ha, hh, he', if_true, if_false, Bool.not_true, Bool.false_eq_true]

/-- Step 10 of R38. -/
theorem State.writeChecks_of_no_credit (hr : s.chanReady n = true) (he : s.energyStep n = true) (hc : s.creditStep n owner = false) :
    s.writeChecks owner n len seq = some (false, none) := by
  obtain ⟨ha, hh⟩ := State.chanReady_iff.1 hr
  simp only [State.energyStep, Bool.and_eq_true] at he
  have hc' : (!s.poolsOk n (s.chan n).frameMax owner || s.beingShed n || s.writeBusy n) = true := by
    simpa [State.creditStep, ← Bool.not_eq_true, imp_iff_not_or, or_assoc] using hc
  simp [State.writeChecks, ha, hh, he.1, he.2, hc']

/-- Past H0 the length and the sequence number decide (R39). -/
theorem State.writeChecks_of_ready (hr : s.chanReady n = true) (he : s.energyStep n = true) (hc : s.creditStep n owner = true) :
    s.writeChecks owner n len seq =
      if len = 0 ∨ (s.chan n).frameMax < len then some (true, some 6)
      else if (seq - ((s.chan n).durable + 1)).toNat = 0 then none
      else if (seq - ((s.chan n).durable + 1)).toNat < 2 ^ 31 then some (true, some 2)
      else some (true, some 1) := by
  obtain ⟨ha, hh⟩ := State.chanReady_iff.1 hr
  simp only [State.energyStep, Bool.and_eq_true] at he
  simp only [State.creditStep, Bool.and_eq_true, Bool.not_eq_true'] at hc
  simp [State.writeChecks, ha, hh, he.1, he.2, hc.1.1, hc.1.2, hc.2]

end

theorem exec_spWriteGrains_refused {tid n len code : Nat} {seq : Word} {r0 : Bool} (data : List Word) (trailer : Word)
    (hturn : s.portTurn = true) (h : s.writeCheck tid n len seq = some (r0, some code)) :
    ∃ t, exec (.spWriteGrains tid n len seq data trailer) s = .next t ∧
      refusedWith s t r0 0 tid n code (if code = 6 ∨ code = 5 then 0 else (s.chan n).durable) := by
  refine ⟨_, ?_, s.refuse_refusedWith r0 0 tid n code _⟩
  change execSpWriteGrains tid n len seq data trailer s = _
  rw [execSpWriteGrains, s.header_of_turn _ hturn]
  simp only [h]

theorem exec_spWriteGrains_held {tid n len : Nat} {seq : Word} {r0 : Bool} (data : List Word) (trailer : Word)
    (hturn : s.portTurn = true) (h : s.writeCheck tid n len seq = some (r0, none)) :
    exec (.spWriteGrains tid n len seq data trailer) s = .next ((s.noBushelCheck n).hold r0) := by
  change execSpWriteGrains tid n len seq data trailer s = _
  rw [execSpWriteGrains, s.header_of_turn _ hturn]
  simp only [h]

/-- NO_BUSHEL of a channel that accepts writes: set by a roll-over in prospect with both free FIFOs empty (R134), else as it was. -/
theorem State.noBushelCheck_spec (n : Nat) (h : (s.chan n).accepts = true) :
    onlyFields s (s.noBushelCheck n) [(Reg.LDG_EVENTS_NO_BUSHEL, 0)] ∧ (s.noBushelCheck n).getF Reg.LDG_EVENTS_NO_BUSHEL =
      if s.willRoll n (s.chan n).frameMax && s.noBushel then 1 else s.getF Reg.LDG_EVENTS_NO_BUSHEL := by
  simp only [State.noBushelCheck, h, Bool.true_and]
  split
  · exact ⟨s.setF_onlyFields _ _ _, s.getF_raise_self _ _ (by decide) (by decide)⟩
  · exact ⟨⟨rfl, fun _ _ _ => rfl⟩, rfl⟩

/-- HOLD at step 10: the count and NO_BUSHEL alone change in the register store. -/
theorem State.noBushelCheck_hold_spec (n : Nat) (r0 : Bool) (h : (s.chan n).accepts = true) : let t := (s.noBushelCheck n).hold r0
    t.port.rdy0 = r0 ∧ t.port.rdy1 = false ∧ t.port.bsy1 = true ∧ t.port.out = [] ∧
      t.getF Reg.SP_CNT_HOLD_COUNT = (s.getF Reg.SP_CNT_HOLD_COUNT + 1) % 2 ^ 32 ∧
      t.getF Reg.LDG_EVENTS_NO_BUSHEL =
        (if s.willRoll n (s.chan n).frameMax && s.noBushel then 1 else s.getF Reg.LDG_EVENTS_NO_BUSHEL) ∧
      t = { s with regs := t.regs, port := t.port } ∧
      fieldsKept s t [(Reg.SP_CNT_HOLD_COUNT, 0), (Reg.LDG_EVENTS_NO_BUSHEL, 0)] := by
  obtain ⟨⟨hframe, hkept⟩, hbit⟩ := s.noBushelCheck_spec n h
  obtain ⟨⟨hheld, hcounts⟩, hcount⟩ := (s.noBushelCheck n).hold_heldBack r0
  refine ⟨rfl, rfl, rfl, rfl, ?_, ?_, ?_, hkept.trans hcounts⟩
  · rw [hcount, hkept _ _ (by decide)]
  · rw [hcounts _ _ (by decide)]
    exact hbit
  · rw [hheld, hframe]

/-- Settles O5: each step of R38, and past them each condition of R39, has its lemma above. -/
theorem writeHeaderTurnedAway : Obligations.WriteHeaderTurnedAway := by
  intro s tid n len seq trailer data hturn
  have refused {code : Nat} {r0 : Bool} (h : s.writeCheck tid n len seq = some (r0, some code)) :=
    exec_spWriteGrains_refused s data trailer hturn h
  refine ⟨fun hmay => refused (s.writeCheck_of_stranger tid n len seq hmay), fun hmay hclosed => ?_, fun hmay hopen hhalted => ?_,
    fun hmay hready henergy => ?_, fun hmay hready henergy hcredit => ?_, fun hmay hready henergy hcredit => ?_⟩ <;>
    have hcheck := s.writeCheck_of_mayFrame tid n len seq hmay
  · exact refused (hcheck.trans (State.writeChecks_of_closed hclosed))
  · exact refused (hcheck.trans (State.writeChecks_of_halted hopen hhalted))
  · exact refused (hcheck.trans (State.writeChecks_of_short hready henergy))
  · exact ⟨_, exec_spWriteGrains_held s data trailer hturn (hcheck.trans (State.writeChecks_of_no_credit hready henergy hcredit)),
      s.noBushelCheck_hold_spec n false (State.chanReady_iff.1 hready).1⟩
  · rw [State.writeChecks_of_ready hready henergy hcredit] at hcheck
    refine ⟨fun hlen => refused (hcheck.trans (if_pos hlen)), fun hpos hmax hgap => ?_, fun hpos hmax hdup => ?_⟩ <;>
      rw [if_neg (by omega)] at hcheck
    · obtain ⟨hne, hlt⟩ := (seqLt_iff _ _).1 hgap
      rw [if_neg (by omega), if_pos hlt] at hcheck
      exact refused hcheck
    · have hle := (seqLe_eq_false_iff _ _).1 hdup
      rw [if_neg (by omega), if_neg (by omega)] at hcheck
      exact refused hcheck

end Sys2Proof.Machine
end

section
/-! The commit edge (spec/01 R12, R43; spec/06 R126 to R134): what each operation of it leaves of the port, the time, the heads and the
register store. -/

namespace Sys2Proof.Machine
variable (s : State)

/-! ### What the commit edge is told by -/

/-- The port apart from what its frame holds, the time, and each channel's DURABLE_HEAD with the stamp of its last commit edge. -/
def State.edgeView (s : State) : Bool × Port × Time × (Nat → Word × Stamp) :=
  (s.port.frame.isSome, { s.port with frame := none }, s.time, fun m => ((s.chan m).durable, (s.chan m).lastCommit))

/-- The same with the register store, which records that fall due leave alone. -/
def State.dueView (s : State) : Sparse Word × Bool × Port × Time × (Nat → Word × Stamp) := (s.regs, s.edgeView)

section
variable {s} {t : State}

theorem State.edgeView_of_dueView (h : t.dueView = s.dueView) : t.edgeView = s.edgeView := congrArg Prod.snd h

theorem State.regs_of_dueView (h : t.dueView = s.dueView) : t.regs = s.regs := congrArg Prod.fst h

theorem State.port_of_edgeView (h : t.edgeView = s.edgeView) (hnone : s.port.frame = none) : t.port = s.port := by
  simp only [State.edgeView, Prod.mk.injEq] at h
  obtain ⟨hsome, hport, -⟩ := h
  have hnone' : t.port.frame = none := by simpa [hnone] using hsome
  calc t.port = { t.port with frame := none } := by rw [← hnone']
    _ = { s.port with frame := none } := hport
    _ = s.port := by rw [← hnone]

theorem State.time_of_edgeView (h : t.edgeView = s.edgeView) : t.time = s.time := congrArg (fun v => v.2.2.1) h

theorem State.durable_of_edgeView (h : t.edgeView = s.edgeView) (m : Nat) : (t.chan m).durable = (s.chan m).durable :=
  congrArg (fun v => (v.2.2.2 m).1) h

theorem State.lastCommit_of_edgeView (h : t.edgeView = s.edgeView) (m : Nat) : (t.chan m).lastCommit = (s.chan m).lastCommit :=
  congrArg (fun v => (v.2.2.2 m).2) h

end

theorem State.chan_setChan (n m : Nat) (x : Chan) : (s.setChan n x).chan m = if m = n then x else s.chan m := by
  split
  next h => rw [h, State.chan_setChan_self]
  next h => exact s.chan_setChan_ne n m x h

/-- A change of a channel that keeps its head and its stamp. -/
theorem State.setChan_dueView (n : Nat) (x : Chan) (hd : x.durable = (s.chan n).durable) (hc : x.lastCommit = (s.chan n).lastCommit) :
    (s.setChan n x).dueView = s.dueView := by
  have hheads : (fun m => (((s.setChan n x).chan m).durable, ((s.setChan n x).chan m).lastCommit)) =
      fun m => ((s.chan m).durable, (s.chan m).lastCommit) := by
    funext m
    rw [State.chan_setChan]
    split
    next h => rw [h, hd, hc]
    next => rfl
  rw [State.dueView, State.edgeView, hheads]
  rfl

/-! ### Frames of the link (R247) -/

theorem State.unmirror_dueView (n : Nat) (g : Word) : (s.unmirror n g).dueView = s.dueView := by
  have hframe : (s.unmirror n g).port.frame.isSome = s.port.frame.isSome := by simp [State.unmirror]
  rw [State.dueView, State.edgeView, hframe]
  rfl

theorem State.dropOvr_dueView (p : OvrFrame → Bool) : (s.dropOvr p).dueView = s.dueView := by
  rw [State.dropOvr]
  refine (State.foldl_kept State.dueView _ (fun u f => ?_) _ _).trans rfl
  have hcredit : (if f.ty = 3 then u else u.setOwn f.chan { u.own f.chan with sent := (u.own f.chan).sent - 1 }).dueView = u.dueView := by
    split <;> rfl
  have hunsent : ∀ v : State, (if f.ty = 1 ∧ f.committed = false then v.unmirror f.chan f.seq else v).dueView = v.dueView := fun v => by
    split
    · exact v.unmirror_dueView _ _
    · rfl
  dsimp only
  split
  · exact (hunsent _).trans hcredit
  · exact (hunsent _).trans hcredit

theorem State.queueOvr_dueView (f : OvrFrame) : (s.queueOvr f).dueView = s.dueView := by
  by_cases hty : f.ty = 3 <;> cases hpage : f.page <;> simp only [State.queueOvr, hty, hpage, if_true, if_false] <;> split <;> rfl

theorem State.cancelMirror_dueView (n : Nat) (first : Word) (count : Nat) : (s.cancelMirror n first count).dueView = s.dueView := by
  have hdrop : (s.dropLive n first count).1.dueView = s.dueView := s.dropOvr_dueView _
  unfold State.cancelMirror
  split
  next u heq => rw [← hdrop, heq]
  next u k heq => rw [← hdrop, heq, State.queueOvr_dueView]

theorem State.lag_dueView (n : Nat) : (s.lag n).dueView = s.dueView := rfl

theorem State.mirrorRec_dueView (n ty : Nat) (seq : Word) (bytes : List Byte) : (s.mirrorRec n ty seq bytes).dueView = s.dueView := by
  simp only [State.mirrorRec]
  split
  · split
    · split
      · rfl
      · exact State.queueOvr_dueView _ _
    · rfl
  · rfl

/-! ### Records that are formed (R126 to R131) -/

theorem State.layPage_dueView (p : Nat) : (s.layPage p).dueView = s.dueView := by
  rw [State.layPage_withBuf]
  rfl

theorem State.queueRec_dueView (r : Rec) : (s.queueRec r).dueView = s.dueView := rfl

theorem State.formSeal_dueView (n reason : Nat) (acc : Account) (cost next : Nat) :
    (s.formSeal n reason acc cost next).dueView = s.dueView := by
  unfold State.formSeal
  dsimp only
  split
  · rfl
  · rw [State.mirrorRec_dueView, State.layPage_dueView, State.queueRec_dueView]
    exact s.setChan_dueView n _ rfl rfl

theorem State.formDivergence_dueView (n event cause : Nat) (st : Stamp) (cost : Nat) :
    (s.formDivergence n event cause st cost).dueView = s.dueView := by
  unfold State.formDivergence
  dsimp only
  split
  · rfl
  · rw [State.mirrorRec_dueView, State.layPage_dueView, State.queueRec_dueView]
    exact s.setChan_dueView n _ rfl rfl

theorem State.formHeader_dueView (n : Nat) (acc : Account) (cost : Nat) : (s.formHeader n acc cost).dueView = s.dueView := by
  unfold State.formHeader
  dsimp only
  split
  · rfl
  · rw [State.layPage_dueView, State.queueRec_dueView]
    exact s.setChan_dueView n _ rfl rfl

theorem State.formDue_dueView {d : Due} {t : State} (h : s.formDue d = some t) : t.dueView = s.dueView := by
  simp only [State.formDue] at h
  split at h
  · split at h
    · split_ifs at h <;> simp only [Option.some.injEq] at h <;> exact h ▸ s.formSeal_dueView ..
    · split_ifs at h
      simp only [Option.some.injEq] at h
      exact h ▸ s.formDivergence_dueView ..
  · exact absurd h (by simp)

theorem State.tryDue_dueView (n fuel : Nat) : (s.tryDue n fuel).dueView = s.dueView := by
  induction fuel generalizing s with
  | zero => rfl
  | succ fuel ih =>
    unfold State.tryDue
    split
    · rfl
    next d t hsome =>
      obtain ⟨e, -, he⟩ := List.exists_of_findSome?_eq_some hsome
      split_ifs at he
      obtain ⟨u, hu, heq⟩ := Option.map_eq_some_iff.1 he
      obtain ⟨rfl, rfl⟩ := Prod.mk.inj heq
      have hformed := s.formDue_dueView hu
      rw [ih]
      exact hformed

theorem State.dueNow_dueView (n : Nat) : (s.dueNow n).dueView = s.dueView := s.tryDue_dueView _ _

theorem State.periodic_dueView (n : Nat) : (s.periodic n).dueView = s.dueView := by
  simp only [State.periodic]
  split
  · exact State.dueNow_dueView _ _
  · rfl

/-! ### Roll-over and the grains (R134, R123, R124) -/

theorem State.takeBushel_dueView {act b : Nat} {t : State} (h : s.takeBushel act = some (b, t)) : t.dueView = s.dueView := by
  have htake : ∃ x y, t = { s with fifoA := x, fifoB := y } := by
    unfold State.takeBushel at h
    cases ha : s.fifoA <;> cases hb : s.fifoB <;> simp only [ha, hb] at h <;> split_ifs at h <;> simp at h <;>
      exact ⟨_, _, h.2.symm⟩
  obtain ⟨x, y, rfl⟩ := htake
  rfl

theorem State.closeAt_dueView (b : Nat) (g : Word) : (s.closeAt b g).dueView = s.dueView := by
  unfold State.closeAt
  split <;> rfl

theorem State.moveTo_dueView (n b : Nat) : (s.moveTo n b).dueView = s.dueView :=
  State.setChan_dueView _ n _ rfl rfl

/-- A roll-over may set NO_BUSHEL; it moves no head. -/
theorem State.rollOver_edgeView (n z : Nat) : (s.rollOver n z).edgeView = s.edgeView := by
  unfold State.rollOver
  split
  · rfl
  next b t htake =>
    apply State.edgeView_of_dueView
    rw [State.formHeader_dueView, State.moveTo_dueView, State.closeAt_dueView, State.formSeal_dueView]
    exact s.takeBushel_dueView htake

/-- `k` grains have been committed to channel `n` since `s`: its head has advanced by them, and no other head has. -/
structure State.Advanced (s t : State) (n k : Nat) : Prop where
  port : s.port.frame = none → t.port = s.port
  time : t.time = s.time
  head : (t.chan n).durable = (s.chan n).durable + BitVec.ofNat 32 k
  others : ∀ m, m ≠ n → (t.chan m).durable = (s.chan m).durable

theorem State.Advanced.of_edgeView {s t u : State} {n k : Nat} (h : State.Advanced s t n k) (hu : u.edgeView = t.edgeView) :
    State.Advanced s u n k where
  port hnone := (State.port_of_edgeView hu (by rw [h.port hnone, hnone])).trans (h.port hnone)
  time := (State.time_of_edgeView hu).trans h.time
  head := (State.durable_of_edgeView hu n).trans h.head
  others m hm := (State.durable_of_edgeView hu m).trans (h.others m hm)

theorem State.Advanced.from_edgeView {s t u : State} {n k : Nat} (h : State.Advanced t u n k) (ht : t.edgeView = s.edgeView) :
    State.Advanced s u n k where
  port hnone := by
    have hport := State.port_of_edgeView ht hnone
    rw [h.port (by rw [hport, hnone]), hport]
  time := h.time.trans (State.time_of_edgeView ht)
  head := by rw [h.head, State.durable_of_edgeView ht]
  others m hm := (h.others m hm).trans (State.durable_of_edgeView ht m)

/-- A change of channel `n` that advances its head by `k`. -/
theorem State.setChan_advanced (n : Nat) (x : Chan) (k : Nat) (hx : x.durable = (s.chan n).durable + BitVec.ofNat 32 k) :
    State.Advanced s (s.setChan n x) n k where
  port _ := rfl
  time := rfl
  head := (congrArg Chan.durable (s.chan_setChan_self n x)).trans hx
  others m hm := congrArg Chan.durable (s.chan_setChan_ne n m x hm)

/-- A grain is committed to channel `n`: its record is formed and the head is one further (R123, R124). -/
theorem State.commitOne_advanced (n : Nat) (x : Chan) (r : Rec) (hx : x.durable = (s.chan n).durable + 1) :
    State.Advanced s ((s.setChan n x).queueRec r) n 1 :=
  (s.setChan_advanced n x 1 hx).of_edgeView (State.edgeView_of_dueView (State.queueRec_dueView _ r))

theorem State.Advanced.trans {s t u : State} {n j k : Nat} (h : State.Advanced s t n j) (h' : State.Advanced t u n k) :
    State.Advanced s u n (k + j) where
  port hnone := (h'.port (by rw [h.port hnone, hnone])).trans (h.port hnone)
  time := h'.time.trans h.time
  head := by rw [h'.head, h.head, Nat.add_comm, BitVec.ofNat_add, BitVec.add_assoc]
  others m hm := (h'.others m hm).trans (h.others m hm)

/-- The grains of a frame advance the head one by one. -/
theorem State.commitFrom_advanced (n tid len z : Nat) (owner : Option Nat) (held : Bool) (k : Nat) (ps : List Nat) :
    State.Advanced s (s.commitFrom n tid len z owner held k ps) n ps.length := by
  induction ps generalizing s k with
  | nil => exact ⟨fun _ => rfl, rfl, by simp [State.commitFrom], fun _ _ => rfl⟩
  | cons p ps ih => exact (s.commitOne_advanced n _ _ rfl).trans (ih _ (k + 1))

end Sys2Proof.Machine
end

section
/-! The frame on the port at its commit edge (spec/02 R43), and an admitted write frame (R38). -/

namespace Sys2Proof.Machine
variable (s : State)

/-! ### The account's check (R220) -/

/-- Updates of tenants, one after another. -/
theorem State.each_withTenants (l : List Nat) (f : State → Nat → State) (h : ∀ u t, f u t = { u with tenants := (f u t).tenants }) :
    s.each l f = { s with tenants := (s.each l f).tenants } := by
  unfold State.each
  induction l generalizing s with
  | nil => rfl
  | cons t l ih => exact (ih (f s t)).trans (congrArg (fun v : State => { v with tenants := (l.foldl f (f s t)).tenants }) (h s t))

theorem State.causeOpen_withTenants (bit : Nat) : s.causeOpen bit = { s with tenants := (s.causeOpen bit).tenants } := by
  unfold State.causeOpen
  refine s.each_withTenants tids _ fun u t => ?_
  split <;> rfl

/-- The check of the account touches LEND_OK and CLOSE in the register store, the recorder, the causes and the dictionary. -/
theorem State.checkEnergy_withRegs : s.checkEnergy =
    { s with regs := s.checkEnergy.regs, evr := s.checkEnergy.evr, tenants := s.checkEnergy.tenants, dict := s.checkEnergy.dict } := by
  unfold State.checkEnergy
  split
  · dsimp only [State.emcy]
    rw [State.causeOpen_withTenants, State.event_withEvr]
    rfl
  · rfl

theorem State.checkEnergy_fieldsKept :
    fieldsKept s s.checkEnergy [(Reg.ENG_EVENTS_CLOSE, 0), (Reg.ENG_STATUS_LEND_OK, 0)] := by
  unfold State.checkEnergy
  split
  · intro f i hne
    rw [State.emcy_getF, State.causeOpen_withTenants, State.event_withEvr]
    exact ((s.setF_onlyFields Reg.ENG_STATUS_LEND_OK 0 0).2.trans (State.setF_onlyFields _ Reg.ENG_EVENTS_CLOSE 0 1).2) f i hne
  · exact fun _ _ _ => rfl

theorem State.checkEnergy_edgeView : s.checkEnergy.edgeView = s.edgeView := by
  rw [State.checkEnergy_withRegs]
  rfl

theorem State.checkEnergy_commit : s.checkEnergy.commit = s.commit := by
  rw [State.checkEnergy_withRegs]
  exact State.commit_congr rfl rfl rfl rfl rfl rfl

theorem State.checkEnergy_lend : s.checkEnergy.lend = s.lend := by
  rw [State.lend, State.lend, State.flag, State.flag, s.checkEnergy_fieldsKept _ _ (by decide), s.checkEnergy_fieldsKept _ _ (by decide)]

/-- An account that stands within ENG_LEND after its check stood there before it. -/
theorem State.checkEnergy_of_within (h : s.checkEnergy.commit ≤ s.checkEnergy.lend) : s.checkEnergy = s :=
  s.checkEnergy_of_le (by rwa [← s.checkEnergy_commit, ← s.checkEnergy_lend])

theorem State.ite_kept {β : Type} (proj : State → β) {c : Prop} [Decidable c] {t u : State} (h : proj t = proj u) :
    proj (if c then t else u) = proj u := by
  split
  · exact h
  · rfl

/-! ### The outcomes of the commit edge (R43) -/

theorem State.note_dueView (b : List Byte) : (s.note b).dueView = s.dueView := by
  rw [State.note_withNotes]
  rfl

/-- Channel `n` takes the stamp of a commit edge (R12). -/
def State.stamped (s : State) (n : Nat) : State := s.setChan n { s.chan n with lastCommit := s.stamp }

theorem State.stamped_advanced (n : Nat) : State.Advanced s (s.stamped n) n 0 := s.setChan_advanced n _ 0 (BitVec.add_zero _).symm

theorem State.stamped_lastCommit (n : Nat) : ((s.stamped n).chan n).lastCommit = s.stamp := by rw [State.stamped, State.chan_setChan_self]

theorem State.stamp_congr {s t : State} (h : t.time = s.time) : t.stamp = s.stamp := by rw [State.stamp, State.stamp, h]

/-- The DURABLE outcome commits the frame's pages to channel `n` and stamps the commit edge (R12). -/
theorem State.commitGrains_spec (n tid earmark : Nat) (owner : Option Nat) (roll held : Bool) (pages : List Nat) (mirrored : Nat) :
    let t := s.commitGrains n tid earmark owner roll held pages mirrored
    State.Advanced s t n pages.length ∧ (t.chan n).lastCommit = s.stamp := by
  obtain ⟨u, z, hu, ht⟩ : ∃ (u : State) (z : Nat), u.edgeView = s.edgeView ∧
      (s.commitGrains n tid earmark owner roll held pages mirrored).edgeView =
        ((u.commitFrom n tid pages.length z owner held 0 pages).stamped n).edgeView := by
    exact ⟨_, _, State.ite_kept State.edgeView (s.rollOver_edgeView _ _), (State.edgeView_of_dueView (State.periodic_dueView _ n)).trans
      (State.edgeView_of_dueView (State.ite_kept State.dueView (State.note_dueView _ _)))⟩
  have hv := (u.commitFrom_advanced n tid pages.length z owner held 0 pages).from_edgeView hu
  have hw := hv.trans (State.stamped_advanced _ n)
  rw [Nat.zero_add] at hw
  exact ⟨hw.of_edgeView ht, by rw [State.lastCommit_of_edgeView ht, State.stamped_lastCommit, State.stamp_congr hv.time]⟩

/-- The port between the busy phase and the status: no frame, SP_BSY_N high, SP_BSY_MAX kept (R43). -/
def State.edgeReached (s : State) (bsy : Nat) : State := (s.modPort (fun p => { p with frame := none, bsyN := true })).busyFor bsy

theorem State.busyFor_withRegs (bsy : Nat) : s.busyFor bsy = { s with regs := (s.busyFor bsy).regs } := by
  unfold State.busyFor
  split <;> rfl

theorem State.busyFor_fieldsKept (bsy : Nat) : fieldsKept s (s.busyFor bsy) [(Reg.SP_BSY_MAX_TIME, 0)] := by
  unfold State.busyFor
  split
  · exact (s.setF_onlyFields _ _ _).2
  · exact fun _ _ _ => rfl

theorem State.edgeReached_withRegs (bsy : Nat) : s.edgeReached bsy =
    { s with regs := (s.edgeReached bsy).regs, port := { s.port with frame := none, bsyN := true } } := by
  rw [State.edgeReached, State.busyFor_withRegs]
  rfl

theorem State.edgeReached_port (bsy : Nat) : (s.edgeReached bsy).port = { s.port with frame := none, bsyN := true } := by
  rw [State.edgeReached_withRegs]

theorem State.edgeReached_chan (bsy m : Nat) : (s.edgeReached bsy).chan m = s.chan m := by
  rw [State.edgeReached_withRegs]
  rfl

theorem State.edgeReached_crcBad (bsy : Nat) : (s.edgeReached bsy).getF Reg.SP_CNT_CRCBAD_COUNT = s.getF Reg.SP_CNT_CRCBAD_COUNT :=
  State.busyFor_fieldsKept _ bsy _ _ (by decide)

/-- The commit edge's outcome for frame `f`, once reached (R43). -/
def State.edgeOutcome (s : State) (f : Frame) (bsy : Nat) : State × Nat :=
  (s.edgeReached bsy).commitEdge f.chan f.tid f.earmark (some f.tid) f.word1 f.roll f.held (f.crc == f.trailer) f.pages f.mirrored

theorem State.dropPages_dueView (ps : List Nat) : (s.dropPages ps).dueView = s.dueView := rfl

/-- A frame that is not DURABLE leaves port, heads and registers (R43). -/
theorem State.commitEdge_bad (n tid earmark : Nat) (owner : Option Nat) (first : Word) (roll held good : Bool) (pages : List Nat)
    (mirrored : Nat) (h : good = false ∨ (s.chan n).halted = true ∨ (s.chan n).isOpen = false) :
    ∃ v, s.commitEdge n tid earmark owner first roll held good pages mirrored = (v, if good then 7 else 3) ∧ v.dueView = s.dueView := by
  refine ⟨_, ?_, (State.dropPages_dueView _ pages).trans (s.cancelMirror_dueView n first mirrored)⟩
  cases good
  · rfl
  · have hbad : ((s.chan n).halted || !(s.chan n).isOpen) = true := by simpa using h
    simp [State.commitEdge, hbad]

/-- A frame with the right CRC on an open channel that is not halted is DURABLE (R43). -/
theorem State.commitEdge_good (n tid earmark : Nat) (owner : Option Nat) (first : Word) (roll held : Bool) (pages : List Nat)
    (mirrored : Nat) (hh : (s.chan n).halted = false) (ho : (s.chan n).isOpen = true) :
    ∃ v, s.commitEdge n tid earmark owner first roll held true pages mirrored = (v, 0) ∧ State.Advanced s v n pages.length ∧
      (v.chan n).lastCommit = s.stamp := by
  have hdrop : (s.dropLive n first mirrored).1.edgeView = s.edgeView := State.edgeView_of_dueView (s.dropOvr_dueView _)
  obtain ⟨hadv, hstamp⟩ := State.commitGrains_spec (s.dropLive n first mirrored).1 n tid earmark owner roll held pages
    (s.dropLive n first mirrored).2
  exact ⟨_, by simp [State.commitEdge, hh, ho], hadv.from_edgeView hdrop, hstamp.trans (State.stamp_congr (State.time_of_edgeView hdrop))⟩

/-- What follows the outcome: the count of a wrong CRC, the status words, the records that fall due and the account's check. -/
theorem State.frameCommit_spec (f : Frame) (bsy code : Nat) (v : State) (hlost : f.statusLost = false) (hv : v.port.frame = none)
    (h : s.edgeOutcome f bsy = (v, code)) : let t := s.frameCommit f bsy
    t.port = { v.port with out := [statusWord 0 f.tid f.chan (if code = 0 then f.len else 0) code, (v.chan f.chan).durable] } ∧
      (∀ m, (t.chan m).durable = (v.chan m).durable) ∧ (∀ m, (t.chan m).lastCommit = (v.chan m).lastCommit) ∧
      (code = 3 → t.getF Reg.SP_CNT_CRCBAD_COUNT = (v.getF Reg.SP_CNT_CRCBAD_COUNT + 1) % 2 ^ 32) := by
  intro t
  let counted : State := if code = 3 then v.bump Reg.SP_CNT_CRCBAD_COUNT else v
  have hcounted : counted.edgeView = v.edgeView := State.ite_kept State.edgeView rfl
  let told : State := counted.modPort (fun p => { p with
    out := [statusWord 0 f.tid f.chan (if code = 0 then f.len else 0) code, (counted.chan f.chan).durable] })
  have ht : t = (told.dueNow f.chan).checkEnergy := by
    change s.frameCommit f bsy = _
    have hcommit : (s.edgeReached bsy).commitEdge f.chan f.tid f.earmark (some f.tid) f.word1 f.roll f.held (f.crc == f.trailer)
        f.pages f.mirrored = (v, code) := h
    rw [State.edgeReached, State.busyFor] at hcommit
    simp only [State.frameCommit, hcommit, hlost, told, counted]
    rfl
  have hview : t.edgeView = told.edgeView := by
    rw [ht, State.checkEnergy_edgeView, State.edgeView_of_dueView (State.dueNow_dueView _ _)]
  have hport : counted.port = v.port := State.port_of_edgeView hcounted hv
  refine ⟨(State.port_of_edgeView hview (by change counted.port.frame = none; rw [hport, hv])).trans ?_, fun m => ?_, fun m => ?_, fun h3 => ?_⟩
  · simp only [told, State.modPort, hport, State.durable_of_edgeView hcounted]
  · exact (State.durable_of_edgeView hview m).trans (State.durable_of_edgeView hcounted m)
  · exact (State.lastCommit_of_edgeView hview m).trans (State.lastCommit_of_edgeView hcounted m)
  · rw [ht, State.checkEnergy_fieldsKept _ _ _ (by decide), State.getF_congr (State.regs_of_dueView (State.dueNow_dueView _ _))]
    change (if code = 3 then v.bump Reg.SP_CNT_CRCBAD_COUNT else v).getF Reg.SP_CNT_CRCBAD_COUNT = _
    rw [if_pos h3]
    exact State.getF_bump_self _ _ _ _ (by decide)

theorem exec_commitEdge_frame (f : Frame) (sq bsy : Nat) (hl : s.live = true) (hf : s.port.frame = some f) (hph : f.phase = .writing)
    (hty : f.ty = 0) (hdr : f.driven = true) : exec (.commitEdge false sq bsy) s = .next (s.frameCommit f bsy) := by
  change execCommitEdge false sq bsy s = _
  simp [execCommitEdge, State.whenLive_of_live _ _ hl, hf, hph, hty, hdr]

/-- A frame that is refused at its commit edge: the head stays and the status carries it. -/
theorem frameCommit_refused (f : Frame) (bsy : Nat) (hlost : f.statusLost = false)
    (h : (f.crc == f.trailer) = false ∨ (s.chan f.chan).halted = true ∨ (s.chan f.chan).isOpen = false) : let t := s.frameCommit f bsy
    let code := if f.crc == f.trailer then 7 else 3
    t.port.frame = none ∧ t.port.bsyN = true ∧ t.port.out = [statusWord 0 f.tid f.chan 0 code, (s.chan f.chan).durable] ∧
      (∀ m, (t.chan m).durable = (s.chan m).durable) ∧
      (code = 3 → t.getF Reg.SP_CNT_CRCBAD_COUNT = (s.getF Reg.SP_CNT_CRCBAD_COUNT + 1) % 2 ^ 32) := by
  intro t code
  obtain ⟨v, hout, hview⟩ := (s.edgeReached bsy).commitEdge_bad f.chan f.tid f.earmark (some f.tid) f.word1 f.roll f.held
    (f.crc == f.trailer) f.pages f.mirrored (by simpa only [State.edgeReached_chan] using h)
  have hdur : ∀ m, (v.chan m).durable = (s.chan m).durable := fun m => by
    rw [State.durable_of_edgeView (State.edgeView_of_dueView hview), State.edgeReached_chan]
  have hport := (State.port_of_edgeView (State.edgeView_of_dueView hview) (by rw [State.edgeReached_port])).trans (s.edgeReached_port bsy)
  obtain ⟨hp, hd, -, hc⟩ := s.frameCommit_spec f bsy code v hlost (by rw [hport]) hout
  have hne : code ≠ 0 := by
    unfold code
    split <;> decide
  refine ⟨by rw [hp, hport], by rw [hp, hport], ?_, fun m => (hd m).trans (hdur m), fun h3 => ?_⟩
  · rw [hp, if_neg hne, hdur]
  · rw [hc h3, State.getF_congr (State.regs_of_dueView hview), State.edgeReached_crcBad]

/-- A DURABLE frame: the head advances by its grains and the status carries it (R12, R43). -/
theorem frameCommit_durable (f : Frame) (bsy : Nat) (hlost : f.statusLost = false) (hcrc : f.crc = f.trailer)
    (hh : (s.chan f.chan).halted = false) (ho : (s.chan f.chan).isOpen = true) : let t := s.frameCommit f bsy
    t.port.frame = none ∧
      t.port.out = [statusWord 0 f.tid f.chan f.len 0, (s.chan f.chan).durable + BitVec.ofNat 32 f.pages.length] ∧
      (t.chan f.chan).durable = (s.chan f.chan).durable + BitVec.ofNat 32 f.pages.length ∧
      (t.chan f.chan).lastCommit = s.stamp ∧ ∀ m, m ≠ f.chan → (t.chan m).durable = (s.chan m).durable := by
  intro t
  obtain ⟨v, hout, hadv, hstamp⟩ := (s.edgeReached bsy).commitEdge_good f.chan f.tid f.earmark (some f.tid) f.word1 f.roll f.held
    f.pages f.mirrored (by rwa [State.edgeReached_chan]) (by rwa [State.edgeReached_chan])
  have hnone : (s.edgeReached bsy).port.frame = none := by rw [State.edgeReached_port]
  have hport := hadv.port hnone
  have hhead := hadv.head
  rw [State.edgeReached_chan] at hhead
  obtain ⟨hp, hd, hs, -⟩ := s.frameCommit_spec f bsy 0 v hlost (by rw [hport, hnone]) (by rw [State.edgeOutcome, hcrc, beq_self_eq_true, hout])
  refine ⟨by rw [hp, hport, hnone], by rw [hp, hhead, if_pos rfl], (hd _).trans hhead, ?_, fun m hm => ?_⟩
  · rw [hs, hstamp, State.edgeReached_withRegs]
    rfl
  · rw [hd, hadv.others m hm, State.edgeReached_chan]

/-- Settles O8: the CRC, then the channel, decide the outcome. -/
theorem commitEdgeOutcomes : Obligations.CommitEdgeOutcomes := by
  intro s f sq bsy hl hf hph hty hdr hlost
  have hexec := exec_commitEdge_frame s f sq bsy hl hf hph hty hdr
  refine ⟨fun hcrc => ⟨_, hexec, ?_⟩, fun hcrc hbad => ⟨_, hexec, ?_⟩, fun hcrc hh ho => ⟨_, hexec, ?_⟩⟩
  · have hbeq : (f.crc == f.trailer) = false := beq_false_of_ne hcrc
    obtain ⟨hframe, hbsy, hout, hheads, hcount⟩ := frameCommit_refused s f bsy hlost (.inl hbeq)
    simp only [hbeq, Bool.false_eq_true, if_false, true_implies] at hout hcount
    exact ⟨hframe, hbsy, hout, hheads, hcount⟩
  · have hbeq : (f.crc == f.trailer) = true := by simp [hcrc]
    obtain ⟨hframe, -, hout, hheads, -⟩ := frameCommit_refused s f bsy hlost (.inr hbad)
    simp only [hbeq, if_true] at hout
    exact ⟨hframe, hout, hheads⟩
  · exact frameCommit_durable s f bsy hlost hcrc hh ho

end Sys2Proof.Machine
end

section
/-! An admitted write frame (spec/02 R38, R39): what is on the port, and what stays. -/

namespace Sys2Proof.Machine
variable (s : State)

/-! ### The pages that the allocator takes (spec/05 R98) -/

theorem State.pageFree_congr {s t : State} (hbase : t.getF Reg.BUF_POOL_BASE_PAGE = s.getF Reg.BUF_POOL_BASE_PAGE)
    (hret : ∀ i, t.getF Reg.ECC_RETIRE_MAP i = s.getF Reg.ECC_RETIRE_MAP i) (hp : t.pages = s.pages) : t.pageFree = s.pageFree := by
  funext p
  simp only [State.pageFree, State.retired, hbase, hret, hp]

/-- The allocator goes by the pool region, the retired pages, the pages taken and the bank of the last allocation. -/
theorem State.allocPages_snd_congr {s t : State} (g : Page) (n : Nat) (hbase : t.getF Reg.BUF_POOL_BASE_PAGE = s.getF Reg.BUF_POOL_BASE_PAGE)
    (hret : ∀ i, t.getF Reg.ECC_RETIRE_MAP i = s.getF Reg.ECC_RETIRE_MAP i) (hp : t.pages = s.pages) (hb : t.lastBank = s.lastBank) :
    (t.allocPages g n).2 = (s.allocPages g n).2 := by
  induction n generalizing s t with
  | zero => rfl
  | succ n ih =>
    have hnext : t.nextPage = s.nextPage := by rw [State.nextPage, State.nextPage, State.pageFree_congr hbase hret hp, hb]
    unfold State.allocPages
    rw [hnext]
    split
    · rfl
    next p _ =>
      refine congrArg (p :: ·) (ih ?_ ?_ ?_ ?_)
      exacts [hbase, hret, by rw [hp], rfl]

theorem State.takeHeader_takePages (len : Nat) (owner : Option Nat) :
    (s.takeHeader.takeSpinup.takePages len owner).2 = (s.takePages len owner).2 := by
  have hget : ∀ f i, 1 < f.blk → s.takeHeader.takeSpinup.getF f i = s.getF f i := fun f i h =>
    (State.getF_congr (State.takeSpinup_regs _) f i).trans (s.takeHeader_getF f i h)
  have hheat : s.takeHeader.takeSpinup.heating = s.heating := by
    rw [State.heating, State.heating, State.flag, State.flag, hget _ _ (by decide)]
  rw [State.takePages, State.takePages, hheat]
  exact State.allocPages_snd_congr _ _ (hget _ _ (by decide)) (fun i => hget _ i (by decide))
    (by rw [State.takeSpinup_withPower]; rfl) (by rw [State.takeSpinup_withPower]; rfl)

/-! ### The frame and what stays -/

@[simp] theorem State.fillPages_bushels (ps : List Nat) (bs : List Byte) : (s.fillPages ps bs).bushels = s.bushels := by rw [State.fillPages_withBuf]
@[simp] theorem State.fillPages_evr (ps : List Nat) (bs : List Byte) : (s.fillPages ps bs).evr = s.evr := by rw [State.fillPages_withBuf]
@[simp] theorem State.takePages_bushels (n : Nat) (o : Option Nat) : (s.takePages n o).1.bushels = s.bushels := by rw [State.takePages_withPages]
@[simp] theorem State.takePages_evr (n : Nat) (o : Option Nat) : (s.takePages n o).1.evr = s.evr := by rw [State.takePages_withPages]
@[simp] theorem State.takeSpinup_bushels : s.takeSpinup.bushels = s.bushels := by rw [State.takeSpinup_withPower]
@[simp] theorem State.takeSpinup_evr : s.takeSpinup.evr = s.evr := by rw [State.takeSpinup_withPower]
@[simp] theorem State.admitted_bushels (k n : Nat) : (s.admitted k n).bushels = s.bushels := by rw [State.admitted_withShed]
@[simp] theorem State.admitted_evr (k n : Nat) : (s.admitted k n).evr = s.evr := by rw [State.admitted_withShed]

/-- A write frame that waits for its commit edge: what the header, the data words and the trailer have put in it (R38, R42). -/
structure Frame.IsWrite (f : Frame) (t n k : Nat) (seq : Word) (data : List Word) (z : Word) : Prop where
  phase : f.phase = .writing
  driven : f.driven = true
  statusLost : f.statusLost = false
  ty : f.ty = 0
  tid : f.tid = t
  chan : f.chan = n
  len : f.len = k
  word1 : f.word1 = seq
  trailer : f.trailer = z
  crc : f.crc = crc32c (leBytes 4 (headerWord 0 t n 0 k).toNat ++ leBytes 4 seq.toNat ++ wordsBytes data)

/-- Taking a write puts its frame on the port and leaves registers, channels, records, commands, bushels and the recorder; the
reserve's fill and the account are then judged. -/
theorem State.acceptWrite_frame (tid n len : Nat) (seq : Word) (data : List Word) (trailer : Word) :
    ∃ (u : State) (f : Frame), s.acceptWrite tid n len seq data trailer = u.heatFill.checkEnergy ∧
      u.port = { s.port with frame := some f, bsyN := false } ∧ f.IsWrite tid n len seq data trailer ∧
      f.earmark = s.earmarkOf n len ∧ f.pages = (s.takeSpinup.takePages len (some tid)).2 ∧
      u.regs = s.regs ∧ u.chans = s.chans ∧ u.rwc = s.rwc ∧ u.cmds = s.cmds ∧ u.bushels = s.bushels ∧ u.evr = s.evr := by
  refine ⟨_, ?frame, rfl, ?port, ?isWrite, ?earmark, ?pages, ?kept⟩
  case port => rw [State.admitted_port, State.modPort, State.fillPages_port, State.takePages_port, State.takeSpinup_port]
  case isWrite => exact ⟨rfl, rfl, rfl, rfl, rfl, rfl, rfl, rfl, rfl, rfl⟩
  case earmark => rfl
  case pages => rfl
  case kept => simp

/-- Settles O6: the frame is the one that `State.acceptWrite_frame` describes; the account stays within ENG_LEND
(`admissionStaysWithinLend`), so its check changes nothing. -/
theorem writeFrameAdmitted : Obligations.WriteFrameAdmitted := by
  intro s tid n len trailer data hturn hmay hready henergy hcredit hpos hmax hdata hspn
  have hexec := exec_spWriteGrains_admitted s tid n len trailer data hturn hmay hready henergy hcredit hpos hmax hdata
  obtain ⟨t, ht, -, -, hwithin⟩ := admissionStaysWithinLend s tid n len trailer data hturn hmay hready henergy hcredit hpos hmax hdata hspn
  obtain ⟨u, f, hu, hport, hf, hearmark, hpages, hregs, hchans, hrwc, hcmds, hbushels, hevr⟩ :=
    s.takeHeader.acceptWrite_frame tid n len ((s.chan n).durable + 1) data trailer
  have hheat : u.spn ≠ 3 := by
    rw [State.spn, State.getF_congr hregs, s.takeHeader_getF Reg.SPN_STATE_STATE _ (by decide)]
    exact hspn
  rw [hexec, hu, u.heatFill_of_not_heat hheat, Host.Outcome.next.injEq] at ht
  rw [hu, u.heatFill_of_not_heat hheat, u.checkEnergy_of_within (ht ▸ hwithin)] at hexec
  obtain ⟨⟨-, hkept⟩, hcount⟩ := s.takeHeader_answered
  refine ⟨u, f, hexec, by rw [hport], hf.phase, hf.driven, hf.statusLost, hf.ty, hf.tid, hf.chan, hf.len, hf.word1,
    hearmark.trans (s.takeHeader_earmarkOf n len), hf.trailer, hf.crc, hpages.trans (s.takeHeader_takePages len _), ?_⟩
  refine ⟨by rw [hport]; rfl, by rw [hport]; rfl, by rw [hport], ?_, hchans, hrwc, hcmds, hbushels, hevr, fun g i hne => ?_⟩
  · rw [State.getF_congr hregs, hcount]
  · rw [State.getF_congr hregs]
    exact hkept g i hne

end Sys2Proof.Machine
end

section
/-! Management frames (spec/02 R38 step 4, R39, R42, R43): their headers, and the words of an MGMT_WRITE. -/

namespace Sys2Proof.Machine
variable (s : State)

/-! ### The header -/

section
variable {s} (ty tid : Nat) {n len : Nat} {adr : Word} (f : State → State)

/-- Step 4 of R38. -/
theorem State.mgmtHeader_of_chan (hturn : s.portTurn = true) (hn : n ≠ 0) :
    s.mgmtHeader ty tid n len adr f = s.refuse false ty tid n 6 adr := by
  rw [State.mgmtHeader, s.header_of_turn _ hturn, if_pos hn]

/-- The H1 check of R39. -/
theorem State.mgmtHeader_of_bad (hturn : s.portTurn = true) (hbad : s.mgmtBad tid len adr = true) :
    s.mgmtHeader ty tid 0 len adr f = s.refuse true ty tid 0 6 adr := by
  rw [State.mgmtHeader, s.header_of_turn _ hturn, if_neg (by decide), if_pos hbad]

theorem State.mgmtHeader_of_good (hturn : s.portTurn = true) (hgood : s.mgmtBad tid len adr = false) :
    s.mgmtHeader ty tid 0 len adr f = f s.takeHeader := by
  rw [State.mgmtHeader, s.header_of_turn _ hturn, if_neg (by decide), hgood, if_neg (by decide)]

end

section
variable {s} {tid len bsy : Nat} {adr trailer : Word} {data : List Word}

/-- A management header that is turned away answers alike, written or read. -/
theorem exec_spMgmt_refused {n : Nat} {r0 : Bool}
    (h : ∀ ty f, s.mgmtHeader ty tid n len adr f = s.refuse r0 ty tid n 6 adr) :
    (∃ t, exec (.spMgmtWrite tid n len adr data trailer bsy) s = .next t ∧ refusedWith s t r0 2 tid n 6 adr) ∧
      ∃ t, exec (.spMgmtRead tid n len adr) s = .next t ∧ refusedWith s t r0 3 tid n 6 adr :=
  ⟨⟨_, congrArg Host.Outcome.next (h 2 _), s.refuse_refusedWith r0 2 tid n 6 adr⟩,
    ⟨_, congrArg Host.Outcome.next (h 3 _), s.refuse_refusedWith r0 3 tid n 6 adr⟩⟩

/-- The frame of an admitted MGMT_READ (R44). -/
theorem exec_spMgmtRead_admitted (hturn : s.portTurn = true) (hgood : s.mgmtBad tid len adr = false) :
    ∃ (t : State) (f : Frame), exec (.spMgmtRead tid 0 len adr) s = .next t ∧
      t.port.frame = some f ∧ f.phase = .reading ∧ f.ty = 3 ∧ f.tid = tid ∧ f.len = len ∧ f.word1 = adr ∧
      t.port.rdy0 = true ∧ t.port.rdy1 = true ∧ t.port.bsyN = false ∧
      t = { s with regs := t.regs, port := t.port } ∧ fieldsKept s t [(Reg.SP_CNT_ACCEPT_COUNT, 0)] := by
  have hexec : exec (.spMgmtRead tid 0 len adr) s = .next _ := congrArg Host.Outcome.next (State.mgmtHeader_of_good 3 tid _ hturn hgood)
  exact ⟨_, _, hexec, rfl, rfl, rfl, rfl, rfl, rfl, rfl, rfl, rfl, rfl, s.takeHeader_answered.1.2⟩

/-! ### The commit edge of an MGMT_WRITE -/

theorem fieldsKept.comm {t : State} {l l' : List (Field × Nat)} (h : fieldsKept s t (l ++ l')) : fieldsKept s t (l' ++ l) :=
  fun f i hne => h f i fun e he => hne e (List.mem_append.2 (List.mem_append.1 he).symm)

/-- An admitted header and its busy phase. -/
theorem State.takeHeader_busyFor_fieldsKept (bsy : Nat) :
    fieldsKept s (s.takeHeader.busyFor bsy) [(Reg.SP_CNT_ACCEPT_COUNT, 0), (Reg.SP_BSY_MAX_TIME, 0)] :=
  fieldsKept.comm (l := [(Reg.SP_BSY_MAX_TIME, 0)]) (s.takeHeader_answered.1.2.trans (s.takeHeader.busyFor_fieldsKept bsy))

theorem exec_spMgmtWrite_data (hturn : s.portTurn = true) (hgood : s.mgmtBad tid len adr = false) (hlen : data.length = len) :
    exec (.spMgmtWrite tid 0 len adr data trailer bsy) s = .next (
      if crc32c (leBytes 4 (headerWord 2 tid 0 0 len).toNat ++ leBytes 4 adr.toNat ++ wordsBytes data) = trailer then
        ((s.takeHeader.busyFor bsy).mgmtWords tid (bitOf adr.toNat 31) (bitsOf adr.toNat 0 16) data).modPort
          (fun p => { p with out := [statusWord 2 tid 0 len 0, adr] })
      else
        ((s.takeHeader.busyFor bsy).bump Reg.SP_CNT_CRCBAD_COUNT).modPort (fun p => { p with out := [statusWord 2 tid 0 0 3, adr] })) := by
  change execSpMgmtWrite tid 0 len adr data trailer bsy s = _
  rw [execSpMgmtWrite, State.mgmtHeader_of_good 2 tid _ hturn hgood, if_neg (by omega), if_neg (by omega)]

/-- CRC_BAD writes none of the words (R43). -/
theorem exec_spMgmtWrite_crcBad (hturn : s.portTurn = true) (hgood : s.mgmtBad tid len adr = false) (hlen : data.length = len)
    (hcrc : crc32c (leBytes 4 (headerWord 2 tid 0 0 len).toNat ++ leBytes 4 adr.toNat ++ wordsBytes data) ≠ trailer) :
    ∃ t, exec (.spMgmtWrite tid 0 len adr data trailer bsy) s = .next t ∧ t.port.out = [statusWord 2 tid 0 0 3, adr] ∧
      t = { s with regs := t.regs, port := t.port } ∧
      fieldsKept s t [(Reg.SP_CNT_ACCEPT_COUNT, 0), (Reg.SP_CNT_CRCBAD_COUNT, 0), (Reg.SP_BSY_MAX_TIME, 0)] ∧
      t.getF Reg.SP_CNT_CRCBAD_COUNT = (s.getF Reg.SP_CNT_CRCBAD_COUNT + 1) % 2 ^ 32 := by
  have hbusy := s.takeHeader.busyFor_fieldsKept bsy
  have hcount := (State.setF_onlyFields (s.takeHeader.busyFor bsy) Reg.SP_CNT_CRCBAD_COUNT 0
    ((s.takeHeader.busyFor bsy).getF Reg.SP_CNT_CRCBAD_COUNT + 1)).2
  refine ⟨_, exec_spMgmtWrite_data hturn hgood hlen, ?_⟩
  rw [if_neg hcrc]
  refine ⟨rfl, ?_, ?_, ?_⟩
  · rw [State.busyFor_withRegs]
    rfl
  · exact fieldsKept.comm (l := [(Reg.SP_CNT_CRCBAD_COUNT, 0), (Reg.SP_BSY_MAX_TIME, 0)])
      (s.takeHeader_answered.1.2.trans (hbusy.trans hcount))
  · rw [State.modPort_getF, State.getF_bump_self _ _ _ _ (by decide), hbusy _ _ (by decide),
      s.takeHeader_answered.1.2 _ _ (by decide)]
    rfl

/-! ### A word at INT_MASK of the tenant's window (R87) -/

theorem bits_intMask : bitOf 0x104 31 = false ∧ bitsOf 0x104 0 16 = 0x104 ∧ bitsOf 0x104 16 15 = 0 := by decide

theorem State.mgmtBad_intMask (h : s.sessionOpen tid = true) : s.mgmtBad tid 1 0x104 = false := by
  simp [State.mgmtBad, h, bits_intMask]

theorem State.mgmtWords_intMask (v : Word) :
    s.mgmtWords tid (bitOf (0x104 : Word).toNat 31) (bitsOf (0x104 : Word).toNat 0 16) [v] =
      s.setTen tid { s.ten tid with mask := BitVec.ofNat 7 v.toNat } := by
  simp [State.mgmtWords, State.windowWrite, bits_intMask]

theorem exec_spMgmtWrite_intMask (v : Word) (hturn : s.portTurn = true) (hs : s.sessionOpen tid = true) :
    ∃ t, exec (.spMgmtWrite tid 0 1 0x104 [v]
        (crc32c (leBytes 4 (headerWord 2 tid 0 0 1).toNat ++ leBytes 4 (0x104 : Word).toNat ++ wordsBytes [v])) bsy) s = .next t ∧
      t.port.out = [statusWord 2 tid 0 1 0, 0x104] ∧ t.ten tid = { s.ten tid with mask := BitVec.ofNat 7 v.toNat } ∧
      (∀ u, u ≠ tid → t.ten u = s.ten u) ∧ t = { s with regs := t.regs, port := t.port, tenants := t.tenants } ∧
      fieldsKept s t [(Reg.SP_CNT_ACCEPT_COUNT, 0), (Reg.SP_BSY_MAX_TIME, 0)] := by
  have hten : (s.takeHeader.busyFor bsy).ten = s.ten := by
    rw [State.busyFor_withRegs]
    rfl
  refine ⟨_, exec_spMgmtWrite_data hturn (State.mgmtBad_intMask hs) rfl, ?_⟩
  rw [if_pos rfl, State.mgmtWords_intMask, hten]
  refine ⟨rfl, State.ten_setTen_self _ _ _, fun u hu => ?_, ?_, State.takeHeader_busyFor_fieldsKept bsy⟩
  · exact (State.ten_setTen_ne _ _ _ _ hu).trans (congrFun hten u)
  · rw [State.busyFor_withRegs]
    rfl

end

/-- Settles O10: a header by `State.mgmtHeader`'s three cases, a write by its CRC. -/
theorem managementFrames : Obligations.ManagementFrames := by
  refine ⟨fun s tid n len bsy adr trailer data hturn => ⟨fun hn => ?_, fun hbad => ?_, fun hgood => ?_⟩,
    fun s tid len bsy adr trailer data hturn => ⟨fun hgood hlen hcrc => ?_, fun v hs => ?_⟩⟩
  · exact exec_spMgmt_refused fun ty f => State.mgmtHeader_of_chan ty tid f hturn hn
  · exact exec_spMgmt_refused fun ty f => State.mgmtHeader_of_bad ty tid f hturn hbad
  · exact exec_spMgmtRead_admitted hturn hgood
  · exact exec_spMgmtWrite_crcBad hturn hgood hlen hcrc
  · exact exec_spMgmtWrite_intMask v hturn hs

end Sys2Proof.Machine
end

section
/-! The headers that carry no data, a closed port, and what ends a frame or the port (spec/02 R36, R38, R39, R45, R48 to R51; spec/03 R58). -/

namespace Sys2Proof.Machine
variable (s : State)

/-! ### Reserved headers (R38 step 2) -/

/-- A reserved header is refused and recorded. -/
theorem State.reservedHeader_spec (w0 w1 : Word) : let t := s.reservedHeader w0 w1
    t.port.out = [statusWord (bitsOf w0.toNat 29 3) (bitsOf w0.toNat 25 4) (bitsOf w0.toNat 19 6) 0 6,
        if bitsOf w0.toNat 29 3 ≤ 1 then 0 else w1] ∧
      t.evr = (s.reserved (bitsOf w0.toNat 25 4) (headerDetail w0)).evr ∧
      t = { s with regs := t.regs, port := t.port, evr := t.evr } ∧ fieldsKept s t [(Reg.SP_CNT_REFUSE_COUNT, 0)] := by
  obtain ⟨⟨-, hkept⟩, -⟩ := s.refuse_refusedWith false (bitsOf w0.toNat 29 3) (bitsOf w0.toNat 25 4) (bitsOf w0.toNat 19 6) 6
    (if bitsOf w0.toNat 29 3 ≤ 1 then 0 else w1)
  dsimp only [State.reservedHeader, State.reserved]
  refine ⟨?out, State.eventC_evr_congr (by rfl) (by rfl) (by rfl) _ _ _, ?frame, ?kept⟩
  case out =>
    rw [State.eventC_withEvr]
    rfl
  case frame =>
    rw [State.eventC_withEvr]
    rfl
  case kept =>
    rw [State.eventC_withEvr]
    exact hkept

theorem exec_spReservedTypeHeader (w0 w1 : Word) (hturn : s.portTurn = true)
    (h : 6 ≤ bitsOf w0.toNat 29 3 ∨ bitsOf w0.toNat 16 3 ≠ 0) :
    exec (.spReservedTypeHeader w0 w1) s = .next (s.reservedHeader w0 w1) := by
  have h' : (decide (6 ≤ bitsOf w0.toNat 29 3) || bitsOf w0.toNat 16 3 != 0) = true := by simpa using h
  change execSpReservedTypeHeader w0 w1 s = _
  rw [execSpReservedTypeHeader, s.header_of_turn _ hturn, if_pos h']

/-! ### Doorbells (R38, R39, R58) -/

/-- How far entry `ix` of queue `q` is ahead of the queue's head. -/
def State.ringAhead (s : State) (q ix : Nat) : Nat := (ix + s.qDepth q - s.getF Reg.QIDX_HEAD q) % s.qDepth q

section
variable {s} {q ix : Nat}

/-- A forward queue's owner moves its tail. -/
theorem State.ring_tail (hix : ix < s.qDepth q) (hen : s.flag Reg.QCFG_EN q = true) (hdir : s.flag Reg.QCFG_DIR q = false)
    (h : s.ringAhead q (s.getF Reg.QIDX_TAIL q) ≤ s.ringAhead q ix) : s.ring q ix = s.setF Reg.QIDX_TAIL q ix := by
  simp only [State.ringAhead] at h
  simp [State.ring, hen, hdir, Nat.not_le.2 hix, Nat.not_lt.2 h]

/-- A completion queue's owner moves its head. -/
theorem State.ring_head (hix : ix < s.qDepth q) (hen : s.flag Reg.QCFG_EN q = true) (hdir : s.flag Reg.QCFG_DIR q = true)
    (h : s.ringAhead q ix ≤ s.ringAhead q (s.getF Reg.QIDX_TAIL q)) : s.ring q ix = s.setF Reg.QIDX_HEAD q ix := by
  simp only [State.ringAhead] at h
  simp [State.ring, hen, hdir, Nat.not_le.2 hix, Nat.not_lt.2 h]

/-- A queue that is not enabled, or an index that does not lie where the owner may move it, meets the queue's error path. -/
theorem State.ring_bad {t : Nat} (howner : s.qOwner q = some t)
    (h : s.flag Reg.QCFG_EN q = false ∨
      (s.flag Reg.QCFG_DIR q = false ∧ s.ringAhead q ix < s.ringAhead q (s.getF Reg.QIDX_TAIL q)) ∨
      (s.flag Reg.QCFG_DIR q = true ∧ s.ringAhead q (s.getF Reg.QIDX_TAIL q) < s.ringAhead q ix)) :
    s.ring q ix = (s.raise Reg.QERR_ERR_DB q).cause t 1 := by
  have howner' : (s.raise Reg.QERR_ERR_DB q).qOwner q = some t := by
    rw [← howner, State.qOwner, State.qOwner, State.flag, State.flag, State.raise,
      s.getF_setF_apart Reg.QERR_ERR_DB Reg.QCFG_FW q 1 (by decide), s.getF_setF_apart Reg.QERR_ERR_DB Reg.QCFG_OWNER q 1 (by decide)]
  simp only [State.ringAhead] at h
  rcases h with hen | ⟨hdir, hlt⟩ | ⟨hdir, hlt⟩
  · simp [State.ring, hen, howner']
  · simp [State.ring, hdir, hlt, howner']
  · simp [State.ring, hdir, hlt, howner']

end

theorem State.takeHeader_qDepth (q : Nat) : s.takeHeader.qDepth q = s.qDepth q := by
  rw [State.qDepth, State.qDepth, s.takeHeader_getF _ _ (by decide)]

theorem State.takeHeader_qOwner (q : Nat) : s.takeHeader.qOwner q = s.qOwner q := by
  rw [State.qOwner, State.qOwner, s.takeHeader_flag _ _ (by decide), s.takeHeader_getF _ _ (by decide)]

theorem State.takeHeader_ringAhead (q ix : Nat) : s.takeHeader.ringAhead q ix = s.ringAhead q ix := by
  rw [State.ringAhead, State.ringAhead, s.takeHeader_qDepth, s.takeHeader_getF _ _ (by decide)]

/-- The fields of a doorbell's word (R45). -/
theorem bits_doorbell {q ix : Nat} (hq : q < 256) (hix : ix < 4096) : let w := (BitVec.ofNat 32 (q + 65536 * ix)).toNat
    bitsOf w 0 8 = q ∧ bitsOf w 8 8 = 0 ∧ bitsOf w 16 12 = ix ∧ bitsOf w 28 4 = 0 := by
  have hw : (BitVec.ofNat 32 (q + 65536 * ix)).toNat = q + 65536 * ix := by
    rw [BitVec.toNat_ofNat]
    omega
  simp only [hw, bitsOf]
  omega

section
variable {s} {tid : Nat} (hturn : s.portTurn = true)
include hturn

theorem exec_spDoorbell_refused {n : Nat} (len : Nat) (w : Word) (h : n ≠ 0 ∨ s.sessionOpen tid = false) :
    exec (.spDoorbell tid n len w) s = .next (s.refuse false 4 tid n 6 w) := by
  change execSpDoorbell tid n len w s = _
  rw [execSpDoorbell, s.header_of_turn _ hturn]
  by_cases hn : n = 0
  · have hs : s.sessionOpen tid = false := h.resolve_left (not_not_intro hn)
    simp [hn, hs]
  · simp [hn]

/-- A doorbell of a queue's owner is taken, and rings. -/
theorem exec_spDoorbell_rings {q ix : Nat} (hq : q < 256) (hix : ix < 4096) (hs : s.sessionOpen tid = true)
    (howner : s.qOwner q = some tid) (hd : ix < s.qDepth q) :
    exec (.spDoorbell tid 0 0 (BitVec.ofNat 32 (q + 65536 * ix))) s = .next (s.takeHeader.ring q ix) := by
  obtain ⟨hqueue, hlow, hindex, hhigh⟩ := bits_doorbell hq hix
  change execSpDoorbell tid 0 0 _ s = _
  rw [execSpDoorbell, s.header_of_turn _ hturn]
  simp only [hqueue, hlow, hindex, hhigh, hs, howner, Nat.not_le.2 hd]
  simp

end

/-- One more field set after an accepted header. -/
theorem State.takeHeader_setF_fieldsKept (f : Field) (i v : Nat) :
    fieldsKept s (s.takeHeader.setF f i v) [(Reg.SP_CNT_ACCEPT_COUNT, 0), (f, i)] :=
  fieldsKept.comm (l := [(f, i)]) (s.takeHeader_answered.1.2.trans (State.setF_onlyFields _ f i v).2)

/-- The three outcomes of a doorbell of the queue's owner (R58). -/
theorem State.takeHeader_ring_spec {tid q ix : Nat} (hix : ix < 4096) (howner : s.qOwner q = some tid) (hd : ix < s.qDepth q) :
    let gap := s.ringAhead q (s.getF Reg.QIDX_TAIL q)
    let ahead := s.ringAhead q ix
    let t := s.takeHeader.ring q ix
    (s.flag Reg.QCFG_EN q = true → s.flag Reg.QCFG_DIR q = false → gap ≤ ahead →
        t.getF Reg.QIDX_TAIL q = ix ∧ t.port.rdy1 = true ∧ t = { s with regs := t.regs, port := t.port } ∧
        fieldsKept s t [(Reg.SP_CNT_ACCEPT_COUNT, 0), (Reg.QIDX_TAIL, q)]) ∧
      (s.flag Reg.QCFG_EN q = true → s.flag Reg.QCFG_DIR q = true → ahead ≤ gap →
        t.getF Reg.QIDX_HEAD q = ix ∧ t.port.rdy1 = true ∧ t = { s with regs := t.regs, port := t.port } ∧
        fieldsKept s t [(Reg.SP_CNT_ACCEPT_COUNT, 0), (Reg.QIDX_HEAD, q)]) ∧
      (s.flag Reg.QCFG_EN q = false ∨ (s.flag Reg.QCFG_DIR q = false ∧ ahead < gap) ∨ (s.flag Reg.QCFG_DIR q = true ∧ gap < ahead) →
        t.getF Reg.QERR_ERR_DB q = 1 ∧ t.tenants = (s.cause tid 1).tenants ∧
        t = { s with regs := t.regs, port := t.port, tenants := t.tenants } ∧
        fieldsKept s t [(Reg.SP_CNT_ACCEPT_COUNT, 0), (Reg.QERR_ERR_DB, q)]) := by
  have hen := s.takeHeader_flag Reg.QCFG_EN q (by decide)
  have hdir := s.takeHeader_flag Reg.QCFG_DIR q (by decide)
  have htail := s.takeHeader_getF Reg.QIDX_TAIL q (by decide)
  have hd' : ix < s.takeHeader.qDepth q := by rwa [s.takeHeader_qDepth]
  refine ⟨fun h1 h2 h3 => ?_, fun h1 h2 h3 => ?_, fun h => ?_⟩
  · rw [State.ring_tail hd' (hen.trans h1) (hdir.trans h2) (by rwa [htail, s.takeHeader_ringAhead, s.takeHeader_ringAhead])]
    exact ⟨(State.getF_setF_self _ _ _ _ (by decide)).trans (Nat.mod_eq_of_lt hix), rfl, rfl, s.takeHeader_setF_fieldsKept _ _ _⟩
  · rw [State.ring_head hd' (hen.trans h1) (hdir.trans h2) (by rwa [htail, s.takeHeader_ringAhead, s.takeHeader_ringAhead])]
    exact ⟨(State.getF_setF_self _ _ _ _ (by decide)).trans (Nat.mod_eq_of_lt hix), rfl, rfl, s.takeHeader_setF_fieldsKept _ _ _⟩
  · rw [State.ring_bad ((s.takeHeader_qOwner q).trans howner)
      (by rwa [hen, hdir, htail, s.takeHeader_ringAhead, s.takeHeader_ringAhead])]
    exact ⟨State.getF_raise_self _ _ _ (by decide) (by decide), rfl, rfl, s.takeHeader_setF_fieldsKept _ _ _⟩

/-! ### A closed port (R38 step 1, R49) -/

theorem exec_of_closed (tid n len bsy : Nat) (w0 w1 v : Word) (data : List Word) (hl : s.live = true) (hclosed : s.portOpen = false)
    (hframe : s.port.frame = none) : ∀ c ∈ [Instr.spWriteGrains tid n len w1 data v, .spReadStream tid n len w1,
      .spMgmtWrite tid n len w1 data v bsy, .spMgmtRead tid n len w1, .spDoorbell tid n len w1, .spNop tid n len w1,
      .spReservedTypeHeader w0 w1], exec c s = .next (s.hold false) := by
  have held (f : State → State) : Host.Outcome.next (s.header f) = (.next (s.hold false) : Host.Outcome State Fault Refusal) :=
    congrArg _ (s.header_of_closed f hl hclosed hframe)
  simp only [List.forall_mem_cons]
  exact ⟨held _, held _, held _, held _, held _, held _, held _, by simp⟩

/-! ### What ends a frame (R36, R48) -/

/-- A host-driven frame that is discarded leaves the port without a frame and the heads where they are. -/
theorem State.discardFrame_spec {f : Frame} (hf : s.port.frame = some f) (hph : f.phase = .writing) :
    s.discardFrame.port.frame = none ∧ ∀ m, (s.discardFrame.chan m).durable = (s.chan m).durable := by
  have hview : s.discardFrame.dueView =
      ({ s with port := { s.port with frame := none, rdy0 := false, rdy1 := false, bsyN := true } } : State).dueView := by
    rw [State.discardFrame, hf]
    simp only [hph, if_true]
    refine State.ite_kept State.dueView ?_
    rw [State.dueNow_dueView, State.dropPages_dueView, State.cancelMirror_dueView]
  have hedge := State.edgeView_of_dueView hview
  exact ⟨congrArg Port.frame (State.port_of_edgeView hedge rfl), fun m => State.durable_of_edgeView hedge m⟩

/-- A host-driven frame that an abort or a stall ends, with the event it sets. -/
theorem State.discardFrame_raise_spec {f : Frame} (ev : Field) (hev : ev.w = 1) (hf : s.port.frame = some f) (hph : f.phase = .writing) :
    let t := s.discardFrame.raise ev
    t.port.frame = none ∧ t.getF ev = 1 ∧ ∀ m, (t.chan m).durable = (s.chan m).durable := by
  obtain ⟨hframe, hheads⟩ := s.discardFrame_spec hf hph
  exact ⟨hframe, State.getF_raise_self _ _ _ (by omega) (by omega), hheads⟩

section
variable {s} (hl : s.live = true)
include hl

theorem exec_spFrameAbort_writing {f : Frame} (hf : s.port.frame = some f) (hph : f.phase = .writing) :
    exec .spFrameAbort s = .next (s.discardFrame.raise Reg.SP_EVENTS_ABORT) := by
  change execSpFrameAbort s = _
  simp [execSpFrameAbort, State.whenLive_of_live _ _ hl, hf, hph]

theorem exec_spStallTimeout_writing {f : Frame} (hf : s.port.frame = some f) (hph : f.phase = .writing) :
    exec .spStallTimeout s = .next (s.discardFrame.raise Reg.SP_EVENTS_STALL) := by
  change execSpStallTimeout s = _
  simp [execSpStallTimeout, State.whenLive_of_live _ _ hl, hf, hph]

theorem exec_spStatusLost_pending (hf : s.port.frame = none) (hout : s.port.out ≠ []) :
    exec .spStatusLost s = .next ((s.modPort (fun p => { p with out := [] })).raise Reg.SP_EVENTS_STATUS_LOST) := by
  change execSpStatusLost s = _
  simp [execSpStatusLost, State.whenLive_of_live _ _ hl, hf, hout]

theorem exec_spFrmOutOfTurn_live : exec .spFrmOutOfTurn s = .next (s.raise Reg.SP_EVENTS_PROTOCOL) :=
  congrArg Host.Outcome.next (s.whenLive_of_live _ hl)

theorem exec_cartridgeSeated_removed (h : s.port.seated = false) :
    exec .cartridgeSeated s = .next ((s.modPort (fun p => { p with seated := true })).raise Reg.SP_EVENTS_DET_CHANGE) := by
  have hl' : (s.modPort (fun p => { p with seated := true })).live = true := hl
  change execCartridgeSeated s = _
  simp [execCartridgeSeated, h, State.whenLive_of_live _ _ hl']

theorem exec_cartridgeRemoval_live :
    exec .cartridgeRemoval s = .next ((s.modPort (fun p => { p with seated := false })).closePort 2) :=
  congrArg Host.Outcome.next (State.whenLive_of_live (s.modPort (fun p => { p with seated := false })) _ hl)

end

/-! ### Removal closes every session (R49 to R51, R81, R91) -/

/-- A tenant whose session the device closes: a lock stands, and SESSION_CLOSED is set where a session was open. -/
def Tenant.shut (x : Tenant) : Tenant :=
  { x with sess := if x.sess = 3 then 3 else 0, nonce := none, cause := if x.sess = 2 then x.cause ||| 0x40 else x.cause }

theorem Tenant.shut_sess_ne (x : Tenant) : x.shut.sess ≠ 2 := by
  change (if x.sess = 3 then 3 else 0) ≠ 2
  split <;> decide

theorem State.closeSession_withTenants (t : Nat) (own : Bool) :
    s.closeSession t own = { s with tenants := (s.closeSession t own).tenants } := by
  unfold State.closeSession
  dsimp only
  split <;> rfl

theorem State.closeSession_ten_self (t : Nat) : (s.closeSession t false).ten t = (s.ten t).shut := by
  by_cases h : (s.ten t).sess = 2
  · simp [State.closeSession, State.cause, Tenant.shut, h]
  · simp [State.closeSession, Tenant.shut, h]

theorem State.closeSession_ten_ne {t u : Nat} (h : u ≠ t) : (s.closeSession t false).ten u = s.ten u := by
  by_cases hopen : (s.ten t).sess = 2
  · simp [State.closeSession, State.cause, hopen, State.ten_setTen_ne _ _ _ _ h]
  · simp [State.closeSession, hopen, State.ten_setTen_ne _ _ _ _ h]

theorem State.closeSessions_ten {u : Nat} (hu : u < 16) : s.closeSessions.ten u = (s.ten u).shut := by
  have fold : ∀ (l : List Nat) (v : State), l.Nodup →
      (l.foldl (fun v t => v.closeSession t false) v).ten u = if u ∈ l then (v.ten u).shut else v.ten u := by
    intro l
    induction l with
    | nil => intro v _; rfl
    | cons t l ih =>
      intro v hl
      obtain ⟨hnot, hl⟩ := List.nodup_cons.1 hl
      rw [List.foldl_cons, ih _ hl]
      by_cases hut : u = t
      · subst hut
        simp [hnot, State.closeSession_ten_self]
      · simp [hut, State.closeSession_ten_ne]
  exact (fold tids s List.nodup_range).trans (if_pos (List.mem_range.2 hu))

theorem State.closeSessions_withTenants : s.closeSessions = { s with tenants := s.closeSessions.tenants } :=
  s.each_withTenants tids _ fun v t => v.closeSession_withTenants t false

/-- The port closes with no frame on it: every session closes, CLOSE_CAUSE is kept and PORT_EN is cleared. -/
theorem State.closePort_removal_spec (hf : s.port.frame = none) : let t := s.closePort 2
    t.getF Reg.SP_CTRL_PORT_EN = 0 ∧ t.getF Reg.SP_STATUS_CLOSE_CAUSE = 2 ∧ (∀ u < 16, t.ten u = (s.ten u).shut) ∧
      t = { s with regs := t.regs, tenants := t.tenants } ∧ fieldsKept s t [(Reg.SP_CTRL_PORT_EN, 0), (Reg.SP_STATUS_CLOSE_CAUSE, 0)] := by
  have ht : s.closePort 2 = (s.closeSessions.setF Reg.SP_STATUS_CLOSE_CAUSE 0 2).lower Reg.SP_CTRL_PORT_EN := by
    simp [State.closePort, State.discardFrame, hf]
  have hten : ∀ u < 16, s.closeSessions.ten u = (s.ten u).shut := fun u hu => s.closeSessions_ten hu
  have hframe := s.closeSessions_withTenants
  have hregs : s.closeSessions.regs = s.regs := by rw [hframe]
  rw [ht]
  generalize s.closeSessions = closed at hten hframe hregs
  refine ⟨State.getF_lower_self _ _ _ (by decide), ?_, hten, ?_, fun f i hne => ?_⟩
  · rw [State.lower, State.getF_setF_ne _ _ _ _ _ _ (by decide), State.getF_setF_self _ _ _ _ (by decide)]
    rfl
  · rw [hframe]
    rfl
  · exact (((State.setF_onlyFields _ _ _ _).2.trans (State.setF_onlyFields _ Reg.SP_CTRL_PORT_EN 0 0).2) f i hne).trans
      (State.getF_congr hregs f i)

theorem State.closePort_of_removed (hf : s.port.frame = none) :
    let t := (s.modPort (fun p => { p with seated := false })).closePort 2
    t.port.seated = false ∧ t.portOpen = false ∧
      t.getF Reg.SP_CTRL_PORT_EN = 0 ∧ t.getF Reg.SP_STATUS_CLOSE_CAUSE = 2 ∧ (∀ u < 16, t.sessionOpen u = false) ∧
      (∀ u < 16, s.sessionOpen u = true → (t.ten u).cause = (s.ten u).cause ||| 0x40) ∧
      t = { s with regs := t.regs, tenants := t.tenants, port := { s.port with seated := false } } ∧
      fieldsKept s t [(Reg.SP_CTRL_PORT_EN, 0), (Reg.SP_STATUS_CLOSE_CAUSE, 0)] := by
  obtain ⟨hen, hcause, hten, hframe, hkept⟩ := (s.modPort (fun p => { p with seated := false })).closePort_removal_spec hf
  have hseated : ((s.modPort (fun p => { p with seated := false })).closePort 2).port.seated = false := by rw [hframe]; rfl
  refine ⟨hseated, ?_, hen, hcause, fun u hu => ?_, fun u hu hopen => ?_, hframe, hkept⟩
  · rw [State.portOpen, hseated, Bool.and_false]
  · rw [State.sessionOpen, hten u hu]
    exact beq_false_of_ne (Tenant.shut_sess_ne _)
  · rw [hten u hu]
    exact if_pos (eq_of_beq hopen)

/-- Settles O11: the headers of an open port, those of a closed one, and what ends a frame or the port. -/
theorem otherFramesAndClosures : Obligations.OtherFramesAndClosures := by
  refine ⟨fun s tid len w0 w1 hturn => ⟨fun n => ?_, fun h => ?_, fun n h => ?_, fun q ix hq hix hs howner hd => ?_⟩,
    fun s tid n len bsy w0 w1 v data hl hclosed hframe c hc => ?_,
    fun s f hl => ⟨fun hf hph => ?_, fun hf hout => ?_, ?_, fun hf => ?_, fun hseated => ?_⟩⟩
  · exact ⟨_, congrArg Host.Outcome.next (s.header_of_turn _ hturn), s.takeHeader_answered⟩
  · exact ⟨_, exec_spReservedTypeHeader s w0 w1 hturn h, s.reservedHeader_spec w0 w1⟩
  · exact ⟨_, exec_spDoorbell_refused hturn len w1 h, s.refuse_refusedWith _ _ _ _ _ _⟩
  · have hexec := exec_spDoorbell_rings hturn hq hix hs howner hd
    obtain ⟨htail, hhead, hbad⟩ := s.takeHeader_ring_spec hix howner hd
    exact ⟨fun h1 h2 h3 => ⟨_, hexec, htail h1 h2 h3⟩, fun h1 h2 h3 => ⟨_, hexec, hhead h1 h2 h3⟩, fun h => ⟨_, hexec, hbad h⟩⟩
  · exact ⟨_, exec_of_closed s tid n len bsy w0 w1 v data hl hclosed hframe c hc, s.hold_heldBack false⟩
  · exact ⟨⟨_, exec_spFrameAbort_writing hl hf hph, s.discardFrame_raise_spec _ rfl hf hph⟩,
      ⟨_, exec_spStallTimeout_writing hl hf hph, s.discardFrame_raise_spec _ rfl hf hph⟩⟩
  · exact ⟨_, exec_spStatusLost_pending hl hf hout, rfl, State.getF_raise_self _ _ _ (by decide) (by decide), State.setF_onlyFields _ _ _ _⟩
  · exact ⟨_, exec_spFrmOutOfTurn_live hl, State.getF_raise_self _ _ _ (by decide) (by decide), State.setF_onlyFields _ _ _ _⟩
  · exact ⟨_, exec_cartridgeRemoval_live hl, s.closePort_of_removed hf⟩
  · exact ⟨_, exec_cartridgeSeated_removed hl hseated, rfl, State.getF_raise_self _ _ _ (by decide) (by decide), State.setF_onlyFields _ _ _ _⟩

end Sys2Proof.Machine
end

section
/-! A descriptor of a queue beyond the 256 that there are (spec/03 R55, R62, R63, R65): what the statement on the commands leaves open. -/

namespace Sys2Proof.Machine

/-! ### A queue whose head is a channel's write right (R55, R63, R83) -/

/-- A queue number beyond the 256 of spec/03 whose head shares its place in the register store with the writer of channel 2. -/
def strayRing : Nat := 4352

/-- Past QIDX of the last queue the array goes on to CHAN_RIGHTS of channel 2. -/
theorem qidxHead_meets_writer : Reg.QIDX_HEAD.key strayRing = Reg.CHAN_RIGHTS_WRITER.key 2 := by decide

/-- A FLUSH of channel 2. -/
def strayFlush : List Byte := [0x08, 0, 0, 0, 0, 0, 0, 0, 2] ++ List.replicate 55 0

/-- The reset state with a session of tenant 0 that holds the write right to channel 2, `strayFlush` at the head of its queue
`strayRing` (its ring in its window 0) and a completion queue of firmware's. -/
def strayFetchState : State :=
  let s := [(Reg.QUEUE_CTRL_FETCH_EN, 0), (Reg.QCFG_EN, strayRing), (Reg.QIDX_TAIL, strayRing), (Reg.CHAN_RIGHTS_WRITER_EN, 2),
    (Reg.WIN_EN, 0), (Reg.QCFG_FW, 0)].foldl (fun (s : State) (e : Field × Nat) => s.raise e.1 e.2) State.reset
  (s.setTen 0 { s.ten 0 with sess := 2, share := { tagsC := 1 } }).bufWrite 0 strayFlush

theorem strayFetchState_live : strayFetchState.live = true := by decide +kernel

theorem strayFetchState_canFetch : strayFetchState.canFetch strayRing = true := by decide +kernel

theorem strayFetchState_head : strayFlush = strayFetchState.headDesc strayRing := by decide +kernel

theorem strayFetchState_fetchable : strayFetchState.fetchable strayRing strayFlush = true := by decide +kernel

/-- Before the fetch the owner holds the write right to channel 2. -/
theorem strayFetchState_examine : strayFetchState.examine (strayFetchState.qOwner strayRing) strayFlush = none := by decide +kernel

/-- The head of the queue advances before the descriptor is examined, and with it the write right to channel 2 goes to tenant 1: the
FLUSH is refused and no command is in flight. -/
theorem strayFetchState_cmds {t : State} (h : exec (.descriptorFetch strayRing) strayFetchState = .next t) : t.cmds = [] := by
  have hval : (match exec (.descriptorFetch strayRing) strayFetchState with | .next u => u.cmds.isEmpty | _ => false) = true := by
    decide +kernel
  rw [h] at hval
  exact List.isEmpty_iff.1 hval

/-- Refutes O60: the clause on the fetch bounds no queue number, and the head of a queue beyond the 256 may be a channel's write
right. -/
theorem not_commandsComplete : ¬ Obligations.CommandsComplete := by
  intro h
  obtain ⟨-, -, -, -, hfetch, -⟩ := h strayFetchState strayFetchState_live
  obtain ⟨t, c, hexec, hcmds, -⟩ := hfetch strayRing strayFlush strayFetchState_canFetch (by decide +kernel) rfl strayFetchState_head
    (by decide +kernel) strayFetchState_fetchable rfl strayFetchState_examine (by decide)
  rw [strayFetchState_cmds hexec] at hcmds
  exact List.append_ne_nil_of_right_ne_nil _ (List.cons_ne_nil c []) hcmds.symm

end Sys2Proof.Machine
end

section
/-! The completion of a command (spec/03 R60, R61, R64, R65): what a post writes, and what it leaves as it was. -/

namespace Sys2Proof.Machine

variable (s : State)

/-! ### The entry and what goes with it -/

theorem State.qDepth_congr {s t : State} (h : t.regs = s.regs) (q : Nat) : t.qDepth q = s.qDepth q := by
  simp only [State.qDepth, State.getF_congr h]

theorem State.qOwner_congr {s t : State} (h : t.regs = s.regs) (q : Nat) : t.qOwner q = s.qOwner q := by
  simp only [State.qOwner, State.flag_congr h, State.getF_congr h]

theorem State.winBase_congr {s t : State} (h : t.regs = s.regs) (u w : Nat) : t.winBase u w = s.winBase u w := by
  simp only [State.winBase, State.getF_congr h]

theorem State.qRing_congr {s t : State} (h : t.regs = s.regs) (q : Nat) : t.qRing q = s.qRing q := by
  simp only [State.qRing, State.qOwner_congr h, State.winBase_congr h, State.getF_congr h]

theorem State.entryAddr_congr {s t : State} (h : t.regs = s.regs) (q : Nat) : t.entryAddr q = s.entryAddr q := by
  simp only [State.entryAddr, State.qRing_congr h, State.getF_congr h]

theorem State.winOk_congr {s t : State} (h : t.regs = s.regs) (u w off ext : Nat) : t.winOk u w off ext = s.winOk u w off ext := by
  rw [State.winOk, State.winOk, State.winSize, State.winSize, State.flag_congr h, State.getF_congr h]

theorem State.ringHeld_congr {s t : State} (h : t.regs = s.regs) (q : Nat) : t.ringHeld q = s.ringHeld q := by
  simp only [State.ringHeld, State.qOwner_congr h]
  split
  · rw [State.winOk_congr h, State.qDepth_congr h, State.flag_congr h, State.getF_congr h, State.getF_congr h]
  · rfl

theorem State.ringSound_congr {s t : State} (h : t.regs = s.regs) (he : t.ecc = s.ecc) (q : Nat) : t.ringSound q = s.ringSound q := by
  simp only [State.ringSound, State.ringHeld_congr h, State.entryAddr_congr h, State.qDepth_congr h, he]

theorem State.ringSound_iff (q : Nat) : s.ringSound q = true ↔
    s.ringHeld q = true ∧ s.entryAddr q + 16 ≤ 0x1000000 ∧ s.qDepth q ≤ 4096 ∧ s.ecc.bad = [] := by
  simp [State.ringSound, and_assoc]

@[simp] theorem entryBytes_length (e : Completion) (sq head : Nat) (replay phase : Bool) :
    (entryBytes e sq head replay phase).length = 16 := by simp [entryBytes]

/-- A completion kept for replay changes the queue's replay window alone. -/
theorem State.keepReplay_withQueues (q : Nat) (e : Completion) : s.keepReplay q e = { s with queues := (s.keepReplay q e).queues } := by
  unfold State.keepReplay
  split <;> rfl

theorem State.keepReplay_phase (q m : Nat) (e : Completion) : ((s.keepReplay q e).queue m).phase = (s.queue m).phase := by
  unfold State.keepReplay
  split
  · rfl
  · rcases eq_or_ne m q with rfl | hm
    · rw [State.queue_setQueue_self]
    · rw [State.queue_setQueue_ne _ _ _ _ hm]

/-- An entry with FLAGS.IRQ touches the pending bits of firmware's queues, or a tenant's causes and pending queues. -/
theorem State.cqPending_withRegs (q : Nat) :
    s.cqPending q = { s with regs := (s.cqPending q).regs, tenants := (s.cqPending q).tenants } := by
  unfold State.cqPending
  split <;> rfl

/-- A field that does not begin at bit 16 lies apart from the tails of all queues, whatever their numbers. -/
theorem qidxTail_key_ne {f : Field} (h : f.lo % 32 ≠ 16) (i j : Nat) : Reg.QIDX_TAIL.key i ≠ f.key j := by
  simp only [Field.key, Reg.QIDX_TAIL]
  omega

theorem State.cqPending_tail (q i : Nat) : (s.cqPending q).getF Reg.QIDX_TAIL i = s.getF Reg.QIDX_TAIL i := by
  unfold State.cqPending
  split
  · rfl
  · exact s.getF_setF_ne _ _ _ _ _ (qidxTail_key_ne (by decide) i _)

/-- A change of a tenant that keeps its share keeps every share. -/
theorem State.setTen_share {t : Nat} {x : Tenant} (h : x.share = (s.ten t).share) (u : Nat) :
    ((s.setTen t x).ten u).share = (s.ten u).share := by
  rcases eq_or_ne u t with rfl | hu
  · rw [State.ten_setTen_self, h]
  · rw [State.ten_setTen_ne _ _ _ _ hu]

theorem State.cause_share (t bit u : Nat) : ((s.cause t bit).ten u).share = (s.ten u).share :=
  State.setTen_share _ (by rfl) u

theorem State.cqPending_share (q u : Nat) : ((s.cqPending q).ten u).share = (s.ten u).share := by
  unfold State.cqPending
  split
  · exact (State.setTen_share _ (by rfl) u).trans (s.cause_share _ 0 u)
  · rfl

/-- The entry is written: the ring's bytes, the queue's tail and its phase, before the interrupt. -/
def State.entryWritten (s : State) (sq cq : Nat) (e : Completion) (head : Nat) : State :=
  let next := (s.getF Reg.QIDX_TAIL cq + 1) % s.qDepth cq
  let x := s.queue cq
  ((s.bufWrite (s.entryAddr cq) (entryBytes e sq head false x.phase)).setF Reg.QIDX_TAIL cq next).setQueue cq
    { x with phase := if next = 0 then !x.phase else x.phase }

/-- With its ring in place, an entry is written and, where its command asks for it, interrupts. -/
theorem State.postEntry_of_held (sq cq : Nat) (e : Completion) (head : Nat) (h : s.ringHeld cq = true) :
    s.postEntry sq cq e head false =
      if e.irq then (s.entryWritten sq cq e head).cqPending cq else s.entryWritten sq cq e head := by
  have hqueue : ∀ (x : Nat) (bs : List Byte), (s.bufWrite x bs).queue cq = s.queue cq := by
    intro x bs
    rw [State.bufWrite_withBuf]
    rfl
  unfold State.postEntry
  simp only [h, if_true, hqueue, State.qDepth_congr (s.bufWrite_regs _ _), State.entryWritten, State.entryAddr]

theorem State.entryWritten_tail (sq cq : Nat) (e : Completion) (head : Nat) (h : s.qDepth cq ≤ 4096) :
    (s.entryWritten sq cq e head).getF Reg.QIDX_TAIL cq = (s.getF Reg.QIDX_TAIL cq + 1) % s.qDepth cq := by
  have hlt : (s.getF Reg.QIDX_TAIL cq + 1) % s.qDepth cq < s.qDepth cq := Nat.mod_lt _ (Nat.two_pow_pos _)
  rw [State.entryWritten, State.setQueue_getF, State.getF_setF_self _ _ _ _ (by decide)]
  exact Nat.mod_eq_of_lt (lt_of_lt_of_le hlt h)

theorem State.entryWritten_bufByte (sq cq : Nat) (e : Completion) (head : Nat) (x : Nat) : (s.entryWritten sq cq e head).bufByte x =
    (s.bufWrite (s.entryAddr cq) (entryBytes e sq head false (s.queue cq).phase)).bufByte x := rfl

/-! ### What a completion shows -/

/-- What the completion of a command shows outside: the commands in flight, the buffer and the tails of the queues; with them the
tenants' shares, which no completion changes. -/
def State.postedView (s : State) : List Cmd × List Host.Cell × (Nat → Nat) × (Nat → Share) :=
  (s.cmds, s.buf, fun i => s.getF Reg.QIDX_TAIL i, fun u => (s.ten u).share)

section
variable {s} {t : State} (h : t.postedView = s.postedView)
include h

theorem State.cmds_of_postedView : t.cmds = s.cmds := congrArg (fun v => v.1) h
theorem State.tail_of_postedView (i : Nat) : t.getF Reg.QIDX_TAIL i = s.getF Reg.QIDX_TAIL i := congrFun (congrArg (fun v => v.2.2.1) h) i
theorem State.share_of_postedView (u : Nat) : (t.ten u).share = (s.ten u).share := congrFun (congrArg (fun v => v.2.2.2) h) u
theorem State.bufByte_of_postedView (x : Nat) : t.bufByte x = s.bufByte x := by
  rw [State.bufByte, State.bufByte, show t.buf = s.buf from congrArg (fun v => v.2.1) h]

/-- Completed is a matter of the view. -/
theorem posted.of_postedView {r : State} {c : Cmd} {code : Nat} {res0 res1 : Word} {fwd : Bool} (hp : posted r s c code res0 res1 fwd) :
    posted r t c code res0 res1 fwd := by
  obtain ⟨hcmds, htail, hentry⟩ := hp
  exact ⟨(State.cmds_of_postedView h).trans hcmds, (State.tail_of_postedView h _).trans htail,
    fun k hk => (State.bufByte_of_postedView h _).trans (hentry k hk)⟩

end

theorem State.postedView_congr {s t : State} (hc : t.cmds = s.cmds) (hb : t.buf = s.buf) (hr : t.regs = s.regs) (ht : t.tenants = s.tenants) :
    t.postedView = s.postedView := by
  simp only [State.postedView, State.getF_congr hr, State.ten, hc, hb, ht]

theorem State.cause_postedView (t bit : Nat) : (s.cause t bit).postedView = s.postedView := by
  unfold State.postedView
  simp only [State.cause_share]
  rfl

theorem State.cqPending_postedView (q : Nat) : (s.cqPending q).postedView = s.postedView := by
  unfold State.postedView
  simp only [State.cqPending_share, State.cqPending_tail]
  rw [State.cqPending_withRegs]

/-! ### The post -/

/-- The completion of `c` that a post keeps and writes. -/
def Cmd.completion (c : Cmd) (code : Nat) (res0 res1 : Word) (fwd : Bool) : Completion :=
  { cmdId := c.cmdId, res0 := res0, res1 := res1, code := code, irq := c.irq, fwd := fwd }

/-- The command is in flight no more and its completion is kept for replay; its entry is still to be written. -/
def State.landed (s : State) (c : Cmd) (e : Completion) : State :=
  State.keepReplay { s with cmds := s.cmds.filter (fun d => d.tag != c.tag) } c.sq e

theorem State.landed_withQueues (c : Cmd) (e : Completion) :
    s.landed c e = { s with cmds := s.cmds.filter (fun d => d.tag != c.tag), queues := (s.landed c e).queues } :=
  State.keepReplay_withQueues _ _ _

theorem State.landed_regs (c : Cmd) (e : Completion) : (s.landed c e).regs = s.regs := by rw [State.landed_withQueues]
theorem State.landed_ecc (c : Cmd) (e : Completion) : (s.landed c e).ecc = s.ecc := by rw [State.landed_withQueues]
theorem State.landed_bufByte (c : Cmd) (e : Completion) (x : Nat) : (s.landed c e).bufByte x = s.bufByte x := by
  rw [State.landed_withQueues]
  rfl
theorem State.landed_phase (c : Cmd) (e : Completion) (q : Nat) : ((s.landed c e).queue q).phase = (s.queue q).phase :=
  State.keepReplay_phase _ _ _ _

section
variable (c : Cmd) (code : Nat) (res0 res1 : Word) (fwd : Bool)

theorem State.post_of_held (h : s.ringHeld c.cq = true) : let e := c.completion code res0 res1 fwd
    s.post c code res0 res1 fwd =
      if c.irq then ((s.landed c e).entryWritten c.sq c.cq e c.sqHead).cqPending c.cq
      else (s.landed c e).entryWritten c.sq c.cq e c.sqHead :=
  State.postEntry_of_held _ c.sq c.cq _ c.sqHead ((State.ringHeld_congr (s.landed_regs c _) c.cq).trans h)

theorem State.post_postedView (h : s.ringHeld c.cq = true) : let e := c.completion code res0 res1 fwd
    (s.post c code res0 res1 fwd).postedView = ((s.landed c e).entryWritten c.sq c.cq e c.sqHead).postedView := by
  rw [State.post_of_held _ _ _ _ _ _ h]
  exact State.ite_kept State.postedView (State.cqPending_postedView _ _)

theorem State.post_bushels (h : s.ringHeld c.cq = true) : (s.post c code res0 res1 fwd).bushels = s.bushels := by
  rw [State.post_of_held _ _ _ _ _ _ h, State.ite_kept State.bushels (by rw [State.cqPending_withRegs]), State.entryWritten,
    State.bufWrite_withBuf, State.landed_withQueues]
  rfl

theorem State.post_share (h : s.ringHeld c.cq = true) (u : Nat) : ((s.post c code res0 res1 fwd).ten u).share = (s.ten u).share := by
  rw [State.share_of_postedView (s.post_postedView c code res0 res1 fwd h), State.entryWritten, State.bufWrite_withBuf,
    State.landed_withQueues]
  rfl

/-- A post to a sound completion queue completes the command (R60). -/
theorem State.post_posted (h : s.ringSound c.cq = true) : posted s (s.post c code res0 res1 fwd) c code res0 res1 fwd := by
  obtain ⟨hheld, hfit, hdepth, hecc⟩ := (s.ringSound_iff c.cq).1 h
  refine posted.of_postedView (s.post_postedView c code res0 res1 fwd hheld) ⟨?_, ?_, fun k hk => ?_⟩
  · rw [State.entryWritten, State.bufWrite_withBuf, State.landed_withQueues]
    rfl
  · rw [State.entryWritten_tail _ _ _ _ _ (by rwa [State.qDepth_congr (s.landed_regs c _)]), State.getF_congr (s.landed_regs c _),
      State.qDepth_congr (s.landed_regs c _)]
  · rw [State.entryWritten_bufByte, ← State.entryAddr_congr (s.landed_regs c _), State.bufByte_bufWrite _ _ _ _
      ((congrArg Ecc.bad (s.landed_ecc c _)).trans hecc) (by rwa [State.entryAddr_congr (s.landed_regs c _), entryBytes_length])
      (by rwa [entryBytes_length]), State.landed_phase]
    rfl

/-- Outside the entry the buffer reads as before. -/
theorem State.post_bufByte (h : s.ringHeld c.cq = true) {x : Nat} (hx : x < s.entryAddr c.cq ∨ s.entryAddr c.cq + 16 ≤ x) :
    (s.post c code res0 res1 fwd).bufByte x = s.bufByte x := by
  rw [State.bufByte_of_postedView (s.post_postedView c code res0 res1 fwd h), State.entryWritten_bufByte,
    State.bufByte_bufWrite_ne _ _ _ _ (by rwa [State.entryAddr_congr (s.landed_regs c _), entryBytes_length]), State.landed_bufByte]

end

end Sys2Proof.Machine
end

section
/-! VERIFY_RANGE of a range whose only record carries a stamp at the end of DMT's range (spec/03 R60, R65, spec/13 R289, R395): what the
statement on the reads of grains leaves open. -/

namespace Sys2Proof.Machine

variable (s : State)

/-! ### A run that is a header record alone (R119, R139) -/

/-- A record formed as R120 says, at a place of a bushel that is VALID, is found there. -/
theorem State.placeAt_formed {media : Media} {b p : Nat} {gen : Word} {k : Kind} {cc : Nat} {seq : Word} {st : Stamp} {flags tid : Nat}
    {o : BitVec 16} {body : List Byte} (hb : s.flag Reg.BMAP_VALID b = true) (hp : p < 16384) (hbody : body.length = 4096)
    (hat : sectorOf media b p = some (fullHdr gen (hdr28 k cc seq st flags tid o body) ++ body)) :
    s.placeAt media b gen p = some { place := p, hdr := fullHdr gen (hdr28 k cc seq st flags tid o body), body := body } := by
  have hlen : (fullHdr gen (hdr28 k cc seq st flags tid o body)).length = 32 := by simp [fullHdr, hdr28_length]
  simp [State.placeAt, hb, hp, hat, List.take_left' hlen, List.drop_left' hlen, hlen, hbody, recordValid_fullHdr]

theorem State.placeAt_of_blank {media : Media} {b p : Nat} (gen : Word) (h : sectorOf media b p = none) :
    s.placeAt media b gen p = none := by
  simp only [State.placeAt, h, ite_self]

/-- A walk over places that hold nothing finds nothing. -/
theorem State.walk_of_blank {media : Media} {b : Nat} (gen : Word) (n p bad : Nat) (h : ∀ q, p ≤ q → sectorOf media b q = none) :
    (s.walk media b gen n p bad).1 = [] := by
  induction n generalizing p bad with
  | zero => rfl
  | succ n ih =>
    rw [State.walk, s.placeAt_of_blank gen (h p le_rfl)]
    split
    · rfl
    · exact ih (p + 1) (bad + 1) fun q hq => h q (by omega)

/-- A scan whose walk finds nothing has read the header alone. -/
theorem State.scanFrom_all_of_blank (media : Media) (n b : Nat) (gen : Word) (h : Found) (r : Run)
    (hw : (s.walk media b gen 16384 (h.place + 1) 0).1 = []) : (s.scanFrom media n b gen h r).all = [h] := by
  cases n <;> simp [State.scanFrom, hw]

theorem State.rangeRun_of_header {media : Media} {n b : Nat} {g gen : Word} {h : Found} (hb : s.bushelFor n g = b)
    (hgen : (s.bushel b).gen = gen) (hh : s.headerAt media b gen = some h) (hseq : seqLe h.seq g = true) :
    s.rangeRun media n g = some (s.scanFrom media 8192 b gen h (s.startRun media h)) := by
  subst hb hgen
  simp only [State.rangeRun, hh, hseq, if_true]

/-- VERIFY_RANGE ends with a post, after DMT has followed every record of the run. -/
theorem exec_verifyRangeComplete_posts {sq : Nat} {media : Media} {c : Cmd} {r : ScanRes} (unreadable : Bool) (hl : s.live = true)
    (hc : s.underWay sq 0x07 = some c) (hr : s.rangeRun media (dChan c.desc) (dSeq c.desc) = some r) :
    ∃ (u : State) (code : Nat) (r0 r1 : Word), exec (.verifyRangeComplete sq media unreadable) s = .next (u.post c code r0 r1) ∧
      u.regs = (s.observeAll r.all).regs ∧ u.ecc = (s.observeAll r.all).ecc := by
  have hexec : exec (.verifyRangeComplete sq media unreadable) s = execVerifyRangeComplete sq media unreadable s := rfl
  rw [hexec, execVerifyRangeComplete, State.whenLive_of_live _ _ hl]
  simp only [State.onRunning, hc, hr]
  split
  · exact ⟨((s.observeAll r.all).dropPages c.pages).fresh.1, _, _, _, rfl, rfl, rfl⟩
  · exact ⟨(s.observeAll r.all).dropPages c.pages, _, _, _, rfl, rfl, rfl⟩

/-! ### A completion queue whose depth shares its place with TIME_EVENTS.ROLL (R55, R60, R395) -/

/-- A queue number beyond the 256 of spec/03: its QCFG lies at the place of TIME_EVENTS. -/
def strayTimeQueue : Nat := 0xCF02

/-- Past QCFG of the last queue the array goes on to TIME_EVENTS. -/
theorem qcfgDepth_meets_roll : Reg.QCFG_LOG2_DEPTH.key strayTimeQueue = Reg.TIME_EVENTS_ROLL.key 0 := by decide

/-- A VERIFY_RANGE of firmware under way, of the grains from 0 of channel 0, its completion queue `strayTimeQueue`. -/
def strayVerify : Cmd :=
  { tag := 0, sq := 0, owner := none, desc := [], op := 0x07, cmdId := 0, sqHead := 0, cq := strayTimeQueue, running := true }

/-- The reset state with channel 0 open in bushel 8, `strayVerify` under way, its ring 16 entries deep and its tail at 1, and DMT one
microsecond short of its largest value. -/
def strayVerifyState : State :=
  let s := [(Reg.QCFG_FW, strayTimeQueue), (Reg.QIDX_TAIL, strayTimeQueue), (Reg.BMAP_VALID, 8)].foldl
    (fun (s : State) (e : Field × Nat) => s.raise e.1 e.2) State.reset
  { s with cmds := [strayVerify], chans := [(0, { isOpen := true, everOpened := true, bushel := 8 })], time := { s.time with dmt := 0xFFFFFFFFFFFE } }

/-- The body of a header record, all zero. -/
def blankBody : List Byte := List.replicate 4096 0

/-- The header of bushel 8's header record, stamped with the largest DMT. -/
def lateHdr : List Byte := fullHdr 0 (hdr28 .header 0 0 { dmt := 0xFFFFFFFFFFFF, epoch := 1 } 0 0 0 blankBody)

/-- The header record found at place 0. -/
def lateFound : Found := { place := 0, hdr := lateHdr, body := blankBody }

/-- The media: bushel 8 with its header record and nothing else. -/
def lateMedia : Media := [(8, 0, lateHdr ++ blankBody)]

theorem lateMedia_blank (q : Nat) (h : lateFound.place + 1 ≤ q) : sectorOf lateMedia 8 q = none := by
  have hne : (0 == q) = false := by simpa using (Nat.ne_of_lt h : 0 ≠ q)
  simp [sectorOf, lateMedia, hne]

theorem strayVerifyState_live : strayVerifyState.live = true := by decide +kernel

theorem strayVerifyState_underWay : strayVerifyState.underWay 0 0x07 = some strayVerify := by decide +kernel

theorem strayVerifyState_rangeRun :
    ∃ r, strayVerifyState.rangeRun lateMedia (dChan strayVerify.desc) (dSeq strayVerify.desc) = some r ∧ r.all = [lateFound] := by
  have hbushel : strayVerifyState.bushelFor (dChan strayVerify.desc) (dSeq strayVerify.desc) = 8 := by decide +kernel
  have hgen : (strayVerifyState.bushel 8).gen = 0 := by decide +kernel
  have hplace : strayVerifyState.placeAt lateMedia 8 0 0 = some lateFound :=
    strayVerifyState.placeAt_formed (by decide +kernel) (by decide) (List.length_replicate ..) rfl
  have hheader : strayVerifyState.headerAt lateMedia 8 0 = some lateFound :=
    headerAt_first _ _ _ _ _ hplace (by decide +kernel)
  have hseq : seqLe lateFound.seq (dSeq strayVerify.desc) = true := by decide +kernel
  exact ⟨_, State.rangeRun_of_header _ hbushel hgen hheader hseq,
    State.scanFrom_all_of_blank _ _ _ _ _ _ _ (State.walk_of_blank _ _ _ _ _ lateMedia_blank)⟩

/-- The record read raises DMT past its largest value: the wrap sets ROLL. -/
theorem strayVerifyState_observe : let u := strayVerifyState.observeAll [lateFound]
    u.regs = (strayVerifyState.raise Reg.TIME_EVENTS_ROLL).regs ∧ u.ecc = strayVerifyState.ecc := by
  decide +kernel

/-- The wrap has made the ring two entries deep before the completion's entry is written: its tail goes to 0. -/
theorem strayVerifyState_tail {t : State} (h : exec (.verifyRangeComplete 0 lateMedia false) strayVerifyState = .next t) :
    t.getF Reg.QIDX_TAIL strayTimeQueue = 0 := by
  obtain ⟨r, hrun, hall⟩ := strayVerifyState_rangeRun
  obtain ⟨u, code, r0, r1, hpost, hregs, hecc⟩ := exec_verifyRangeComplete_posts strayVerifyState false strayVerifyState_live
    strayVerifyState_underWay hrun
  obtain ⟨hroll, hecc'⟩ := strayVerifyState_observe
  rw [hall] at hregs hecc
  obtain rfl : u.post strayVerify code r0 r1 = t := by simpa [hpost] using h
  have hsound : u.ringSound strayTimeQueue = true :=
    (State.ringSound_congr (t := u) (s := strayVerifyState.raise Reg.TIME_EVENTS_ROLL) (hregs.trans hroll) (hecc.trans hecc') _).trans
      (by decide +kernel)
  obtain ⟨-, htail, -⟩ := u.post_posted strayVerify code r0 r1 false hsound
  rw [show strayVerify.cq = strayTimeQueue from rfl] at htail
  rw [htail, State.qDepth_congr (hregs.trans hroll), State.getF_congr (hregs.trans hroll)]
  decide +kernel

/-- Refutes O14: the statement bounds no queue number, and the wrap that a read record brings about may change the depth of a ring
beyond the 256. -/
theorem not_grainReadCommands : ¬ Obligations.GrainReadCommands := by
  rintro ⟨-, hends⟩
  obtain ⟨-, hverify⟩ := hends strayVerifyState 0 strayVerify strayVerifyState_live (by decide +kernel)
  obtain ⟨t, r1, hexec, ⟨-, htail, -⟩, -⟩ := hverify strayVerifyState_underWay lateMedia false _ rfl
  have hbefore : (strayVerifyState.getF Reg.QIDX_TAIL strayTimeQueue + 1) % strayVerifyState.qDepth strayTimeQueue = 2 := by
    decide +kernel
  rw [show strayVerify.cq = strayTimeQueue from rfl, strayVerifyState_tail hexec, hbefore] at htail
  exact absurd htail (by decide)

end Sys2Proof.Machine
end

section
/-! RELEASE_BUSHEL, READ_EVENTS, ZERO_WINDOW, SET_RESERVATION, QUERY_HEAD, FLUSH and MIRROR_RESYNC (spec/03 R65, R67, R72; spec/04 R92;
spec/06 R135; spec/17 R360). -/

namespace Sys2Proof.Machine

variable (s : State)

/-! ### A command whose turn it is -/

section
variable {s} {sq op : Nat} {c : Cmd}

theorem State.turn.sound (h : s.turn sq op c) : s.ringSound c.cq = true := h.2.2

theorem State.turn.op_eq (h : s.turn sq op c) : c.op = op := by
  have hc := List.find?_some h.1
  simp only [Bool.and_eq_true, beq_iff_eq] at hc
  exact hc.1.2

theorem State.onFetched_of_turn (f : State → Cmd → State) (h : s.turn sq op c) : s.onFetched sq op f = f s c := by
  obtain ⟨hfetched, hfree, -⟩ := h
  simp [State.onFetched, hfetched, hfree]

theorem State.onRunning_of_underWay (f : State → Cmd → State) (h : s.underWay sq op = some c) : s.onRunning sq op f = f s c := by
  simp [State.onRunning, h]

theorem State.ringHeld_of_sound {q : Nat} (h : s.ringSound q = true) : s.ringHeld q = true := ((s.ringSound_iff q).1 h).1

theorem State.ecc_of_sound {q : Nat} (h : s.ringSound q = true) : s.ecc.bad = [] := ((s.ringSound_iff q).1 h).2.2.2

end

/-! ### A post after a command's effect -/

/-- What a post reads beside the commands in flight: registers, the buffer's errors, the queues. -/
def State.postBase (s : State) : Sparse Word × Ecc × Sparse Queue := (s.regs, s.ecc, s.queues)

section
variable {s} {u : State} {c : Cmd} (hbase : u.postBase = s.postBase)
include hbase

theorem State.regs_of_postBase : u.regs = s.regs := congrArg (fun v => v.1) hbase

theorem State.ringSound_of_postBase (h : s.ringSound c.cq = true) : u.ringSound c.cq = true :=
  (State.ringSound_congr (State.regs_of_postBase hbase) (congrArg (fun v => v.2.1) hbase) c.cq).trans h

/-- A command is completed by a post that follows an effect on other parts of the state. -/
theorem State.post_posted_after (hcmds : u.cmds.filter (fun d => d.tag != c.tag) = s.cmds.filter (fun d => d.tag != c.tag))
    (h : s.ringSound c.cq = true) (code : Nat) (res0 res1 : Word) : posted s (u.post c code res0 res1) c code res0 res1 false := by
  have hregs := State.regs_of_postBase hbase
  obtain ⟨hfilter, htail, hentry⟩ := u.post_posted c code res0 res1 false (State.ringSound_of_postBase hbase h)
  refine ⟨hfilter.trans hcmds, ?_, fun k hk => ?_⟩
  · rw [htail, State.getF_congr hregs, State.qDepth_congr hregs]
  · have hqueue : u.queue c.cq = s.queue c.cq := congrArg (fun v : Sparse Word × Ecc × Sparse Queue => sget ({} : Queue) c.cq v.2.2) hbase
    rw [← State.entryAddr_congr hregs, hentry k hk, hqueue]

/-- The post writes no more than the entry. -/
theorem State.post_bufKept_after {a n : Nat} (hkept : ∀ x, (x < a ∨ a + n ≤ x) → u.bufByte x = s.bufByte x)
    (h : s.ringSound c.cq = true) (code : Nat) (res0 res1 : Word) : bufKept s (u.post c code res0 res1) c a n := by
  intro x hx hentry
  rw [← State.entryAddr_congr (State.regs_of_postBase hbase)] at hentry
  rw [u.post_bufByte c code res0 res1 false (State.ringHeld_of_sound (State.ringSound_of_postBase hbase h)) hentry, hkept x hx]

/-- A byte that the effect wrote stands after the post, outside the entry. -/
theorem State.post_bufByte_after (h : s.ringSound c.cq = true) (code : Nat) (res0 res1 : Word) {x : Nat}
    (hx : x < s.entryAddr c.cq ∨ s.entryAddr c.cq + 16 ≤ x) : (u.post c code res0 res1).bufByte x = u.bufByte x := by
  rw [← State.entryAddr_congr (State.regs_of_postBase hbase)] at hx
  exact u.post_bufByte c code res0 res1 false (State.ringHeld_of_sound (State.ringSound_of_postBase hbase h)) hx

end

theorem State.bufWrite_postBase {a : Nat} {bs : List Byte} (h : s.ecc.bad = []) (hfit : a + bs.length ≤ 0x1000000) :
    (s.bufWrite a bs).postBase = s.postBase := by
  have hecc := (s.bufWrite_of_sound a bs h hfit).2
  have hqueues : (s.bufWrite a bs).queues = s.queues := by rw [State.bufWrite_withBuf]
  simp only [State.postBase, State.bufWrite_regs, hecc, hqueues]

theorem State.bufWrite_cmds (a : Nat) (bs : List Byte) : (s.bufWrite a bs).cmds = s.cmds := by rw [State.bufWrite_withBuf]

/-- Replacing `c` in flight leaves the other commands. -/
theorem State.setCmd_others {c c' : Cmd} (h : c'.tag = c.tag) :
    (s.setCmd c').cmds.filter (fun d => d.tag != c.tag) = s.cmds.filter (fun d => d.tag != c.tag) := by
  unfold State.setCmd
  induction s.cmds with
  | nil => rfl
  | cons d l ih => by_cases hd : d.tag = c.tag <;> simpa [h, hd] using ih

/-! ### RELEASE_BUSHEL (R65, R72, R101, R135) -/

theorem State.revoke_postBase (p : Staging → Bool) : (s.revoke p).postBase = s.postBase :=
  State.foldl_kept State.postBase State.endStaging (fun _ _ => rfl) _ _

theorem State.revoke_cmds (p : Staging → Bool) : (s.revoke p).cmds = s.cmds :=
  State.foldl_kept State.cmds State.endStaging (fun _ _ => rfl) _ _

theorem State.revoke_bushels (p : Staging → Bool) : (s.revoke p).bushels = s.bushels :=
  State.foldl_kept State.bushels State.endStaging (fun _ _ => rfl) _ _

/-- The bushel's grains are released: its state, and the stagings of its grains. -/
def State.bushelReleased (s : State) (b : Nat) : State :=
  (s.setBushel b { s.bushel b with state := .released }).revoke (fun t => t.bushel == b)

theorem State.bushelReleased_bushel_self (b : Nat) : ((s.bushelReleased b).bushel b).state = .released := by
  rw [State.bushel, State.bushelReleased, State.revoke_bushels, ← State.bushel, State.bushel_setBushel_self]

theorem State.bushelReleased_bushel_ne {b m : Nat} (h : m ≠ b) : (s.bushelReleased b).bushel m = s.bushel m := by
  rw [State.bushel, State.bushelReleased, State.revoke_bushels, ← State.bushel, State.bushel_setBushel_ne _ _ _ _ h]

section
variable {s} {sq : Nat} {c : Cmd} (hl : s.live = true) (ht : s.turn sq 0x06 c)
  (hreads : (s.cmds.takeWhile (fun d => d.tag != c.tag)).any (fun d => (d.op == 0x01 || d.op == 0x07) &&
    dChan d.desc == (s.bushel (dArg c.desc 28 4)).chan) = false)
include hl ht hreads

theorem releaseBushel_refused (h : dArg c.desc 28 4 < 2 ∨ (s.bushel (dArg c.desc 28 4)).state ≠ .closed ∨
      s.bushelSealed (dArg c.desc 28 4) = false) : ∃ t, exec (.releaseBushel sq) s = .next t ∧
    posted s t c 0x24 (BitVec.ofNat 32 (dArg c.desc 28 4)) 0 false ∧ t.bushels = s.bushels := by
  have hexec : exec (.releaseBushel sq) s = .next (s.post c 0x24 (BitVec.ofNat 32 (dArg c.desc 28 4)) 0) := by
    rw [show exec (.releaseBushel sq) s = execReleaseBushel sq s from rfl, execReleaseBushel, State.whenLive_of_live _ _ hl,
      State.onFetched_of_turn _ ht]
    simp only [hreads, Bool.false_eq_true, if_false, Bool.not_eq_true', h, if_true]
  exact ⟨_, hexec, s.post_posted _ _ _ _ _ ht.sound, s.post_bushels _ _ _ _ _ (State.ringHeld_of_sound ht.sound)⟩

theorem releaseBushel_releases (hb : 2 ≤ dArg c.desc 28 4) (hclosed : (s.bushel (dArg c.desc 28 4)).state = .closed)
    (hsealed : s.bushelSealed (dArg c.desc 28 4) = true) : ∃ t,
    exec (.releaseBushel sq) s = .next t ∧ posted s t c 0 (BitVec.ofNat 32 (dArg c.desc 28 4)) 0 false ∧
    (t.bushel (dArg c.desc 28 4)).state = .released ∧ ∀ m, m ≠ dArg c.desc 28 4 → t.bushel m = s.bushel m := by
  have hexec : exec (.releaseBushel sq) s =
      .next ((s.bushelReleased (dArg c.desc 28 4)).post c 0 (BitVec.ofNat 32 (dArg c.desc 28 4)) 0) := by
    rw [show exec (.releaseBushel sq) s = execReleaseBushel sq s from rfl, execReleaseBushel, State.whenLive_of_live _ _ hl,
      State.onFetched_of_turn _ ht]
    have hpass : ¬ (dArg c.desc 28 4 < 2 ∨ (s.bushel (dArg c.desc 28 4)).state ≠ .closed ∨
        (!s.bushelSealed (dArg c.desc 28 4)) = true) := by
      rintro (h | h | h)
      · omega
      · exact h hclosed
      · simp [hsealed] at h
    simp only [hreads, Bool.false_eq_true, if_false, hpass]
    rfl
  have hbase : (s.bushelReleased (dArg c.desc 28 4)).postBase = s.postBase := State.revoke_postBase _ _
  have hcmds : (s.bushelReleased (dArg c.desc 28 4)).cmds = s.cmds := State.revoke_cmds _ _
  have hbushel : ∀ m, (State.post (s.bushelReleased (dArg c.desc 28 4)) c 0 (BitVec.ofNat 32 (dArg c.desc 28 4)) 0).bushel m =
      (s.bushelReleased (dArg c.desc 28 4)).bushel m := fun m => by
    rw [State.bushel, State.post_bushels _ _ _ _ _ _ (State.ringHeld_of_sound (State.ringSound_of_postBase hbase ht.sound)), State.bushel]
  refine ⟨_, hexec, State.post_posted_after hbase (by rw [hcmds]) ht.sound _ _ _, ?_, fun m hm => ?_⟩
  · rw [hbushel, State.bushelReleased_bushel_self]
  · rw [hbushel, State.bushelReleased_bushel_ne _ hm]

end

/-! ### READ_EVENTS (R65, R360) -/

theorem Event.bytes_length (e : Event) : e.bytes.length = 16 := by simp [Event.bytes]

theorem entryAt_length (l : List Event) (i : Nat) : (entryAt l i).length = 16 := by
  unfold entryAt
  split
  · exact Event.bytes_length _
  · exact List.length_replicate ..

/-- Byte `k` of entry `i` in a row of 16-byte entries. -/
theorem byteAt_flatten {ls : List (List Byte)} (hlen : ∀ l ∈ ls, l.length = 16) {i k : Nat} (hi : i < ls.length) (hk : k < 16) :
    byteAt ls.flatten (16 * i + k) = byteAt ls[i] k := by
  induction ls generalizing i with
  | nil => simp at hi
  | cons l ls ih =>
    have hl : l.length = 16 := hlen l (by simp)
    cases i with
    | zero =>
      rw [List.getElem_cons_zero, Nat.mul_zero, Nat.zero_add, List.flatten_cons]
      exact List.getD_append _ _ _ _ (by omega)
    | succ i =>
      have hi' : i < ls.length := by simpa using hi
      rw [List.getElem_cons_succ, ← ih (fun x hx => hlen x (by simp [hx])) hi', List.flatten_cons, byteAt, byteAt,
        List.getD_append_right _ _ _ _ (by omega)]
      congr 1
      omega

/-- The entries that a READ_EVENTS reads. -/
def State.eventEntries (s : State) (c : Cmd) : List (List Byte) :=
  (List.range (dCount c.desc)).map (fun k =>
    entryAt (if dArg c.desc 28 1 = 0 then s.evr.first else s.evr.last) (dArg c.desc 32 2 + k))

theorem State.eventEntries_length {c : Cmd} : ∀ l ∈ s.eventEntries c, l.length = 16 := by
  intro l hmem
  obtain ⟨k, -, rfl⟩ := List.mem_map.1 hmem
  exact entryAt_length _ _

theorem State.eventEntries_flatten_length (c : Cmd) : (s.eventEntries c).flatten.length = 16 * dCount c.desc := by
  rw [List.length_flatten, List.map_eq_replicate_iff.2 s.eventEntries_length, List.sum_replicate]
  simp [State.eventEntries, Nat.mul_comm]

section
variable {s} {sq : Nat} {c : Cmd} (hl : s.live = true)
include hl

theorem readEvents_spec (ht : s.turn sq 0x0A c) (hfit : s.cmdAddr c + 16 * dCount c.desc ≤ 0x1000000) : ∃ t,
    exec (.readEvents sq) s = .next t ∧
    posted s t c 0 (BitVec.ofNat 32 (dCount c.desc)) 0 false ∧ bufKept s t c (s.cmdAddr c) (16 * dCount c.desc) ∧
    ∀ i < dCount c.desc, ∀ k < 16,
      (s.cmdAddr c + 16 * i + k < s.entryAddr c.cq ∨ s.entryAddr c.cq + 16 ≤ s.cmdAddr c + 16 * i + k) →
      t.bufByte (s.cmdAddr c + 16 * i + k) =
        byteAt (entryAt (if dArg c.desc 28 1 = 0 then s.evr.first else s.evr.last) (dArg c.desc 32 2 + i)) k := by
  have hexec : exec (.readEvents sq) s = .next ((s.bufWrite (s.cmdAddr c) (s.eventEntries c).flatten).post c 0
      (BitVec.ofNat 32 (dCount c.desc)) 0) := by
    rw [show exec (.readEvents sq) s = execReadEvents sq s from rfl, execReadEvents, State.whenLive_of_live _ _ hl,
      State.onFetched_of_turn _ ht]
    rfl
  have hlen := s.eventEntries_flatten_length c
  have hecc := State.ecc_of_sound ht.sound
  have hbase := s.bufWrite_postBase (a := s.cmdAddr c) (bs := (s.eventEntries c).flatten) hecc (by omega)
  refine ⟨_, hexec, State.post_posted_after hbase (by rw [State.bufWrite_cmds]) ht.sound _ _ _,
    State.post_bufKept_after hbase (fun x hx => State.bufByte_bufWrite_ne _ _ _ _ (by rwa [hlen])) ht.sound _ _ _,
    fun i hi k hk hx => ?_⟩
  have hi' : i < (s.eventEntries c).length := by simpa [State.eventEntries] using hi
  rw [State.post_bufByte_after hbase ht.sound _ _ _ hx, Nat.add_assoc, State.bufByte_bufWrite _ _ _ _ hecc (by omega) (by omega),
    byteAt_flatten s.eventEntries_length hi' hk]
  simp [State.eventEntries]

/-! ### ZERO_WINDOW (R65, R72) -/

theorem exec_zeroWindow_turn (ht : s.turn sq 0x0B c) : exec (.zeroWindow sq) s = .next
    { s with cmds := s.cmds.map (fun (d : Cmd) => if d.tag == c.tag then { c with running := true } else d) } := by
  rw [show exec (.zeroWindow sq) s = execZeroWindow sq s from rfl, execZeroWindow, State.whenLive_of_live _ _ hl,
    State.onFetched_of_turn _ ht]
  rfl

end

theorem Ecc.written_of_sound {e : Ecc} (a n : Nat) (h : e.bad = []) : e.written a n = e := by
  rw [Ecc.written, h, List.filter_nil, ← h]

theorem State.bufZero_postBase {a n : Nat} (h : s.ecc.bad = []) : (s.bufZero a n).postBase = s.postBase := by
  simp only [State.postBase, State.bufZero, Ecc.written_of_sound _ _ h]

/-- What a splice of nothing replaces reads as the default. -/
theorem sget_splice_nil {α : Type} (d : α) {a n k : Nat} (l : Sparse α) (ha : a ≤ k) (hk : k < a + n) :
    sget d k (splice a n [] l) = d := by
  refine sget_of_not_mem d k _ fun e he => ?_
  simp only [splice, List.append_nil, List.mem_append, List.mem_filter, decide_eq_true_eq] at he
  omega

theorem State.bufByte_bufZero {a n x : Nat} (hfit : a + n ≤ 0x1000000) (ha : a ≤ x) (hx : x < a + n) : (s.bufZero a n).bufByte x = 0 :=
  sget_splice_nil 0 s.buf ha (by omega)

theorem State.bufByte_bufZero_ne {a n x : Nat} (h : x < a ∨ a + n ≤ x) : (s.bufZero a n).bufByte x = s.bufByte x :=
  sget_splice_ne 0 a _ x [] s.buf (by omega) (by simp)

section
variable {s} {sq : Nat} {c : Cmd} (hl : s.live = true)
include hl

theorem zeroWindowComplete_spec (hrun : s.underWay sq 0x0B = some c) (hsound : s.ringSound c.cq = true) {t0 w a n : Nat}
    (ht0 : t0 = dArg c.desc 28 1) (hw : w = dArg c.desc 29 1) (ha : a = s.winBase t0 w) (hn : n = s.getF Reg.WPAGES_PAGES (8 * t0 + w))
    (hfit : a + 4096 * n ≤ 0x1000000) : ∃ t,
    exec (.zeroWindowComplete sq) s = .next t ∧ posted s t c 0 (BitVec.ofNat 32 n) 0 false ∧ bufKept s t c a (4096 * n) ∧
    ∀ x, a ≤ x → x < a + 4096 * n → (x < s.entryAddr c.cq ∨ s.entryAddr c.cq + 16 ≤ x) → t.bufByte x = 0 := by
  have hexec : exec (.zeroWindowComplete sq) s = .next ((s.bufZero a (4096 * n)).post c 0 (BitVec.ofNat 32 n) 0) := by
    rw [show exec (.zeroWindowComplete sq) s = execZeroWindowComplete sq s from rfl, execZeroWindowComplete,
      State.whenLive_of_live _ _ hl, State.onRunning_of_underWay _ hrun, hn, ha, ht0, hw]
  have hbase := s.bufZero_postBase (a := a) (n := 4096 * n) (State.ecc_of_sound hsound)
  refine ⟨_, hexec, State.post_posted_after hbase rfl hsound _ _ _,
    State.post_bufKept_after hbase (fun x hx => s.bufByte_bufZero_ne hx) hsound _ _ _, fun x hx hx' hout => ?_⟩
  rw [State.post_bufByte_after hbase hsound _ _ _ hout, State.bufByte_bufZero _ hfit hx hx']

end

/-! ### SET_RESERVATION (R65, R72, R92, R111) -/

theorem State.setF_postedView (f : Field) (i v : Nat) (h : f.lo % 32 ≠ 16) : (s.setF f i v).postedView = s.postedView := by
  have htail : ∀ j, (s.setF f i v).getF Reg.QIDX_TAIL j = s.getF Reg.QIDX_TAIL j := fun j =>
    s.getF_setF_ne _ _ _ _ _ (qidxTail_key_ne h j i)
  simp only [State.postedView, htail]
  rfl

theorem State.event_postedView (code u a d : Nat) : (s.event code u a d).postedView = s.postedView := by
  rw [State.event_withEvr]
  rfl

theorem State.emcy_postedView (code : Nat) (b : Byte) (d : Nat) : (s.emcy code b d).postedView = s.postedView := rfl

theorem State.critSeen_postedView (b : Bool) : ({ s with critSeen := b } : State).postedView = s.postedView := rfl

theorem State.causeWriter_postedView (n bit : Nat) : (s.causeWriter n bit).postedView = s.postedView := by
  unfold State.causeWriter
  split
  · exact s.cause_postedView _ _
  · rfl

theorem State.each_postedView (l : List Nat) (f : State → Nat → State) (h : ∀ u n, (f u n).postedView = u.postedView) :
    (s.each l f).postedView = s.postedView := State.foldl_kept State.postedView f h l s

theorem State.shedding_postedView (f : State → State) (h : (f s).postedView = s.postedView) : (s.shedding f).postedView = s.postedView :=
  (State.each_postedView _ _ _ fun u n => State.ite_kept State.postedView (u.causeWriter_postedView n 3)).trans h

/-- An update of a channel's shedding state, where it is open. -/
theorem State.ite_setShed_postedView {p : Prop} [Decidable p] (n : Nat) (x : Shed) :
    (if p then s.setShed n x else s).postedView = s.postedView := State.ite_kept State.postedView (t := s.setShed n x) rfl

/-- An update of an intake's. -/
theorem State.ite_setShedIn_postedView {p : Prop} [Decidable p] (n : Nat) (x : Shed) :
    (if p then s.setShedIn n x else s).postedView = s.postedView := State.ite_kept State.postedView (t := s.setShedIn n x) rfl

theorem State.refit_postedView : s.refit.postedView = s.postedView := by
  unfold State.refit
  extract_lets fs fac u v w
  have hu : u.postedView = s.postedView :=
    s.each_postedView _ _ fun _ _ => (State.ite_setShedIn_postedView _ _ _).trans (State.ite_setShed_postedView _ _ _)
  have hv : v.postedView = s.postedView := (u.setF_postedView _ _ _ (by decide)).trans hu
  split
  · have hw : w.postedView = v.postedView := by
      rw [State.emcy_postedView, State.event_postedView, State.critSeen_postedView]
    exact (State.each_postedView _ _ _ fun u n => u.causeWriter_postedView n 3).trans (hw.trans hv)
  · exact hv

theorem State.newQuotas_postedView : s.newQuotas.postedView = s.postedView :=
  s.each_postedView _ _ fun _ _ => (State.ite_setShedIn_postedView _ _ _).trans (State.ite_setShed_postedView _ _ _)

theorem State.shortfallStart_postedView : s.shortfallStart.postedView = s.postedView := by
  unfold State.shortfallStart
  extract_lets u v w
  have hu : u.postedView = s.postedView := (State.event_postedView _ _ _ _ _).trans (s.setF_postedView _ _ _ (by decide))
  have hw : w.postedView = s.postedView := (State.each_postedView _ _ _ fun _ _ =>
    (State.ite_setShedIn_postedView _ _ _).trans (State.ite_setShed_postedView _ _ _)).trans hu
  rw [State.newQuotas_postedView, State.refit_postedView, hw]

theorem State.shortfallEnd_postedView : s.shortfallEnd.postedView = s.postedView := by
  unfold State.shortfallEnd
  extract_lets u
  have hu : u.postedView = s.postedView := (State.event_postedView _ _ _ _ _).trans (s.setF_postedView _ _ _ (by decide))
  exact (State.setF_postedView _ _ _ _ (by decide)).trans hu

/-- MEDIA_NOW and what follows its change leave completions, the buffer and the shares. -/
theorem State.media_postedView : s.media.postedView = s.postedView := by
  have hnow := s.setF_postedView Reg.MEDIA_NOW_RATE 0 s.mediaNow (by decide)
  unfold State.media
  extract_lets u short
  split
  · exact (State.shedding_postedView _ _ u.shortfallStart_postedView).trans hnow
  · exact (State.shedding_postedView _ _ u.shortfallEnd_postedView).trans hnow
  · exact (State.shedding_postedView _ _ u.refit_postedView).trans hnow
  · exact hnow

/-- The shares of a SET_RESERVATION are given to its tenant. -/
def State.sharesGiven (s : State) (c : Cmd) : State :=
  s.setTen (dArg c.desc 28 1) { s.ten (dArg c.desc 28 1) with share := shareOf c.desc }

theorem State.sharesGiven_self (c : Cmd) : ((s.sharesGiven c).ten (dArg c.desc 28 1)).share = shareOf c.desc := by
  rw [State.sharesGiven, State.ten_setTen_self]

theorem State.sharesGiven_ne {c : Cmd} {u : Nat} (h : u ≠ dArg c.desc 28 1) : (s.sharesGiven c).ten u = s.ten u :=
  s.ten_setTen_ne _ _ _ h

section
variable {s} {sq : Nat} {c : Cmd} (hl : s.live = true) (ht : s.turn sq 0x0C c)
include hl ht

theorem exec_setReservation_turn : exec (.setReservation sq) s =
    .next (if (s.sharesGiven c).sharesFit then ((s.sharesGiven c).post c 0 0 0).media else s.post c 0x29 0 0) := by
  rw [show exec (.setReservation sq) s = execSetReservation sq s from rfl, execSetReservation, State.whenLive_of_live _ _ hl,
    State.onFetched_of_turn _ ht]
  rfl

theorem setReservation_fits (h : (s.sharesGiven c).sharesFit = true) : ∃ t, exec (.setReservation sq) s = .next t ∧
    (t.ten (dArg c.desc 28 1)).share = shareOf c.desc ∧ (∀ u, u ≠ dArg c.desc 28 1 → (t.ten u).share = (s.ten u).share) ∧
    posted s t c 0 0 0 false := by
  have hexec := exec_setReservation_turn hl ht
  rw [if_pos h] at hexec
  have hbase : (s.sharesGiven c).postBase = s.postBase := rfl
  have hview := ((s.sharesGiven c).post c 0 0 0).media_postedView
  have hshare := State.post_share _ c 0 0 0 false (State.ringHeld_of_sound (State.ringSound_of_postBase hbase ht.sound))
  refine ⟨_, hexec, ?_, fun u hu => ?_, posted.of_postedView hview (State.post_posted_after hbase rfl ht.sound 0 0 0)⟩
  · rw [State.share_of_postedView hview, hshare, State.sharesGiven_self]
  · rw [State.share_of_postedView hview, hshare, State.sharesGiven_ne _ hu]

theorem setReservation_exceeds (h : (s.sharesGiven c).sharesFit = false) : ∃ t, exec (.setReservation sq) s = .next t ∧
    (∀ u, (t.ten u).share = (s.ten u).share) ∧ posted s t c 0x29 0 0 false := by
  have hexec := exec_setReservation_turn hl ht
  rw [if_neg (by simp [h])] at hexec
  exact ⟨_, hexec, s.post_share _ _ _ _ _ (State.ringHeld_of_sound ht.sound), s.post_posted _ _ _ _ _ ht.sound⟩

end

/-! ### QUERY_HEAD (R65, R67) -/

theorem State.headRecord_length (n : Nat) : (s.headRecord n).length = 32 := by simp [State.headRecord]

section
variable {s} {sq : Nat} {c : Cmd} (hl : s.live = true)
include hl

theorem queryHead_opened (ht : s.turn sq 0x02 c) (hopen : s.hasOpening (dChan c.desc) = true) (hfit : s.cmdAddr c + 32 ≤ 0x1000000) :
    ∃ t, exec (.queryHead sq) s = .next t ∧ posted s t c 0 (s.heads (dChan c.desc)).1 (s.heads (dChan c.desc)).2.1 false ∧
      bufKept s t c (s.cmdAddr c) 32 ∧
      ∀ k < 32, (s.cmdAddr c + k < s.entryAddr c.cq ∨ s.entryAddr c.cq + 16 ≤ s.cmdAddr c + k) →
        t.bufByte (s.cmdAddr c + k) = byteAt (s.headRecord (dChan c.desc)) k := by
  have hexec : exec (.queryHead sq) s = .next ((s.bufWrite (s.cmdAddr c) (s.headRecord (dChan c.desc))).post c 0
      (s.heads (dChan c.desc)).1 (s.heads (dChan c.desc)).2.1) := by
    rw [show exec (.queryHead sq) s = execQueryHead sq s from rfl, execQueryHead, State.whenLive_of_live _ _ hl,
      State.onFetched_of_turn _ ht]
    simp only [hopen, Bool.not_true, Bool.false_eq_true, if_false]
  have hlen := s.headRecord_length (dChan c.desc)
  have hecc := State.ecc_of_sound ht.sound
  have hbase := s.bufWrite_postBase (a := s.cmdAddr c) (bs := s.headRecord (dChan c.desc)) hecc (by omega)
  refine ⟨_, hexec, State.post_posted_after hbase (by rw [State.bufWrite_cmds]) ht.sound _ _ _,
    State.post_bufKept_after hbase (fun x hx => State.bufByte_bufWrite_ne _ _ _ _ (by rwa [hlen])) ht.sound _ _ _,
    fun k hk hx => ?_⟩
  rw [State.post_bufByte_after hbase ht.sound _ _ _ hx, State.bufByte_bufWrite _ _ _ _ hecc (by omega) (by omega)]

theorem queryHead_unopened (ht : s.turn sq 0x02 c) (hopen : s.hasOpening (dChan c.desc) = false) :
    ∃ (t : State) (r0 r1 : Word), exec (.queryHead sq) s = .next t ∧ posted s t c 5 r0 r1 false ∧ bufKept s t c 0 0 := by
  have hexec : exec (.queryHead sq) s = .next (s.fresh.1.fresh.1.post c 5 s.fresh.2 s.fresh.1.fresh.2) := by
    rw [show exec (.queryHead sq) s = execQueryHead sq s from rfl, execQueryHead, State.whenLive_of_live _ _ hl,
      State.onFetched_of_turn _ ht]
    simp only [hopen, Bool.not_false, if_true]
    rfl
  have hbase : s.fresh.1.fresh.1.postBase = s.postBase := rfl
  exact ⟨_, _, _, hexec, State.post_posted_after hbase rfl ht.sound _ _ _,
    State.post_bufKept_after hbase (fun _ _ => rfl) ht.sound _ _ _⟩

end

/-! ### FLUSH (R65) -/

/-- RESULT0 of a FLUSH: the head of the one channel it waits for, else the value the command has taken. -/
def Cmd.flushHead (c : Cmd) : Word :=
  match c.waits with
  | [w] => w.2
  | _ => c.target

theorem State.settleCmd_flush {c : Cmd} (hop : c.op = 0x08) : s.settleCmd c =
    if c.waits.all (fun w => seqLe w.2 (s.chan w.1).written) then s.post c 0 c.flushHead 0 else s := by
  cases c
  cases hop
  rfl

/-- The FLUSH under way: it has taken a free value for a head that the spec leaves open. -/
def Cmd.flushing (c : Cmd) (s : State) : Cmd := { c with running := true, target := s.fresh.2 }

/-- The state in which FLUSH `c` is under way. -/
def State.flushBegun (s : State) (c : Cmd) : State := s.fresh.1.setCmd (c.flushing s)

theorem State.flushBegun_chan (c : Cmd) (n : Nat) : (s.flushBegun c).chan n = s.chan n := rfl

section
variable {s} {sq : Nat} {c : Cmd} (hl : s.live = true) (ht : s.turn sq 0x08 c)
include hl ht

theorem exec_flush_turn (hopen : bitOf (dArg c.desc 28 1) 0 = true ∨ (s.chan (dChan c.desc)).everOpened = true)
    (hrun : ∀ w ∈ c.waits, (s.chan w.1).halted = false) :
    exec (.flush sq) s = .next ((s.flushBegun c).settleCmd (c.flushing s)) := by
  have hno : (!bitOf (dArg c.desc 28 1) 0 && !(s.chan (dChan c.desc)).everOpened) = false := by
    rcases hopen with h | h <;> simp [h]
  have hhalt : c.waits.any (fun w => (s.chan w.1).halted) = false := by simpa using hrun
  rw [show exec (.flush sq) s = execFlush sq s from rfl, execFlush, State.whenLive_of_live _ _ hl, State.onFetched_of_turn _ ht]
  simp only [hno, hhalt, Bool.false_eq_true, if_false]
  rfl

theorem flush_completes {r0 : Word} (hopen : bitOf (dArg c.desc 28 1) 0 = true ∨ (s.chan (dChan c.desc)).everOpened = true)
    (hwritten : ∀ w ∈ c.waits, (s.chan w.1).halted = false ∧ seqLe w.2 (s.chan w.1).written = true)
    (hr0 : (c.flushing s).flushHead = r0) :
    ∃ t, exec (.flush sq) s = .next t ∧ posted s t c 0 r0 0 false ∧ bufKept s t c 0 0 := by
  have hall : (c.flushing s).waits.all (fun w => seqLe w.2 ((s.flushBegun c).chan w.1).written) = true :=
    List.all_eq_true.2 fun w hw => (hwritten w hw).2
  have hsettle : (s.flushBegun c).settleCmd (c.flushing s) = (s.flushBegun c).post (c.flushing s) 0 r0 0 := by
    rw [State.settleCmd_flush _ (show (c.flushing s).op = 0x08 from ht.op_eq), if_pos hall, hr0]
  have hbase : (s.flushBegun c).postBase = s.postBase := rfl
  refine ⟨_, (exec_flush_turn hl ht hopen fun w hw => (hwritten w hw).1).trans (congrArg _ hsettle), ?_, ?_⟩
  · exact State.post_posted_after (c := c.flushing s) hbase (s.fresh.1.setCmd_others (c := c) rfl) ht.sound 0 r0 0
  · exact State.post_bufKept_after (c := c.flushing s) hbase (fun _ _ => rfl) ht.sound 0 r0 0

theorem flush_waits {h : Word} (hopen : (s.chan (dChan c.desc)).everOpened = true) (hrun : (s.chan (dChan c.desc)).halted = false)
    (hwaits : c.waits = [(dChan c.desc, h)]) (hlate : seqLe h (s.chan (dChan c.desc)).written = false) :
    ∃ (t : State) (c' : Cmd), exec (.flush sq) s = .next t ∧ c'.running = true ∧ c'.waits = c.waits ∧
      t.cmds = s.cmds.map (fun (d : Cmd) => if d.tag == c.tag then c' else d) ∧
      t = { s with cmds := t.cmds, freeCtr := t.freeCtr } := by
  have hall : ¬ (c.flushing s).waits.all (fun w => seqLe w.2 ((s.flushBegun c).chan w.1).written) = true := by
    simpa [Cmd.flushing, hwaits, State.flushBegun_chan] using hlate
  have hsettle : (s.flushBegun c).settleCmd (c.flushing s) = s.flushBegun c := by
    rw [State.settleCmd_flush _ (show (c.flushing s).op = 0x08 from ht.op_eq), if_neg hall]
  exact ⟨s.flushBegun c, c.flushing s, (exec_flush_turn hl ht (.inr hopen) (by simpa [hwaits] using hrun)).trans (congrArg _ hsettle),
    rfl, rfl, rfl, rfl⟩

end

/-! ### MIRROR_RESYNC (R65, R237, R257, R325) -/

theorem State.settleCmd_resync {c : Cmd} (hop : c.op = 0x09) (h : seqLe c.target (s.chan (dChan c.desc)).mirrored = true) :
    ∃ x : OvrOwn, s.settleCmd c = (s.setOwn (dChan c.desc) x).post c 0 (s.chan (dChan c.desc)).mirrored 0 := by
  unfold State.settleCmd
  rw [hop]
  exact ⟨_, if_pos h⟩

/-- The state in which MIRROR_RESYNC `c` is under way. -/
def State.resyncBegun (s : State) (c : Cmd) : State :=
  let n := dChan c.desc
  let h := s.chan n
  let s := s.setCmd { c with running := true }
  let s := if h.mirrored = h.durable then s else s.lag n
  s.setOwn n { s.own n with resync := true, gapHalted := false }

theorem State.resyncBegun_withOvr (c : Cmd) : s.resyncBegun c =
    { s with cmds := (s.setCmd { c with running := true }).cmds, ovr := (s.resyncBegun c).ovr } := by
  unfold State.resyncBegun
  dsimp only
  split <;> rfl

section
variable {s} {sq : Nat} {c : Cmd} (hl : s.live = true) (ht : s.turn sq 0x09 c)
include hl ht

theorem exec_mirrorResync_turn : exec (.mirrorResync sq) s = .next (
    let n := dChan c.desc
    let h := s.chan n
    if !s.owns n || !s.flag Reg.OVR_CTRL_EN || (h.accepts && (h.halted || !h.mirror)) then s.post c 0x24 h.mirrored 0
    else if !h.accepts then s.post c 5 h.mirrored 0
    else if !s.linkUp then s.post c 0x28 h.mirrored 0
    else (s.resyncBegun c).settleCmd { c with running := true }) := by
  rw [show exec (.mirrorResync sq) s = execMirrorResync sq s from rfl, execMirrorResync, State.whenLive_of_live _ _ hl,
    State.onFetched_of_turn _ ht]
  rfl

theorem mirrorResync_badState (h : s.owns (dChan c.desc) = false ∨ s.flag Reg.OVR_CTRL_EN = false ∨
      ((s.chan (dChan c.desc)).accepts = true ∧ ((s.chan (dChan c.desc)).halted = true ∨ (s.chan (dChan c.desc)).mirror = false))) :
    ∃ t, exec (.mirrorResync sq) s = .next t ∧ posted s t c 0x24 (s.chan (dChan c.desc)).mirrored 0 false := by
  have hbad : (!s.owns (dChan c.desc) || !s.flag Reg.OVR_CTRL_EN || ((s.chan (dChan c.desc)).accepts &&
      ((s.chan (dChan c.desc)).halted || !(s.chan (dChan c.desc)).mirror))) = true := by
    rcases h with h | h | ⟨ha, h | h⟩
    · simp [h]
    · simp [h]
    · simp [ha, h]
    · simp [ha, h]
  refine ⟨_, exec_mirrorResync_turn hl ht, ?_⟩
  simp only [hbad, if_true]
  exact s.post_posted _ _ _ _ _ ht.sound

theorem mirrorResync_noChannel (ha : (s.chan (dChan c.desc)).accepts = false) (hown : s.owns (dChan c.desc) = true)
    (hen : s.flag Reg.OVR_CTRL_EN = true) :
    ∃ t, exec (.mirrorResync sq) s = .next t ∧ posted s t c 5 (s.chan (dChan c.desc)).mirrored 0 false := by
  refine ⟨_, exec_mirrorResync_turn hl ht, ?_⟩
  simp only [ha, hown, hen, Bool.not_true, Bool.not_false, Bool.false_and, Bool.or_self, Bool.false_eq_true, if_false, if_true]
  exact s.post_posted _ _ _ _ _ ht.sound

section
variable (ha : (s.chan (dChan c.desc)).accepts = true) (hh : (s.chan (dChan c.desc)).halted = false)
  (hm : (s.chan (dChan c.desc)).mirror = true) (hown : s.owns (dChan c.desc) = true) (hen : s.flag Reg.OVR_CTRL_EN = true)
include ha hh hm hown hen

theorem mirrorResync_linkDown (hdown : s.linkUp = false) :
    ∃ t, exec (.mirrorResync sq) s = .next t ∧ posted s t c 0x28 (s.chan (dChan c.desc)).mirrored 0 false := by
  refine ⟨_, exec_mirrorResync_turn hl ht, ?_⟩
  simp only [ha, hh, hm, hown, hen, hdown, Bool.not_true, Bool.not_false, Bool.and_false, Bool.or_self, Bool.false_eq_true, if_false,
    if_true]
  exact s.post_posted _ _ _ _ _ ht.sound

theorem mirrorResync_mirrored (hup : s.linkUp = true) (htarget : seqLe c.target (s.chan (dChan c.desc)).mirrored = true) :
    ∃ t, exec (.mirrorResync sq) s = .next t ∧ posted s t c 0 (s.chan (dChan c.desc)).mirrored 0 false := by
  refine ⟨_, exec_mirrorResync_turn hl ht, ?_⟩
  simp only [ha, hh, hm, hown, hen, hup, Bool.not_true, Bool.and_false, Bool.or_self, Bool.false_eq_true, if_false]
  have hchan : (s.resyncBegun c).chan (dChan c.desc) = s.chan (dChan c.desc) := by
    rw [State.resyncBegun_withOvr]
    rfl
  obtain ⟨x, hsettle⟩ := State.settleCmd_resync (s.resyncBegun c) (c := { c with running := true }) ht.op_eq (by rwa [hchan])
  have hbase : ((s.resyncBegun c).setOwn (dChan c.desc) x).postBase = s.postBase := by
    rw [State.resyncBegun_withOvr]
    rfl
  have hcmds : ((s.resyncBegun c).setOwn (dChan c.desc) x).cmds = (s.setCmd { c with running := true }).cmds := by
    rw [State.resyncBegun_withOvr]
    rfl
  rw [hsettle, hchan]
  exact State.post_posted_after (c := { c with running := true }) hbase (hcmds ▸ s.setCmd_others (c := c) rfl) ht.sound _ _ _

end
end

/-- Settles O15: each command whose turn it is has its theorems above. -/
theorem keeperAndHeadCommands : Obligations.KeeperAndHeadCommands := by
  refine ⟨fun s sq c hl => ⟨?_, ?_, ?_, ?_, ?_⟩, fun s sq c hl => ⟨?_, ?_, ?_, ?_, ?_⟩⟩
  · exact fun ht hreads => ⟨releaseBushel_refused hl ht hreads, releaseBushel_releases hl ht hreads⟩
  · exact readEvents_spec hl
  · exact exec_zeroWindow_turn hl
  · exact fun hrun hsound t0 w a n => zeroWindowComplete_spec hl hrun hsound
  · exact fun ht => ⟨setReservation_fits hl ht, setReservation_exceeds hl ht⟩
  · exact queryHead_opened hl
  · exact queryHead_unopened hl
  · intro h ht hall hopen hrun hwaits
    refine ⟨fun hle => flush_completes hl ht (.inr hopen) ?_ (by simp [Cmd.flushHead, Cmd.flushing, hwaits]), flush_waits hl ht hopen hrun hwaits⟩
    simpa [hwaits] using ⟨hrun, hle⟩
  · intro ht hall hwritten
    obtain ⟨t, hflush⟩ := flush_completes hl ht (.inl hall) hwritten rfl
    exact ⟨t, _, hflush⟩
  · refine fun ht => ⟨mirrorResync_badState hl ht, mirrorResync_noChannel hl ht, fun ha hh hm hown hen => ⟨?_, ?_⟩⟩
    · exact mirrorResync_linkDown hl ht ha hh hm hown hen
    · exact fun hup _ => mirrorResync_mirrored hl ht ha hh hm hown hen hup

end Sys2Proof.Machine
end

section
/-! The sessions of the tenants (spec/04 R79 to R81): what each command makes of the tenant that it names; the others stay. -/

namespace Sys2Proof.Machine

variable {s : State} {tid : Nat}

/-! ### One tenant replaced -/

/-- A tenant replaced: it is as given, the others and the rest of the state stay. -/
theorem State.setTen_spec (s : State) (tid : Nat) (x : Tenant) :
    (s.setTen tid x).ten tid = x ∧ (∀ u, u ≠ tid → (s.setTen tid x).ten u = s.ten u) ∧
      s.setTen tid x = { s with tenants := (s.setTen tid x).tenants } :=
  ⟨s.ten_setTen_self tid x, fun u hu => s.ten_setTen_ne tid u x hu, rfl⟩

/-! ### CHALLENGE (R79, R80) -/

theorem exec_sessionChallenge_issued (hl : s.live = true) (ht : s.tenantIs tid = true) (hopen : (s.ten tid).sess ≠ 2)
    (hlocked : (s.ten tid).sess ≠ 3) : exec (.sessionChallenge tid) s = .next (State.setTen { s with freeCtr := s.freeCtr + 1 } tid
      { s.ten tid with sess := 1, nonce := some (Config.freshNonce s.freeCtr) }) := by
  change execSessionChallenge tid s = _
  rw [execSessionChallenge, State.whenLive_of_live _ _ hl]
  simp [ht, hopen, hlocked]

theorem exec_sessionChallenge_locked (hl : s.live = true) (hlocked : (s.ten tid).sess = 3) :
    exec (.sessionChallenge tid) s = .next s := by
  change execSessionChallenge tid s = _
  rw [execSessionChallenge, State.whenLive_of_live _ _ hl]
  simp [hlocked]

/-! ### RESPOND (R79, R80) -/

/-- A tenant whose RESPONSE matches. -/
def Tenant.opened (x : Tenant) : Tenant := { x with sess := 2, nonce := none, fails := 0, run := 0, locks := 0 }

/-- A tenant whose RESPONSE fails at the time `now` while no lock stands: the fourth failure in a row locks it. -/
def Tenant.failed (x : Tenant) (now : Dmt) : Tenant :=
  if x.run + 1 < 4 then { x with fails := x.fails + 1, run := x.run + 1, sess := 0, nonce := none }
  else { x with fails := x.fails + 1, run := 0, sess := 3, nonce := none, lockMs := min (1000 * 2 ^ x.locks) 64000
                lockAt := now, locks := x.locks + 1 }

theorem Tenant.failed_fields (x : Tenant) (now : Dmt) :
    (x.failed now).sess ≠ 2 ∧ (x.failed now).nonce = none ∧ (x.failed now).fails = x.fails + 1 := by
  unfold Tenant.failed
  split <;> simp

theorem Tenant.failed_fourth {x : Tenant} (now : Dmt) (h : x.run = 3) : (x.failed now).sess = 3 ∧
    (x.failed now).lockMs = min (1000 * 2 ^ x.locks) 64000 ∧ (x.failed now).lockAt = now ∧ (x.failed now).locks = x.locks + 1 := by
  simp [Tenant.failed, h]

theorem Tenant.failed_before {x : Tenant} (now : Dmt) (h : x.run < 3) :
    (x.failed now).sess = 0 ∧ (x.failed now).run = x.run + 1 := by
  rw [Tenant.failed, if_pos (Nat.succ_lt_succ h)]
  exact ⟨rfl, rfl⟩

/-- A failure is recorded with the count that it makes, and the tenant has failed. -/
theorem State.sessionFail_eq (h : (s.ten tid).sess ≠ 3) : s.sessionFail tid =
    (s.event 0x10 tid 0 ((s.ten tid).fails + 1)).setTen tid ((s.ten tid).failed s.time.dmt) := by
  rw [State.sessionFail, if_neg h, Tenant.failed, State.event_time]
  split <;> rfl

section
variable {nonce : BitVec 128} (hl : s.live = true) (ht : s.tenantIs tid = true) (hsess : (s.ten tid).sess = 1)
  (hnonce : (s.ten tid).nonce = some nonce)
include hl ht hsess hnonce

/-- A RESPOND to a challenge that stands opens the session or counts a failure. -/
theorem exec_sessionRespond_challenged : exec (.sessionRespond tid) s =
    .next (if (s.ten tid).given = s.response tid nonce then s.setTen tid (s.ten tid).opened else s.sessionFail tid) := by
  change execSessionRespond tid s = _
  rw [execSessionRespond, State.whenLive_of_live _ _ hl]
  simp [ht, hsess, hnonce, Tenant.opened]

theorem sessionRespond_matches (h : (s.ten tid).given = s.response tid nonce) : ∃ t,
    exec (.sessionRespond tid) s = .next t ∧ t.sessionOpen tid = true ∧ (t.ten tid).nonce = none ∧ (t.ten tid).fails = 0 ∧
    (∀ u, u ≠ tid → t.ten u = s.ten u) ∧ t = { s with tenants := t.tenants } := by
  obtain ⟨hself, hothers, hframe⟩ := s.setTen_spec tid (s.ten tid).opened
  refine ⟨_, (exec_sessionRespond_challenged hl ht hsess hnonce).trans (by rw [if_pos h]), ?_, ?_, ?_, hothers, hframe⟩
  · rw [State.sessionOpen, hself]
    rfl
  · rw [hself]
    rfl
  · rw [hself]
    rfl

theorem sessionRespond_fails (h : (s.ten tid).given ≠ s.response tid nonce) : ∃ t,
    exec (.sessionRespond tid) s = .next t ∧ t.sessionOpen tid = false ∧ (t.ten tid).nonce = none ∧
    (t.ten tid).fails = (s.ten tid).fails + 1 ∧ t.evr = (s.event 0x10 tid 0 ((s.ten tid).fails + 1)).evr ∧
    ((s.ten tid).run = 3 → (t.ten tid).sess = 3 ∧ (t.ten tid).lockMs = min (1000 * 2 ^ (s.ten tid).locks) 64000 ∧
      (t.ten tid).lockAt = s.time.dmt ∧ (t.ten tid).locks = (s.ten tid).locks + 1) ∧
    ((s.ten tid).run < 3 → (t.ten tid).sess = 0 ∧ (t.ten tid).run = (s.ten tid).run + 1) ∧
    (∀ u, u ≠ tid → t.ten u = s.ten u) ∧ t = { s with tenants := t.tenants, evr := t.evr } := by
  obtain ⟨hopen, hgone, hfails⟩ := (s.ten tid).failed_fields s.time.dmt
  refine ⟨_, (exec_sessionRespond_challenged hl ht hsess hnonce).trans (by rw [if_neg h, State.sessionFail_eq (by simp [hsess])]), ?_⟩
  rw [State.sessionOpen, State.ten_setTen_self]
  refine ⟨beq_false_of_ne hopen, hgone, hfails, rfl, Tenant.failed_fourth _, Tenant.failed_before _, fun u hu => ?_, ?_⟩
  · rw [State.ten_setTen_ne _ _ _ _ hu, State.ten, State.event_tenants, State.ten]
  · rw [State.event_withEvr]
    rfl

end

/-! ### CLOSE and the expiries (R79 to R81) -/

theorem exec_sessionClose_unlocked (hl : s.live = true) (hlocked : (s.ten tid).sess ≠ 3) :
    exec (.sessionClose tid) s = .next (s.setTen tid { s.ten tid with sess := 0, nonce := none }) := by
  change execSessionClose tid s = _
  rw [execSessionClose, State.whenLive_of_live _ _ hl]
  simp [State.closeSession, hlocked]

theorem exec_nonceExpiry_live (hl : s.live = true) :
    exec (.nonceExpiry tid) s = .next (s.setTen tid { s.ten tid with nonce := none }) := by
  change execNonceExpiry tid s = _
  rw [execNonceExpiry, State.whenLive_of_live _ _ hl]

theorem exec_lockoutExpiry_locked (hl : s.live = true) (hlocked : (s.ten tid).sess = 3) :
    exec (.lockoutExpiry tid) s = .next (s.setTen tid { s.ten tid with sess := 0, lockMs := 0 }) := by
  change execLockoutExpiry tid s = _
  rw [execLockoutExpiry, State.whenLive_of_live _ _ hl]
  simp [hlocked]

/-- Settles O17: each command replaces the tenant that it names, and a failure is recorded besides. -/
theorem sessionLife : Obligations.SessionLife := by
  refine ⟨fun s tid hl => ⟨?_, exec_sessionChallenge_locked hl, ?_⟩, fun s tid hl => ⟨?_, ?_, ?_⟩⟩
  · intro ht hopen hlocked
    obtain ⟨hself, hothers, hframe⟩ := State.setTen_spec { s with freeCtr := s.freeCtr + 1 } tid
      { s.ten tid with sess := 1, nonce := some (Config.freshNonce s.freeCtr) }
    exact ⟨_, exec_sessionChallenge_issued hl ht hopen hlocked, hself, hothers, hframe⟩
  · exact fun nonce ht hsess hnonce =>
      ⟨sessionRespond_matches hl ht hsess hnonce, sessionRespond_fails hl ht hsess hnonce⟩
  · exact fun hlocked => ⟨_, exec_sessionClose_unlocked hl hlocked, s.setTen_spec tid _⟩
  · exact ⟨_, exec_nonceExpiry_live hl, s.setTen_spec tid _⟩
  · exact fun hlocked => ⟨_, exec_lockoutExpiry_locked hl hlocked, s.setTen_spec tid _⟩

end Sys2Proof.Machine
end

section
/-! The tenant table (spec/04 R76 to R78, R81, R82, R84, R85): the writes of TCFG, KEY, CHAN_RIGHTS and WIN, and what is taken
from a tenant that is disabled. -/

namespace Sys2Proof.Machine

/-! ### Stagings cancelled (R101) -/

theorem State.endStagings_withPages (s : State) (l : List Staging) : l.foldl State.endStaging s =
    { s with stagings := (l.foldl State.endStaging s).stagings, pages := (l.foldl State.endStaging s).pages } := by
  induction l generalizing s with
  | nil => rfl
  | cons g l ih => exact ih (s.endStaging g)

/-- Cancelling stagings changes the stagings and the pages alone. -/
theorem State.revoke_withPages (s : State) (p : Staging → Bool) :
    s.revoke p = { s with stagings := (s.revoke p).stagings, pages := (s.revoke p).pages } :=
  State.endStagings_withPages _ _

theorem State.revokeUnread_withPages (s : State) :
    s.revokeUnread = { s with stagings := s.revokeUnread.stagings, pages := s.revokeUnread.pages } :=
  s.revoke_withPages _

/-! ### A write that every field takes -/

section
variable (s : State) {src addr : Nat} (v : Word) (hp : privileged src = true)
  (hfree : ∀ e ∈ regFields addr, e.1.acc = .rwk ∧ e.1.ok = [])
include hp hfree

/-- The keeper's or machine-mode firmware's write to fields without reserved encodings records nothing. -/
theorem State.genericWrite_onlyFields : onlyFields s (s.genericWrite src addr v) (regFields addr) := by
  have hlegal : (regFields addr).any (fun e => e.1.takes src && !e.1.legal (bitsOf v.toNat e.1.lo e.1.w)) = false := by
    rw [List.any_eq_false]
    intro e he
    simp [Field.legal, (hfree e he).2]
  have hevr : (s.genericWrite src addr v).evr = s.evr := by
    simp [State.genericWrite_evr, State.writeEvents, hlegal, hp]
  have hframe := s.genericWrite_frame src addr v
  rw [hevr] at hframe
  exact ⟨hframe, s.getF_genericWrite_ne src addr v⟩

theorem State.getF_genericWrite_taken (hap : registerApart addr = true) {f : Field} {i : Nat} (h : (f, i) ∈ regFields addr) :
    (s.genericWrite src addr v).getF f i = bitsOf v.toNat f.lo f.w := by
  obtain ⟨hacc, hok⟩ := hfree _ h
  rw [s.getF_genericWrite src addr v f i hap h, f.written_rwk src _ _ hacc, if_pos ⟨hp, by simp [Field.legal, show f.ok = [] from hok]⟩]

end

/-! ### Changes of many elements, one after another -/

theorem State.each_fieldsKept (s : State) (l : List Nat) (f : State → Nat → State) (g : Nat → List (Field × Nat))
    (h : ∀ u n, fieldsKept u (f u n) (g n)) : fieldsKept s (s.each l f) (l.flatMap g) := by
  unfold State.each
  induction l generalizing s with
  | nil => exact fun _ _ _ => rfl
  | cons n l ih =>
    intro a i hne
    rw [List.flatMap_cons, List.forall_mem_append] at hne
    exact (ih (f s n) a i hne.2).trans (h s n a i hne.1)

theorem State.each_withRegs (s : State) (l : List Nat) (f : State → Nat → State) (h : ∀ u n, f u n = { u with regs := (f u n).regs }) :
    s.each l f = { s with regs := (s.each l f).regs } := by
  unfold State.each
  induction l generalizing s with
  | nil => rfl
  | cons n l ih => exact (ih (f s n)).trans (congrArg (fun v : State => { v with regs := (l.foldl f (f s n)).regs }) (h s n))

section
variable {α : Type} {f : State → Nat → State} {read : State → Nat → α} (hne : ∀ u n m, m ≠ n → read (f u n) m = read u m)
include hne

theorem State.each_read_of_not_mem (s : State) {l : List Nat} {m : Nat} (hm : m ∉ l) : read (s.each l f) m = read s m := by
  unfold State.each
  induction l generalizing s with
  | nil => rfl
  | cons n l ih =>
    rw [List.mem_cons, not_or] at hm
    exact (ih (f s n) hm.2).trans (hne s n m hm.1)

/-- What is read of element `m` after a change of each element of `l` hangs on the change of `m` alone. -/
theorem State.each_read_of_mem (s : State) {l : List Nat} {g : α → α} (hself : ∀ u, ∀ n ∈ l, read (f u n) n = g (read u n))
    (hl : l.Nodup) {m : Nat} (hm : m ∈ l) : read (s.each l f) m = g (read s m) := by
  induction l generalizing s with
  | nil => cases hm
  | cons n l ih =>
    obtain ⟨hnot, hl⟩ := List.nodup_cons.1 hl
    obtain ⟨hn, hself⟩ := List.forall_mem_cons.1 (fun k hk u => hself u k hk)
    change read ((f s n).each l f) m = _
    by_cases hmn : m = n
    · subst hmn
      exact (State.each_read_of_not_mem hne _ hnot).trans (hn s)
    · rw [ih (f s n) (fun u k hk => hself k hk u) hl ((List.mem_cons.1 hm).resolve_left hmn), hne s n m hmn]

end

/-! ### The rights to a channel (R83, R84) -/

/-- The fields of CHAN_RIGHTS_n. -/
def rightFields (n : Nat) : List (Field × Nat) :=
  [(Reg.CHAN_RIGHTS_WRITER, n), (Reg.CHAN_RIGHTS_WRITER_EN, n), (Reg.CHAN_RIGHTS_READERS, n)]

theorem regFields_chanRights : ∀ n < 64, regFields (0x40032000 + 4 * n) = rightFields n := by decide +kernel

theorem registerApart_chanRights : ∀ n < 64, registerApart (0x40032000 + 4 * n) = true := by decide +kernel

theorem State.mayWrite_eq (s : State) (x n : Nat) :
    s.mayWrite x n = (s.flag Reg.CHAN_RIGHTS_WRITER_EN n && s.getF Reg.CHAN_RIGHTS_WRITER n == x) := by
  unfold State.mayWrite State.writer
  cases s.flag Reg.CHAN_RIGHTS_WRITER_EN n <;> simp

theorem State.assigned_congr {s t : State} {n : Nat} (h : ∀ e ∈ rightFields n, t.getF e.1 e.2 = s.getF e.1 e.2) (x : Nat) :
    t.assigned x n = s.assigned x n := by
  simp only [rightFields, List.forall_mem_cons] at h
  obtain ⟨hw, hen, hr, -⟩ := h
  simp only [State.assigned, State.mayWrite_eq, State.flag, hw, hen, hr]

/-- The write right to channel `n` is taken from tenant `t`. -/
def State.writerTaken (s : State) (t n : Nat) : State :=
  if s.flag Reg.CHAN_RIGHTS_WRITER_EN n && s.getF Reg.CHAN_RIGHTS_WRITER n == t then
    (s.lower Reg.CHAN_RIGHTS_WRITER_EN n).lower Reg.CHAN_RIGHTS_WRITER n else s

/-- The read right to channel `n` is taken from tenant `t`. -/
def State.readerTaken (s : State) (t n : Nat) : State :=
  if bitOf (s.getF Reg.CHAN_RIGHTS_READERS n) t then
    s.setF Reg.CHAN_RIGHTS_READERS n (s.getF Reg.CHAN_RIGHTS_READERS n - 2 ^ t) else s

theorem State.rightTaken_withRegs (s : State) (t n : Nat) :
    (s.writerTaken t n).readerTaken t n = { s with regs := ((s.writerTaken t n).readerTaken t n).regs } := by
  unfold State.readerTaken State.writerTaken
  split_ifs <;> rfl

theorem State.rightTaken_fieldsKept (s : State) (t n : Nat) :
    fieldsKept s ((s.writerTaken t n).readerTaken t n) (rightFields n) := by
  intro g j h
  simp only [rightFields, List.forall_mem_cons] at h
  obtain ⟨hw, hen, hr, -⟩ := h
  have hwriter : (s.writerTaken t n).getF g j = s.getF g j := by
    unfold State.writerTaken
    split
    · rw [State.getF_lower_ne _ _ _ _ _ hw, State.getF_lower_ne _ _ _ _ _ hen]
    · rfl
  unfold State.readerTaken
  split
  · rw [State.getF_setF_ne _ _ _ _ _ _ hr, hwriter]
  · exact hwriter

/-- Taking the bit `t` that is set from `r` clears that bit alone. -/
theorem bitOf_sub_two_pow {r t x : Nat} (hr : r < 2 ^ 32) (hx : x < 16) (h : bitOf r t = true) :
    bitOf ((r - 2 ^ t) % 2 ^ 16) x = (decide (x ≠ t) && bitOf r x) := by
  rw [bitOf_eq_testBit] at h
  have hpow : 2 ^ t < 2 ^ 32 := (Nat.ge_two_pow_of_testBit h).trans_lt hr
  have hand : (BitVec.ofNat 32 r &&& BitVec.ofNat 32 (2 ^ t)).toNat = 2 ^ t := by
    rw [BitVec.toNat_and, BitVec.toNat_ofNat, BitVec.toNat_ofNat, Nat.mod_eq_of_lt hr, Nat.mod_eq_of_lt hpow, Nat.and_two_pow,
      h, Bool.toNat_true, Nat.one_mul]
  have hsub := testBit_sub_and r (2 ^ t) x hr (by omega)
  rw [hand, Nat.testBit_two_pow] at hsub
  rw [bitOf_eq_testBit, Nat.testBit_mod_two_pow, hsub, bitOf_eq_testBit]
  simp [hx, eq_comm, Bool.and_comm]

theorem State.writerTaken_mayWrite (s : State) (t x n : Nat) :
    (s.writerTaken t n).mayWrite x n = (decide (x ≠ t) && s.mayWrite x n) := by
  unfold State.writerTaken
  split
  next h =>
    obtain ⟨hen, hw⟩ := Bool.and_eq_true_iff.1 h
    have hgone : ((s.lower Reg.CHAN_RIGHTS_WRITER_EN n).lower Reg.CHAN_RIGHTS_WRITER n).flag Reg.CHAN_RIGHTS_WRITER_EN n = false := by
      rw [State.flag, State.getF_lower_ne _ _ _ _ _ (Field.key_ne_of_apart (by decide) n), State.getF_lower_self _ _ _ (by decide)]
      rfl
    simp only [State.mayWrite_eq, hgone, hen, beq_iff_eq.1 hw]
    simp [@eq_comm _ t x]
  next h =>
    by_cases hx : x = t
    · subst hx
      simpa [State.mayWrite_eq] using h
    · simp [hx]

theorem State.writerTaken_readers (s : State) (t n : Nat) :
    (s.writerTaken t n).getF Reg.CHAN_RIGHTS_READERS n = s.getF Reg.CHAN_RIGHTS_READERS n := by
  unfold State.writerTaken
  split
  · rw [State.getF_lower_ne _ _ _ _ _ (Field.key_ne_of_apart (by decide) n), State.getF_lower_ne _ _ _ _ _ (Field.key_ne_of_apart (by decide) n)]
  · rfl

theorem State.readerTaken_mayWrite (s : State) (t x n : Nat) : (s.readerTaken t n).mayWrite x n = s.mayWrite x n := by
  unfold State.readerTaken
  split
  · simp only [State.mayWrite_eq, State.flag,
      State.getF_setF_apart _ Reg.CHAN_RIGHTS_READERS Reg.CHAN_RIGHTS_WRITER n _ (by decide),
      State.getF_setF_apart _ Reg.CHAN_RIGHTS_READERS Reg.CHAN_RIGHTS_WRITER_EN n _ (by decide)]
  · rfl

theorem State.readerTaken_readers (s : State) (t n : Nat) {x : Nat} (hx : x < 16) :
    bitOf ((s.readerTaken t n).getF Reg.CHAN_RIGHTS_READERS n) x = (decide (x ≠ t) && bitOf (s.getF Reg.CHAN_RIGHTS_READERS n) x) := by
  unfold State.readerTaken
  split
  next h =>
    rw [State.getF_setF_self _ _ _ _ (by decide)]
    exact bitOf_sub_two_pow (s.getF_lt _ _) hx h
  next h =>
    by_cases hxt : x = t
    · subst hxt
      simpa using h
    · simp [hxt]

/-- Of the rights to the channel those of tenant `t` are gone and those of the others stay. -/
theorem State.rightTaken_assigned (s : State) (t n : Nat) {x : Nat} (hx : x < 16) :
    ((s.writerTaken t n).readerTaken t n).assigned x n = (decide (x ≠ t) && s.assigned x n) := by
  rw [State.assigned, State.readerTaken_mayWrite, State.writerTaken_mayWrite, State.readerTaken_readers _ _ _ hx,
    State.writerTaken_readers, State.assigned, Bool.and_or_distrib_left]

theorem rightFields_apart {m n : Nat} (h : m ≠ n) : ∀ e ∈ rightFields m, ∀ d ∈ rightFields n, e.1.key e.2 ≠ d.1.key d.2 := by
  simp only [rightFields, List.forall_mem_cons, Field.key, Field.addr, Reg.CHAN_RIGHTS_WRITER, Reg.CHAN_RIGHTS_WRITER_EN,
    Reg.CHAN_RIGHTS_READERS, List.not_mem_nil, false_implies, implies_true, and_true]
  omega

/-- Every right of tenant `t` is taken from it. -/
def State.rightsTaken (s : State) (t : Nat) : State := s.each chanNums (fun u n => (u.writerTaken t n).readerTaken t n)

theorem State.rightsTaken_withRegs (s : State) (t : Nat) : s.rightsTaken t = { s with regs := (s.rightsTaken t).regs } :=
  s.each_withRegs _ _ fun u n => u.rightTaken_withRegs t n

theorem State.rightsTaken_fieldsKept (s : State) (t : Nat) : fieldsKept s (s.rightsTaken t) (chanNums.flatMap rightFields) :=
  s.each_fieldsKept _ _ _ fun u n => u.rightTaken_fieldsKept t n

theorem State.rightsTaken_assigned (s : State) (t : Nat) {x n : Nat} (hx : x < 16) (hn : n < 64) :
    (s.rightsTaken t).assigned x n = (decide (x ≠ t) && s.assigned x n) := by
  refine State.each_read_of_mem (read := fun u n => u.assigned x n) (g := fun b => decide (x ≠ t) && b) ?_ s ?_ List.nodup_range
    (List.mem_range.2 hn)
  · exact fun u n m hmn => State.assigned_congr (fun e he => u.rightTaken_fieldsKept t n _ _ (rightFields_apart hmn e he)) x
  · exact fun u n _ => u.rightTaken_assigned t n hx

/-! ### The buffer windows of a tenant (R85) -/

/-- The fields of WIN_t_w. -/
def winFields (t w : Nat) : List (Field × Nat) := [(Reg.WIN_BASE, 8 * t + w), (Reg.WIN_EN, 8 * t + w)]

theorem regFields_win : ∀ t < 16, ∀ w < 8, regFields (0x40030140 + 0x80 * t + 8 * w) = winFields t w := by decide +kernel

theorem registerApart_win : ∀ t < 16, ∀ w < 8, registerApart (0x40030140 + 0x80 * t + 8 * w) = true := by decide +kernel

/-- Window `w` of tenant `t` returns to its reset values. -/
def State.windowTaken (s : State) (t w : Nat) : State :=
  ((s.resetF Reg.WIN_EN (8 * t + w)).resetF Reg.WIN_BASE (8 * t + w)).resetF Reg.WPAGES_PAGES (8 * t + w)

/-- The fields of a window of tenant `t`. -/
def windowFields (t w : Nat) : List (Field × Nat) := (Reg.WPAGES_PAGES, 8 * t + w) :: winFields t w

theorem State.windowTaken_fieldsKept (s : State) (t w : Nat) : fieldsKept s (s.windowTaken t w) (windowFields t w) := by
  intro g j h
  simp only [windowFields, winFields, List.forall_mem_cons] at h
  obtain ⟨hp, hb, hen, -⟩ := h
  rw [State.windowTaken, State.getF_resetF_ne _ _ _ _ _ hp, State.getF_resetF_ne _ _ _ _ _ hb, State.getF_resetF_ne _ _ _ _ _ hen]

/-- Every window of tenant `t` returns to its reset values. -/
def State.windowsTaken (s : State) (t : Nat) : State := s.each (List.range 8) (fun u w => u.windowTaken t w)

theorem State.windowsTaken_withRegs (s : State) (t : Nat) : s.windowsTaken t = { s with regs := (s.windowsTaken t).regs } :=
  s.each_withRegs _ _ fun _ _ => rfl

theorem State.windowsTaken_fieldsKept (s : State) (t : Nat) :
    fieldsKept s (s.windowsTaken t) ((List.range 8).flatMap (windowFields t)) :=
  s.each_fieldsKept _ _ _ fun u w => u.windowTaken_fieldsKept t w

theorem winEn_key_ne {i j : Nat} (h : j ≠ i) : Reg.WIN_EN.key j ≠ Reg.WIN_EN.key i := by
  simp only [Field.key, Field.addr, Reg.WIN_EN]
  omega

theorem winEn_key_ne_base (i j : Nat) : Reg.WIN_EN.key j ≠ Reg.WIN_BASE.key i := by
  simp only [Field.key, Field.addr, Reg.WIN_EN, Reg.WIN_BASE]
  omega

theorem winEn_key_ne_pages (i j : Nat) : Reg.WIN_EN.key j ≠ Reg.WPAGES_PAGES.key i := by
  simp only [Field.key, Field.addr, Reg.WIN_EN, Reg.WPAGES_PAGES]
  omega

theorem State.windowTaken_enabled (s : State) (t w : Nat) : (s.windowTaken t w).flag Reg.WIN_EN (8 * t + w) = false := by
  rw [State.flag, State.windowTaken, State.getF_resetF_ne _ _ _ _ _ (winEn_key_ne_pages _ _),
    State.getF_resetF_ne _ _ _ _ _ (winEn_key_ne_base _ _), State.resetF, State.getF_setF_self _ _ _ _ (by decide)]
  rfl

theorem State.windowsTaken_enabled (s : State) (t : Nat) {w : Nat} (hw : w < 8) :
    (s.windowsTaken t).flag Reg.WIN_EN (8 * t + w) = false := by
  refine State.each_read_of_mem (read := fun u w => u.flag Reg.WIN_EN (8 * t + w)) (g := fun _ => false) ?_ s
    (fun u w _ => u.windowTaken_enabled t w) List.nodup_range (List.mem_range.2 hw)
  intro u w m hmw
  have hkey : Reg.WIN_EN.key (8 * t + m) ≠ Reg.WIN_EN.key (8 * t + w) := winEn_key_ne (by omega)
  have hkept := u.windowTaken_fieldsKept t w Reg.WIN_EN (8 * t + m)
    (by simp [windowFields, winFields, hkey, winEn_key_ne_pages, winEn_key_ne_base])
  simp only [State.flag, hkept]


/-! ### A tenant disabled (R78) -/

/-- The fields of TCFG_t that a write sets. -/
def tcfgFields (t : Nat) : List (Field × Nat) := [(Reg.TCFG_EN, t), (Reg.TCFG_IRQ_PIN, t)]

theorem rightFields_apart_tcfg {t : Nat} (n : Nat) (ht : t < 16) :
    ∀ e ∈ rightFields n, ∀ d ∈ tcfgFields t, e.1.key e.2 ≠ d.1.key d.2 := by
  simp only [rightFields, tcfgFields, List.forall_mem_cons, Field.key, Field.addr, Reg.CHAN_RIGHTS_WRITER,
    Reg.CHAN_RIGHTS_WRITER_EN, Reg.CHAN_RIGHTS_READERS, Reg.TCFG_EN, Reg.TCFG_IRQ_PIN, List.not_mem_nil, false_implies,
    implies_true, and_true]
  omega

theorem rightFields_apart_windows {t w : Nat} (n : Nat) (ht : t < 16) (hw : w < 8) :
    ∀ e ∈ rightFields n, ∀ d ∈ windowFields t w, e.1.key e.2 ≠ d.1.key d.2 := by
  simp only [rightFields, windowFields, winFields, List.forall_mem_cons, Field.key, Field.addr, Reg.CHAN_RIGHTS_WRITER,
    Reg.CHAN_RIGHTS_WRITER_EN, Reg.CHAN_RIGHTS_READERS, Reg.WPAGES_PAGES, Reg.WIN_BASE, Reg.WIN_EN, List.not_mem_nil,
    false_implies, implies_true, and_true]
  omega

theorem tcfgEn_apart_windows {t w : Nat} (hw : w < 8) : ∀ d ∈ windowFields t w, Reg.TCFG_EN.key t ≠ d.1.key d.2 := by
  simp only [windowFields, winFields, List.forall_mem_cons, Field.key, Field.addr, Reg.TCFG_EN, Reg.WPAGES_PAGES, Reg.WIN_BASE,
    Reg.WIN_EN, List.not_mem_nil, false_implies, implies_true, and_true]
  omega

/-- A tenant to be disabled has no session, no right to a channel and no window. -/
def State.withdrawn (s : State) (t : Nat) : State := ((s.closeSession t false).rightsTaken t).windowsTaken t

theorem State.disableTenant_eq (s : State) (t : Nat) : s.disableTenant t = State.revokeUnread
    ((s.withdrawn t).setTen t { (s.withdrawn t).ten t with key := List.replicate 32 0, keyStage := [] }) := rfl

theorem State.withdrawn_keeps {α : Type} (s : State) (t : Nat) (proj : State → α) (h : ∀ (u : State) r, proj { u with regs := r } = proj u) :
    proj (s.withdrawn t) = proj (s.closeSession t false) := by
  rw [State.withdrawn, State.windowsTaken_withRegs, h, State.rightsTaken_withRegs, h]

theorem State.ten_congr {s t : State} (h : t.tenants = s.tenants) (x : Nat) : t.ten x = s.ten x := by
  rw [State.ten, h, State.ten]

theorem State.withdrawn_ten (s : State) (t x : Nat) : (s.withdrawn t).ten x = (s.closeSession t false).ten x :=
  State.ten_congr (s.withdrawn_keeps t State.tenants fun _ _ => rfl) x

theorem State.withdrawn_assigned (s : State) {t x n : Nat} (ht : t < 16) (hx : x < 16) (hn : n < 64) :
    (s.withdrawn t).assigned x n = (decide (x ≠ t) && s.assigned x n) := by
  have hsession : (s.closeSession t false).assigned x n = s.assigned x n := by
    rw [State.closeSession_withTenants]
    rfl
  rw [State.withdrawn, State.assigned_congr (s := (s.closeSession t false).rightsTaken t), State.rightsTaken_assigned _ _ hx hn, hsession]
  intro e he
  refine State.windowsTaken_fieldsKept _ t _ _ fun d hd => ?_
  obtain ⟨w, hw, hd⟩ := List.mem_flatMap.1 hd
  exact rightFields_apart_windows n ht (List.mem_range.1 hw) e he d hd

theorem State.withdrawn_enabled (s : State) {t : Nat} (ht : t < 16) : (s.withdrawn t).getF Reg.TCFG_EN t = s.getF Reg.TCFG_EN t := by
  have hsession : (s.closeSession t false).getF Reg.TCFG_EN t = s.getF Reg.TCFG_EN t := by
    rw [State.closeSession_withTenants]
    rfl
  rw [State.withdrawn, State.windowsTaken_fieldsKept, State.rightsTaken_fieldsKept, hsession]
  · intro d hd
    obtain ⟨n, -, hd⟩ := List.mem_flatMap.1 hd
    exact (rightFields_apart_tcfg n ht d hd _ List.mem_cons_self).symm
  · intro d hd
    obtain ⟨w, hw, hd⟩ := List.mem_flatMap.1 hd
    exact tcfgEn_apart_windows (List.mem_range.1 hw) d hd

/-- Past the withdrawal, disabling a tenant touches its key, the stagings and the pages. -/
theorem State.disableTenant_keeps {α : Type} (s : State) (t : Nat) (proj : State → α)
    (h : ∀ (u : State) g p, proj { u with stagings := g, pages := p } = proj u) : proj (s.disableTenant t) =
      proj ((s.withdrawn t).setTen t { (s.withdrawn t).ten t with key := List.replicate 32 0, keyStage := [] }) := by
  rw [State.disableTenant_eq, State.revokeUnread_withPages, h]

theorem State.disableTenant_regs (s : State) (t : Nat) : (s.disableTenant t).regs = (s.withdrawn t).regs :=
  s.disableTenant_keeps t State.regs fun _ _ _ => rfl

theorem State.assigned_congr_regs {s t : State} (h : t.regs = s.regs) (x n : Nat) : t.assigned x n = s.assigned x n :=
  State.assigned_congr (fun e _ => State.getF_congr h e.1 e.2) x

theorem State.disableTenant_ten_self (s : State) (t : Nat) :
    (s.disableTenant t).ten t = { (s.ten t).shut with key := List.replicate 32 0, keyStage := [] } := by
  rw [State.ten_congr (s.disableTenant_keeps t State.tenants fun _ _ _ => rfl), State.ten_setTen_self, State.withdrawn_ten,
    State.closeSession_ten_self]

theorem State.disableTenant_ten_ne (s : State) {t x : Nat} (h : x ≠ t) : (s.disableTenant t).ten x = s.ten x := by
  rw [State.ten_congr (s.disableTenant_keeps t State.tenants fun _ _ _ => rfl), State.ten_setTen_ne _ _ _ _ h, State.withdrawn_ten,
    s.closeSession_ten_ne h]

theorem State.disableTenant_chans (s : State) (t : Nat) : (s.disableTenant t).chans = s.chans := by
  rw [s.disableTenant_keeps t State.chans fun _ _ _ => rfl, State.setTen_chans, s.withdrawn_keeps t State.chans fun _ _ => rfl,
    State.closeSession_withTenants]

theorem State.disableTenant_cmds (s : State) (t : Nat) : (s.disableTenant t).cmds = s.cmds := by
  rw [s.disableTenant_keeps t State.cmds fun _ _ _ => rfl, State.setTen_cmds, s.withdrawn_keeps t State.cmds fun _ _ => rfl,
    State.closeSession_withTenants]

/-! ### TCFG_t (R76 to R78) -/

theorem State.tenantReject_spec (s : State) : s.tenantReject.getF Reg.TENANT_STATUS_CFG_REJECT = 1 ∧
    onlyFields s s.tenantReject [(Reg.TENANT_STATUS_CFG_REJECT, 0)] :=
  ⟨s.getF_raise_self _ _ (by decide) (by decide), s.setF_onlyFields _ _ _⟩

/-- Tenant `t` may not be disabled: it has the write right to an open channel, or a queue of its own is enabled. -/
def State.tenantHeld (s : State) (t : Nat) : Bool :=
  chanNums.any (fun n => (s.chan n).isOpen && s.mayWrite t n) || (List.range 256).any (fun q => s.flag Reg.QCFG_EN q && s.qOwner q == some t)

theorem State.tenantHeld_of_writer {s : State} {t : Nat} (h : ∃ n < 64, (s.chan n).isOpen = true ∧ s.mayWrite t n = true) :
    s.tenantHeld t = true := by
  obtain ⟨n, hn, hopen, hw⟩ := h
  refine Bool.or_eq_true_iff.2 (.inl (List.any_eq_true.2 ⟨n, List.mem_range.2 hn, ?_⟩))
  rw [hopen, hw]
  rfl

theorem State.tenantHeld_eq_false {s : State} {t : Nat} (hchan : ∀ n < 64, (s.chan n).isOpen = true → s.mayWrite t n = false)
    (hqueue : ∀ q < 256, s.flag Reg.QCFG_EN q = true → s.qOwner q ≠ some t) : s.tenantHeld t = false := by
  refine Bool.or_eq_false_iff.2 ⟨List.any_eq_false.2 fun n hn => ?_, List.any_eq_false.2 fun q hq => ?_⟩
  · simpa using hchan n (List.mem_range.1 hn)
  · simpa using hqueue q (List.mem_range.1 hq)

/-- TCFG_t takes the pin of word `v` and `en`. -/
def State.tcfgTaken (s : State) (t : Nat) (v : Word) (en : Bool) : State :=
  (s.setF Reg.TCFG_IRQ_PIN t (bitsOf v.toNat 1 2)).setBit Reg.TCFG_EN t en

theorem State.tcfgTaken_spec (s : State) (t : Nat) (v : Word) (en : Bool) : (s.tcfgTaken t v en).getF Reg.TCFG_EN t = b2n en ∧
    (s.tcfgTaken t v en).getF Reg.TCFG_IRQ_PIN t = bitsOf v.toNat 1 2 ∧ onlyFields s (s.tcfgTaken t v en) (tcfgFields t) := by
  refine ⟨State.getF_setBit_self _ _ _ _ (by decide) (by decide), ?_, rfl, (s.setF_onlyFields _ _ _).2.trans (State.setF_onlyFields _ _ _ _).2⟩
  rw [State.tcfgTaken, State.getF_setBit_ne _ _ _ _ _ _ (Field.key_ne_of_apart (by decide) t), State.getF_setF_self _ _ _ _ (by decide)]
  exact Nat.mod_eq_of_lt (bitsOf_lt _ _ _)

theorem State.tcfgTaken_assigned (s : State) {t : Nat} (v : Word) (en : Bool) (ht : t < 16) (x n : Nat) :
    (s.tcfgTaken t v en).assigned x n = s.assigned x n :=
  State.assigned_congr (fun e he => (s.tcfgTaken_spec t v en).2.2.2 _ _ (rightFields_apart_tcfg n ht e he)) x

section
variable {s : State} {src t : Nat} (v : Word) (hl : s.live = true)
include hl

theorem exec_tenantConfigWrite_denied (hp : privileged src = false) :
    exec (.tenantConfigWrite src t v) s = .next (s.denied src (regDetail (0x40030100 + 0x80 * t))) := by
  change execTenantConfigWrite src t v s = _
  rw [execTenantConfigWrite, State.whenLive_of_live _ _ hl]
  simp [hp]

theorem exec_tenantConfigWrite_enable (hp : privileged src = true) (hen : bitOf v.toNat 0 = true) :
    exec (.tenantConfigWrite src t v) s = .next (s.tcfgTaken t v true) := by
  change execTenantConfigWrite src t v s = _
  rw [execTenantConfigWrite, State.whenLive_of_live _ _ hl]
  simp [hp, hen, State.tcfgTaken]

section
variable (hp : privileged src = true) (ht0 : t ≠ 0) (hen : bitOf v.toNat 0 = false)
include hp ht0 hen

/-- The write that clears EN of a tenant other than T0. -/
theorem exec_tenantConfigWrite_clear : exec (.tenantConfigWrite src t v) s = .next (if s.tenantHeld t then s.tenantReject
    else if s.flag Reg.TCFG_EN t then (s.tcfgTaken t v false).disableTenant t else s.tcfgTaken t v false) := by
  change execTenantConfigWrite src t v s = _
  rw [execTenantConfigWrite, State.whenLive_of_live _ _ hl]
  have hclear : (bitOf v.toNat 0 || t == 0) = false := by simp [hen, ht0]
  simp only [hp, hclear, Bool.not_true, Bool.not_false, Bool.true_and, Bool.and_true, Bool.false_eq_true, if_false]
  rfl

theorem tenantConfigWrite_held (hheld : s.tenantHeld t = true) : ∃ t', exec (.tenantConfigWrite src t v) s = .next t' ∧
    t'.getF Reg.TENANT_STATUS_CFG_REJECT = 1 ∧ onlyFields s t' [(Reg.TENANT_STATUS_CFG_REJECT, 0)] :=
  ⟨_, (exec_tenantConfigWrite_clear v hl hp ht0 hen).trans (by rw [if_pos hheld]), s.tenantReject_spec⟩

theorem exec_tenantConfigWrite_disable (hfree : s.tenantHeld t = false) (hwas : s.flag Reg.TCFG_EN t = true) :
    exec (.tenantConfigWrite src t v) s = .next ((s.tcfgTaken t v false).disableTenant t) := by
  rw [exec_tenantConfigWrite_clear v hl hp ht0 hen, hfree, hwas, if_neg Bool.false_ne_true, if_pos rfl]

theorem tenantConfigWrite_disables (ht : t < 16) (hfree : s.tenantHeld t = false) (hwas : s.flag Reg.TCFG_EN t = true) :
    ∃ t', exec (.tenantConfigWrite src t v) s = .next t' ∧
      t'.getF Reg.TCFG_EN t = 0 ∧ t'.sessionOpen t = false ∧ (t'.ten t).key = List.replicate 32 0 ∧
      (∀ n < 64, t'.assigned t n = false) ∧ (∀ w < 8, t'.flag Reg.WIN_EN (8 * t + w) = false) ∧
      (∀ x < 16, x ≠ t → t'.ten x = s.ten x ∧ ∀ n < 64, t'.assigned x n = s.assigned x n) ∧ t'.chans = s.chans ∧ t'.cmds = s.cmds := by
  have hregs := (s.tcfgTaken t v false).disableTenant_regs t
  have hrights : ∀ x < 16, ∀ n < 64,
      ((s.tcfgTaken t v false).disableTenant t).assigned x n = (decide (x ≠ t) && s.assigned x n) := by
    intro x hx n hn
    rw [State.assigned_congr_regs hregs, State.withdrawn_assigned _ ht hx hn, State.tcfgTaken_assigned _ _ _ ht]
  refine ⟨_, exec_tenantConfigWrite_disable v hl hp ht0 hen hfree hwas, ?_, ?_, ?_, ?_, ?_, ?_,
    State.disableTenant_chans _ t, State.disableTenant_cmds _ t⟩
  · rw [State.getF_congr hregs, State.withdrawn_enabled _ ht]
    exact (s.tcfgTaken_spec t v false).1
  · rw [State.sessionOpen, State.disableTenant_ten_self]
    exact beq_false_of_ne (Tenant.shut_sess_ne _)
  · rw [State.disableTenant_ten_self]
  · intro n hn
    rw [hrights t ht n hn]
    simp
  · intro w hw
    rw [State.flag_congr hregs]
    exact State.windowsTaken_enabled _ t hw
  · refine fun x hx hxt => ⟨State.disableTenant_ten_ne _ hxt, fun n hn => ?_⟩
    rw [hrights x hx n hn, decide_eq_true hxt, Bool.true_and]

end

/-! ### KEY_t (R81, R82) -/

theorem exec_keyWrite_denied (i : Nat) (hp : privileged src = false) :
    exec (.keyWrite src t i v) s = .next (s.denied src (regDetail (0x40031000 + 0x20 * t + 4 * i))) := by
  change execKeyWrite src t i v s = _
  rw [execKeyWrite, State.whenLive_of_live _ _ hl]
  simp [hp]

theorem exec_keyWrite_staged {i : Nat} (hp : privileged src = true) (hi : i < 7) :
    exec (.keyWrite src t i v) s = .next (s.setTen t { s.ten t with keyStage := sput 0 i v (s.ten t).keyStage }) := by
  change execKeyWrite src t i v s = _
  rw [execKeyWrite, State.whenLive_of_live _ _ hl]
  simp [hp, Nat.ne_of_lt hi]

theorem exec_keyWrite_last (hp : privileged src = true) : exec (.keyWrite src t 7 v) s =
    .next ((s.closeSession t false).setTen t { (s.closeSession t false).ten t with
      key := wordsBytes ((List.range 8).map (fun j => sget 0 j (sput 0 7 v (s.ten t).keyStage)))
      keyStage := sput 0 7 v (s.ten t).keyStage, keySet := true }) := by
  change execKeyWrite src t 7 v s = _
  rw [execKeyWrite, State.whenLive_of_live _ _ hl]
  simp [hp]

theorem keyWrite_stages {i : Nat} (hp : privileged src = true) (hi : i < 7) : ∃ t', exec (.keyWrite src t i v) s = .next t' ∧
    (t'.ten t).key = (s.ten t).key ∧ (t'.ten t).keyStage = sput 0 i v (s.ten t).keyStage ∧
    (∀ x, x ≠ t → t'.ten x = s.ten x) ∧ t' = { s with tenants := t'.tenants } := by
  obtain ⟨hself, hothers, hframe⟩ := s.setTen_spec t { s.ten t with keyStage := sput 0 i v (s.ten t).keyStage }
  refine ⟨_, exec_keyWrite_staged v hl hp hi, ?_, ?_, hothers, hframe⟩
  · rw [hself]
  · rw [hself]

theorem keyWrite_applies (hp : privileged src = true) : ∃ t', exec (.keyWrite src t 7 v) s = .next t' ∧
    (t'.ten t).key = wordsBytes ((List.range 8).map (fun j => if j = 7 then v else sget 0 j (s.ten t).keyStage)) ∧
    (t'.ten t).keySet = true ∧ t'.sessionOpen t = false ∧ (∀ x, x ≠ t → t'.ten x = s.ten x) ∧ t' = { s with tenants := t'.tenants } := by
  have hwords : ∀ j, sget 0 j (sput 0 7 v (s.ten t).keyStage) = if j = 7 then v else sget 0 j (s.ten t).keyStage := by
    intro j
    split
    next h => rw [h, sget_sput_self]
    next h => exact sget_sput_ne _ _ _ _ _ _ h
  refine ⟨_, exec_keyWrite_last v hl hp, ?_, ?_, ?_, fun x hx => ?_, ?_⟩
  · simp only [State.ten_setTen_self, hwords]
  · rw [State.ten_setTen_self]
  · rw [State.sessionOpen, State.ten_setTen_self, State.closeSession_ten_self]
    exact beq_false_of_ne (Tenant.shut_sess_ne _)
  · rw [State.ten_setTen_ne _ _ _ _ hx, State.closeSession_ten_ne _ hx]
  · rw [State.closeSession_withTenants]
    rfl

/-! ### CHAN_RIGHTS_n (R84) -/

theorem exec_chanRightsWrite_denied (n : Nat) (hp : privileged src = false) :
    exec (.chanRightsWrite src n v) s = .next (s.denied src (regDetail (0x40032000 + 4 * n))) := by
  change execChanRightsWrite src n v s = _
  rw [execChanRightsWrite, State.whenLive_of_live _ _ hl]
  simp [hp]

theorem exec_chanRightsWrite_writerStays {n : Nat} (hp : privileged src = true) (hopen : (s.chan n).isOpen = true)
    (hw : bitsOf v.toNat 0 4 ≠ s.getF Reg.CHAN_RIGHTS_WRITER n) : exec (.chanRightsWrite src n v) s = .next s.tenantReject := by
  change execChanRightsWrite src n v s = _
  rw [execChanRightsWrite, State.whenLive_of_live _ _ hl]
  simp [hp, hopen, hw]

theorem exec_chanRightsWrite_closed {n : Nat} (hp : privileged src = true) (hclosed : (s.chan n).isOpen = false) :
    exec (.chanRightsWrite src n v) s = .next (s.genericWrite src (0x40032000 + 4 * n) v).revokeUnread := by
  change execChanRightsWrite src n v s = _
  rw [execChanRightsWrite, State.whenLive_of_live _ _ hl]
  simp [hp, hclosed]

theorem chanRightsWrite_takes {n : Nat} (hn : n < 64) (hp : privileged src = true) (hclosed : (s.chan n).isOpen = false) :
    ∃ t', exec (.chanRightsWrite src n v) s = .next t' ∧
      t'.getF Reg.CHAN_RIGHTS_WRITER n = bitsOf v.toNat 0 4 ∧ t'.getF Reg.CHAN_RIGHTS_WRITER_EN n = bitsOf v.toNat 4 1 ∧
      t'.getF Reg.CHAN_RIGHTS_READERS n = bitsOf v.toNat 16 16 ∧
      t' = { s with regs := t'.regs, stagings := t'.stagings, pages := t'.pages } ∧ fieldsKept s t' (rightFields n) := by
  have hfields := regFields_chanRights n hn
  have hfree : ∀ e ∈ regFields (0x40032000 + 4 * n), e.1.acc = .rwk ∧ e.1.ok = [] := by
    rw [hfields]
    simp [rightFields, Reg.CHAN_RIGHTS_WRITER, Reg.CHAN_RIGHTS_WRITER_EN, Reg.CHAN_RIGHTS_READERS]
  have hregs : (s.genericWrite src (0x40032000 + 4 * n) v).revokeUnread.regs = (s.genericWrite src (0x40032000 + 4 * n) v).regs := by
    rw [State.revokeUnread_withPages]
  have htaken : ∀ e ∈ rightFields n, (s.genericWrite src (0x40032000 + 4 * n) v).revokeUnread.getF e.1 e.2 = bitsOf v.toNat e.1.lo e.1.w := by
    intro e he
    rw [State.getF_congr hregs]
    exact s.getF_genericWrite_taken v hp hfree (registerApart_chanRights n hn) (hfields ▸ he)
  obtain ⟨hframe, hkept⟩ := s.genericWrite_onlyFields v hp hfree
  refine ⟨_, exec_chanRightsWrite_closed v hl hp hclosed, htaken (Reg.CHAN_RIGHTS_WRITER, n) (by simp [rightFields]),
    htaken (Reg.CHAN_RIGHTS_WRITER_EN, n) (by simp [rightFields]), htaken (Reg.CHAN_RIGHTS_READERS, n) (by simp [rightFields]), ?_, ?_⟩
  · rw [State.revokeUnread_withPages, hframe]
  · intro f i h
    rw [State.getF_congr hregs]
    exact hkept f i (hfields ▸ h)

/-! ### WIN_t_w (R85) -/

theorem exec_windowConfigWrite_denied (w : Nat) (hp : privileged src = false) :
    exec (.windowConfigWrite src t w true v) s = .next (s.denied src (regDetail (0x40030144 + 0x80 * t + 8 * w))) := by
  change execWindowConfigWrite src t w true v s = _
  rw [execWindowConfigWrite, State.whenLive_of_live _ _ hl]
  simp only [hp, Bool.not_false, if_true]
  congr 3
  omega

section
variable {w : Nat} (hw : w < 8) (hp : privileged src = true) (hen : bitOf v.toNat 31 = true)
include hw hp hen

/-- The write that enables a window at the base of word `v`. -/
theorem exec_windowConfigWrite_enable : exec (.windowConfigWrite src t w false v) s =
    .next (if (s.overlaps t (bitsOf v.toNat 0 12) (s.getF Reg.WPAGES_PAGES (8 * t + w)) ||
        decide (bitsOf v.toNat 0 12 < s.getF Reg.BUF_WREG_LO) ||
        decide (s.getF Reg.BUF_WREG_LAST + 1 < bitsOf v.toNat 0 12 + s.getF Reg.WPAGES_PAGES (8 * t + w))) || s.windowUsed t w
      then s.tenantReject else s.genericWrite src (0x40030140 + 0x80 * t + 8 * w) v) := by
  change execWindowConfigWrite src t w false v s = _
  rw [execWindowConfigWrite, State.whenLive_of_live _ _ hl]
  have hbase : Reg.WIN_BASE.addr (8 * t + w) = 0x40030140 + 0x80 * t + 8 * w := by
    simp only [Field.addr, Reg.WIN_BASE]
    omega
  have hpages : Reg.WPAGES_PAGES.addr (8 * t + w) ≠ 0x40030140 + 0x80 * t + 8 * w := by
    simp only [Field.addr, Reg.WPAGES_PAGES]
    omega
  have hplace : Reg.WIN_EN.addr (8 * t + w) = 0x40030140 + 0x80 * t + 8 * w := hbase
  have htaken : ∀ f : Field, f.acc = .rwk → f.ok = [] → s.afterWrite src v f (8 * t + w) = bitsOf v.toNat f.lo f.w := by
    intro f hacc hok
    simp [State.afterWrite, Field.takes, Field.legal, hacc, hok, hp]
  have hnew : s.afterWrite src v Reg.WIN_BASE (8 * t + w) = bitsOf v.toNat 0 12 := htaken _ rfl rfl
  have hone : s.afterWrite src v Reg.WIN_EN (8 * t + w) = 1 := (htaken _ rfl rfl).trans (beq_iff_eq.1 hen)
  simp only [Bool.false_eq_true, if_false, Nat.add_zero, hp, Bool.not_true, hbase, hplace, hpages, if_true, hnew, hone,
    beq_self_eq_true, Bool.true_and]

theorem windowConfigWrite_misplaced
    (hbad : s.overlaps t (bitsOf v.toNat 0 12) (s.getF Reg.WPAGES_PAGES (8 * t + w)) = true ∨
      bitsOf v.toNat 0 12 < s.getF Reg.BUF_WREG_LO ∨
      s.getF Reg.BUF_WREG_LAST + 1 < bitsOf v.toNat 0 12 + s.getF Reg.WPAGES_PAGES (8 * t + w)) :
    ∃ t', exec (.windowConfigWrite src t w false v) s = .next t' ∧ t'.getF Reg.TENANT_STATUS_CFG_REJECT = 1 ∧
      onlyFields s t' [(Reg.TENANT_STATUS_CFG_REJECT, 0)] := by
  refine ⟨_, (exec_windowConfigWrite_enable v hl hw hp hen).trans ?_, s.tenantReject_spec⟩
  rw [if_pos]
  simpa only [Bool.or_eq_true, decide_eq_true_eq, or_assoc] using hbad.imp_right (·.imp_right Or.inl)

theorem windowConfigWrite_enables (ht : t < 16)
    (hapart : s.overlaps t (bitsOf v.toNat 0 12) (s.getF Reg.WPAGES_PAGES (8 * t + w)) = false)
    (hlo : s.getF Reg.BUF_WREG_LO ≤ bitsOf v.toNat 0 12)
    (hlast : bitsOf v.toNat 0 12 + s.getF Reg.WPAGES_PAGES (8 * t + w) ≤ s.getF Reg.BUF_WREG_LAST + 1)
    (hidle : s.windowUsed t w = false) :
    ∃ t', exec (.windowConfigWrite src t w false v) s = .next t' ∧ t'.getF Reg.WIN_BASE (8 * t + w) = bitsOf v.toNat 0 12 ∧
      t'.getF Reg.WIN_EN (8 * t + w) = 1 ∧ onlyFields s t' (winFields t w) := by
  have hfields := regFields_win t ht w hw
  have hfree : ∀ e ∈ regFields (0x40030140 + 0x80 * t + 8 * w), e.1.acc = .rwk ∧ e.1.ok = [] := by
    rw [hfields]
    simp [winFields, Reg.WIN_BASE, Reg.WIN_EN]
  have htaken : ∀ e ∈ winFields t w,
      (s.genericWrite src (0x40030140 + 0x80 * t + 8 * w) v).getF e.1 e.2 = bitsOf v.toNat e.1.lo e.1.w :=
    fun e he => s.getF_genericWrite_taken v hp hfree (registerApart_win t ht w hw) (hfields ▸ he)
  refine ⟨_, (exec_windowConfigWrite_enable v hl hw hp hen).trans ?_, htaken (Reg.WIN_BASE, 8 * t + w) (by simp [winFields]), ?_, ?_⟩
  · rw [if_neg]
    simp [hapart, hidle, hlo, hlast]
  · exact (htaken (Reg.WIN_EN, 8 * t + w) (by simp [winFields])).trans (beq_iff_eq.1 hen)
  · exact hfields ▸ s.genericWrite_onlyFields v hp hfree

end
end

/-- Settles O18: each register's write has its theorems above. -/
theorem tenantTable : Obligations.TenantTable := by
  refine ⟨fun s src u v hl hu => ⟨fun hp => ?_, fun hp => ⟨?_, ?_, ?_, ?_, ?_⟩⟩,
    fun s src n u w v hl hn hu hw => ⟨fun hp => ?_, fun hp => ⟨?_, ?_, ?_, ?_⟩⟩⟩
  · exact ⟨exec_tenantConfigWrite_denied v hl hp, fun i _ => exec_keyWrite_denied v hl i hp⟩
  · exact fun hen => ⟨_, exec_tenantConfigWrite_enable v hl hp hen, s.tcfgTaken_spec u v true⟩
  · exact fun hu0 hen hwriter => tenantConfigWrite_held v hl hp hu0 hen (State.tenantHeld_of_writer hwriter)
  · exact fun hu0 hen hwas hchan hqueue =>
      tenantConfigWrite_disables v hl hp hu0 hen hu (State.tenantHeld_eq_false hchan hqueue) hwas
  · exact fun i hi => keyWrite_stages v hl hp hi
  · exact keyWrite_applies v hl hp
  · exact ⟨exec_chanRightsWrite_denied v hl n hp, exec_windowConfigWrite_denied v hl w hp⟩
  · exact fun hopen hwriter => ⟨_, exec_chanRightsWrite_writerStays v hl hp hopen hwriter, s.tenantReject_spec⟩
  · exact chanRightsWrite_takes v hl hn hp
  · exact windowConfigWrite_misplaced v hl hw hp
  · exact fun hen => windowConfigWrite_enables v hl hw hp hen hu

end Sys2Proof.Machine
end

section
/-! The bank arbiter (spec/05 R103 to R108): the request that wins, its grant and its counters. -/

namespace Sys2Proof.Machine

/-! ### The request that wins (R104, R105) -/

section
variable {s : State} {x : Bank} {a b c r : Request} {l : List Request}

/-- Request `a` does not give way to `r` at bank `x`: its PRIO is no lower, and at the same PRIO it comes no later in the rotation. -/
def State.noWorse (s : State) (x : Bank) (a r : Request) : Prop :=
  s.prioOf r.who ≤ s.prioOf a.who ∧ (s.prioOf r.who = s.prioOf a.who →
    rotation (sget 11 (s.prioOf a.who) x.ptr) a.who ≤ rotation (sget 11 (s.prioOf a.who) x.ptr) r.who)

theorem State.noWorse.refl (s : State) (x : Bank) (a : Request) : s.noWorse x a a := ⟨le_rfl, fun _ => le_rfl⟩

theorem State.noWorse.trans (hab : s.noWorse x a b) (hbc : s.noWorse x b c) : s.noWorse x a c := by
  obtain ⟨hb, hrb⟩ := hab
  obtain ⟨hc, hrc⟩ := hbc
  refine ⟨hc.trans hb, fun heq => ?_⟩
  have hba : s.prioOf b.who = s.prioOf a.who := le_antisymm hb (heq ▸ hc)
  have hcb := hrc (heq.trans hba.symm)
  rw [hba] at hcb
  exact (hrb hba).trans hcb

theorem State.better_eq_or : s.better x a b = a ∨ s.better x a b = b := by
  simp only [State.better]
  split_ifs <;> simp

/-- The better of two requests gives way to neither. -/
theorem State.better_noWorse : s.noWorse x (s.better x a b) a ∧ s.noWorse x (s.better x a b) b := by
  simp only [State.better]
  split_ifs with hlt hgt hrot
  · exact ⟨⟨hlt.le, fun h => absurd h hlt.ne⟩, .refl ..⟩
  · exact ⟨.refl .., hgt.le, fun h => absurd h hgt.ne⟩
  · have heq : s.prioOf a.who = s.prioOf b.who := by omega
    exact ⟨⟨heq.le, fun _ => heq ▸ hrot.le⟩, .refl ..⟩
  · exact ⟨.refl .., not_lt.1 hlt, fun _ => not_lt.1 hrot⟩

theorem State.foldl_better_mem : l.foldl (s.better x) a ∈ a :: l := by
  induction l generalizing a with
  | nil => exact List.mem_cons_self
  | cons b l ih =>
    rw [List.foldl_cons]
    rcases s.better_eq_or (x := x) (a := a) (b := b) with h | h
    · rw [h]
      exact List.mem_cons.2 ((List.mem_cons.1 ih).imp_right (List.mem_cons_of_mem _))
    · rw [h]
      exact List.mem_cons_of_mem _ ih

/-- The best of a list of requests gives way to none of them. -/
theorem State.foldl_better_noWorse (hr : r ∈ a :: l) : s.noWorse x (l.foldl (s.better x) a) r := by
  induction l generalizing a r with
  | nil => exact List.mem_singleton.1 hr ▸ .refl ..
  | cons b l ih =>
    have hbest := ih (r := s.better x a b) (a := s.better x a b) List.mem_cons_self
    have hpair := s.better_noWorse (x := x) (a := a) (b := b)
    rcases List.mem_cons.1 hr with rfl | hr
    · exact hbest.trans hpair.1
    rcases List.mem_cons.1 hr with rfl | hr
    · exact hbest.trans hpair.2
    · exact ih (List.mem_cons_of_mem _ hr)

end

/-! ### The counters of a grant (R108) -/

/-- The fields that a grant to requester `w` counts in. -/
def grantFields (w : Nat) : List (Field × Nat) := [(Reg.ARB_GRANTS_COUNT, w), (Reg.ARB_WAIT_CYCLES, w), (Reg.ARB_STAT_LWAIT, w)]

section
variable (s : State) (g : Request)

theorem State.countGrant_withRegs : s.countGrant g = { s with regs := (s.countGrant g).regs } := by
  simp only [State.countGrant]
  split <;> rfl

/-- Beside the two counters a grant may raise LWAIT. -/
theorem State.countGrant_lwait (f : Field) (i : Nat) (h : f.key i ≠ Reg.ARB_STAT_LWAIT.key g.who) : (s.countGrant g).getF f i =
    ((s.bump Reg.ARB_GRANTS_COUNT g.who).bump Reg.ARB_WAIT_CYCLES g.who g.waited).getF f i := by
  simp only [State.countGrant]
  split
  · exact State.getF_setF_ne _ _ _ _ _ _ h
  · rfl

theorem State.countGrant_fieldsKept : fieldsKept s (s.countGrant g) (grantFields g.who) := by
  intro f i h
  simp only [grantFields, List.forall_mem_cons] at h
  obtain ⟨hcount, hcycles, hlwait, -⟩ := h
  rw [s.countGrant_lwait g f i hlwait, State.getF_bump_ne _ _ _ _ _ _ hcycles, State.getF_bump_ne _ _ _ _ _ _ hcount]

theorem State.countGrant_count :
    (s.countGrant g).getF Reg.ARB_GRANTS_COUNT g.who = (s.getF Reg.ARB_GRANTS_COUNT g.who + 1) % 2 ^ 32 := by
  rw [s.countGrant_lwait g _ _ (Field.key_ne_of_apart (by decide) _),
    State.getF_bump_ne _ _ _ _ _ _ (Field.key_ne_of_apart (by decide) _), State.getF_bump_self _ _ _ _ (by decide)]
  rfl

theorem State.countGrant_cycles :
    (s.countGrant g).getF Reg.ARB_WAIT_CYCLES g.who = (s.getF Reg.ARB_WAIT_CYCLES g.who + g.waited) % 2 ^ 32 := by
  rw [s.countGrant_lwait g _ _ (Field.key_ne_of_apart (by decide) _), State.getF_bump_self _ _ _ _ (by decide),
    State.getF_bump_ne _ _ _ _ _ _ (Field.key_ne_of_apart (by decide) _)]
  rfl

end

/-! ### The decision (R103 to R105, R107, R108) -/

section
variable (s : State) (b : Nat) (x : Bank) (g : Request)

/-- Bank `b`, whose arbiter stands as `x`, is granted to `g` for at most BURST beats; those beyond are asked for again. -/
def State.grantedBank : Bank :=
  { grant := some { g with beats := min g.beats (s.getF Reg.ARB_CFG_BURST g.who) }
    reqs := x.reqs.erase g ++ (if s.getF Reg.ARB_CFG_BURST g.who < g.beats then
      [{ who := g.who, beats := g.beats - s.getF Reg.ARB_CFG_BURST g.who, late := s.getF Reg.ARB_CFG_BURST g.who }] else [])
    ptr := sput 11 (s.prioOf g.who) g.who x.ptr }

/-- The state once the grant stands and is counted; a grant to the cache serves a write-back of it (R311). -/
def State.grantMade : State :=
  (State.setBank { s with cache := if g.who = 8 then s.cache.granted b else s.cache } b (s.grantedBank x g)).countGrant g

theorem State.grantMade_fieldsKept : fieldsKept s (s.grantMade b x g) (grantFields g.who) :=
  fun f i h => State.countGrant_fieldsKept _ g f i h

theorem State.grantMade_count :
    (s.grantMade b x g).getF Reg.ARB_GRANTS_COUNT g.who = (s.getF Reg.ARB_GRANTS_COUNT g.who + 1) % 2 ^ 32 :=
  State.countGrant_count _ g

theorem State.grantMade_cycles :
    (s.grantMade b x g).getF Reg.ARB_WAIT_CYCLES g.who = (s.getF Reg.ARB_WAIT_CYCLES g.who + g.waited) % 2 ^ 32 :=
  State.countGrant_cycles _ g

theorem State.grantMade_withRegs : s.grantMade b x g =
    { s with regs := (s.grantMade b x g).regs, banks := (s.grantMade b x g).banks, cache := (s.grantMade b x g).cache } := by
  rw [State.grantMade, State.countGrant_withRegs]
  rfl

theorem State.grantMade_banks : (s.grantMade b x g).banks = (s.setBank b (s.grantedBank x g)).banks := by
  rw [State.grantMade, State.countGrant_withRegs]
  rfl

theorem State.grantMade_bank_self : (s.grantMade b x g).bank b = s.grantedBank x g := by
  rw [State.bank, State.grantMade_banks, ← State.bank, State.bank_setBank_self]

theorem State.grantMade_bank_ne {m : Nat} (h : m ≠ b) : (s.grantMade b x g).bank m = s.bank m := by
  rw [State.bank, State.grantMade_banks, ← State.bank, State.bank_setBank_ne _ _ _ _ h]

end

/-- What the arbiter of bank `b` decides when it stands as `x`. -/
def State.bankDecided (s : State) (b : Nat) (x : Bank) : State :=
  match s.eligible x with
  | [] => s.setBank b x
  | r :: l => s.grantMade b x (l.foldl (s.better x) r)

theorem State.bankDecided_of_none {s : State} {b : Nat} {x : Bank} (h : s.eligible x = []) : s.bankDecided b x = s.setBank b x := by
  rw [State.bankDecided, h]

theorem State.bankDecided_of_some {s : State} {b : Nat} {x : Bank} {r : Request} {l : List Request} (h : s.eligible x = r :: l) :
    s.bankDecided b x = s.grantMade b x (l.foldl (s.better x) r) := by
  rw [State.bankDecided, h]

theorem exec_bankArbitration {s : State} (b cycles : Nat) (reqs : List (Nat × Nat × Nat)) (hl : s.live = true) :
    exec (.bankArbitration b cycles reqs) s =
      .next (s.bankDecided b { s.bank b with grant := none, reqs := pendingReqs cycles (s.bank b).reqs reqs }) := by
  change execBankArbitration b cycles reqs s = _
  rw [execBankArbitration, State.whenLive_of_live _ _ hl]
  refine congrArg Host.Outcome.next ?_
  extract_lets x y
  rw [State.bankDecided]
  cases s.eligible y with
  | nil => rfl
  | cons r l =>
    change _ = s.grantMade b y (l.foldl (s.better y) r)
    dsimp only
    generalize l.foldl (s.better y) r = g
    unfold State.grantMade State.grantedBank
    have hcache : (if g.who = 8 then ({ s with cache := s.cache.granted b } : State) else s) =
        { s with cache := if g.who = 8 then s.cache.granted b else s.cache } := by
      split <;> rfl
    have hburst : ({ s with cache := if g.who = 8 then s.cache.granted b else s.cache } : State).getF Reg.ARB_CFG_BURST g.who =
        s.getF Reg.ARB_CFG_BURST g.who := rfl
    rw [hcache, hburst]
    by_cases hmore : s.getF Reg.ARB_CFG_BURST g.who < g.beats
    · rw [min_eq_right hmore.le]
      rfl
    · rw [min_eq_left (not_lt.1 hmore), if_neg (lt_irrefl _), if_neg hmore]
      rfl

/-- Settles O20: the arbiter grants the best of the requests that may win, and the grant is counted. -/
theorem arbiterPicksByPriority : Obligations.ArbiterPicksByPriority := by
  intro s b cycles reqs hl pending free
  let x : Bank := { s.bank b with grant := none, reqs := pending }
  have hexec : exec (.bankArbitration b cycles reqs) s = .next (s.bankDecided b x) := exec_bankArbitration b cycles reqs hl
  have hfree : s.eligible x = free := rfl
  clear_value pending free
  refine ⟨fun hnone => ⟨s.setBank b x, ?_, s.bank_setBank_self _ _, rfl⟩, fun hsome _ => ?_⟩
  · rw [hexec, State.bankDecided_of_none (hfree.trans hnone)]
  obtain ⟨r, l, hcons⟩ := List.exists_cons_of_ne_nil hsome
  rw [State.bankDecided_of_some (hfree.trans hcons)] at hexec
  generalize hg : l.foldl (s.better x) r = g at hexec
  have hbank := s.grantMade_bank_self b x g
  exact ⟨s.grantMade b x g, g, hexec, hcons ▸ hg ▸ State.foldl_better_mem, congrArg Bank.grant hbank, congrArg Bank.reqs hbank,
    fun q hq => hg ▸ State.foldl_better_noWorse (hcons ▸ hq), s.grantMade_count b x g, s.grantMade_cycles b x g,
    fun m hm => s.grantMade_bank_ne b x g hm, s.grantMade_withRegs b x g, s.grantMade_fieldsKept b x g⟩

end Sys2Proof.Machine
end

section
/-! Shedding (spec/05 R112 to R116): what the recomputation of MEDIA_NOW changes, the FACTORs and the quotas. -/

namespace Sys2Proof.Machine

/-! ### The FACTORs of the classes (R114) -/

section
variable (s : State)

/-- The bases of the classes from `c` on, each weighted with its factor of the list. -/
def State.weighedBases (s : State) : Nat → List Nat → Nat
  | _, [] => 0
  | c, f :: fs => s.basisSum c * f + s.weighedBases (c + 1) fs

theorem State.weighedBases_zeros (n c : Nat) : s.weighedBases c (List.replicate n 0) = 0 := by
  induction n generalizing c with
  | zero => rfl
  | succ n ih => simp [List.replicate_succ, State.weighedBases, ih]

theorem State.factors_congr {s t : State} (h : ∀ c, t.basisSum c = s.basisSum c) (n c cap : Nat) :
    t.factors n c cap = s.factors n c cap := by
  induction n generalizing c cap with
  | zero => rfl
  | succ n ih => simp only [State.factors, h, ih]

theorem State.factors_length (n c cap : Nat) : (s.factors n c cap).length = n := by
  induction n generalizing c cap with
  | zero => rfl
  | succ n ih =>
    simp only [State.factors]
    split <;> simp [ih]

theorem factor_le {b cap : Nat} (h : cap < b) : cap * 32768 / b ≤ 32768 :=
  Nat.div_le_of_le_mul (Nat.mul_le_mul_right _ h.le)

theorem State.factors_le (n c cap : Nat) : ∀ f ∈ s.factors n c cap, f ≤ 32768 := by
  induction n generalizing c cap with
  | zero => simp [State.factors]
  | succ n ih =>
    simp only [State.factors]
    split
    next => exact List.forall_mem_cons.2 ⟨le_rfl, ih _ _⟩
    next h => exact List.forall_mem_cons.2 ⟨factor_le (not_le.1 h), fun f hf => by simp [List.eq_of_mem_replicate hf]⟩

/-- No class has a higher factor than a class before it. -/
theorem State.factors_falling (n c cap : Nat) : (s.factors n c cap).Pairwise (fun f g => g ≤ f) := by
  induction n generalizing c cap with
  | zero => simp [State.factors]
  | succ n ih =>
    simp only [State.factors]
    split
    · exact List.pairwise_cons.2 ⟨s.factors_le _ _ _, ih _ _⟩
    · refine List.pairwise_cons.2 ⟨fun g hg => by simp [List.eq_of_mem_replicate hg], ?_⟩
      exact List.pairwise_replicate.2 (.inr le_rfl)

/-- The bases that the factors leave fit the capacity. -/
theorem State.factors_fit (n c cap : Nat) : s.weighedBases c (s.factors n c cap) ≤ 32768 * cap := by
  induction n generalizing c cap with
  | zero => simp [State.factors, State.weighedBases]
  | succ n ih =>
    simp only [State.factors]
    split
    next h =>
      have hrest := ih (c + 1) (cap - s.basisSum c)
      simp only [State.weighedBases]
      omega
    next =>
      simp only [State.weighedBases, State.weighedBases_zeros]
      have := Nat.mul_div_le (cap * 32768) (s.basisSum c)
      omega

/-- The factors of the four classes. -/
theorem State.factors_four (cap : Nat) : ∃ f0 f1 f2 f3, s.factors 4 0 cap = [f0, f1, f2, f3] ∧
    f3 ≤ f2 ∧ f2 ≤ f1 ∧ f1 ≤ f0 ∧ f0 ≤ 32768 ∧
    s.basisSum 0 * f0 + s.basisSum 1 * f1 + s.basisSum 2 * f2 + s.basisSum 3 * f3 ≤ 32768 * cap := by
  have hlength := s.factors_length 4 0 cap
  have hle := s.factors_le 4 0 cap
  have hfalling := s.factors_falling 4 0 cap
  have hfit := s.factors_fit 4 0 cap
  generalize s.factors 4 0 cap = fs at *
  match fs, hlength with
  | [f0, f1, f2, f3], _ =>
    simp only [List.pairwise_cons, List.forall_mem_cons] at hfalling
    obtain ⟨⟨h10, -⟩, ⟨h21, -⟩, ⟨h32, -⟩, -⟩ := hfalling
    simp only [State.weighedBases, Nat.reduceAdd] at hfit
    exact ⟨f0, f1, f2, f3, rfl, h32, h21, h10, hle f0 List.mem_cons_self, by omega⟩

end

/-! ### What shedding may change -/

/-- `t` differs from `s` at most in registers, events, the tenants' causes, the dictionary and the state of shedding. -/
def shedFrame (s t : State) : Prop :=
  t = { s with
    regs := t.regs, evr := t.evr, tenants := t.tenants, dict := t.dict, critSeen := t.critSeen, shed := t.shed, shedIn := t.shedIn }

theorem shedFrame.trans {s t u : State} (h : shedFrame s t) (h' : shedFrame t u) : shedFrame s u :=
  Eq.trans h' (congrArg (fun v : State => { v with
    regs := u.regs, evr := u.evr, tenants := u.tenants, dict := u.dict, critSeen := u.critSeen, shed := u.shed, shedIn := u.shedIn }) h)

/-! ### The shedding states of the channels and intakes -/

/-- The shedding states of channel `n` and of its intake are set to those of `g` and `h`, where they are open. -/
def State.shedSet (g h : State → Nat → Shed) (s : State) (n : Nat) : State :=
  let s := if (s.chan n).isOpen then s.setShed n (g s n) else s
  if (s.intake n).isOpen then s.setShedIn n (h s n) else s

section
variable (s : State) (g h : State → Nat → Shed)

theorem State.shedSet_withShed (n : Nat) :
    s.shedSet g h n = { s with shed := (s.shedSet g h n).shed, shedIn := (s.shedSet g h n).shedIn } := by
  simp only [State.shedSet]
  split_ifs <;> rfl

/-- The intake's shedding state lies apart from the channels'. -/
theorem State.shedSet_shedOf (n m : Nat) :
    (s.shedSet g h n).shedOf m = (if (s.chan n).isOpen then s.setShed n (g s n) else s).shedOf m :=
  State.ite_kept (fun u => u.shedOf m) rfl

theorem State.shedSet_shedOf_ne {m n : Nat} (hmn : m ≠ n) : (s.shedSet g h n).shedOf m = s.shedOf m := by
  rw [State.shedSet_shedOf]
  exact State.ite_kept (fun u => u.shedOf m) (s.shedOf_setShed_ne n m _ hmn)

theorem State.shedSet_shedOf_self (n : Nat) : (s.shedSet g h n).shedOf n = if (s.chan n).isOpen then g s n else s.shedOf n := by
  rw [State.shedSet_shedOf]
  split
  · exact s.shedOf_setShed_self n _
  · rfl

theorem State.each_shedSet_shedFrame (l : List Nat) : shedFrame s (s.each l (State.shedSet g h)) := by
  unfold State.each
  induction l generalizing s with
  | nil => rfl
  | cons n l ih => exact shedFrame.trans (by rw [State.shedSet_withShed]; rfl) (ih _)

theorem State.each_shedSet_regs (l : List Nat) : (s.each l (State.shedSet g h)).regs = s.regs :=
  State.foldl_kept State.regs _ (fun u n => by rw [State.shedSet_withShed]) l s

/-- An open channel's shedding state becomes what `G` makes of the channel and of the state that it had. -/
theorem State.each_shedSet_shedOf (G : Chan → Shed → Shed) (hG : ∀ u n, g u n = G (u.chan n) (u.shedOf n)) {l : List Nat}
    (hl : l.Nodup) {n : Nat} (hn : n ∈ l) (hopen : (s.chan n).isOpen = true) :
    (s.each l (State.shedSet g h)).shedOf n = G (s.chan n) (s.shedOf n) := by
  have hchan : ∀ u n m, (State.shedSet g h u n).chan m = u.chan m := fun u n m => by
    rw [State.shedSet_withShed]
    rfl
  have hboth := State.each_read_of_mem (f := State.shedSet g h) (read := fun u n => (u.chan n, u.shedOf n))
    (fun u n m hmn => Prod.ext (hchan u n m) (u.shedSet_shedOf_ne g h hmn)) s
    (g := fun e => (e.1, if e.1.isOpen then G e.1 e.2 else e.2))
    (fun u n _ => Prod.ext (hchan u n n) ((u.shedSet_shedOf_self g h n).trans (by rw [hG]))) hl hn
  rw [hopen] at hboth
  exact congrArg Prod.snd hboth

end

/-! ### FACTORs fitted, quotas, the begin and the end of a shortfall -/

section
variable (s : State)

/-- The factors `fs` of the classes are given to the open channels and intakes. -/
def State.factored (s : State) (fs : List Nat) : State :=
  s.each chanNums (State.shedSet (fun u n => { u.shedOf n with factor := fs.getD (u.chan n).cls 0 })
    (fun u n => { u.shedInOf n with factor := fs.getD (u.intake n).cls 0 }))

theorem State.factored_shedFrame (fs : List Nat) : shedFrame s (s.factored fs) := s.each_shedSet_shedFrame _ _ _

theorem State.factored_regs (fs : List Nat) : (s.factored fs).regs = s.regs := s.each_shedSet_regs _ _ _

theorem State.factored_shedOf (fs : List Nat) {n : Nat} (hn : n < 64) (hopen : (s.chan n).isOpen = true) :
    (s.factored fs).shedOf n = { s.shedOf n with factor := fs.getD (s.chan n).cls 0 } :=
  s.each_shedSet_shedOf _ _ (fun c x => { x with factor := fs.getD c.cls 0 }) (fun _ _ => rfl) List.nodup_range
    (List.mem_range.2 hn) hopen

theorem State.newQuotas_eq : s.newQuotas = s.each chanNums (State.shedSet
    (fun u n => (u.shedOf n).next (u.chan n).frameMax) (fun u n => (u.shedInOf n).next (u.intake n).frameMax)) := by
  unfold State.newQuotas State.shedSet
  rfl

theorem State.newQuotas_shedFrame : shedFrame s s.newQuotas := s.newQuotas_eq ▸ s.each_shedSet_shedFrame _ _ _

theorem State.newQuotas_regs : s.newQuotas.regs = s.regs := s.newQuotas_eq ▸ s.each_shedSet_regs _ _ _

theorem State.newQuotas_shedOf {n : Nat} (hn : n < 64) (hopen : (s.chan n).isOpen = true) :
    s.newQuotas.shedOf n = (s.shedOf n).next (s.chan n).frameMax := by
  rw [State.newQuotas_eq]
  exact s.each_shedSet_shedOf _ _ (fun c x => x.next c.frameMax) (fun _ _ => rfl) List.nodup_range (List.mem_range.2 hn) hopen

/-- The factors that a refit gives. -/
def State.fitted (s : State) : List Nat := s.factors 4 0 (s.getF Reg.MEDIA_NOW_RATE)

/-- MARGIN follows the factors `fs` of the classes, and the first reduction of class 0 is reported (R114). -/
def State.marginSet (s : State) (fs : List Nat) : State :=
  let s := s.setF Reg.ARB_STATUS_MARGIN 0 (((List.range 4).find? (fun c => fs.getD c 0 != 32768)).getD 7)
  if fs.getD 0 0 != 32768 && !s.critSeen then
    let s := (State.event { s with critSeen := true } 0x14 0 0 (fs.getD 0 0)).emcy 0xFF02 0xFF (s.getF Reg.MEDIA_NOW_RATE)
    s.each (s.classChans 0) (fun s n => s.causeWriter n 3)
  else s

theorem State.refit_eq : s.refit = (s.factored s.fitted).marginSet s.fitted := by
  unfold State.refit State.marginSet State.factored State.shedSet
  rfl

theorem State.marginSet_withRegs (fs : List Nat) : s.marginSet fs =
    { s with regs := (s.marginSet fs).regs, evr := (s.marginSet fs).evr, tenants := (s.marginSet fs).tenants
             dict := (s.marginSet fs).dict, critSeen := (s.marginSet fs).critSeen } := by
  unfold State.marginSet
  extract_lets u v
  split
  · rw [State.each_withTenants _ _ _ fun u n => u.causeWriter_withTenants n 3]
    dsimp only [v, State.emcy]
    rw [State.event_withEvr]
    rfl
  · rfl

theorem State.marginSet_fieldsKept (fs : List Nat) : fieldsKept s (s.marginSet fs) [(Reg.ARB_STATUS_MARGIN, 0)] := by
  unfold State.marginSet
  extract_lets u v
  have hu : fieldsKept s u [(Reg.ARB_STATUS_MARGIN, 0)] := (s.setF_onlyFields _ _ _).2
  split
  · intro f i h
    rw [State.each_withTenants _ _ _ fun u n => u.causeWriter_withTenants n 3]
    change v.getF f i = _
    simp only [v, State.emcy_getF, State.event_getF]
    exact hu f i h
  · exact hu

theorem State.marginSet_shedFrame (fs : List Nat) : shedFrame s (s.marginSet fs) := by
  rw [State.marginSet_withRegs]
  rfl

theorem State.marginSet_shed (fs : List Nat) : (s.marginSet fs).shed = s.shed := by rw [State.marginSet_withRegs]

theorem State.refit_shedFrame : shedFrame s s.refit := by
  rw [State.refit_eq]
  exact (s.factored_shedFrame _).trans (State.marginSet_shedFrame _ _)

theorem State.refit_fieldsKept : fieldsKept s s.refit [(Reg.ARB_STATUS_MARGIN, 0)] := by
  intro f i h
  rw [State.refit_eq, State.marginSet_fieldsKept _ _ f i h, State.getF_congr (s.factored_regs _)]

/-- An open channel has the factor of its class. -/
theorem State.refit_shedOf {n : Nat} (hn : n < 64) (hopen : (s.chan n).isOpen = true) :
    s.refit.shedOf n = { s.shedOf n with factor := s.fitted.getD (s.chan n).cls 0 } := by
  rw [← s.factored_shedOf s.fitted hn hopen, State.refit_eq]
  exact congrArg (sget {} n) (State.marginSet_shed _ _)

/-- A shortfall is entered and reported; nothing is critical yet (R112). -/
def State.shortfallEntered (s : State) : State :=
  { (s.raise Reg.ARB_STATUS_SHORTFALL).event 0x12 0 0 (s.getF Reg.MEDIA_NOW_RATE) with critSeen := false }

/-- The bases of the open channels and intakes are latched (R113). -/
def State.basesLatched (s : State) : State :=
  s.each chanNums (State.shedSet (fun u n => { basis := u.lastSecond n }) (fun u n => { basis := u.lastSecond (64 + n) }))

theorem State.shortfallStart_eq : s.shortfallStart = s.shortfallEntered.basesLatched.refit.newQuotas := by
  unfold State.shortfallStart State.basesLatched State.shedSet State.shortfallEntered
  rfl

theorem State.shortfallEntered_shedFrame : shedFrame s s.shortfallEntered := by
  unfold State.shortfallEntered
  rw [State.event_withEvr]
  rfl

theorem State.basesLatched_shedFrame : shedFrame s s.basesLatched := s.each_shedSet_shedFrame _ _ _

theorem State.basesLatched_regs : s.basesLatched.regs = s.regs := s.each_shedSet_regs _ _ _

theorem State.shortfallStart_shedFrame : shedFrame s s.shortfallStart := by
  rw [State.shortfallStart_eq]
  exact ((s.shortfallEntered_shedFrame.trans (State.basesLatched_shedFrame _)).trans (State.refit_shedFrame _)).trans
    (State.newQuotas_shedFrame _)

theorem State.shortfallStart_getF (f : Field) (i : Nat) (h : f.key i ≠ Reg.ARB_STATUS_MARGIN.key 0) :
    s.shortfallStart.getF f i = (s.raise Reg.ARB_STATUS_SHORTFALL).getF f i := by
  rw [State.shortfallStart_eq, State.getF_congr (State.newQuotas_regs _),
    State.refit_fieldsKept _ f i (List.forall_mem_singleton.2 h), State.getF_congr (State.basesLatched_regs _)]
  exact State.event_getF _ _ _ _ _ f i

theorem State.shortfallEnd_withRegs : s.shortfallEnd =
    { s with regs := s.shortfallEnd.regs, evr := s.shortfallEnd.evr, critSeen := false, shed := [], shedIn := [] } := by
  unfold State.shortfallEnd
  extract_lets u
  dsimp only [u]
  rw [State.event_withEvr]
  rfl

theorem State.shortfallEnd_getF (f : Field) (i : Nat) (h : f.key i ≠ Reg.ARB_STATUS_MARGIN.key 0) :
    s.shortfallEnd.getF f i = (s.lower Reg.ARB_STATUS_SHORTFALL).getF f i := by
  unfold State.shortfallEnd
  rw [State.getF_setF_ne _ _ _ _ _ _ h]
  exact State.event_getF _ _ _ _ _ f i

theorem State.shortfallEnd_margin : s.shortfallEnd.getF Reg.ARB_STATUS_MARGIN = 7 := State.getF_setF_self _ _ _ _ (by decide)

end

/-! ### MEDIA_NOW recomputed (R112 to R115) -/

section
variable (s : State) (f : State → State)

theorem State.shedding_shedFrame (h : shedFrame s (f s)) : shedFrame s (s.shedding f) :=
  h.trans (by rw [State.shedding_withTenants]; rfl)

theorem State.shedding_getF (g : Field) (i : Nat) : (s.shedding f).getF g i = (f s).getF g i :=
  State.getF_congr (by rw [State.shedding_withTenants]) g i

theorem State.shedding_shed : (s.shedding f).shed = (f s).shed := by rw [State.shedding_withTenants]

theorem State.shedding_shedOf (n : Nat) : (s.shedding f).shedOf n = (f s).shedOf n :=
  congrArg (sget ({} : Shed) n) (s.shedding_shed f)

theorem State.shedding_shedIn : (s.shedding f).shedIn = (f s).shedIn := by rw [State.shedding_withTenants]

end

section
variable (s : State)

/-- MEDIA_NOW holds what its terms give. -/
def State.mediaSet (s : State) : State := s.setF Reg.MEDIA_NOW_RATE 0 s.mediaNow

theorem State.mediaNow_lt : s.mediaNow < 2 ^ 24 := by
  simp only [State.mediaNow, satN]
  omega

theorem State.mediaSet_rate : s.mediaSet.getF Reg.MEDIA_NOW_RATE = s.mediaNow :=
  (s.getF_setF_self _ _ _ (by decide)).trans (Nat.mod_eq_of_lt s.mediaNow_lt)

theorem State.mediaSet_getF (f : Field) (i : Nat) (h : f.key i ≠ Reg.MEDIA_NOW_RATE.key 0) : s.mediaSet.getF f i = s.getF f i :=
  s.getF_setF_ne _ _ _ _ _ h

theorem State.mediaSet_resvSum : s.mediaSet.resvSum = s.resvSum :=
  congrArg (s.shareSum Share.rate + ·) (s.mediaSet_getF Reg.ARB_MIRROR_RATE_RATE 0 (by decide))

/-- In a shortfall MEDIA_NOW lies below the reserved rates (R112): it begins, ends or is fitted anew as that changes. -/
theorem State.media_cases :
    (s.flag Reg.ARB_STATUS_SHORTFALL = false ∧ s.mediaNow < s.resvSum ∧ s.media = s.mediaSet.shedding State.shortfallStart) ∨
    (s.flag Reg.ARB_STATUS_SHORTFALL = true ∧ s.resvSum ≤ s.mediaNow ∧ s.media = s.mediaSet.shedding State.shortfallEnd) ∨
    (s.flag Reg.ARB_STATUS_SHORTFALL = true ∧ s.mediaNow < s.resvSum ∧ s.media = s.mediaSet.shedding State.refit) ∨
    (s.flag Reg.ARB_STATUS_SHORTFALL = false ∧ s.resvSum ≤ s.mediaNow ∧ s.media = s.mediaSet) := by
  have hflag : s.mediaSet.flag Reg.ARB_STATUS_SHORTFALL = s.flag Reg.ARB_STATUS_SHORTFALL := by
    rw [State.flag, s.mediaSet_getF _ _ (by decide), State.flag]
  have hmedia : s.media = match s.flag Reg.ARB_STATUS_SHORTFALL, decide (s.mediaNow < s.resvSum) with
      | false, true => s.mediaSet.shedding State.shortfallStart
      | true, false => s.mediaSet.shedding State.shortfallEnd
      | true, true => s.mediaSet.shedding State.refit
      | false, false => s.mediaSet := by
    rw [← hflag, ← s.mediaSet_rate, ← s.mediaSet_resvSum]
    rfl
  rw [hmedia]
  rcases lt_or_ge s.mediaNow s.resvSum with hlt | hle
  · rw [decide_eq_true hlt]
    cases s.flag Reg.ARB_STATUS_SHORTFALL with
    | false => exact .inl ⟨rfl, hlt, rfl⟩
    | true => exact .inr (.inr (.inl ⟨rfl, hlt, rfl⟩))
  · rw [decide_eq_false (not_lt.2 hle)]
    cases s.flag Reg.ARB_STATUS_SHORTFALL with
    | false => exact .inr (.inr (.inr ⟨rfl, hle, rfl⟩))
    | true => exact .inr (.inl ⟨rfl, hle, rfl⟩)

theorem State.media_shedFrame : shedFrame s s.media := by
  have hset : shedFrame s s.mediaSet := rfl
  rcases s.media_cases with ⟨-, -, h⟩ | ⟨-, -, h⟩ | ⟨-, -, h⟩ | ⟨-, -, h⟩ <;> rw [h]
  · exact hset.trans (State.shedding_shedFrame _ _ (State.shortfallStart_shedFrame _))
  · exact hset.trans (State.shedding_shedFrame _ _ (by rw [State.shortfallEnd_withRegs]; rfl))
  · exact hset.trans (State.shedding_shedFrame _ _ (State.refit_shedFrame _))
  · exact hset

/-- MEDIA_NOW and what follows its change touch no field but RATE, SHORTFALL and MARGIN. -/
theorem State.media_getF_mediaSet (f : Field) (i : Nat) (hm : f.key i ≠ Reg.ARB_STATUS_MARGIN.key 0)
    (hs : f.key i ≠ Reg.ARB_STATUS_SHORTFALL.key 0) : s.media.getF f i = s.mediaSet.getF f i := by
  rcases s.media_cases with ⟨-, -, h⟩ | ⟨-, -, h⟩ | ⟨-, -, h⟩ | ⟨-, -, h⟩ <;> rw [h]
  · rw [State.shedding_getF, State.shortfallStart_getF _ _ _ hm, State.getF_raise_ne _ _ _ _ _ hs]
  · rw [State.shedding_getF, State.shortfallEnd_getF _ _ _ hm, State.getF_lower_ne _ _ _ _ _ hs]
  · rw [State.shedding_getF, State.refit_fieldsKept _ _ _ (List.forall_mem_singleton.2 hm)]

theorem State.media_rate : s.media.getF Reg.MEDIA_NOW_RATE = s.mediaNow :=
  (s.media_getF_mediaSet _ _ (by decide) (by decide)).trans s.mediaSet_rate

theorem State.media_shortfall : s.media.flag Reg.ARB_STATUS_SHORTFALL = decide (s.mediaNow < s.resvSum) := by
  have hkept : s.mediaSet.flag Reg.ARB_STATUS_SHORTFALL = s.flag Reg.ARB_STATUS_SHORTFALL := by
    rw [State.flag, s.mediaSet_getF _ _ (by decide), State.flag]
  rcases s.media_cases with ⟨-, hlt, h⟩ | ⟨-, hle, h⟩ | ⟨hs, hlt, h⟩ | ⟨hs, hle, h⟩ <;> rw [h]
  · rw [State.flag, State.shedding_getF, State.shortfallStart_getF _ _ _ (by decide), State.getF_raise_self _ _ _ (by decide) (by decide)]
    simpa using hlt
  · rw [State.flag, State.shedding_getF, State.shortfallEnd_getF _ _ _ (by decide), State.getF_lower_self _ _ _ (by decide)]
    simpa using hle
  · rw [State.flag, State.shedding_getF, State.refit_fieldsKept _ _ _ (by decide), ← State.flag, hkept, hs, decide_eq_true hlt]
  · rw [hkept, hs, decide_eq_false (not_lt.2 hle)]

/-- The end of a shortfall drops quotas and bases (R115). -/
theorem State.media_ended (hs : s.flag Reg.ARB_STATUS_SHORTFALL = true) (hle : s.resvSum ≤ s.mediaNow) :
    s.media.shed = [] ∧ s.media.shedIn = [] ∧ s.media.getF Reg.ARB_STATUS_MARGIN = 7 := by
  have h : s.media = s.mediaSet.shedding State.shortfallEnd := by
    rcases s.media_cases with ⟨hs', -, -⟩ | ⟨-, -, h⟩ | ⟨-, hlt, -⟩ | ⟨hs', -, -⟩
    · simp [hs] at hs'
    · exact h
    · omega
    · simp [hs] at hs'
  rw [h, State.shedding_shed, State.shedding_shedIn, State.shedding_getF, State.shortfallEnd_margin, State.shortfallEnd_withRegs]
  exact ⟨rfl, rfl, rfl⟩

/-- A shortfall that stands is fitted anew: an open channel keeps its basis and quota and has the factor of its class (R114). -/
theorem State.media_shedOf (hs : s.flag Reg.ARB_STATUS_SHORTFALL = true) (hlt : s.mediaNow < s.resvSum) {n : Nat} (hn : n < 64)
    (hopen : (s.chan n).isOpen = true) :
    s.media.shedOf n = { s.shedOf n with factor := (s.factors 4 0 s.mediaNow).getD (s.chan n).cls 0 } := by
  have h : s.media = s.mediaSet.shedding State.refit := by
    rcases s.media_cases with ⟨hs', -, -⟩ | ⟨-, hle, -⟩ | ⟨-, -, h⟩ | ⟨-, hle, -⟩
    · simp [hs] at hs'
    · omega
    · exact h
    · omega
  have hfitted : s.mediaSet.fitted = s.factors 4 0 s.mediaNow := by
    rw [State.fitted, State.mediaSet_rate]
    exact State.factors_congr (fun _ => rfl) 4 0 _
  have hrefit := s.mediaSet.refit_shedOf hn hopen
  rw [hfitted] at hrefit
  rw [h, State.shedding_shedOf]
  exact hrefit

end

theorem exec_mediaNowRecompute {s : State} (hl : s.live = true) : exec .mediaNowRecompute s = .next s.media :=
  congrArg Host.Outcome.next (s.whenLive_of_live _ hl)

/-- Settles O22: the factors of `State.factors` fall and fit the capacity, and a refit gives them to the open channels. -/
theorem factorsFitTheMedia : Obligations.FactorsFitTheMedia := by
  intro s hl hs hlt
  obtain ⟨f0, f1, f2, f3, hfactors, h32, h21, h10, h0, hfit⟩ := s.factors_four s.mediaNow
  refine ⟨s.media, f0, f1, f2, f3, exec_mediaNowRecompute hl, h32, h21, h10, h0, fun n hn hopen => ?_, s.media_rate.symm ▸ hfit⟩
  rw [s.media_shedOf hs hlt hn hopen, hfactors]
  exact ⟨rfl, rfl⟩

/-! ### The shed-frame boundary (R115) -/

section
variable {s : State} (hl : s.live = true)
include hl

theorem exec_shedFrameBoundary_idle (hs : s.flag Reg.ARB_STATUS_SHORTFALL = false) : exec .shedFrameBoundary s = .next s := by
  change execShedFrameBoundary s = _
  rw [execShedFrameBoundary, State.whenLive_of_live _ _ hl, hs]
  rfl

theorem exec_shedFrameBoundary_shortfall (hs : s.flag Reg.ARB_STATUS_SHORTFALL = true) (hlt : s.mediaNow < s.resvSum) :
    exec .shedFrameBoundary s = .next (s.media.shedding State.newQuotas) := by
  change execShedFrameBoundary s = _
  rw [execShedFrameBoundary, State.whenLive_of_live _ _ hl, hs, State.when', if_pos rfl]
  simp only [s.media_shortfall, decide_eq_true hlt, if_true]

/-- In a shortfall that stands an open channel has its quota of the next shed frame. -/
theorem shedFrameBoundary_quotas (hs : s.flag Reg.ARB_STATUS_SHORTFALL = true) (hlt : s.mediaNow < s.resvSum) :
    ∃ t, exec .shedFrameBoundary s = .next t ∧ t.flag Reg.ARB_STATUS_SHORTFALL = true ∧
      ∀ n < 64, (s.chan n).isOpen = true → (t.shedOf n).quota =
        (if (t.shedOf n).factor < 32768 then (s.shedOf n).basis * (t.shedOf n).factor / 327680 else 0) +
          min (s.shedOf n).quota ((s.chan n).frameMax - 1) := by
  refine ⟨_, exec_shedFrameBoundary_shortfall hl hs hlt, ?_, fun n hn hopen => ?_⟩
  · rw [State.flag, State.shedding_getF, State.getF_congr (State.newQuotas_regs _), ← State.flag, s.media_shortfall,
      decide_eq_true hlt]
  · have hchan : s.media.chan n = s.chan n := by
      rw [show s.media = _ from s.media_shedFrame]
      rfl
    rw [State.shedding_shedOf, State.newQuotas_shedOf _ hn (hchan ▸ hopen), hchan, s.media_shedOf hs hlt hn hopen]
    rfl

end

end Sys2Proof.Machine
end

section
/-! The measured account (spec/10 R215 to R217, R220), and the obligation about energy and media rates. -/

namespace Sys2Proof.Machine
variable (s : State)

/-! ### ENG_LEND and the check of the account (R217, R220) -/

theorem State.getF_setF_satN {f : Field} (hw : f.w ≤ 32) (i v : Nat) : (s.setF f i (satN f.w v)).getF f i = satN f.w v := by
  rw [State.getF_setF_self _ _ _ _ hw]
  have := Nat.two_pow_pos f.w
  exact Nat.mod_eq_of_lt (by unfold satN; omega)

theorem State.causeOpen_flag (bit : Nat) (f : Field) (i : Nat) : (s.causeOpen bit).flag f i = s.flag f i :=
  State.flag_congr (by rw [State.causeOpen_withTenants]) f i

/-- The check closes admission where the account exceeds ENG_LEND. -/
theorem State.checkEnergy_lendOk : s.checkEnergy.lendOk = (s.lendOk && decide (s.commit ≤ s.lend)) := by
  unfold State.checkEnergy
  split
  next h =>
    simp only [Bool.and_eq_true, decide_eq_true_eq] at h
    rw [decide_eq_false (not_le.2 h.2), Bool.and_false, State.lendOk, State.emcy_flag, State.causeOpen_flag, State.event_flag,
      State.flag, State.getF_raise_ne _ _ _ _ _ (by decide), State.getF_lower_self _ _ _ (by decide)]
    rfl
  next h =>
    simp only [Bool.and_eq_true, decide_eq_true_eq, not_and, not_lt] at h
    cases hok : s.lendOk with
    | false => rfl
    | true => rw [decide_eq_true (h hok), Bool.and_true]

/-- ENG_COMMIT reads of the power side the spin-up charge alone. -/
theorem State.commit_withPower {p : Power} (h : p.spinup = s.power.spinup) : ({ s with power := p } : State).commit = s.commit := by
  unfold State.commit
  rw [← h]
  rfl

/-- The measurement `mv` of VHOLD is taken: the last four stand (R215). -/
def State.measured (s : State) (mv : Nat) : State :=
  let s := s.arm mv
  { s with power := { s.power with vholds := (mv :: s.power.vholds).take 4 } }

theorem exec_energyMeasure {s : State} (mv : Nat) (hl : s.live = true) :
    exec (.energyMeasure mv) s = .next (s.measured mv).recap :=
  congrArg Host.Outcome.next (s.whenLive_of_live _ hl)

/-- E_CAP counts the lowest of the last four measurements (R215). -/
theorem State.measured_ecap {mv v : Nat} (hv : ((mv :: s.power.vholds).take 4).min? = some v) :
    (s.measured mv).ecap = if v < s.getF Reg.ENG_VMIN_MV then 0
      else satN 24 (s.getF Reg.ENG_KCAP_K * (v * v - s.getF Reg.ENG_VMIN_MV * s.getF Reg.ENG_VMIN_MV) / (65536 * 1000000)) := by
  have hmin : (s.measured mv).power.vholds.min? = some v := hv
  simp only [State.ecap, hmin]
  rfl

/-- E_CAP and ENG_LEND are set; the account is not yet checked. -/
def State.lendSet (s : State) : State :=
  let u := s.setF Reg.ENG_ECAP_E 0 s.ecap
  u.setF Reg.ENG_LEND_E 0 (if u.flag Reg.ENG_CTRL_EN then satN 24 (u.getF Reg.ENG_ECAP_E + u.getF Reg.ENG_EKIN_E - 1600) else 0)

theorem State.recap_eq : s.recap = s.lendSet.checkEnergy := rfl

theorem State.ecap_eq_satN : s.ecap = satN 24 s.ecap := by
  have hsat : ∀ x, satN 24 (satN 24 x) = satN 24 x := fun x => by simp [satN]
  unfold State.ecap
  extract_lets m
  split
  · rfl
  · split
    · rfl
    · exact (hsat _).symm

theorem State.lendSet_ecap : s.lendSet.getF Reg.ENG_ECAP_E = s.ecap := by
  rw [State.lendSet, State.getF_setF_ne _ _ _ _ _ _ (by decide), s.ecap_eq_satN]
  exact s.getF_setF_satN (f := Reg.ENG_ECAP_E) (by decide) 0 _

theorem State.lendSet_lend (hen : s.flag Reg.ENG_CTRL_EN = true) :
    s.lendSet.getF Reg.ENG_LEND_E = satN 24 (s.lendSet.getF Reg.ENG_ECAP_E + s.getF Reg.ENG_EKIN_E - 1600) := by
  have hu : (s.setF Reg.ENG_ECAP_E 0 s.ecap).flag Reg.ENG_CTRL_EN = true := by
    rw [State.flag, State.getF_setF_ne _ _ _ _ _ _ (by decide), ← State.flag, hen]
  have hecap : s.lendSet.getF Reg.ENG_ECAP_E = (s.setF Reg.ENG_ECAP_E 0 s.ecap).getF Reg.ENG_ECAP_E :=
    State.getF_setF_ne _ _ _ _ _ _ (by decide)
  rw [hecap, ← s.getF_setF_ne Reg.ENG_ECAP_E Reg.ENG_EKIN_E 0 0 s.ecap (by decide)]
  simp only [State.lendSet, hu, if_true]
  exact State.getF_setF_satN _ (f := Reg.ENG_LEND_E) (by decide) 0 _

theorem State.lendSet_lendOk : s.lendSet.lendOk = s.lendOk := by
  rw [State.lendOk, State.flag, State.lendSet, State.getF_setF_ne _ _ _ _ _ _ (by decide), State.getF_setF_ne _ _ _ _ _ _ (by decide)]
  rfl

theorem State.lendSet_commit : s.lendSet.commit = s.commit := State.commit_congr rfl rfl rfl rfl rfl rfl

theorem State.measured_commit (mv : Nat) : (s.measured mv).commit = s.commit := s.commit_withPower rfl

theorem State.checkEnergy_power : s.checkEnergy.power = s.power := by rw [State.checkEnergy_withRegs]

section
variable {s} {mv v : Nat} (hl : s.live = true) (hv : ((mv :: s.power.vholds).take 4).min? = some v)
  (hen : s.flag Reg.ENG_CTRL_EN = true)
include hl hv hen

theorem energyMeasure_spec : ∃ t, exec (.energyMeasure mv) s = .next t ∧
    t.power.vhold = mv ∧ t.power.vholds = (mv :: s.power.vholds).take 4 ∧
    t.getF Reg.ENG_ECAP_E = (if v < s.getF Reg.ENG_VMIN_MV then 0
      else satN 24 (s.getF Reg.ENG_KCAP_K * (v * v - s.getF Reg.ENG_VMIN_MV * s.getF Reg.ENG_VMIN_MV) / (65536 * 1000000))) ∧
    t.getF Reg.ENG_LEND_E = satN 24 (t.getF Reg.ENG_ECAP_E + s.getF Reg.ENG_EKIN_E - 1600) ∧
    t.commit = s.commit ∧ (t.lend < t.commit → t.lendOk = false) ∧ (t.commit ≤ t.lend → t.lendOk = s.lendOk) ∧
    t.chans = s.chans ∧ t.rwc = s.rwc ∧ t.port = s.port := by
  have hexec := exec_energyMeasure mv hl
  rw [State.recap_eq] at hexec
  generalize hm : s.measured mv = m at hexec
  have hecap := s.measured_ecap hv
  have hcommit := s.measured_commit mv
  have hpower : m.lendSet.checkEnergy.power = (s.measured mv).power := hm ▸ State.checkEnergy_power _
  have hget : ∀ f : Field, (∀ e ∈ [(Reg.ENG_EVENTS_CLOSE, 0), (Reg.ENG_STATUS_LEND_OK, 0)], f.key 0 ≠ e.1.key e.2) →
      m.lendSet.checkEnergy.getF f = m.lendSet.getF f := fun f h => State.checkEnergy_fieldsKept _ f 0 h
  refine ⟨_, hexec, ?_, ?_, ?_, ?_, ?_, ?_, ?_, ?_, ?_, ?_⟩
  · rw [hpower]; rfl
  · rw [hpower]; rfl
  · rw [hget _ (by decide), State.lendSet_ecap, ← hm, hecap]
  · rw [hget _ (by decide), hget _ (by decide), State.lendSet_lend m (by rw [← hm]; exact hen), ← hm]
    rfl
  · rw [State.checkEnergy_commit, State.lendSet_commit, ← hm, hcommit]
  · intro hlt
    rw [State.checkEnergy_commit, State.checkEnergy_lend] at hlt
    rw [State.checkEnergy_lendOk, decide_eq_false (not_le.2 hlt), Bool.and_false]
  · intro hle
    rw [State.checkEnergy_commit, State.checkEnergy_lend] at hle
    rw [State.checkEnergy_lendOk, decide_eq_true hle, Bool.and_true, State.lendSet_lendOk, ← hm]
    rfl
  · rw [State.checkEnergy_withRegs, ← hm]; rfl
  · rw [State.checkEnergy_withRegs, ← hm]; rfl
  · rw [State.checkEnergy_withRegs, ← hm]; rfl

end

/-! ### Admission reopens (R220) -/

/-- The tenant with cause `bit` raised. -/
def Tenant.caused (x : Tenant) (bit : Nat) : Tenant := { x with cause := x.cause ||| BitVec.ofNat 7 (2 ^ bit) }

/-- Every tenant with an open session has the cause raised, and no other tenant changes. -/
theorem State.causeOpen_ten (bit : Nat) {u : Nat} (hu : u < 16) :
    (s.causeOpen bit).ten u = if s.sessionOpen u then (s.ten u).caused bit else s.ten u := by
  refine State.each_read_of_mem (read := State.ten) (g := fun x => if x.sess == 2 then x.caused bit else x) ?_ s ?_ List.nodup_range
    (List.mem_range.2 hu)
  · exact fun v n m hmn => State.ite_kept (fun w => w.ten m) (v.ten_setTen_ne n m _ hmn)
  · intro v n _
    change (if v.sessionOpen n then v.cause n bit else v).ten n = if v.sessionOpen n then (v.ten n).caused bit else v.ten n
    cases v.sessionOpen n with
    | false => rfl
    | true => exact v.ten_setTen_self n _

theorem exec_energyReopen {s : State} (hl : s.live = true) (hclosed : s.lendOk = false) (hen : s.flag Reg.ENG_CTRL_EN = true)
    (hmargin : s.commit + s.getF Reg.ENG_REOPEN_E ≤ s.lend) : exec .energyReopen s =
    .next (((s.raise Reg.ENG_STATUS_LEND_OK).event 0x33 0 0 (s.lend - s.commit)).causeOpen 5) := by
  change execEnergyReopen s = _
  rw [execEnergyReopen, State.whenLive_of_live _ _ hl, State.when', hclosed, hen, decide_eq_true hmargin]
  rfl

theorem energyReopen_spec {s : State} (hl : s.live = true) (hclosed : s.lendOk = false) (hen : s.flag Reg.ENG_CTRL_EN = true)
    (hmargin : s.commit + s.getF Reg.ENG_REOPEN_E ≤ s.lend) : ∃ t, exec .energyReopen s = .next t ∧ t.lendOk = true ∧
    t.evr = (s.event 0x33 0 0 (s.lend - s.commit)).evr ∧
    (∀ u < 16, s.sessionOpen u = true → (t.ten u).cause = (s.ten u).cause ||| 0x20) ∧
    (∀ u < 16, s.sessionOpen u = false → t.ten u = s.ten u) ∧
    t = { s with regs := t.regs, evr := t.evr, tenants := t.tenants } ∧ fieldsKept s t [(Reg.ENG_STATUS_LEND_OK, 0)] := by
  have hexec := exec_energyReopen hl hclosed hen hmargin
  generalize hr : (s.raise Reg.ENG_STATUS_LEND_OK).event 0x33 0 0 (s.lend - s.commit) = r at hexec
  have hframe : r = { s with regs := r.regs, evr := r.evr } := by
    rw [← hr, State.event_withEvr]
    rfl
  have hten : r.tenants = s.tenants := by rw [hframe]
  have hcause : ∀ u < 16, (r.causeOpen 5).ten u =
      if s.sessionOpen u then (s.ten u).caused 5 else s.ten u := by
    intro u hu
    have hsame : r.ten u = s.ten u := congrArg (sget ({} : Tenant) u) hten
    rw [r.causeOpen_ten 5 hu, State.sessionOpen, hsame]
    rfl
  have hevr : r.evr = (s.event 0x33 0 0 (s.lend - s.commit)).evr := by
    rw [← hr]
    exact State.event_evr_congr (s.raise_live _ _) rfl rfl _ _ _ _
  refine ⟨_, hexec, ?_, ?_, fun u hu hopen => ?_, fun u hu hshut => ?_, ?_, fun f i h => ?_⟩
  · rw [State.lendOk, State.causeOpen_flag, ← hr, State.event_flag, State.flag, State.getF_raise_self _ _ _ (by decide) (by decide)]
    rfl
  · rw [State.causeOpen_withTenants]
    exact hevr
  · rw [hcause u hu, hopen, if_pos rfl]
    rfl
  · rw [hcause u hu, hshut, if_neg Bool.false_ne_true]
  · rw [State.causeOpen_withTenants, hframe]
  · rw [State.getF_congr (t := r.causeOpen 5) (s := r) (by rw [State.causeOpen_withTenants]), ← hr, State.event_getF]
    exact (s.setF_onlyFields _ _ _).2 f i h

/-! ### MEDIA_NOW (R112 to R114) -/

theorem mediaNowRecompute_spec {s : State} (hl : s.live = true) : ∃ t, exec .mediaNowRecompute s = .next t ∧
    t.getF Reg.MEDIA_NOW_RATE = s.mediaNow ∧
    (t.flag Reg.ARB_STATUS_SHORTFALL = true ↔ t.getF Reg.MEDIA_NOW_RATE < s.resvSum) ∧
    (s.flag Reg.ARB_STATUS_SHORTFALL = true → t.flag Reg.ARB_STATUS_SHORTFALL = false → t.shed = [] ∧ t.shedIn = [] ∧
      t.getF Reg.ARB_STATUS_MARGIN = 7) ∧
    t.chans = s.chans ∧ t.rwc = s.rwc ∧ t.pages = s.pages ∧ t.buf = s.buf ∧ t.port = s.port ∧ t.cmds = s.cmds := by
  have hframe := s.media_shedFrame
  refine ⟨s.media, exec_mediaNowRecompute hl, s.media_rate, ?_, ?_, ?_⟩
  · rw [s.media_shortfall, s.media_rate, decide_eq_true_iff]
  · intro hs hended
    rw [s.media_shortfall, decide_eq_false_iff_not, not_lt] at hended
    exact s.media_ended hs hended
  · rw [hframe]
    exact ⟨rfl, rfl, rfl, rfl, rfl, rfl⟩

/-- Settles O21: a measurement, the reopening, MEDIA_NOW and the shed-frame boundary have their theorems above. -/
theorem energyAndMediaMeasured : Obligations.EnergyAndMediaMeasured :=
  ⟨fun _ _ _ hl => ⟨energyMeasure_spec hl, energyReopen_spec hl⟩, fun _ hl => mediaNowRecompute_spec hl,
    fun _ hl => ⟨exec_shedFrameBoundary_idle hl, shedFrameBoundary_quotas hl⟩⟩

end Sys2Proof.Machine
end

section
/-! Regions, the mirror rate, grants cut off, counters and stagings (spec/05 R97, R100, R101, R106, R108, R111; spec/06 R122). -/

namespace Sys2Proof.Machine
variable (s : State)

/-! ### BUF_WREG and ARB_MIRROR_RATE (R97, R111) -/

/-- The fields of BUF_WREG. -/
def regionFields : List (Field × Nat) := [(Reg.BUF_WREG_LO, 0), (Reg.BUF_WREG_LAST, 0)]

theorem regFields_bufWreg : regFields 0x40040024 = regionFields := by decide +kernel

theorem regFields_mirrorRate : regFields 0x40040014 = [(Reg.ARB_MIRROR_RATE_RATE, 0)] := by decide +kernel

theorem State.queueReject_spec :
    s.queueReject.getF Reg.QUEUE_STATUS_CFG_REJECT = 1 ∧ onlyFields s s.queueReject [(Reg.QUEUE_STATUS_CFG_REJECT, 0)] :=
  ⟨s.getF_raise_self _ _ (by decide) (by decide), s.setF_onlyFields _ _ _⟩

section
variable {s} {src : Nat} (v : Word) (hl : s.live = true) (hp : privileged src = true)
include hl hp

theorem exec_bufRegionWrite_windows : exec (.bufRegionWrite src true v) s =
    .next (if regionsMeet (s.getF Reg.BUF_POOL_BASE_PAGE) (bitsOf v.toNat 0 12) (bitsOf v.toNat 16 12) ||
        (List.range 128).any (fun i => s.flag Reg.WIN_EN i) then s.queueReject else s.genericWrite src 0x40040024 v) := by
  change execBufRegionWrite src true v s = _
  rw [execBufRegionWrite, State.whenLive_of_live _ _ hl]
  simp only [hp, Bool.not_true, Bool.false_eq_true, if_false, if_true]

theorem bufRegionWrite_windowEnabled (h : ∃ i < 128, s.flag Reg.WIN_EN i = true) :
    ∃ t, exec (.bufRegionWrite src true v) s = .next t ∧
      t.getF Reg.QUEUE_STATUS_CFG_REJECT = 1 ∧ onlyFields s t [(Reg.QUEUE_STATUS_CFG_REJECT, 0)] := by
  obtain ⟨i, hi, hen⟩ := h
  have hany : (List.range 128).any (fun i => s.flag Reg.WIN_EN i) = true := List.any_eq_true.2 ⟨i, List.mem_range.2 hi, hen⟩
  exact ⟨_, (exec_bufRegionWrite_windows v hl hp).trans (by rw [hany, Bool.or_true, if_pos rfl]), s.queueReject_spec⟩

theorem bufRegionWrite_taken (hidle : ∀ i < 128, s.flag Reg.WIN_EN i = false)
    (hapart : regionsMeet (s.getF Reg.BUF_POOL_BASE_PAGE) (bitsOf v.toNat 0 12) (bitsOf v.toNat 16 12) = false) :
    ∃ t, exec (.bufRegionWrite src true v) s = .next t ∧ t.getF Reg.BUF_WREG_LO = bitsOf v.toNat 0 12 ∧
      t.getF Reg.BUF_WREG_LAST = bitsOf v.toNat 16 12 ∧ onlyFields s t regionFields := by
  have hnone : (List.range 128).any (fun i => s.flag Reg.WIN_EN i) = false :=
    List.any_eq_false.2 fun i hi => by simp [hidle i (List.mem_range.1 hi)]
  have hfree : ∀ e ∈ regFields 0x40040024, e.1.acc = .rwk ∧ e.1.ok = [] := by
    rw [regFields_bufWreg]
    decide
  have htaken : ∀ e ∈ regionFields, (s.genericWrite src 0x40040024 v).getF e.1 e.2 = bitsOf v.toNat e.1.lo e.1.w :=
    fun e he => s.getF_genericWrite_taken v hp hfree (by decide +kernel) (regFields_bufWreg ▸ he)
  exact ⟨_, (exec_bufRegionWrite_windows v hl hp).trans (by rw [hnone, hapart]; rfl), htaken (Reg.BUF_WREG_LO, 0) (by decide),
    htaken (Reg.BUF_WREG_LAST, 0) (by decide), regFields_bufWreg ▸ s.genericWrite_onlyFields v hp hfree⟩

theorem exec_mirrorRateWrite : exec (.mirrorRateWrite src v) s =
    .next (if s.mediaFloor < s.shareSum Share.rate + bitsOf v.toNat 0 24 then s.queueReject
      else (s.genericWrite src 0x40040014 v).media) := by
  change execMirrorRateWrite src v s = _
  rw [execMirrorRateWrite, State.whenLive_of_live _ _ hl]
  simp only [hp, Bool.not_true, Bool.false_eq_true, if_false]

theorem mirrorRateWrite_exceeds (h : s.mediaFloor < s.shareSum Share.rate + bitsOf v.toNat 0 24) :
    ∃ t, exec (.mirrorRateWrite src v) s = .next t ∧
      t.getF Reg.QUEUE_STATUS_CFG_REJECT = 1 ∧ onlyFields s t [(Reg.QUEUE_STATUS_CFG_REJECT, 0)] :=
  ⟨_, (exec_mirrorRateWrite v hl hp).trans (by rw [if_pos h]), s.queueReject_spec⟩

theorem mirrorRateWrite_fits (h : s.shareSum Share.rate + bitsOf v.toNat 0 24 ≤ s.mediaFloor) :
    ∃ t, exec (.mirrorRateWrite src v) s = .next t ∧ t.getF Reg.ARB_MIRROR_RATE_RATE = bitsOf v.toNat 0 24 := by
  have hfree : ∀ e ∈ regFields 0x40040014, e.1.acc = .rwk ∧ e.1.ok = [] := by
    rw [regFields_mirrorRate]
    decide
  refine ⟨_, (exec_mirrorRateWrite v hl hp).trans (by rw [if_neg (not_lt.2 h)]), ?_⟩
  rw [State.media_getF_mediaSet _ _ _ (by decide) (by decide), State.mediaSet_getF _ _ _ (by decide)]
  exact s.getF_genericWrite_taken v hp hfree (by decide +kernel) (regFields_mirrorRate ▸ List.mem_singleton_self _)

end

/-! ### Grants cut off and the counters cleared (R106, R108) -/

/-- The grant `g` of bank `b` ends after `k` beats, and its requester asks for the others again. -/
def State.grantEnded (s : State) (b k : Nat) (g : Request) : State :=
  s.setBank b { s.bank b with
    grant := none
    reqs := (s.bank b).reqs ++ [{ who := g.who, beats := g.beats - k, late := s.getF Reg.ARB_CFG_CUTOFF g.who }] }

section
variable {s}

theorem exec_grantCutoff {b : Nat} {g : Request} (k : Nat) (hl : s.live = true) (hg : (s.bank b).grant = some g) :
    exec (.grantCutoff b k) s = .next (((s.grantEnded b k g).bumpSat Reg.ARB_STAT_CUTS g.who).eventC 0x11 g.who b) := by
  change execGrantCutoff b k s = _
  rw [execGrantCutoff, State.whenLive_of_live _ _ hl]
  simp only [hg]
  rfl

theorem grantCutoff_spec {b : Nat} {g : Request} (k : Nat) (hl : s.live = true) (hg : (s.bank b).grant = some g) :
    ∃ t, exec (.grantCutoff b k) s = .next t ∧ (t.bank b).grant = none ∧
      (t.bank b).reqs = (s.bank b).reqs ++ [{ who := g.who, beats := g.beats - k, late := s.getF Reg.ARB_CFG_CUTOFF g.who }] ∧
      t.getF Reg.ARB_STAT_CUTS g.who = min (s.getF Reg.ARB_STAT_CUTS g.who + 1) 65535 ∧ t.evr = (s.eventC 0x11 g.who b).evr ∧
      t = { s with regs := t.regs, banks := t.banks, evr := t.evr } ∧ fieldsKept s t [(Reg.ARB_STAT_CUTS, g.who)] := by
  have hexec := exec_grantCutoff k hl hg
  generalize hu : (s.grantEnded b k g).bumpSat Reg.ARB_STAT_CUTS g.who = u at hexec
  have hbank : (u.eventC 0x11 g.who b).bank b = (s.grantEnded b k g).bank b := by
    rw [State.eventC_withEvr, ← hu]
    rfl
  rw [State.grantEnded, State.bank_setBank_self] at hbank
  refine ⟨_, hexec, congrArg Bank.grant hbank, congrArg Bank.reqs hbank, ?_, ?_, ?_, fun f i h => ?_⟩
  · rw [State.eventC_getF, ← hu, State.getF_bumpSat_self _ _ _ _ (by decide)]
    rfl
  · rw [← hu]
    exact State.eventC_evr_congr ((State.bumpSat_live _ _ _ _).trans (s.setBank_live _ _)) rfl rfl _ _ _
  · rw [State.eventC_withEvr, ← hu]
    rfl
  · rw [State.eventC_getF, ← hu, State.getF_bumpSat_ne _ _ _ _ _ _ (h _ List.mem_cons_self)]
    rfl

end

theorem grantFields_apart {m n : Nat} (h : m ≠ n) : ∀ e ∈ grantFields m, ∀ d ∈ grantFields n, e.1.key e.2 ≠ d.1.key d.2 := by
  simp only [grantFields, List.forall_mem_cons, Field.key, Field.addr, Reg.ARB_GRANTS_COUNT, Reg.ARB_WAIT_CYCLES, Reg.ARB_STAT_LWAIT,
    List.not_mem_nil, false_implies, implies_true, and_true]
  omega

/-- The counters of requester `n` are cleared. -/
def State.counterCleared (s : State) (n : Nat) : State :=
  ((s.lower Reg.ARB_GRANTS_COUNT n).lower Reg.ARB_WAIT_CYCLES n).lower Reg.ARB_STAT_LWAIT n

theorem State.counterCleared_fieldsKept (n : Nat) : fieldsKept s (s.counterCleared n) (grantFields n) := by
  intro f i h
  simp only [grantFields, List.forall_mem_cons] at h
  obtain ⟨hcount, hcycles, hlwait, -⟩ := h
  rw [State.counterCleared, State.getF_lower_ne _ _ _ _ _ hlwait, State.getF_lower_ne _ _ _ _ _ hcycles,
    State.getF_lower_ne _ _ _ _ _ hcount]

theorem State.counterCleared_zero (n : Nat) : ∀ e ∈ grantFields n, (s.counterCleared n).getF e.1 e.2 = 0 := by
  simp only [grantFields, List.forall_mem_cons, State.counterCleared]
  refine ⟨?_, ?_, State.getF_lower_self _ _ _ (by decide), by simp⟩
  · rw [State.getF_lower_ne _ _ _ _ _ (Field.key_ne_of_apart (by decide) n),
      State.getF_lower_ne _ _ _ _ _ (Field.key_ne_of_apart (by decide) n), State.getF_lower_self _ _ _ (by decide)]
  · rw [State.getF_lower_ne _ _ _ _ _ (Field.key_ne_of_apart (by decide) n), State.getF_lower_self _ _ _ (by decide)]

theorem arbCounterClear_spec {s : State} (src : Nat) (hl : s.live = true) : ∃ t, exec (.arbCounterClear src) s = .next t ∧
    (∀ n < 12, t.getF Reg.ARB_GRANTS_COUNT n = 0 ∧ t.getF Reg.ARB_WAIT_CYCLES n = 0 ∧ t.getF Reg.ARB_STAT_LWAIT n = 0) ∧
    onlyFields s t ((List.range 12).flatMap grantFields) := by
  refine ⟨s.each (List.range 12) State.counterCleared, congrArg Host.Outcome.next (s.whenLive_of_live _ hl), fun n hn => ?_,
    s.each_withRegs _ _ fun _ _ => rfl, s.each_fieldsKept _ _ _ State.counterCleared_fieldsKept⟩
  have hzero : ∀ f : Field, (∀ m, (f, m) ∈ grantFields m) → (s.each (List.range 12) State.counterCleared).getF f n = 0 :=
    fun f hf => State.each_read_of_mem (read := fun u m => u.getF f m) (g := fun _ => 0)
      (fun u m k hkm => u.counterCleared_fieldsKept m f k (grantFields_apart hkm (f, k) (hf k))) s
      (fun u m _ => u.counterCleared_zero m _ (hf m)) List.nodup_range (List.mem_range.2 hn)
  exact ⟨hzero _ (by simp [grantFields]), hzero _ (by simp [grantFields]), hzero _ (by simp [grantFields])⟩

/-! ### Stagings (R100, R101, R122) -/

section
variable {s} {tok : BitVec 16} {g : Staging} (hl : s.live = true)
include hl

theorem exec_stagingCheckDone (hfind : s.stagings.find? (fun t => t.token == tok && !t.checked) = some g) (hg : g.revoked = false)
    (hbad : s.ecc.bad = []) : exec (.stagingCheckDone tok) s =
    .next (if recordValid (s.bushel g.bushel).gen g.hdr (s.bufRead (4096 * g.page) 4096) then
        { s with stagings := s.stagings.map (fun (x : Staging) => if x.token = tok then { x with checked := true } else x) }
      else (s.endStaging g).readFail g.tag 0x27 g.seq) := by
  change execStagingCheckDone tok s = _
  rw [execStagingCheckDone, State.whenLive_of_live _ _ hl]
  simp only [hfind, hg, s.bufCheck_of_sound _ _ _ hbad, Bool.false_eq_true, if_false, Bool.not_false, Bool.true_and]

end

/-- A grain that fails ends its command, whose later reads are dropped (R65). -/
theorem State.readFail_of_running {tag : Nat} {c : Cmd} (code : Nat) (g : Word) (hfind : s.cmds.find? (fun d => d.tag == tag) = some c)
    (hc : c.ends = none) : (s.readFail tag code g).cmds =
        s.cmds.map (fun (d : Cmd) => if d.tag == c.tag then { c with ends := some (code, g) } else d) ∧
      s.readFail tag code g = { s with cmds := (s.readFail tag code g).cmds, rwc := (s.readFail tag code g).rwc } := by
  simp only [State.readFail, hfind, hc]
  exact ⟨rfl, rfl⟩

theorem stagingCheckDone_fails {s : State} {tok : BitVec 16} {g : Staging} {c : Cmd} (hl : s.live = true)
    (hfind : s.stagings.find? (fun t => t.token == tok && !t.checked) = some g) (hg : g.revoked = false) (hbad : s.ecc.bad = [])
    (hinvalid : recordValid (s.bushel g.bushel).gen g.hdr (s.bufRead (4096 * g.page) 4096) = false)
    (hcmd : s.cmds.find? (fun d => d.tag == g.tag) = some c) (hc : c.ends = none) : ∃ t, exec (.stagingCheckDone tok) s = .next t ∧
      t.stagings = s.stagings.filter (fun x => x.token != tok) ∧
      t.cmds = s.cmds.map (fun (d : Cmd) => if d.tag == c.tag then { c with ends := some (0x27, g.seq) } else d) ∧
      t = { s with stagings := t.stagings, cmds := t.cmds, pages := t.pages, rwc := t.rwc } := by
  have htok : g.token = tok := by
    have := List.find?_some hfind
    simp only [Bool.and_eq_true, beq_iff_eq] at this
    exact this.1
  have hexec := exec_stagingCheckDone hl hfind hg hbad
  rw [hinvalid, if_neg Bool.false_ne_true] at hexec
  obtain ⟨hcmds, hframe⟩ := (s.endStaging g).readFail_of_running 0x27 g.seq hcmd hc
  refine ⟨_, hexec, ?_, hcmds, ?_⟩
  · rw [hframe, ← htok]
    rfl
  · rw [hframe]
    rfl

/-- Marking stagings as revoked changes no token. -/
theorem filter_token_map_revoked (l : List Staging) (p : Staging → Bool) (tok : BitVec 16) (hp : ∀ x, p x = true → x.token = tok) :
    (l.map (fun t => if p t then { t with revoked := true } else t)).filter (fun x => x.token != tok) =
      l.filter (fun x => x.token != tok) := by
  induction l with
  | nil => rfl
  | cons x l ih =>
    rw [List.map_cons]
    cases hx : p x with
    | false => simp only [Bool.false_eq_true, if_false, List.filter_cons, ih]
    | true => simp [hp x hx, ih]

/-- The stagings that end leave those of other tokens, and bring none. -/
theorem State.endStagings_others {tok : BitVec 16} {l : List Staging} (hl : ∀ g ∈ l, g.token = tok) :
    (l.foldl State.endStaging s).stagings.filter (fun x => x.token != tok) = s.stagings.filter (fun x => x.token != tok) ∧
      ∀ x ∈ (l.foldl State.endStaging s).stagings, x ∈ s.stagings := by
  induction l generalizing s with
  | nil => exact ⟨rfl, fun _ h => h⟩
  | cons g l ih =>
    obtain ⟨hg, hl⟩ := List.forall_mem_cons.1 hl
    obtain ⟨hothers, hfrom⟩ := ih (s.endStaging g) hl
    have hend : (s.endStaging g).stagings = s.stagings.filter (fun x => x.token != tok) := hg ▸ rfl
    refine ⟨hothers.trans (by rw [hend, List.filter_filter]; simp), fun x hx => ?_⟩
    have := hfrom x hx
    rw [hend] at this
    exact (List.mem_filter.1 this).1

theorem stagingTimeout_spec {s : State} (tok : BitVec 16) (hl : s.live = true) : ∃ t, exec (.stagingTimeout tok) s = .next t ∧
    t.stagings.any (fun x => x.token == tok && !x.revoked) = false ∧
    t.stagings.filter (fun x => x.token != tok) = s.stagings.filter (fun x => x.token != tok) ∧
    t = { s with stagings := t.stagings, pages := t.pages } := by
  have hmarked : ∀ g ∈ (s.stagings.filter (fun t => t.token == tok)).filter (·.checked), g.token = tok := fun g hg =>
    beq_iff_eq.1 (List.mem_filter.1 (List.mem_filter.1 hg).1).2
  obtain ⟨hothers, hfrom⟩ := State.endStagings_others
    { s with stagings := s.stagings.map (fun t => if t.token == tok then { t with revoked := true } else t) } hmarked
  refine ⟨s.revoke (fun t => t.token == tok), congrArg Host.Outcome.next (s.whenLive_of_live _ hl), ?_,
    hothers.trans (filter_token_map_revoked _ _ _ fun x => beq_iff_eq.1), s.revoke_withPages _⟩
  refine List.any_eq_false.2 fun x hx => ?_
  obtain ⟨y, -, rfl⟩ := List.mem_map.1 (hfrom x hx)
  cases hy : y.token == tok with
  | true => simp
  | false => simp [hy]

/-- Settles O19: the writes, the arbiter's commands and those of a staging have their theorems above. -/
theorem bufferRegionsAndGrants : Obligations.BufferRegionsAndGrants := by
  refine ⟨fun s src v hl hp => ⟨?_, ?_, ?_, ?_⟩, fun s b k src g hl => ⟨?_, ?_⟩,
    fun s tok g hl => ⟨fun hfind hg hbad => ⟨fun hvalid => ?_, fun c => ?_⟩, ?_⟩⟩
  · exact bufRegionWrite_windowEnabled v hl hp
  · exact bufRegionWrite_taken v hl hp
  · exact mirrorRateWrite_exceeds v hl hp
  · exact mirrorRateWrite_fits v hl hp
  · exact grantCutoff_spec k hl
  · exact arbCounterClear_spec src hl
  · rw [exec_stagingCheckDone hl hfind hg hbad, if_pos hvalid]
  · exact stagingCheckDone_fails hl hfind hg hbad
  · exact stagingTimeout_spec tok hl

end Sys2Proof.Machine
end

section
/-! A system bushel beyond those of the bushel map (spec/06 R138; spec/07 R158): what the statement on system records leaves open. -/

namespace Sys2Proof.Machine

/-- A bushel number beyond the 8192 of the map: its BMAP entry lies at the place of LDG_SREC_STAT. -/
def strayBushel : Nat := 8221

/-- Past BMAP of the last bushel the array goes on to LDG_SREC_STAT. -/
theorem bmapHead_meets_srecState : Reg.BMAP_HEAD.key strayBushel = Reg.LDG_SREC_STAT_STATE.key 0 := by decide

/-- The reset state with the ledger and the account on, valid time and no media slot on actuator A, where LDG_SYS.BUSHEL is stored as
`strayBushel` and LDG_SREC_STAT.STATE as 4. -/
def straySystemState : State :=
  let s := [(Reg.LDG_CTRL_EN, 1), (Reg.ENG_CTRL_EN, 1), (Reg.ENG_LEND_E, 65535), (Reg.POOL_SLOTS_A, 0)].foldl
    (fun (s : State) (e : Field × Nat) => s.setF e.1 0 e.2) State.reset
  { s with
    time := { s.time with valid := true }
    regs := sput 0 (Reg.LDG_SYS_BUSHEL.key 0) (BitVec.ofNat 32 strayBushel) (sput 0 (Reg.LDG_SREC_STAT_STATE.key 0) 4 s.regs) }

theorem straySystemState_live : straySystemState.live = true := by decide +kernel

theorem straySystemState_idle : straySystemState.sysBusy = false := by decide +kernel

/-- Before the command the head of `strayBushel` is STATE's 4, so the bushel is actuator B's. -/
theorem straySystemState_act : straySystemState.actOf straySystemState.sysBushel = 1 := by decide +kernel

theorem straySystemState_slots : straySystemState.slotsOk (straySystemState.actOf straySystemState.sysBushel) 1 none = true := by
  rw [straySystemState_act]
  decide +kernel

theorem straySystemState_nextPage : straySystemState.nextPage = some 1536 := by decide +kernel

/-- STATE goes to 1 before the record is formed, and with it the bushel to actuator A, which has no slot: the record waits. -/
theorem straySystemState_formed {t : State} (h : exec (.srecAppend 0x13) straySystemState = .next t) :
    t.getF Reg.LDG_SREC_STAT_FORMED = 0 := by
  have hval : (match exec (.srecAppend 0x13) straySystemState with | .next u => u.getF Reg.LDG_SREC_STAT_FORMED == 0 | _ => false) = true := by
    decide +kernel
  rw [h] at hval
  exact beq_iff_eq.1 hval

/-- Refutes O23: the statement ranges over every value of `State`, and a system bushel stored beyond the map has its head where the
command writes its own STATE. -/
theorem not_systemAndWaitingRecords : ¬ Obligations.SystemAndWaitingRecords := by
  rintro ⟨-, hsystem, -⟩
  obtain ⟨-, -, -, -, happend⟩ := hsystem straySystemState 0x13 0 1536 straySystemState_live
  obtain ⟨t, r, hexec, -, hformed, -⟩ := happend straySystemState_idle (by decide +kernel) (by decide +kernel) (by decide +kernel) rfl
    (by decide +kernel) straySystemState_slots (by decide +kernel) straySystemState_nextPage
  exact absurd (hformed.symm.trans (straySystemState_formed hexec)) (by decide)

end Sys2Proof.Machine
end

section
/-! PROOFS. The resume table and the recovery scan: what APPLY, SCAN and the end of the scan change and leave (spec/06 R139 to R141;
spec/18 R371 to R374). -/

namespace Sys2Proof.Machine

/-! ### Interrupt causes are all that the account and the media change of a tenant (R91) -/

/-- The tenants, their interrupt causes left out. -/
def State.tenBar (s : State) : Nat → Tenant := fun k => { s.ten k with cause := 0 }

section
variable {s t : State} (h : t.tenBar = s.tenBar) (k : Nat)
include h

theorem State.sess_of_tenBar : (t.ten k).sess = (s.ten k).sess :=
  show (t.tenBar k).sess = (s.tenBar k).sess by rw [h]
theorem State.key_of_tenBar : (t.ten k).key = (s.ten k).key :=
  show (t.tenBar k).key = (s.tenBar k).key by rw [h]
theorem State.keySet_of_tenBar : (t.ten k).keySet = (s.ten k).keySet :=
  show (t.tenBar k).keySet = (s.tenBar k).keySet by rw [h]
theorem State.share_of_tenBar : (t.ten k).share = (s.ten k).share :=
  show (t.tenBar k).share = (s.tenBar k).share by rw [h]

end

theorem State.tenBar_congr {s t : State} (h : t.tenants = s.tenants) : t.tenBar = s.tenBar := by
  funext k
  simp only [State.tenBar, State.ten, h]

section
variable (s : State)

theorem State.cause_tenBar (t bit : Nat) : (s.cause t bit).tenBar = s.tenBar := by
  funext k
  by_cases hk : k = t
  · rw [hk, State.tenBar, State.cause, State.ten_setTen_self]
    rfl
  · simp only [State.tenBar, State.cause, State.ten_setTen_ne _ _ _ _ hk]

theorem State.causeWriter_tenBar (n bit : Nat) : (s.causeWriter n bit).tenBar = s.tenBar := by
  unfold State.causeWriter
  split
  · exact s.cause_tenBar _ _
  · rfl

theorem State.causeOpen_tenBar (bit : Nat) : (s.causeOpen bit).tenBar = s.tenBar :=
  State.foldl_kept State.tenBar _ (fun u _ => State.ite_kept State.tenBar (u.cause_tenBar _ _)) _ _

theorem State.emcy_tenBar (code : Nat) (b : Byte) (d : Nat) : (s.emcy code b d).tenBar = s.tenBar := rfl

theorem State.event_tenBar (code u a d : Nat) : (s.event code u a d).tenBar = s.tenBar :=
  State.tenBar_congr (s.event_tenants _ _ _ _)

theorem State.checkEnergy_tenBar : s.checkEnergy.tenBar = s.tenBar := by
  unfold State.checkEnergy
  split
  · rw [State.emcy_tenBar, State.causeOpen_tenBar, State.event_tenBar]
    rfl
  · rfl

theorem State.shedding_tenBar (f : State → State) (h : (f s).tenBar = s.tenBar) : (s.shedding f).tenBar = s.tenBar :=
  (State.foldl_kept State.tenBar _ (fun u n => State.ite_kept State.tenBar (u.causeWriter_tenBar n 3)) _ _).trans h

theorem State.each_shedSet_tenBar (g h : State → Nat → Shed) (l : List Nat) : (s.each l (State.shedSet g h)).tenBar = s.tenBar :=
  State.foldl_kept State.tenBar _ (fun u n => by rw [State.shedSet_withShed]; rfl) l s

theorem State.marginSet_tenBar (fs : List Nat) : (s.marginSet fs).tenBar = s.tenBar := by
  unfold State.marginSet
  extract_lets u v
  split
  · exact (State.foldl_kept State.tenBar _ (fun u n => u.causeWriter_tenBar n 3) _ _).trans (State.event_tenBar _ _ _ _ _)
  · rfl

theorem State.refit_tenBar : s.refit.tenBar = s.tenBar := by
  rw [State.refit_eq, State.marginSet_tenBar]
  exact s.each_shedSet_tenBar _ _ _

theorem State.shortfallStart_tenBar : s.shortfallStart.tenBar = s.tenBar := by
  have hentered : s.shortfallEntered.tenBar = s.tenBar := State.event_tenBar _ _ _ _ _
  rw [State.shortfallStart_eq, State.newQuotas_eq, State.each_shedSet_tenBar, State.refit_tenBar, ← hentered]
  exact State.each_shedSet_tenBar _ _ _ _

/-- MEDIA_NOW and what follows its change leave the tenants apart from their causes. -/
theorem State.media_tenBar : s.media.tenBar = s.tenBar := by
  have hset : s.mediaSet.tenBar = s.tenBar := rfl
  rcases s.media_cases with ⟨-, -, h⟩ | ⟨-, -, h⟩ | ⟨-, -, h⟩ | ⟨-, -, h⟩ <;> rw [h]
  · exact (State.shedding_tenBar _ _ (State.shortfallStart_tenBar _)).trans hset
  · exact (State.shedding_tenBar _ _ (State.tenBar_congr (by rw [State.shortfallEnd_withRegs]))).trans hset
  · exact (State.shedding_tenBar _ _ (State.refit_tenBar _)).trans hset
  · exact hset

end

/-! ### The account and the media after a change (R112, R220) -/

section
variable {s t : State} (h : shedFrame s t)
include h

theorem shedFrame.boot : t.boot = s.boot := by rw [h]
theorem shedFrame.time : t.time = s.time := by rw [h]
theorem shedFrame.buf : t.buf = s.buf := by rw [h]
theorem shedFrame.chans : t.chans = s.chans := by rw [h]
theorem shedFrame.bushels : t.bushels = s.bushels := by rw [h]
theorem shedFrame.cmds : t.cmds = s.cmds := by rw [h]

end

section
variable (s : State)

theorem State.checkEnergy_shedFrame : shedFrame s s.checkEnergy := by
  rw [State.checkEnergy_withRegs]
  rfl

/-- The account is checked and MEDIA_NOW recomputed. -/
def State.reckoned (s : State) : State := s.checkEnergy.media

theorem State.reckoned_shedFrame : shedFrame s s.reckoned := s.checkEnergy_shedFrame.trans (State.media_shedFrame _)

theorem State.reckoned_tenBar : s.reckoned.tenBar = s.tenBar := (State.media_tenBar _).trans s.checkEnergy_tenBar

/-- The register fields that the account and the media set. -/
def reckonedFields : List (Field × Nat) := [(Reg.MEDIA_NOW_RATE, 0), (Reg.ARB_STATUS_MARGIN, 0), (Reg.ARB_STATUS_SHORTFALL, 0),
  (Reg.ENG_EVENTS_CLOSE, 0), (Reg.ENG_STATUS_LEND_OK, 0)]

theorem State.reckoned_fieldsKept : fieldsKept s s.reckoned reckonedFields := by
  refine fieldsKept.trans (l' := [(Reg.MEDIA_NOW_RATE, 0), (Reg.ARB_STATUS_MARGIN, 0), (Reg.ARB_STATUS_SHORTFALL, 0)])
    s.checkEnergy_fieldsKept fun f i hne => ?_
  simp only [List.forall_mem_cons] at hne
  obtain ⟨hrate, hmargin, hshort, -⟩ := hne
  exact (State.media_getF_mediaSet _ f i hmargin hshort).trans (State.mediaSet_getF _ f i hrate)

end

/-! ### RESUME_APPLY: the settings of the table (R373) -/

/-- Inside the keys that a splice replaces the table reads as the new entries do. -/
theorem sget_splice_of_mem {α : Type} (d : α) {a n k : Nat} (new l : Sparse α) (ha : a ≤ k) (hk : k < a + n) :
    sget d k (splice a n new l) = sget d k new := by
  rw [splice, sget_append_left, sget_append_of_not_mem]
  · intro e he
    simp only [List.mem_filter, decide_eq_true_eq] at he
    omega
  · intro e he
    simp only [List.mem_filter, decide_eq_true_eq] at he
    omega

/-- The owner key of a tenant as the table gives it. -/
def State.giveKey (s : State) (k : Nat × List Byte) : State := s.setTen k.1 { s.ten k.1 with key := k.2, keySet := true }

/-- A tenant's shares as the table gives them. -/
def State.giveShare (s : State) (k : Nat × Share) : State := s.setTen k.1 { s.ten k.1 with share := k.2 }

/-- Fields, keys, shares and the two numbers of the table stand. -/
def State.resumeSettings (s : State) (r : Resume) : State :=
  let u := r.shares.foldl State.giveShare (r.keys.foldl State.giveKey (s.resumeFields r.fields))
  { u with
    boot := { u.boot with resume := none, checkpoint := r.checkpoint }, time := { u.time with anchorNo := max u.time.anchorNo r.anchor } }

section
variable (s : State) (r : Resume)

/-- Keys and shares lie in the tenants alone. -/
theorem State.giveShares_withTenants (l : List (Nat × Share)) :
    l.foldl State.giveShare s = { s with tenants := (l.foldl State.giveShare s).tenants } :=
  congrArg (fun u : State => { u with tenants := (l.foldl State.giveShare s).tenants })
    (State.foldl_kept (fun u => { u with tenants := [] }) State.giveShare (fun _ _ => rfl) l s)

theorem State.giveKeys_withTenants (l : List (Nat × List Byte)) :
    l.foldl State.giveKey s = { s with tenants := (l.foldl State.giveKey s).tenants } :=
  congrArg (fun u : State => { u with tenants := (l.foldl State.giveKey s).tenants })
    (State.foldl_kept (fun u => { u with tenants := [] }) State.giveKey (fun _ _ => rfl) l s)

theorem State.resumeSettings_eq : s.resumeSettings r = { s with
    regs := splice (32 * 0x40030000) (32 * 0x10000) r.fields s.regs, tenants := (s.resumeSettings r).tenants
    boot := { s.boot with resume := none, checkpoint := r.checkpoint }
    time := { s.time with anchorNo := max s.time.anchorNo r.anchor } } := by
  unfold State.resumeSettings
  rw [State.giveShares_withTenants, State.giveKeys_withTenants]
  rfl

/-- A change of one tenant that leaves what `proj` reads of it leaves what `proj` reads of every tenant. -/
theorem State.ten_setTen_kept {α : Type} (proj : Tenant → α) (k m : Nat) (x : Tenant) (h : proj x = proj (s.ten k)) :
    proj ((s.setTen k x).ten m) = proj (s.ten m) := by
  by_cases hm : m = k
  · rw [hm, State.ten_setTen_self, h]
  · rw [State.ten_setTen_ne _ _ _ _ hm]

theorem State.giveShares_key (l : List (Nat × Share)) (k : Nat) :
    (((l.foldl State.giveShare s).ten k).key, ((l.foldl State.giveShare s).ten k).keySet) = ((s.ten k).key, (s.ten k).keySet) :=
  State.foldl_kept (fun u => ((u.ten k).key, (u.ten k).keySet)) State.giveShare
    (fun u _ => u.ten_setTen_kept (fun x => (x.key, x.keySet)) _ k _ rfl) l s

theorem State.resumeSettings_sess (k : Nat) : ((s.resumeSettings r).ten k).sess = (s.ten k).sess :=
  (State.foldl_kept (fun u => (u.ten k).sess) State.giveShare (fun u _ => u.ten_setTen_kept Tenant.sess _ k _ rfl) _ _).trans
    (State.foldl_kept (fun u => (u.ten k).sess) State.giveKey (fun u _ => u.ten_setTen_kept Tenant.sess _ k _ rfl) _ _)

variable {r}

theorem State.resumeSettings_key {k : Nat} {key : List Byte} (h : r.keys = [(k, key)]) :
    ((s.resumeSettings r).ten k).key = key ∧ ((s.resumeSettings r).ten k).keySet = true := by
  have hgiven := State.giveShares_key (r.keys.foldl State.giveKey (s.resumeFields r.fields)) r.shares k
  rw [h, List.foldl_cons, List.foldl_nil] at hgiven
  simp only [State.giveKey, State.ten_setTen_self, Prod.mk.injEq] at hgiven
  rw [State.resumeSettings, h]
  exact hgiven

theorem State.resumeSettings_share {k : Nat} {share : Share} (h : r.shares = [(k, share)]) :
    ((s.resumeSettings r).ten k).share = share := by
  rw [State.resumeSettings, h]
  exact congrArg Tenant.share (State.ten_setTen_self _ k _)

end

/-! ### RESUME_APPLY: a saved channel is reopened (R373) -/

/-- What a saved channel leaves: registers, tenants, the buffer, time, the table and the checkpoint. -/
def State.resumeView (s : State) : Sparse Word × Sparse Tenant × List Host.Cell × Time × Option Resume × Nat :=
  (s.regs, s.tenants, s.buf, s.time, s.boot.resume, s.boot.checkpoint)

/-- The channel as the table gives it, with the actuator `act` and the credit `k`. -/
def SavedChan.reopened (x : SavedChan) (act : Nat) (k : Option Credit) : Chan :=
  { x.chan with
    resumed := true, savedHead := x.chan.durable, savedChain := x.chan.chain, act := act, credit := k, closing := false
    lost := none, haltCost := 0, spare := none, promised := x.place }

section
variable (s : State) (x : SavedChan)

theorem State.resumeChan_view : (s.resumeChan x).resumeView = s.resumeView := by
  simp only [State.resumeChan]
  rw [State.allocPages_withPages]
  rfl

theorem State.resumeChans_view (l : List SavedChan) : (l.foldl State.resumeChan s).resumeView = s.resumeView :=
  State.foldl_kept State.resumeView State.resumeChan State.resumeChan_view l s

/-- The seal credit that a saved channel takes again. -/
def State.savedCredit (s : State) (x : SavedChan) : Option Credit :=
  (s.allocPages { num := 0, pool := .write, tid := s.writer x.num } 1).2.head?.map (fun p =>
    { page := p, act := s.actOf x.chan.bushel, cost := s.costOf x.chan.bushel, tid := s.writer x.num })

theorem State.resumeChan_chans : (s.resumeChan x).chans =
    (s.setChan x.num (x.reopened (s.actOf x.chan.bushel) (s.savedCredit x))).chans := by
  simp only [State.resumeChan]
  rw [State.allocPages_withPages]
  rfl

theorem State.resumeChan_bushel : ((s.resumeChan x).bushel x.chan.bushel).state = .opened ∧
    ((s.resumeChan x).bushel x.chan.bushel).next = x.place ∧ ((s.resumeChan x).bushel x.chan.bushel).chan = x.num := by
  have hset : ∃ u o, (s.resumeChan x).bushels = (State.setBushel u x.chan.bushel o).bushels ∧ o.state = .opened ∧ o.next = x.place ∧
    o.chan = x.num := ⟨_, _, rfl, rfl, rfl, rfl⟩
  obtain ⟨u, o, hb, ho⟩ := hset
  rw [State.bushel, hb, ← State.bushel, State.bushel_setBushel_self]
  exact ho

theorem State.resumeChan_chan_ne {m : Nat} (h : m ≠ x.num) : (s.resumeChan x).chan m = s.chan m := by
  rw [State.chan, State.resumeChan_chans, ← State.chan, State.chan_setChan_ne _ _ _ _ h]

theorem State.resumeChan_chan_self : (s.resumeChan x).chan x.num = x.reopened (s.actOf x.chan.bushel) (s.savedCredit x) := by
  rw [State.chan, State.resumeChan_chans, ← State.chan, State.chan_setChan_self]

end

/-! ### RESUME_APPLY and RESUME_DISCARD (R372, R373) -/

/-- The table's settings and channels stand. -/
def State.restored (s : State) (r : Resume) : State := r.chans.foldl State.resumeChan (s.resumeSettings r)

/-- The whole table `r` stands, before the account and the media are reckoned anew. -/
def State.resumed (s : State) (r : Resume) : State := (s.restored r).raise Reg.RES_STATUS_APPLIED

section
variable {s : State} {src : Nat} {r : Resume} (hl : s.live = true)

section
include hl

theorem exec_resumeApply_denied (h : machineMode src = false) :
    exec (.resumeApply src) s = .next (s.denied src (regDetail 0x40000244)) := by
  rw [show exec (.resumeApply src) s = execResumeApply src s from rfl, execResumeApply, State.whenLive_of_live _ _ hl, h]
  rfl

theorem exec_resumeDiscard_denied (h : machineMode src = false) :
    exec (.resumeDiscard src) s = .next (s.denied src (regDetail 0x40000244)) := by
  rw [show exec (.resumeDiscard src) s = execResumeDiscard src s from rfl, execResumeDiscard, State.whenLive_of_live _ _ hl, h]
  rfl

theorem exec_resumeDiscard_live (h : machineMode src = true) :
    exec (.resumeDiscard src) s = .next { s with boot := { s.boot with resume := none } } := by
  rw [show exec (.resumeDiscard src) s = execResumeDiscard src s from rfl, execResumeDiscard, State.whenLive_of_live _ _ hl, if_pos h]

theorem exec_resumeApply_none (h : machineMode src = true) (hr : s.boot.resume = none) : exec (.resumeApply src) s = .next s := by
  rw [show exec (.resumeApply src) s = execResumeApply src s from rfl, execResumeApply, State.whenLive_of_live _ _ hl, h]
  simp [hr]

theorem exec_resumeApply_some (h : machineMode src = true) (hr : s.boot.resume = some r) :
    exec (.resumeApply src) s = .next (s.resumed r).reckoned := by
  rw [show exec (.resumeApply src) s = execResumeApply src s from rfl, execResumeApply, State.whenLive_of_live _ _ hl, h]
  simp only [hr]
  rfl

end

section
variable (s r)

theorem State.resumeSettings_view : (s.resumeSettings r).resumeView =
    (splice (32 * 0x40030000) (32 * 0x10000) r.fields s.regs, (s.resumeSettings r).tenants, s.buf,
      { s.time with anchorNo := max s.time.anchorNo r.anchor }, none, r.checkpoint) := by
  rw [State.resumeSettings_eq]
  rfl

theorem State.restored_view : (s.restored r).resumeView = (s.resumeSettings r).resumeView := State.resumeChans_view _ _

theorem State.restored_regs : (s.restored r).regs = splice (32 * 0x40030000) (32 * 0x10000) r.fields s.regs :=
  congrArg Prod.fst ((s.restored_view r).trans (s.resumeSettings_view r))

theorem State.resumed_getF (f : Field) (i : Nat) (h : f.key i ≠ Reg.RES_STATUS_APPLIED.key 0) :
    (s.resumed r).getF f i = (sget (f.reset i) (f.key i) (splice (32 * 0x40030000) (32 * 0x10000) r.fields s.regs)).toNat := by
  rw [State.resumed, State.getF_raise_ne _ _ _ _ _ h, State.getF, State.restored_regs]

theorem State.resumed_tenBar : (s.resumed r).tenBar = (s.resumeSettings r).tenBar :=
  State.tenBar_congr (congrArg (fun v => v.2.1) (s.restored_view r))

end

/-- CHAN_RIGHTS of a channel lies in the TENANT block. -/
theorem chanRightsWriter_key {n : Nat} (h : n < 64) : 32 * 0x40030000 ≤ Reg.CHAN_RIGHTS_WRITER.key n ∧
    Reg.CHAN_RIGHTS_WRITER.key n < 32 * 0x40030000 + 32 * 0x10000 := by
  decide +revert

/-- CHAN_RIGHTS_WRITER reads as the table gives it. -/
theorem State.resumed_writer {n : Nat} (h : n < 64) : (s.resumed r).reckoned.getF Reg.CHAN_RIGHTS_WRITER n =
    (sget (Reg.CHAN_RIGHTS_WRITER.reset n) (Reg.CHAN_RIGHTS_WRITER.key n) r.fields).toNat := by
  obtain ⟨hlow, hhigh⟩ := chanRightsWriter_key h
  have happart : ∀ e ∈ (Reg.RES_STATUS_APPLIED, 0) :: reckonedFields,
      e.1.key e.2 < 32 * 0x40030000 ∨ 32 * 0x40030000 + 32 * 0x10000 ≤ e.1.key e.2 := by decide
  have hne : ∀ e ∈ (Reg.RES_STATUS_APPLIED, 0) :: reckonedFields, Reg.CHAN_RIGHTS_WRITER.key n ≠ e.1.key e.2 := fun e he => by
    have := happart e he
    omega
  rw [State.reckoned_fieldsKept _ _ _ fun e he => hne e (List.mem_cons_of_mem _ he),
    State.resumed_getF _ _ _ _ (hne _ List.mem_cons_self), sget_splice_of_mem _ _ _ hlow hhigh]

/-- The settings of the table after APPLY. -/
theorem State.resumed_settings : (s.resumed r).reckoned.boot.resume = none ∧
    (s.resumed r).reckoned.getF Reg.RES_STATUS_APPLIED = 1 ∧ (s.resumed r).reckoned.boot.checkpoint = r.checkpoint ∧
    (s.resumed r).reckoned.time.anchorNo = max s.time.anchorNo r.anchor ∧ (s.resumed r).reckoned.time.dmt = s.time.dmt ∧
    (s.resumed r).reckoned.buf = s.buf := by
  have hview := (s.restored_view r).trans (s.resumeSettings_view r)
  simp only [State.resumeView, Prod.mk.injEq] at hview
  obtain ⟨-, -, hbuf, htime, hresume, hcheck⟩ := hview
  have hframe := (s.resumed r).reckoned_shedFrame
  have htime' : (s.resumed r).reckoned.time = { s.time with anchorNo := max s.time.anchorNo r.anchor } :=
    hframe.time.trans htime
  have hboot : (s.resumed r).reckoned.boot = (s.restored r).boot := hframe.boot
  refine ⟨by rw [hboot, hresume], ?_, by rw [hboot, hcheck], by rw [htime'], by rw [htime'], hframe.buf.trans hbuf⟩
  rw [State.reckoned_fieldsKept _ _ _ (by decide)]
  exact State.getF_raise_self _ _ _ (by decide) (by decide)

/-- Keys, shares and sessions after APPLY. -/
theorem State.resumed_tenants : (s.resumed r).reckoned.tenBar = (s.resumeSettings r).tenBar :=
  (State.reckoned_tenBar _).trans (s.resumed_tenBar r)

theorem State.resumed_key {k : Nat} {key : List Byte} (h : r.keys = [(k, key)]) :
    ((s.resumed r).reckoned.ten k).key = key ∧ ((s.resumed r).reckoned.ten k).keySet = true := by
  rw [State.key_of_tenBar State.resumed_tenants, State.keySet_of_tenBar State.resumed_tenants]
  exact s.resumeSettings_key h

theorem State.resumed_share {k : Nat} {share : Share} (h : r.shares = [(k, share)]) :
    ((s.resumed r).reckoned.ten k).share = share :=
  (State.share_of_tenBar State.resumed_tenants k).trans (s.resumeSettings_share h)

theorem State.resumed_sess (k : Nat) : ((s.resumed r).reckoned.ten k).sess = (s.ten k).sess :=
  (State.sess_of_tenBar State.resumed_tenants k).trans (s.resumeSettings_sess r k)

theorem State.resumed_reckoned_chans : (s.resumed r).reckoned.chans = (s.restored r).chans :=
  (s.resumed r).reckoned_shedFrame.chans

theorem State.resumed_chans_nil (h : r.chans = []) : (s.resumed r).reckoned.chans = s.chans := by
  rw [State.resumed_reckoned_chans, State.restored, h, List.foldl_nil, State.resumeSettings_eq]

theorem State.resumed_chan (n : Nat) : (s.resumed r).reckoned.chan n = (s.restored r).chan n := by
  rw [State.chan, State.resumed_reckoned_chans, State.chan]

theorem State.resumed_bushel (b : Nat) : (s.resumed r).reckoned.bushel b = (s.restored r).bushel b := by
  rw [State.bushel, (s.resumed r).reckoned_shedFrame.bushels]
  rfl

/-- The one channel that the table saves stands as the table gives it, and every other one as it was. -/
theorem State.resumed_chans_single {x : SavedChan} (h : r.chans = [x]) :
    (∃ act k, (s.resumed r).reckoned.chan x.num = x.reopened act k) ∧
    (((s.resumed r).reckoned.bushel x.chan.bushel).state = .opened ∧
      ((s.resumed r).reckoned.bushel x.chan.bushel).next = x.place ∧
      ((s.resumed r).reckoned.bushel x.chan.bushel).chan = x.num) ∧
    ∀ m, m ≠ x.num → (s.resumed r).reckoned.chan m = s.chan m := by
  have hrestored : s.restored r = (s.resumeSettings r).resumeChan x := by rw [State.restored, h, List.foldl_cons, List.foldl_nil]
  simp only [State.resumed_chan, State.resumed_bushel, hrestored]
  refine ⟨⟨_, _, State.resumeChan_chan_self _ x⟩, State.resumeChan_bushel _ x, fun m hm => ?_⟩
  rw [State.resumeChan_chan_ne _ _ hm, State.resumeSettings_eq]
  rfl

end

/-! ### SCAN_START (R132, R136, R371) -/

/-- A bushel that the checkpoint lists as OPEN. -/
def State.openListed (s : State) (e : Nat × Word × Nat × BitVec 16 × Bool) : State :=
  s.setBushel e.1 { s.bushel e.1 with
    state := .opened, gen := e.2.1, chan := e.2.2.1, opening := e.2.2.2.1, intake := e.2.2.2.2 }

section
variable {s : State}

/-- SCAN is refused without ledger, tables or valid time, after a scan and during one. -/
theorem State.scanRefused_iff : s.scanRefused = true ↔ s.getF Reg.LDG_CTRL_EN = 0 ∨ s.getF Reg.TABLE_STATUS_OK = 0 ∨
    s.time.valid = false ∨ s.boot.scanDone = true ∨ s.boot.scan.isSome = true := by
  simp [State.scanRefused, State.flag, or_assoc]

theorem exec_scanStart_refused {src ck : Nat} {dir : List DirEntry} (hl : s.live = true) (h : s.scanRefused = true) :
    exec (.scanStart src ck dir) s = .next (s.raise Reg.STARTUP_SCAN_REJECT) := by
  rw [show exec (.scanStart src ck dir) s = execScanStart src ck dir s from rfl, execScanStart, State.whenLive_of_live _ _ hl,
    if_pos h]

/-- An accepted SCAN opens what the checkpoint lists and takes its other entries. -/
def State.scanning (s : State) (ck : Nat) (dir : List DirEntry) : State :=
  let u := (dir.filter (·.state != 1)).foldl State.fromDirectory ((listedOpen dir).foldl State.openListed s)
  { u with boot := { u.boot with scan := some { listed := listedOpen dir }, checkpoint := ck } }

theorem exec_scanStart_accepted {src ck : Nat} {dir : List DirEntry} (hl : s.live = true) (h : ¬s.scanRefused = true) :
    exec (.scanStart src ck dir) s = .next (s.scanning ck dir) := by
  rw [show exec (.scanStart src ck dir) s = execScanStart src ck dir s from rfl, execScanStart, State.whenLive_of_live _ _ hl,
    if_neg h]
  rfl

theorem State.openListed_bushel_self (e : Nat × Word × Nat × BitVec 16 × Bool) : (s.openListed e).bushel e.1 = { s.bushel e.1 with
    state := .opened, gen := e.2.1, chan := e.2.2.1, opening := e.2.2.2.1, intake := e.2.2.2.2 } :=
  s.bushel_setBushel_self _ _

theorem State.openListed_bushel_ne {e : Nat × Word × Nat × BitVec 16 × Bool} {c : Nat} (h : c ≠ e.1) :
    (s.openListed e).bushel c = s.bushel c := s.bushel_setBushel_ne _ _ _ h

/-- An entry of a bushel that is not open gives its bushel. -/
theorem State.fromDirectory_bushel {e : DirEntry} (h : (s.bushel e.bushel).state ≠ .opened) :
    (s.fromDirectory e).bushel e.bushel = { s.bushel e.bushel with
      state := dirState e.state, gen := e.gen, chan := e.chan, intake := e.intake, opening := e.opening, lastSeq := e.lastSeq } := by
  rw [State.fromDirectory, if_neg (by simpa using h)]
  extract_lets x u c next
  have hu : u.bushel e.bushel = _ := State.bushel_setBushel_self _ _ _
  split
  · exact hu
  · exact hu

/-- An entry of a closed bushel of a channel never opened gives the channel's next opening. -/
theorem State.fromDirectory_nextOpening {e : DirEntry} (h : (s.bushel e.bushel).state ≠ .opened) (hst : e.state = 2)
    (hin : e.intake = false) (hopen : (s.chan e.chan).isOpen = false) (hnext : (s.chan e.chan).nextOpening = 0) :
    ((s.fromDirectory e).chan e.chan).nextOpening = e.opening + 1 := by
  rw [State.fromDirectory, if_neg (by simpa using h)]
  extract_lets x u c next
  have hc : c = s.chan e.chan := rfl
  rw [if_pos (by simp [hst, hin, hc, hopen, hnext]), State.chan_setChan_self]

end

section
variable (s : State) (ck b g n o : Nat)

/-- The entry of the bushel `b` that the checkpoint lists as OPEN to channel `n`. -/
def openEntry (b g n o : Nat) : DirEntry := { bushel := b, gen := BitVec.ofNat 32 g, state := 1, chan := n, opening := BitVec.ofNat 16 o }

/-- The bushel that `openEntry` lists stands open to its channel. -/
def State.listedOpened (s : State) (b g n o : Nat) : State :=
  s.openListed (b, BitVec.ofNat 32 g, n, BitVec.ofNat 16 o, false)

theorem State.scanning_open : s.scanning ck [openEntry b g n o] =
    { s.listedOpened b g n o with boot := { s.boot with
      scan := some { listed := [(b, BitVec.ofNat 32 g, n, BitVec.ofNat 16 o, false)] }, checkpoint := ck } } := rfl

theorem State.scanning_open_cons {e : DirEntry} (h : e.state ≠ 1) : s.scanning ck [openEntry b g n o, e] =
    { (s.listedOpened b g n o).fromDirectory e with boot := { ((s.listedOpened b g n o).fromDirectory e).boot with
      scan := some { listed := [(b, BitVec.ofNat 32 g, n, BitVec.ofNat 16 o, false)] }, checkpoint := ck } } := by
  have hopen : [openEntry b g n o, e].filter (·.state == 1) = [openEntry b g n o] := by simp [openEntry, h]
  have hrest : [openEntry b g n o, e].filter (·.state != 1) = [e] := by simp [openEntry, h]
  rw [State.scanning, listedOpen, hopen, hrest]
  rfl

end

section
variable {s : State} {src ck b g n o : Nat} (hl : s.live = true)
include hl

theorem scanStart_refused {dir : List DirEntry} (h : s.scanRefused = true) : ∃ t, exec (.scanStart src ck dir) s = .next t ∧
    t.getF Reg.STARTUP_SCAN_REJECT = 1 ∧ onlyFields s t [(Reg.STARTUP_SCAN_REJECT, 0)] :=
  ⟨_, exec_scanStart_refused hl h, State.getF_raise_self _ _ _ (by decide) (by decide), s.setF_onlyFields _ _ _⟩

theorem scanStart_entry {e : DirEntry} (h : ¬s.scanRefused = true) (hst : e.state ≠ 1) (hb : e.bushel ≠ b)
    (hclosed : (s.bushel e.bushel).state ≠ .opened) : ∃ t, exec (.scanStart src ck [openEntry b g n o, e]) s = .next t ∧
      (t.bushel e.bushel).gen = e.gen ∧ (e.state = 2 → (t.bushel e.bushel).state = .closed) ∧
      (e.state = 2 → e.intake = false → (s.chan e.chan).isOpen = false → (s.chan e.chan).nextOpening = 0 →
        (t.chan e.chan).nextOpening = e.opening + 1) := by
  have hkept : (s.listedOpened b g n o).bushel e.bushel = s.bushel e.bushel := State.openListed_bushel_ne hb
  have hbushel := State.fromDirectory_bushel (hkept ▸ hclosed)
  refine ⟨_, exec_scanStart_accepted hl h, ?_⟩
  rw [State.scanning_open_cons _ _ _ _ _ _ hst]
  refine ⟨congrArg Bushel.gen hbushel, fun h2 => (congrArg Bushel.state hbushel).trans (by rw [h2]; rfl), ?_⟩
  exact State.fromDirectory_nextOpening (hkept ▸ hclosed)

theorem scanStart_open (h : ¬s.scanRefused = true) : ∃ t, exec (.scanStart src ck [openEntry b g n o]) s = .next t ∧
    t.boot.scan.isSome = true ∧ t.boot.checkpoint = ck ∧ (t.bushel b).state = .opened ∧ (t.bushel b).gen = BitVec.ofNat 32 g ∧
    (t.bushel b).chan = n ∧ (∀ c, c ≠ b → t.bushel c = s.bushel c) ∧ t = { s with boot := t.boot, bushels := t.bushels } := by
  have hself : (s.listedOpened b g n o).bushel b = _ := State.openListed_bushel_self _
  refine ⟨_, exec_scanStart_accepted hl h, ?_⟩
  rw [State.scanning_open]
  exact ⟨rfl, rfl, congrArg Bushel.state hself, congrArg Bushel.gen hself, congrArg Bushel.chan hself,
    fun c hc => State.openListed_bushel_ne hc, rfl⟩

end

/-! ### What the operations of the scan leave of channels and commands (R139, R289) -/

/-- The channels and the commands. -/
def State.chanCmds (s : State) : Sparse Chan × List Cmd := (s.chans, s.cmds)

theorem State.cmds_of_chanCmds {s t : State} (h : t.chanCmds = s.chanCmds) : t.cmds = s.cmds := congrArg Prod.snd h

theorem State.chan_of_chanCmds {s t : State} (h : t.chanCmds = s.chanCmds) (n : Nat) : t.chan n = s.chan n := by
  have hc : t.chans = s.chans := congrArg Prod.fst h
  rw [State.chan, hc, State.chan]

section
variable (s : State)

theorem State.raise_chanCmds (f : Field) (i : Nat) : (s.raise f i).chanCmds = s.chanCmds := rfl

theorem State.intakeEvent_chanCmds (e : Event) : (s.intakeEvent e).chanCmds = s.chanCmds := by simp [State.chanCmds]

theorem State.event_chanCmds (code u a d : Nat) : (s.event code u a d).chanCmds = s.chanCmds := by simp [State.chanCmds]

theorem State.addAnchor_chanCmds (a : Anchor) : (s.addAnchor a).chanCmds = s.chanCmds := by
  unfold State.addAnchor
  extract_lets _ t
  split <;> rfl

theorem State.timeRoll_chanCmds (d : Dmt) (e : Epoch) : (s.timeRoll d e).chanCmds = s.chanCmds := s.intakeEvent_chanCmds _

theorem State.dmtWrap_chanCmds (v : Dmt) : (s.dmtWrap v).chanCmds = s.chanCmds := by
  unfold State.dmtWrap
  extract_lets old new u w x
  split
  · exact (State.addAnchor_chanCmds _ _).trans (State.timeRoll_chanCmds _ _ _)
  · exact State.ite_kept State.chanCmds (State.timeRoll_chanCmds _ _ _)

theorem State.storeAnchor_chanCmds (a : Anchor) : (s.storeAnchor a).chanCmds = s.chanCmds := by
  unfold State.storeAnchor
  extract_lets newer l
  split <;> rfl

/-- A record read moves time alone. -/
theorem State.observe_chanCmds (hdr body : List Byte) : (s.observe hdr body).chanCmds = s.chanCmds := by
  unfold State.observe
  extract_lets u d
  have hu : u.chanCmds = s.chanCmds := by
    dsimp only [u]
    split
    · exact Eq.trans (State.ite_kept State.chanCmds rfl) (State.ite_kept State.chanCmds (s.storeAnchor_chanCmds _))
    · rfl
  refine Eq.trans (State.ite_kept State.chanCmds ?_) hu
  split
  · exact u.dmtWrap_chanCmds _
  · rfl

theorem State.observeAll_chanCmds (l : List Found) : (s.observeAll l).chanCmds = s.chanCmds := by
  have hstep : ∀ (u : State) (f : Found), (u.observe f.hdr f.body).chanCmds = u.chanCmds := fun u f => u.observe_chanCmds _ _
  rw [State.observeAll]
  exact State.foldl_kept State.chanCmds _ hstep l s

theorem State.orphanEvent_chanCmds (n : Nat) (o : BitVec 16) (d : Nat) : (s.orphanEvent n o d).chanCmds = s.chanCmds := by
  rw [State.orphanEvent, State.event_chanCmds]

theorem State.report_chanCmds (n : Nat) (o : BitVec 16) (r : ScanRes) : (s.report n o r).chanCmds = s.chanCmds := by
  unfold State.report
  extract_lets u v
  have hu : u.chanCmds = s.chanCmds := by
    dsimp only [u]
    split
    · rw [State.raise_chanCmds, State.event_chanCmds]
    · rfl
  have hv : v.chanCmds = u.chanCmds := by
    dsimp only [v]
    split
    · rw [State.orphanEvent_chanCmds]
    · rfl
  split
  · rw [State.orphanEvent_chanCmds, hv, hu]
  · rw [hv, hu]

theorem State.closeBushel_chanCmds (b : Nat) : (s.closeBushel b).chanCmds = s.chanCmds := State.ite_kept State.chanCmds rfl

theorem State.runBushel_chanCmds (n : Nat) (i : Bool) (first : Nat) (o : BitVec 16) (r : ScanRes) :
    (s.runBushel n i first o r).chanCmds = s.chanCmds := by
  unfold State.runBushel
  split
  · rfl
  · exact s.closeBushel_chanCmds first

theorem State.scanCredit_chanCmds (b : Nat) (tid : Option Nat) : (s.scanCredit b tid).1.chanCmds = s.chanCmds := by
  have halloc : (s.allocPages { num := 0, pool := .write, tid := tid } 1).1.chanCmds = s.chanCmds := by
    rw [State.allocPages_withPages]
    rfl
  unfold State.scanCredit
  split
  next u p heq => rwa [heq] at halloc
  next u l _ heq => rwa [heq] at halloc

theorem State.sealFacts_chanCmds (r : Run) : (s.sealFacts r).1.chanCmds = s.chanCmds := by
  unfold State.sealFacts
  split <;> rfl

theorem State.queueOvr_chanCmds (f : OvrFrame) : (s.queueOvr f).chanCmds = s.chanCmds := by
  by_cases hty : f.ty = 3 <;> cases hpage : f.page <;> simp only [State.queueOvr, hty, hpage, if_true, if_false] <;> split <;> rfl

theorem State.mirrorRec_chanCmds (n ty : Nat) (seq : Word) (bytes : List Byte) :
    (s.mirrorRec n ty seq bytes).chanCmds = s.chanCmds := by
  simp only [State.mirrorRec]
  split
  · split
    · split
      · rfl
      · exact State.queueOvr_chanCmds _ _
    · rfl
  · rfl

end

/-! ### A run that verifies gives its channel its heads (R139, R140) -/

/-- What the scan gives a channel and a recovery seal leaves as it is. -/
def Chan.heads (c : Chan) : Bool × Bool × Word × Nat × BitVec 16 × Word × Nat :=
  (c.isOpen, c.halted, c.durable, c.frameMax, c.opening, c.firstSeq, c.bushel)

/-- The heads of channel `n`, the other channels and the commands stand as they were. -/
def headsKept (n : Nat) (s t : State) : Prop :=
  (t.chan n).heads = (s.chan n).heads ∧ (∀ m, m ≠ n → t.chan m = s.chan m) ∧ t.cmds = s.cmds

theorem headsKept.refl (n : Nat) (s : State) : headsKept n s s := ⟨rfl, fun _ _ => rfl, rfl⟩

theorem headsKept.of_chanCmds {n : Nat} {s t u : State} (h : headsKept n s t) (hu : u.chanCmds = t.chanCmds) : headsKept n s u := by
  obtain ⟨hself, hne, hcmds⟩ := h
  exact ⟨by rw [State.chan_of_chanCmds hu, hself], fun m hm => by rw [State.chan_of_chanCmds hu, hne m hm],
    (State.cmds_of_chanCmds hu).trans hcmds⟩

theorem headsKept.trans {n : Nat} {s t u : State} (h : headsKept n s t) (h' : headsKept n t u) : headsKept n s u := by
  obtain ⟨hself, hne, hcmds⟩ := h
  obtain ⟨hself', hne', hcmds'⟩ := h'
  exact ⟨hself'.trans hself, fun m hm => (hne' m hm).trans (hne m hm), hcmds'.trans hcmds⟩

theorem State.setChan_chanCmds_congr {s t : State} (h : t.chanCmds = s.chanCmds) (n : Nat) (c : Chan) :
    (t.setChan n c).chanCmds = (s.setChan n c).chanCmds := by
  simp only [State.chanCmds, Prod.mk.injEq] at h
  simp only [State.chanCmds, State.setChan, h]

section
variable (s : State)

theorem State.layPage_chanCmds (p : Nat) : (s.layPage p).chanCmds = s.chanCmds := by
  rw [State.layPage_withBuf]
  rfl

theorem State.queueRec_chanCmds (r : Rec) : (s.queueRec r).chanCmds = s.chanCmds := rfl

theorem State.setChan_headsKept (n : Nat) (c : Chan) (h : c.heads = (s.chan n).heads) : headsKept n s (s.setChan n c) :=
  ⟨by rw [State.chan_setChan_self, h], fun _ hm => s.chan_setChan_ne _ _ _ hm, rfl⟩

theorem State.formSeal_headsKept (n reason : Nat) (acc : Account) (cost next : Nat) :
    headsKept n s (s.formSeal n reason acc cost next) := by
  unfold State.formSeal
  dsimp only
  split
  · exact headsKept.refl n s
  · refine (s.setChan_headsKept n _ ?_).of_chanCmds
      ((State.mirrorRec_chanCmds _ _ _ _ _).trans ((State.layPage_chanCmds _ _).trans (State.queueRec_chanCmds _ _)))
    rfl

theorem State.recoverySeal_headsKept (n : Nat) : headsKept n s (s.recoverySeal n) := by
  unfold State.recoverySeal
  split
  · exact s.formSeal_headsKept n _ _ _ _
  · exact headsKept.refl n s

/-- The run of `r` is reported and its bushel and channel stand as it leaves them. -/
theorem State.reopen_scanned {n first : Nat} {r : ScanRes} (hbad : r.run.bad = false) (hrolled : r.rolled = false)
    (hlost : r.lostNext = none) : ∃ act ordinal mirrored credit,
      headsKept n (s.setChan n ((s.chan n).scanned r act ordinal mirrored credit)) (s.reopen n first r) := by
  unfold State.reopen
  extract_lets opening u stays t f c v boot w own y sealed
  have hu : u.chanCmds = s.chanCmds := (State.runBushel_chanCmds _ _ _ _ _ _).trans (s.report_chanCmds _ _ _)
  have ht : t.1.chanCmds = u.chanCmds := by
    dsimp only [t]
    split
    · rfl
    · exact u.scanCredit_chanCmds _ _
  have hf : f.1.chanCmds = s.chanCmds := (State.sealFacts_chanCmds _ _).trans (ht.trans hu)
  have hc : c = (s.chan n).scanned r (f.1.actOf r.bushel) f.2.1 f.2.2 t.2 := by
    rw [← State.chan_of_chanCmds hf]
  have hown : own.chanCmds = (s.setChan n c).chanCmds := State.setChan_chanCmds_congr hf n c
  have hy : y.chanCmds = (s.setChan n c).chanCmds := by
    dsimp only [y]
    rw [hbad]
    exact hown
  refine ⟨f.1.actOf r.bushel, f.2.1, f.2.2, t.2, ?_⟩
  rw [← hc]
  have hbase := (headsKept.refl n (s.setChan n c)).of_chanCmds hy
  split
  · exact hbase
  · rw [if_neg (by simp [hrolled, hlost])]
    dsimp only [sealed]
    split
    · exact hbase.trans (y.recoverySeal_headsKept n)
    · exact hbase

end

/-! ### Commands that complete leave what start-up holds (R65, R129) -/

section
variable (s : State)

theorem State.postEntry_boot (sq cq : Nat) (e : Completion) (head : Nat) (replay : Bool) :
    (s.postEntry sq cq e head replay).boot = s.boot := by
  unfold State.postEntry
  extract_lets tail x u next old v
  have hu : u.boot = s.boot := by
    dsimp only [u]
    split
    · rw [State.bufWrite_withBuf]
    · rfl
  have hv : v.boot = s.boot := hu
  split
  · rw [State.cqPending_withRegs]
    exact hv
  · exact hv

theorem State.post_boot (c : Cmd) (code : Nat) (res0 res1 : Word) (fwd : Bool) : (s.post c code res0 res1 fwd).boot = s.boot := by
  unfold State.post
  extract_lets e u
  rw [State.postEntry_boot, State.keepReplay_withQueues]

theorem State.noteAlways_boot (b : List Byte) : (s.noteAlways b).boot = s.boot := State.ite_kept State.boot rfl

theorem State.closeBushel_boot (b : Nat) : (s.closeBushel b).boot = s.boot := State.ite_kept State.boot rfl

theorem State.closeDone_boot (n : Nat) : (s.closeDone n).boot = s.boot := by
  unfold State.closeDone
  extract_lets c u v w x y
  have hv : v.boot = s.boot := by
    dsimp only [v]
    split
    · exact s.noteAlways_boot _
    · exact s.noteAlways_boot _
  rw [State.revoke_withPages]
  exact (v.closeBushel_boot c.bushel).trans hv

theorem State.settleCmd_boot (c : Cmd) : (s.settleCmd c).boot = s.boot := by
  unfold State.settleCmd
  dsimp only
  split
  · split
    · exact State.ite_kept State.boot (s.post_boot _ _ _ _ _)
    · rfl
  · split
    · refine State.ite_kept State.boot ?_
      rw [State.post_boot, State.closeDone_boot]
    · rfl
  · exact State.ite_kept State.boot (s.post_boot _ _ _ _ _)
  · refine State.ite_kept State.boot ?_
    rw [State.post_boot]
    rfl
  · rfl

theorem State.settleCmds_boot : s.settleCmds.boot = s.boot :=
  State.foldl_kept State.boot State.settleCmd State.settleCmd_boot _ _

end

/-! ### SCAN_COMPLETE (R139 to R141, R374) -/

/-- The scan has ended: the account is checked and commands that waited complete. -/
def State.scanEnded (s : State) : State :=
  (State.checkEnergy { s with boot := { s.boot with scan := none, scanDone := true } }).settleCmds

theorem State.checkEnergy_of_shut {s : State} (h : s.lendOk = false) : s.checkEnergy = s := by simp [State.checkEnergy, h]

theorem chanNums_filter_eq {n : Nat} (h : n < 64) : chanNums.filter (fun m => decide (m = n)) = [n] := by
  decide +revert

section
variable (s : State)

theorem State.scanEnded_boot : s.scanEnded.boot = { s.boot with scan := none, scanDone := true } := by
  rw [State.scanEnded, State.settleCmds_boot, (State.checkEnergy_shedFrame _).boot]

variable {s}

theorem State.scanEnded_idle (h : s.cmds = []) :
    s.scanEnded = State.checkEnergy { s with boot := { s.boot with scan := none, scanDone := true } } := by
  refine State.settleCmds_of_idle _ ?_
  rw [(State.checkEnergy_shedFrame _).cmds, h, List.filter_nil]

theorem State.scanEnded_chans (h : s.cmds = []) : s.scanEnded.chans = s.chans := by
  rw [State.scanEnded_idle h, (State.checkEnergy_shedFrame _).chans]

theorem State.scanEnded_chan (h : s.cmds = []) (n : Nat) : s.scanEnded.chan n = s.chan n := by
  rw [State.chan, State.scanEnded_chans h, State.chan]

theorem State.scanEnded_bushel (h : s.cmds = []) (b : Nat) : s.scanEnded.bushel b = s.bushel b := by
  rw [State.bushel, State.scanEnded_idle h, (State.checkEnergy_shedFrame _).bushels]
  rfl

/-- With LEND_OK at 0 the check of the account records nothing. -/
theorem State.scanEnded_evr (h : s.cmds = []) (hlend : s.getF Reg.ENG_STATUS_LEND_OK = 0) : s.scanEnded.evr = s.evr := by
  have hshut : s.lendOk = false := by simp [State.lendOk, State.flag, hlend]
  rw [State.scanEnded_idle h, State.checkEnergy_of_shut]
  exact hshut

end

section
variable {s : State} {media : Media} {b g n o : Nat} (hl : s.live = true)
include hl

theorem exec_scanComplete_none (h : s.boot.scan = none) : exec (.scanComplete media) s = .next s := by
  rw [show exec (.scanComplete media) s = execScanComplete media s from rfl, execScanComplete, State.whenLive_of_live _ _ hl, h]

/-- With no channel resumed the one listed bushel is scanned. -/
theorem exec_scanComplete_listed {e : Nat × Word × Nat × BitVec 16 × Bool} (h : s.boot.scan = some { listed := [e] })
    (hres : ∀ m < 64, (s.chan m).resumed = false) : exec (.scanComplete media) s = .next (s.scanListed media e).scanEnded := by
  have hnone : chanNums.filter (fun n => (s.chan n).resumed) = [] := by
    simpa [chanNums, List.filter_eq_nil_iff] using hres
  rw [show exec (.scanComplete media) s = execScanComplete media s from rfl, execScanComplete, State.whenLive_of_live _ _ hl, h]
  simp only [hnone, List.contains_nil, Bool.not_false, Bool.or_true, List.filter_true]
  rfl

/-- With one channel resumed and nothing listed that channel is verified. -/
theorem exec_scanComplete_resumed (h : s.boot.scan = some { listed := [] })
    (hres : ∀ m < 64, (s.chan m).resumed = decide (m = n)) (hn : n < 64) :
    exec (.scanComplete media) s = .next (s.resumeVerify media n).scanEnded := by
  have hone : chanNums.filter (fun m => (s.chan m).resumed) = [n] :=
    (List.filter_congr fun m hm => hres m (List.mem_range.1 hm)).trans (chanNums_filter_eq hn)
  rw [show exec (.scanComplete media) s = execScanComplete media s from rfl, execScanComplete, State.whenLive_of_live _ _ hl, h]
  simp only [hone]
  rfl

end

section
variable {s : State} {media : Media} {b n : Nat} {gen : Word} {o : BitVec 16}

/-- A listed bushel without a header is closed and reported (R139). -/
theorem State.scanListed_none (h : s.scanOf media b gen = none) :
    s.scanListed media (b, gen, n, o, false) = (s.closeBushel b).orphanEvent n o b := by
  simp only [State.scanListed, h]

/-- A listed bushel with one gives its run to the channel of its header. -/
theorem State.scanListed_some {r : ScanRes} (h : s.scanOf media b gen = some r) (hn : (byteAt r.header.hdr 3).toNat % 64 = n) :
    s.scanListed media (b, gen, n, o, false) = (s.observeAll r.all).reopen n b r := by
  simp only [State.scanListed, h, hn]
  rfl

theorem State.closeBushel_closed (h : (s.bushel b).state = .opened) : ((s.closeBushel b).bushel b).state = .closed := by
  rw [State.closeBushel, if_pos h, State.bushel_setBushel_self]

theorem State.closeBushel_withBushels : s.closeBushel b = { s with bushels := (s.closeBushel b).bushels } := by
  unfold State.closeBushel
  split <;> rfl

theorem State.orphaned_chanCmds : ((s.closeBushel b).orphanEvent n o b).chanCmds = s.chanCmds := by
  rw [State.orphanEvent_chanCmds, State.closeBushel_chanCmds]

theorem State.orphaned_evr : ((s.closeBushel b).orphanEvent n o b).evr = (s.event 0x21 n o.toNat b).evr := by
  rw [State.orphanEvent]
  exact State.event_evr_congr (State.live_congr (by rw [State.closeBushel_withBushels]) (by rw [State.closeBushel_withBushels]))
    (by rw [State.closeBushel_withBushels]) (by rw [State.closeBushel_withBushels]) _ _ _ _

theorem State.orphaned_getF (f : Field) (i : Nat) : ((s.closeBushel b).orphanEvent n o b).getF f i = s.getF f i := by
  rw [State.orphanEvent, State.event_getF, State.closeBushel_withBushels]
  rfl

theorem State.orphaned_bushel (h : (s.bushel b).state = .opened) : (((s.closeBushel b).orphanEvent n o b).bushel b).state = .closed := by
  rw [State.bushel, State.orphanEvent, State.event_bushels, ← State.bushel]
  exact State.closeBushel_closed h

end

section
variable {s : State} {media : Media} {b n : Nat} {gen : Word} {o : BitVec 16} (hl : s.live = true) (hcmds : s.cmds = [])
include hl hcmds

theorem scanComplete_unheaded (hlend : s.getF Reg.ENG_STATUS_LEND_OK = 0)
    (hscan : s.boot.scan = some { listed := [(b, gen, n, o, false)] }) (hres : ∀ m < 64, (s.chan m).resumed = false)
    (h : s.scanOf media b gen = none) : ∃ t, exec (.scanComplete media) s = .next t ∧ t.boot.scan = none ∧ t.boot.scanDone = true ∧
      ((s.bushel b).state = .opened → (t.bushel b).state = .closed) ∧ t.evr = (s.event 0x21 n o.toNat b).evr ∧
      t.chans = s.chans := by
  have hkept : ((s.closeBushel b).orphanEvent n o b).cmds = [] := (State.cmds_of_chanCmds State.orphaned_chanCmds).trans hcmds
  refine ⟨_, exec_scanComplete_listed hl hscan hres, ?_⟩
  rw [State.scanListed_none h, State.scanEnded_boot, State.scanEnded_bushel hkept, State.scanEnded_chans hkept,
    State.scanEnded_evr hkept (State.orphaned_getF _ _ |>.trans hlend)]
  exact ⟨rfl, rfl, State.orphaned_bushel, State.orphaned_evr, congrArg Prod.fst State.orphaned_chanCmds⟩

theorem scanComplete_headed {r : ScanRes} (hscan : s.boot.scan = some { listed := [(b, gen, n, o, false)] })
    (hres : ∀ m < 64, (s.chan m).resumed = false) (h : s.scanOf media b gen = some r) (hbad : r.run.bad = false)
    (hrolled : r.rolled = false) (hlost : r.lostNext = none) (hn : (byteAt r.header.hdr 3).toNat % 64 = n) :
    ∃ t, exec (.scanComplete media) s = .next t ∧ t.boot.scanDone = true ∧
      (t.chan n).isOpen = !r.closed ∧ (t.chan n).halted = false ∧ (t.chan n).durable = r.run.head ∧
      (t.chan n).frameMax = (byteAt r.header.body 9).toNat ∧ (t.chan n).opening = BitVec.ofNat 16 (leAt r.header.body 12 2) ∧
      (t.chan n).firstSeq = BitVec.ofNat 32 (leAt r.header.body 16 4) ∧ (t.chan n).bushel = r.bushel ∧
      ∀ m, m ≠ n → t.chan m = s.chan m := by
  have hread := s.observeAll_chanCmds r.all
  obtain ⟨act, ordinal, mirrored, credit, hself, hne, hcmds'⟩ :=
    (s.observeAll r.all).reopen_scanned (n := n) (first := b) hbad hrolled hlost
  have hkept : ((s.observeAll r.all).reopen n b r).cmds = [] := hcmds'.trans ((State.cmds_of_chanCmds hread).trans hcmds)
  refine ⟨_, exec_scanComplete_listed hl hscan hres, ?_⟩
  rw [State.scanListed_some h hn, State.scanEnded_boot]
  simp only [State.scanEnded_chan hkept]
  rw [State.chan_setChan_self] at hself
  simp only [Chan.heads, Chan.scanned, Run.recovered, hbad, Prod.mk.injEq, Bool.or_false, Bool.false_eq_true, if_false] at hself
  obtain ⟨hopen, hhalted, hdurable, hmax, hopening, hfirst, hbushel⟩ := hself
  refine ⟨trivial, hopen, hhalted, hdurable, hmax, hopening, hfirst, hbushel, fun m hm => ?_⟩
  rw [hne m hm, State.chan_setChan_ne _ _ _ _ hm, State.chan_of_chanCmds hread]

end

/-- A resumed channel that passes goes on from its last seal. -/
theorem State.resumeVerify_ok {s : State} {media : Media} {n : Nat} {f : Found} (h : s.resumeOk media n = true)
    (hf : s.placeAt media (s.chan n).bushel (s.chan n).gen (sget 0 n s.boot.sealPlaces) = some f) : s.resumeVerify media n =
      (s.observe f.hdr f.body).resumePass n (s.chan n).bushel (sget 0 n s.boot.sealPlaces + 1) := by
  simp only [State.resumeVerify, h, if_true, hf]

section
variable (s : State) (n b p : Nat)

theorem State.resumePass_cmds : (s.resumePass n b p).cmds = s.cmds := rfl

theorem State.resumePass_chan_self : (s.resumePass n b p).chan n = { s.chan n with resumed := false } := s.chan_setChan_self _ _

theorem State.resumePass_chan_ne {m : Nat} (h : m ≠ n) : (s.resumePass n b p).chan m = s.chan m := s.chan_setChan_ne _ _ _ h

theorem State.resumePass_next : ((s.resumePass n b p).bushel b).next = p := by
  rw [State.resumePass, State.bushel_setBushel_self]

end

theorem State.resumeVerify_passed {s : State} {media : Media} {n : Nat} {f : Found} (hcmds : s.cmds = [])
    (h : s.resumeOk media n = true)
    (hf : s.placeAt media (s.chan n).bushel (s.chan n).gen (sget 0 n s.boot.sealPlaces) = some f) :
    ((s.resumeVerify media n).scanEnded.chan n).resumed = false ∧
    ((s.resumeVerify media n).scanEnded.chan n).durable = (s.chan n).durable ∧
    ((s.resumeVerify media n).scanEnded.bushel (s.chan n).bushel).next = sget 0 n s.boot.sealPlaces + 1 ∧
    ∀ m, m ≠ n → (s.resumeVerify media n).scanEnded.chan m = s.chan m := by
  have hread := s.observe_chanCmds f.hdr f.body
  have hkept : (s.resumeVerify media n).cmds = [] := by
    rw [State.resumeVerify_ok h hf, State.resumePass_cmds, State.cmds_of_chanCmds hread, hcmds]
  simp only [State.scanEnded_chan hkept, State.scanEnded_bushel hkept]
  rw [State.resumeVerify_ok h hf, State.resumePass_chan_self]
  refine ⟨rfl, by rw [State.chan_of_chanCmds hread], State.resumePass_next _ _ _ _, fun m hm => ?_⟩
  rw [State.resumePass_chan_ne _ _ _ _ hm, State.chan_of_chanCmds hread]


/-! ### The resume table and the recovery scan settled -/

/-- Settles O55: APPLY and DISCARD by the frames of the settings and of one saved channel, SCAN by its accepted and refused
forms, and the end of the scan by what reading records, a reopened channel and a passed one leave of channels and commands. -/
theorem resumeAndScan : Obligations.ResumeAndScan := by
  unfold Obligations.ResumeAndScan
  refine ⟨fun s src tid key share r x hl => ⟨fun hm => ?_, fun hm => ⟨?_, ?_, ?_⟩⟩, fun s src ck b g n o media e r f hl => ?_⟩
  · exact ⟨exec_resumeApply_denied hl hm, exec_resumeDiscard_denied hl hm⟩
  · exact exec_resumeDiscard_live hl hm
  · exact exec_resumeApply_none hl hm
  · intro hr
    obtain ⟨hnone, happlied, hcheck, hanchor, hdmt, hbuf⟩ := State.resumed_settings (s := s) (r := r)
    refine ⟨_, exec_resumeApply_some hl hm hr, hnone, happlied, hcheck, hanchor, hdmt, hbuf, fun n => State.resumed_writer,
      State.resumed_key, State.resumed_share, State.resumed_sess, State.resumed_chans_nil, fun hx => ?_⟩
    obtain ⟨⟨act, k, hchan⟩, ⟨hstate, hnext, hnum⟩, hrest⟩ := State.resumed_chans_single (s := s) hx
    rw [hchan]
    exact ⟨rfl, rfl, rfl, rfl, rfl, rfl, rfl, hstate, hnext, hnum, hrest⟩
  · extract_lets refused
    have hiff : s.scanRefused = true ↔ refused := State.scanRefused_iff
    refine ⟨fun h => scanStart_refused hl (hiff.2 h), fun h => scanStart_entry hl (mt hiff.1 h),
      fun h => scanStart_open hl (mt hiff.1 h), exec_scanComplete_none hl, fun hcmds hlend => ⟨fun hscan hres => ⟨?_, ?_⟩, ?_⟩⟩
    · exact scanComplete_unheaded hl hcmds hlend hscan hres
    · exact scanComplete_headed hl hcmds hscan hres
    · exact fun hscan hres hn => ⟨_, exec_scanComplete_resumed hl hscan hres hn, by rw [State.scanEnded_boot],
        State.resumeVerify_passed hcmds⟩

end Sys2Proof.Machine
end

section
/-! A mark whose retract ends a command of a completion queue beyond the 256 that there are (spec/03 R55, R60, R87; spec/07 R145; spec/09
R207): what the statement on the chain's marks leaves open. -/

namespace Sys2Proof.Machine

/-- A queue number beyond the 256 of spec/03 whose pending bit is bit 1 of the word in which CHN_ANGLE.MARK lies. -/
def strayMarkQueue : Nat := 32 * 0x2BEDA + 1

/-- The words of FWCQ_PEND go on, past the eighth, to the place of CHN_ANGLE. -/
theorem fwcqPend_meets_angleMark : Reg.FWCQ_PEND_Q.key (strayMarkQueue / 32) = Reg.CHN_ANGLE_MARK.key 0 := by decide

/-- A FLUSH of firmware under way that waits for no head and wants an interrupt, its completion queue `strayMarkQueue`. -/
def strayMarkFlush : Cmd :=
  { tag := 0, sq := 0, owner := none, desc := [], op := 0x08, cmdId := 0, irq := true, sqHead := 0, cq := strayMarkQueue, running := true }

/-- A header record, under whose gate the flags fall. -/
def gatedHeader : Rec := { kind := .header, chan := 0, seq := 0, hdr := [], page := 0, act := 0, bushel := 8, gen := 0, account := .record }

/-- The reset state under lock at a standstill, actuator A on track with a record under its gate, and `strayMarkFlush` under way. -/
def strayMarkState : State :=
  let s := [(Reg.CHN_CTRL_EN, 0), (Reg.CHN_STATUS_LOCK, 0), (Reg.QCFG_FW, strayMarkQueue)].foldl
    (fun (s : State) (e : Field × Nat) => s.raise e.1 e.2) State.reset
  (({ s with cmds := [strayMarkFlush] } : State).setF Reg.ACT_STATE_STATE 0 3).setRw 0 { gate := some gatedHeader }

/-- The mark counts 1, the speed is below UNLOAD_RPM, and the gate that the retract forces off lets the FLUSH end: its pending bit is
bit 1 of the count. -/
theorem strayMarkState_mark {t : State} (h : exec (.chainMark 0 false false false false) strayMarkState = .next t) :
    t.getF Reg.CHN_ANGLE_MARK = 3 := by
  have hval : (match exec (.chainMark 0 false false false false) strayMarkState with | .next u => u.getF Reg.CHN_ANGLE_MARK | _ => 0) = 3 := by
    decide +kernel
  rw [h] at hval
  exact hval

/-- Refutes O25: the statement on a mark bounds no queue number, and a gate that the mark forces off may end a command whose
completion queue lies beyond the 256. -/
theorem not_chainAngle : ¬ Obligations.ChainAngle := by
  rintro ⟨hmark, -⟩
  obtain ⟨-, hrun⟩ := hmark strayMarkState 0 (by decide +kernel)
  obtain ⟨hcount, -⟩ := hrun (by decide +kernel)
  obtain ⟨t, hexec, hval, -⟩ := hcount (by decide +kernel)
  have hsince : min (strayMarkState.chain.since + 1) 65535 = 1 := by decide +kernel
  rw [strayMarkState_mark hexec, hsince] at hval
  exact absurd hval (by decide)

end Sys2Proof.Machine

end

section
/-! A loop that changes state (spec/08 R177, R178, R190; spec/07 R166): the state entered, the port's read that a retract ends, and
what a loop leaves with TRACK. -/

namespace Sys2Proof.Machine

variable (s : State)

/-! ### A field of the register store left alone by a change of others -/

/-- States with the same registers keep every field. -/
theorem fieldsKept_of_regs {s t : State} (h : t.regs = s.regs) (l : List (Field × Nat)) : fieldsKept s t l :=
  fun f i _ => State.getF_congr h f i

theorem State.setF_fieldsKept (f : Field) (i v : Nat) : fieldsKept s (s.setF f i v) [(f, i)] := (s.setF_onlyFields f i v).2

/-! ### The sector-read port (R166) -/

/-- The fields that the end of a read of the port sets. -/
def portFields (a : Nat) : List (Field × Nat) :=
  [(Reg.RWC_SR_STAT_STEP, a), (Reg.RWC_SR_STAT_CLASS, a), (Reg.RWC_SR_STAT_DONE, a), (Reg.RWC_SR_STAT_BUSY, a)]

theorem State.portDone_onlyFields (a cls step : Nat) : onlyFields s (s.portDone a cls step) (portFields a) :=
  ⟨rfl, (((s.setF_fieldsKept _ _ _).trans (State.setF_fieldsKept _ _ _ _)).trans (State.setF_fieldsKept _ _ _ _)).trans
    (State.setF_fieldsKept _ _ _ _)⟩

theorem State.portDone_rw (a cls step m : Nat) : (s.portDone a cls step).rw m = s.rw m := rfl

theorem State.portFail_withRwc (a : Nat) :
    s.portFail a = { s with regs := (s.portFail a).regs, rwc := (s.portFail a).rwc } := by
  unfold State.portFail
  split
  · rw [(State.portDone_onlyFields _ a 3 0).1]
    rfl
  · rfl

theorem State.portFail_fieldsKept (a : Nat) : fieldsKept s (s.portFail a) (portFields a) := by
  unfold State.portFail
  split
  · exact fun f i hne => (State.portDone_onlyFields _ a 3 0).2 f i hne
  · exact fieldsKept_of_regs rfl _

/-- A retract ends reads and leaves the write gates. -/
theorem State.portFail_gate (a m : Nat) : ((s.portFail a).rw m).gate = (s.rw m).gate := by
  unfold State.portFail
  split
  · rw [State.portDone_rw]
    rcases eq_or_ne m a with rfl | hm
    · rw [State.rw_setRw_self]
    · rw [State.rw_setRw_ne _ _ _ _ hm]
  · rfl

/-! ### A state entered, and TRACK left (R112, R177, R178) -/

/-- MEDIA_NOW follows the availability of actuator `a`, which was `was`. -/
def State.mediaFollowed (s : State) (a : Nat) (was : Bool) : State := if s.available a == was then s else s.media

/-- Actuator `a` has entered state `st`; MEDIA_NOW has followed, a retract has ended the port's read, and the output is 0 in a state
that has none. -/
def State.stateEntered (s : State) (a st : Nat) : State :=
  let t := (s.setF Reg.ACT_STATE_STATE a st).mediaFollowed a (s.available a)
  let t := if st = 7 then t.portFail a else t
  if st = 7 ∨ st ≤ 1 then t.setLoop a { t.loop a with uPrev := 0 } else t

/-- Actuator `a` has left TRACK. -/
def State.trackLeft (s : State) (a cause : Nat) (torn : Bool) : State :=
  let s := s.setRw a { s.rw a with rgate := none }
  (((s.lower Reg.ACT_STATE_ON_TRK_RD a).lower Reg.ACT_STATE_ON_TRK_WR a).raise Reg.ACT_STATE_WINH a).forceOff a cause torn

theorem State.setActFor_eq (a st cause : Nat) (torn : Bool) : s.setActFor a st cause torn =
    if s.actState a = 3 && st ≠ 3 then (s.stateEntered a st).trackLeft a cause torn else s.stateEntered a st := by
  simp only [State.setActFor, State.stateEntered, State.trackLeft, State.mediaFollowed]

theorem State.setActFor_of_not_track {a : Nat} (h : s.actState a ≠ 3) (st cause : Nat) (torn : Bool) :
    s.setActFor a st cause torn = s.stateEntered a st := by
  rw [State.setActFor_eq, if_neg (by simp [h])]

theorem State.loop_congr {s t : State} (h : t.loops = s.loops) (m : Nat) : t.loop m = s.loop m := by rw [State.loop, State.loop, h]

theorem State.rw_congr {s t : State} (h : t.rwc = s.rwc) (m : Nat) : t.rw m = s.rw m := by rw [State.rw, State.rw, h]

theorem State.mediaFollowed_of_same {a : Nat} {was : Bool} (h : s.available a = was) : s.mediaFollowed a was = s := by
  rw [State.mediaFollowed, h, beq_self_eq_true, if_pos rfl]

theorem State.actState_setF_self (a : Nat) {st : Nat} (h : st < 8) : (s.setF Reg.ACT_STATE_STATE a st).actState a = st :=
  (s.getF_setF_self _ _ _ (by decide)).trans (Nat.mod_eq_of_lt h)

theorem State.mediaFollowed_shedFrame (a : Nat) (was : Bool) : shedFrame s (s.mediaFollowed a was) := by
  unfold State.mediaFollowed
  split
  · rfl
  · exact s.media_shedFrame

theorem State.mediaFollowed_loops (a : Nat) (was : Bool) : (s.mediaFollowed a was).loops = s.loops := by
  rw [s.mediaFollowed_shedFrame a was]

theorem State.mediaFollowed_rwc (a : Nat) (was : Bool) : (s.mediaFollowed a was).rwc = s.rwc := by
  rw [s.mediaFollowed_shedFrame a was]

/-- The fields that MEDIA_NOW's change may set. -/
def mediaFields : List (Field × Nat) := [(Reg.MEDIA_NOW_RATE, 0), (Reg.ARB_STATUS_MARGIN, 0), (Reg.ARB_STATUS_SHORTFALL, 0)]

theorem State.mediaFollowed_fieldsKept (a : Nat) (was : Bool) : fieldsKept s (s.mediaFollowed a was) mediaFields := by
  unfold State.mediaFollowed
  split
  · exact fieldsKept_of_regs rfl _
  · intro f i hne
    simp only [mediaFields, List.forall_mem_cons] at hne
    obtain ⟨hrate, hmargin, hshort, -⟩ := hne
    exact (s.media_getF_mediaSet f i hmargin hshort).trans (s.mediaSet_getF f i hrate)

section
variable (a : Nat)

/-! ### A retract begins (R190) -/

/-- Actuator `a` has entered RETRACT, its output not yet 0. -/
def State.retractEntered : State := ((s.setF Reg.ACT_STATE_STATE a 7).mediaFollowed a (s.available a)).portFail a

theorem State.stateEntered_retract : s.stateEntered a 7 =
    (s.retractEntered a).setLoop a { (s.retractEntered a).loop a with uPrev := 0 } := by
  simp only [State.stateEntered, if_pos, true_or, State.retractEntered]

theorem State.retractEntered_loops : (s.retractEntered a).loops = s.loops := by
  rw [State.retractEntered, State.portFail_withRwc, State.mediaFollowed_loops, State.setF_loops]

theorem State.retractEntered_chans : (s.retractEntered a).chans = s.chans := by
  rw [State.retractEntered, State.portFail_withRwc, (State.mediaFollowed_shedFrame _ _ _).chans, State.setF_chans]

theorem State.retractEntered_buf : (s.retractEntered a).buf = s.buf := by
  rw [State.retractEntered, State.portFail_withRwc, (State.mediaFollowed_shedFrame _ _ _).buf, State.setF_buf]

theorem State.retractEntered_gate (m : Nat) : ((s.retractEntered a).rw m).gate = (s.rw m).gate := by
  rw [State.retractEntered, State.portFail_gate, State.rw_congr (State.mediaFollowed_rwc _ _ _), State.rw_congr (State.setF_rwc _ _ _ _)]

theorem actState_apart : ∀ a < 2, (∀ e ∈ portFields a, Reg.ACT_STATE_STATE.key a ≠ e.1.key e.2) ∧
    ∀ e ∈ mediaFields, Reg.ACT_STATE_STATE.key a ≠ e.1.key e.2 := by decide

theorem State.retractEntered_actState (ha : a < 2) : (s.retractEntered a).actState a = 7 := by
  obtain ⟨hport, hmedia⟩ := actState_apart a ha
  rw [State.actState, State.retractEntered, State.portFail_fieldsKept _ _ _ _ hport, State.mediaFollowed_fieldsKept _ _ _ _ _ hmedia,
    ← State.actState, State.actState_setF_self _ _ (by decide)]

/-- From a state in which the actuator is not available MEDIA_NOW stays. -/
theorem State.retractEntered_of_unavailable (h : s.available a = false) :
    s.retractEntered a = (s.setF Reg.ACT_STATE_STATE a 7).portFail a := by
  have hnow : (s.setF Reg.ACT_STATE_STATE a 7).available a = false := by
    rw [State.available, State.actState_setF_self _ _ (by decide)]
    rfl
  rw [State.retractEntered, State.mediaFollowed_of_same _ (hnow.trans h.symm)]

/-- The loop asks for a retract, and its target, profile and offset are dropped. -/
def State.retractAsked : State :=
  s.setLoop a { s.loop a with retReq := true, loadReq := false, profile := [], held := none, replan := none, jog := 0, want := 0 }

theorem State.retractLoop_eq (torn : Bool) : s.retractLoop a torn = (s.retractAsked a).setActFor a 7 4 torn := rfl

theorem State.retractAsked_actState (m : Nat) : (s.retractAsked a).actState m = s.actState m := State.setLoop_getF _ _ _ _ _

theorem State.trackLeft_of_closed (cause : Nat) (torn : Bool) (hg : (s.rw a).gate = none) : s.trackLeft a cause torn =
    (((s.setRw a { s.rw a with rgate := none }).lower Reg.ACT_STATE_ON_TRK_RD a).lower Reg.ACT_STATE_ON_TRK_WR a).raise
      Reg.ACT_STATE_WINH a := by
  unfold State.trackLeft
  refine State.forceOff_of_closed _ _ _ _ ?_
  rw [State.rw_congr (State.raise_rwc _ _ _), State.rw_congr (State.lower_rwc _ _ _), State.rw_congr (State.lower_rwc _ _ _),
    State.rw_setRw_self]
  exact hg

/-- TRACK is left with no gate open: the state, the loops, the channels and the buffer stay. -/
theorem State.trackLeft_spec (cause : Nat) (torn : Bool) (hg : (s.rw a).gate = none) :
    (s.trackLeft a cause torn).actState a = s.actState a ∧ (s.trackLeft a cause torn).loops = s.loops ∧
      (s.trackLeft a cause torn).chans = s.chans ∧ (s.trackLeft a cause torn).buf = s.buf := by
  rw [s.trackLeft_of_closed a cause torn hg]
  refine ⟨?_, rfl, rfl, rfl⟩
  simp (disch := decide) only [State.actState, State.raise, State.lower, State.getF_setF_apart, State.setRw_getF]

/-- In `t` actuator `a` of `s` is in RETRACT, its output 0; the other loops, the channels and the buffer are those of `s`. -/
def retracting (s t : State) (a : Nat) : Prop :=
  t.actState a = 7 ∧ t.loop a = { (s.retractAsked a).loop a with uPrev := 0 } ∧ (∀ m, m ≠ a → t.loop m = s.loop m) ∧
    t.chans = s.chans ∧ t.buf = s.buf

theorem State.retractAsked_loop_ne {m : Nat} (hm : m ≠ a) : (s.retractAsked a).loop m = s.loop m := State.loop_setLoop_ne _ _ _ _ hm

theorem State.retractAsked_entered (ha : a < 2) : retracting s ((s.retractAsked a).stateEntered a 7) a := by
  rw [State.stateEntered_retract, retracting, State.setLoop_chans, State.setLoop_buf, State.retractEntered_chans, State.retractEntered_buf,
    State.actState, State.setLoop_getF, ← State.actState, State.retractEntered_actState _ _ ha, State.loop_setLoop_self,
    State.loop_congr (State.retractEntered_loops _ _)]
  refine ⟨rfl, rfl, fun m hm => ?_, rfl, rfl⟩
  rw [State.loop_setLoop_ne _ _ _ _ hm, State.loop_congr (State.retractEntered_loops _ _), State.retractAsked_loop_ne _ _ hm]

theorem State.retractAsked_entered_gate (hg : (s.rw a).gate = none) : (((s.retractAsked a).stateEntered a 7).rw a).gate = none := by
  rw [State.stateEntered_retract, State.rw_congr (State.setLoop_rwc _ _ _), State.retractEntered_gate, State.retractAsked,
    State.rw_congr (State.setLoop_rwc _ _ _), hg]

/-- A retract with no gate open. -/
theorem State.retractLoop_retracting (torn : Bool) (ha : a < 2) (hg : (s.rw a).gate = none) :
    retracting s (s.retractLoop a torn) a := by
  obtain ⟨hstate, hself, hne, hchans, hbuf⟩ := s.retractAsked_entered a ha
  rw [State.retractLoop_eq, State.setActFor_eq]
  split
  · obtain ⟨hs, hl, hc, hb⟩ := State.trackLeft_spec _ a 4 torn (s.retractAsked_entered_gate a hg)
    exact ⟨hs.trans hstate, (State.loop_congr hl a).trans hself, fun m hm => (State.loop_congr hl m).trans (hne m hm),
      hc.trans hchans, hb.trans hbuf⟩
  · exact ⟨hstate, hself, hne, hchans, hbuf⟩

/-- A retract from LOST or ACQUIRE: no gate is open there, and the actuator is not available. -/
theorem State.retractLoop_of_searching (torn : Bool) (ha : a < 2) (h : s.actState a = 2 ∨ s.actState a = 6) :
    retracting s (s.retractLoop a torn) a ∧
      s.retractLoop a torn = { s with
        regs := (s.retractLoop a torn).regs, loops := (s.retractLoop a torn).loops, rwc := (s.retractLoop a torn).rwc } := by
  have hstate : (s.retractAsked a).actState a = s.actState a := s.retractAsked_actState a a
  have havail : (s.retractAsked a).available a = false := by
    rw [State.available, hstate]
    rcases h with h | h <;> rw [h] <;> rfl
  rw [State.retractLoop_eq, State.setActFor_of_not_track _ (by omega)]
  refine ⟨s.retractAsked_entered a ha, ?_⟩
  rw [State.stateEntered_retract, State.retractEntered_of_unavailable _ _ havail, State.portFail_withRwc]
  rfl

end

end Sys2Proof.Machine
end

section
/-! The targets, parks, loads and time-outs of the actuators (spec/07 R147; spec/08 R179, R181, R182, R187, R190, R191). -/

namespace Sys2Proof.Machine

/-! ### The head that serves a track (R147) -/

section
variable (s : State) (a head track : Nat)

/-- The zone in which the head serves the track: a maker track, or any before the first apply, has none of its own. -/
def State.zoneServed : Nat :=
  if maker head track || s.tables.zones.isEmpty then s.getF Reg.RWC_STATUS_ZONE a else s.tables.zoneOf track

theorem State.headTo_eq : s.headTo a head track =
    if s.zoneServed a head track = s.getF Reg.RWC_STATUS_ZONE a ∧ (s.ratioOf head track).getD (s.rw a).ratio = (s.rw a).ratio then s
    else (s.setF Reg.RWC_STATUS_ZONE a (s.zoneServed a head track)).setRw a
      { s.rw a with ratio := (s.ratioOf head track).getD (s.rw a).ratio, settled := false } := rfl

theorem State.headTo_withRwc : s.headTo a head track =
    { s with regs := (s.headTo a head track).regs, rwc := (s.headTo a head track).rwc } := by
  rw [State.headTo_eq]
  split <;> rfl

theorem State.headTo_fieldsKept : fieldsKept s (s.headTo a head track) [(Reg.RWC_STATUS_ZONE, a)] := by
  rw [State.headTo_eq]
  split
  · exact fieldsKept_of_regs rfl _
  · exact fun f i hne => (State.setRw_getF _ _ _ _ _).trans (s.setF_fieldsKept _ _ _ f i hne)

/-- Under the tables a track of another zone leaves the multiplier to settle. -/
theorem State.headTo_newZone (hz : s.tables.zones ≠ []) (hm : maker head track = false)
    (hne : s.tables.zoneOf track ≠ s.getF Reg.RWC_STATUS_ZONE a) :
    ((s.headTo a head track).rw a).settled = false ∧
      (s.headTo a head track).getF Reg.RWC_STATUS_ZONE a = s.tables.zoneOf track % 32 := by
  have hserved : s.zoneServed a head track = s.tables.zoneOf track := if_neg (by simp [hm, hz])
  rw [State.headTo_eq, hserved, if_neg fun h => hne h.1]
  refine ⟨by rw [State.rw_setRw_self], ?_⟩
  rw [State.setRw_getF]
  exact s.getF_setF_self _ _ _ (by decide)

end

/-! ### A target given (R179, R181) -/

section
variable (s : State) (a track head : Nat)

theorem State.giveTarget_of_searching (h : s.actState a = 2 ∨ s.actState a = 6) : s.giveTarget a track head =
    (s.setLoop a { s.loop a with held := some (track, head) }).headTo a head track := by
  simp only [State.giveTarget, if_pos h]

theorem State.giveTarget_of_following (hlo : 3 ≤ s.actState a) (hhi : s.actState a ≤ 5) (hr : (s.loop a).replan = none)
    (hpos : 0 ≤ (s.loop a).target) (hne : (s.loop a).target ≠ 4096 * (track : Int)) : s.giveTarget a track head =
    (s.setLoop a { s.loop a with replan := some (track, head), want := 0 }).headTo a head track := by
  have hnew : ¬((((s.loop a).target / 4096).toNat, (s.loop a).head) = (track, head) ∧
      ((none : Option (Nat × Nat)).isSome = true ∨ (s.loop a).target % 4096 = 0)) := by
    rintro ⟨heq, hwhole⟩
    have htrack : ((s.loop a).target / 4096).toNat = track := congrArg Prod.fst heq
    have hmod : (s.loop a).target % 4096 = 0 := hwhole.resolve_left (by simp)
    omega
  simp only [State.giveTarget, if_neg (show ¬(s.actState a = 2 ∨ s.actState a = 6) by omega), if_pos (And.intro hlo hhi), hr,
    Option.getD_none, if_neg hnew]

end

theorem actState_apart_seekFail : ∀ a < 2, ∀ e ∈ [(Reg.LOOP_EVENTS_SEEK_FAIL, 0)], Reg.ACT_STATE_STATE.key a ≠ e.1.key e.2 := by decide

section
variable {s : State} (src : Nat) {a : Nat} (hl : s.live = true)
include hl

/-! ### SEEK and the channel's target (R147, R179) -/

theorem exec_actSeek : exec (.actSeek src a) s = .next
    (if s.flag Reg.RWC_CTRL_EN a || s.getF Reg.SEEK_TGT_HEAD a / 4 != a || decide (s.actState a ≤ 1) || s.actState a == 7 then
      s.raise Reg.LOOP_EVENTS_SEEK_REJECT
    else s.giveTarget a (s.getF Reg.SEEK_TGT_TRACK a) (s.getF Reg.SEEK_TGT_HEAD a % 4)) := by
  change execActSeek src a s = _
  rw [execActSeek, State.whenLive_of_live _ _ hl]

theorem exec_actSeek_refused (h : s.flag Reg.RWC_CTRL_EN a = true ∨ s.getF Reg.SEEK_TGT_HEAD a / 4 ≠ a ∨ s.actState a ≤ 1 ∨
    s.actState a = 7) : exec (.actSeek src a) s = .next (s.raise Reg.LOOP_EVENTS_SEEK_REJECT) := by
  rw [exec_actSeek src hl, if_pos]
  simpa [or_assoc] using h

theorem exec_actSeek_taken (hen : s.flag Reg.RWC_CTRL_EN a = false) (hh : s.getF Reg.SEEK_TGT_HEAD a / 4 = a) (hlo : 2 ≤ s.actState a)
    (h7 : s.actState a ≠ 7) : exec (.actSeek src a) s =
      .next (s.giveTarget a (s.getF Reg.SEEK_TGT_TRACK a) (s.getF Reg.SEEK_TGT_HEAD a % 4)) := by
  rw [exec_actSeek src hl, if_neg]
  simp [hen, hh, h7]
  omega

theorem exec_channelSeekTarget (track head : Nat) (hen : s.flag Reg.RWC_CTRL_EN a = true) (hlo : 2 ≤ s.actState a) (hhi : s.actState a ≤ 6) :
    exec (.channelSeekTarget a track head) s = .next ((s.giveTarget a track (head % 4)).askJog a
      (s.offsetAt a track (head % 4))) := by
  change execChannelSeekTarget a track head s = _
  rw [execChannelSeekTarget, State.whenLive_of_live _ _ hl]
  simp only [hen, hlo, hhi, and_self, decide_true, Bool.true_or, Bool.and_self, State.when', if_true]

/-- A target of the channel in LOST or ACQUIRE is held, and the multiplier settles after a change of zone. -/
theorem channelSeekTarget_held (track head : Nat) (hen : s.flag Reg.RWC_CTRL_EN a = true) (h : s.actState a = 2 ∨ s.actState a = 6) :
    ∃ t, exec (.channelSeekTarget a track head) s = .next t ∧ (t.loop a).held = some (track, head % 4) ∧
      (∀ m, m ≠ a → t.loop m = s.loop m) ∧
      (s.tables.zones ≠ [] → maker head track = false → s.tables.zoneOf track ≠ s.getF Reg.RWC_STATUS_ZONE a →
        (t.rw a).settled = false ∧ t.getF Reg.RWC_STATUS_ZONE a = s.tables.zoneOf track % 32) ∧
      t = { s with regs := t.regs, loops := t.loops, rwc := t.rwc } ∧ fieldsKept s t [(Reg.RWC_STATUS_ZONE, a)] := by
  have hexec := exec_channelSeekTarget hl track head hen (a := a) (by omega) (by omega)
  rw [State.giveTarget_of_searching _ _ _ _ h] at hexec
  let u := s.setLoop a { s.loop a with held := some (track, head % 4) }
  have hloops : (u.headTo a (head % 4) track).loops = u.loops := by rw [State.headTo_withRwc]
  refine ⟨_, hexec, ?_, fun m hm => ?_, fun hz hm hne => ?_, ?_, fun f i hne => ?_⟩
  · rw [State.askJog, State.loop_setLoop_self, State.loop_congr hloops, State.loop_setLoop_self]
  · rw [State.askJog, State.loop_setLoop_ne _ _ _ _ hm, State.loop_congr hloops, State.loop_setLoop_ne _ _ _ _ hm]
  · rw [State.askJog, State.setLoop_getF, State.rw_congr (State.setLoop_rwc _ _ _)]
    have hmaker : maker (head % 4) track = false := by simpa [maker] using hm
    exact u.headTo_newZone a (head % 4) track hz hmaker (by rw [State.setLoop_getF]; exact hne)
  · rw [State.askJog, State.headTo_withRwc]
    rfl
  · rw [State.askJog, State.setLoop_getF, State.headTo_fieldsKept _ _ _ _ f i hne, State.setLoop_getF]

/-! ### The time-outs of a seek, of lost position and of a load (R182, R187, R191) -/

theorem exec_seekTimeout : exec (.seekTimeout a) s = .next (s.when' ((s.actState a == 4 || s.actState a == 5) && !(s.loop a).seekFailed &&
    decide (s.getF Reg.COUNTS_SEEK_TMO a ≤ (s.loop a).seekCount)) (fun s =>
      ((s.setLoop a { s.loop a with seekFailed := true }).raise Reg.LOOP_EVENTS_SEEK_FAIL).event 0x26 a 0
        ((s.loop a).target / 4096).toNat)) := by
  change execSeekTimeout a s = _
  rw [execSeekTimeout, State.whenLive_of_live _ _ hl]
  unfold State.when'
  rfl

theorem seekTimeout_fails (ha : a < 2) (h : s.actState a = 4 ∨ s.actState a = 5) (hf : (s.loop a).seekFailed = false)
    (hc : s.getF Reg.COUNTS_SEEK_TMO a ≤ (s.loop a).seekCount) : ∃ t, exec (.seekTimeout a) s = .next t ∧
      t.getF Reg.LOOP_EVENTS_SEEK_FAIL = 1 ∧ (t.loop a).seekFailed = true ∧
      t.evr = (s.event 0x26 a 0 ((s.loop a).target / 4096).toNat).evr ∧ t.actState a = s.actState a ∧
      t = { s with regs := t.regs, loops := t.loops, evr := t.evr } ∧ fieldsKept s t [(Reg.LOOP_EVENTS_SEEK_FAIL, 0)] := by
  refine ⟨_, exec_seekTimeout hl, ?_⟩
  rw [State.when', if_pos (by simpa [hf, hc] using h)]
  have hkept : fieldsKept s (((s.setLoop a { s.loop a with seekFailed := true }).raise Reg.LOOP_EVENTS_SEEK_FAIL).event 0x26 a 0
      ((s.loop a).target / 4096).toNat) [(Reg.LOOP_EVENTS_SEEK_FAIL, 0)] := fun f i hne => by
    rw [State.event_getF, State.raise, State.setF_fieldsKept _ _ _ _ f i hne, State.setLoop_getF]
  refine ⟨?_, ?_, State.event_evr_congr (by simp) (by simp) (by simp) _ _ _ _, hkept _ _ (actState_apart_seekFail a ha), ?_, hkept⟩
  · rw [State.event_getF, State.getF_raise_self _ _ _ (by decide) (by decide)]
  · rw [State.loop_congr (State.event_loops ..), State.loop_congr (State.raise_loops ..), State.loop_setLoop_self]
  · rw [State.event_withEvr]
    rfl

theorem exec_seekTimeout_early (hc : (s.loop a).seekCount < s.getF Reg.COUNTS_SEEK_TMO a) : exec (.seekTimeout a) s = .next s := by
  rw [exec_seekTimeout hl, State.when', if_neg]
  simp [Nat.not_le.2 hc]

theorem exec_lostTimeout (h : s.actState a = 2 ∨ s.actState a = 6) : exec (.lostTimeout a) s = .next (s.retractLoop a true) := by
  change execLostTimeout a s = _
  rw [execLostTimeout, State.whenLive_of_live _ _ hl, State.when', if_pos (by simpa using h)]

/-- The power die retracts an actuator whose heads were not reported loaded. -/
theorem loadTimeout_retracts (h : (s.loop a).loadReq = true) : ∃ t, exec (.loadTimeout a) s = .next t ∧ (t.loop a).loadReq = false ∧
    sget false a t.power.retract = true ∧ sget false a t.power.loadReq = false ∧ t.getF Reg.LOOP_EVENTS_SEEK_FAIL = 1 ∧
    t.evr = (s.event 0x26 a 0 0).evr ∧ t = { s with regs := t.regs, loops := t.loops, power := t.power, evr := t.evr } ∧
    fieldsKept s t [(Reg.LOOP_EVENTS_SEEK_FAIL, 0)] := by
  have hexec : exec (.loadTimeout a) s = execLoadTimeout a s := rfl
  rw [hexec, execLoadTimeout, State.whenLive_of_live _ _ hl, State.when', if_pos h]
  refine ⟨_, rfl, ?_, ?_, ?_, ?_, State.event_evr_congr ?_ ?_ ?_ _ _ _ _, ?_, fun f i hne => ?_⟩
  · rw [State.loop_congr (State.event_loops ..), State.loop_congr (State.raise_loops ..), State.loop_setLoop_self]
  · rw [State.event_power, State.raise_power, State.setLoop_power, sget_sput_self]
  · rw [State.event_power, State.raise_power, State.setLoop_power, sget_sput_self]
  · rw [State.event_getF, State.getF_raise_self _ _ _ (by decide) (by decide)]
  · rw [State.raise_live, State.setLoop_live]
    rfl
  · rfl
  · rfl
  · rw [State.event_withEvr]
    rfl
  · rw [State.event_getF, State.raise, State.setF_fieldsKept _ _ _ _ f i hne, State.setLoop_getF]
    rfl

/-! ### PARK and ACQUIRE (R190, R191) -/

theorem exec_actPark (torn : Bool) : exec (.actPark src a torn) s = .next
    (if s.actState a == 7 || (s.atRest a && !(s.loop a).loadReq) then s else s.retractLoop a torn) := by
  change execActPark src a torn s = _
  rw [execActPark, State.whenLive_of_live _ _ hl]

theorem exec_actPark_retracts (torn : Bool) (hlo : 2 ≤ s.actState a) (h7 : s.actState a < 7) :
    exec (.actPark src a torn) s = .next (s.retractLoop a torn) := by
  rw [exec_actPark src hl, if_neg]
  simp [State.atRest]
  omega

theorem exec_actPark_parked (torn : Bool) (h : s.actState a = 7 ∨ (s.actState a ≤ 1 ∧ (s.loop a).loadReq = false)) :
    exec (.actPark src a torn) s = .next s := by
  rw [exec_actPark src hl, if_pos]
  simpa [State.atRest] using h

theorem exec_actAcquire : exec (.actAcquire src a) s = .next
    (if s.actState a == 1 && s.atSpeed && !s.flag Reg.DL_STATUS_DOWN && !s.parkHeld a then
      s.setLoop a { s.loop a with loadReq := true, retReq := false }
    else s.raise Reg.LOOP_EVENTS_SEEK_REJECT) := by
  change execActAcquire src a s = _
  rw [execActAcquire, State.whenLive_of_live _ _ hl]

theorem exec_actAcquire_refused (h : s.actState a ≠ 1 ∨ s.atSpeed = false ∨ s.flag Reg.DL_STATUS_DOWN = true ∨ s.parkHeld a = true) :
    exec (.actAcquire src a) s = .next (s.raise Reg.LOOP_EVENTS_SEEK_REJECT) := by
  rw [exec_actAcquire src hl, if_neg]
  simp only [Bool.and_eq_true, beq_iff_eq, Bool.not_eq_true', not_and, and_imp, Bool.not_eq_false]
  intro h1 h2 h3
  simpa [h1, h2, h3] using h

end

/-- A refused command of the loop sets SEEK_REJECT and nothing else. -/
theorem State.seekRejected (s : State) : (s.raise Reg.LOOP_EVENTS_SEEK_REJECT).getF Reg.LOOP_EVENTS_SEEK_REJECT = 1 ∧
    onlyFields s (s.raise Reg.LOOP_EVENTS_SEEK_REJECT) [(Reg.LOOP_EVENTS_SEEK_REJECT, 0)] :=
  ⟨s.getF_raise_self _ _ (by decide) (by decide), s.setF_onlyFields _ _ _⟩

/-- Settles O28: a target by `State.giveTarget`'s cases, and a retract by `State.retractLoop_retracting`. -/
theorem seeksParksAndLoads : Obligations.SeeksParksAndLoads := by
  refine ⟨fun s src a track head hl ha => ⟨fun h => ?_, fun hen hh => ?_, fun hen h => ?_, seekTimeout_fails hl ha,
    exec_seekTimeout_early hl⟩, fun s src a torn hl ha => ⟨fun hlo h7 hg => ?_, exec_actPark_parked src hl torn, fun h => ?_,
      fun h1 h2 h3 h4 => ?_, fun h => ?_, loadTimeout_retracts hl⟩⟩
  · exact ⟨_, exec_actSeek_refused src hl h, s.seekRejected⟩
  · refine ⟨fun h => ?_, fun hlo hhi hr hpos hne => ?_⟩
    · rw [exec_actSeek_taken src hl hen hh (by omega) (by omega), State.giveTarget_of_searching _ _ _ _ h]
    · rw [exec_actSeek_taken src hl hen hh (by omega) (by omega), State.giveTarget_of_following _ _ _ _ hlo hhi hr hpos hne]
  · exact channelSeekTarget_held hl track head hen h
  · obtain ⟨hstate, hself, hne, hchans, hbuf⟩ := s.retractLoop_retracting a torn ha hg
    rw [State.retractAsked, State.loop_setLoop_self] at hself
    exact ⟨_, exec_actPark_retracts src hl torn hlo h7, hstate, by rw [hself], by rw [hself], by rw [hself], by rw [hself], by rw [hself],
      hne, hchans, hbuf⟩
  · obtain ⟨⟨hstate, hself, hne, -⟩, hframe⟩ := s.retractLoop_of_searching a true ha h
    rw [State.retractAsked, State.loop_setLoop_self] at hself
    exact ⟨_, exec_lostTimeout hl h, hstate, by rw [hself], hne, hframe⟩
  · rw [exec_actAcquire src hl, if_pos (by simp [h1, h2, h3, h4])]
  · exact ⟨_, exec_actAcquire_refused src hl h, s.seekRejected⟩

end Sys2Proof.Machine
end

section
/-! Coefficient banks and their swap, and the enables of the loops (spec/08 R184, R185, R191, R192; spec/16 R334). -/

namespace Sys2Proof.Machine

variable {s : State} (src : Nat) (v : Word) (hl : s.live = true)

/-! ### The swap and the banks (R184, R185) -/

section
include hl

theorem exec_loopSwap : exec (.loopSwap src v) s = .next
    (if !s.swap.isEmpty || bitsOf v.toNat 0 3 == 0 then s.raise Reg.LOOP_EVENTS_SWAP_REJECT
    else { s with swap := [0, 1, 2].filter (bitOf (bitsOf v.toNat 0 3)), swapClear := bitOf v.toNat 3 }) := by
  change execLoopSwap src v s = _
  rw [execLoopSwap, State.whenLive_of_live _ _ hl]

theorem loopSwap_refused (h : s.swap ≠ [] ∨ bitsOf v.toNat 0 3 = 0) : ∃ t, exec (.loopSwap src v) s = .next t ∧
    t.getF Reg.LOOP_EVENTS_SWAP_REJECT = 1 ∧ onlyFields s t [(Reg.LOOP_EVENTS_SWAP_REJECT, 0)] := by
  refine ⟨_, ?_, s.getF_raise_self Reg.LOOP_EVENTS_SWAP_REJECT 0 (by decide) (by decide), s.setF_onlyFields _ _ _⟩
  rw [exec_loopSwap src v hl, if_pos (by simpa using h)]

theorem exec_loopSwap_taken (hs : s.swap = []) (hm : bitsOf v.toNat 0 3 ≠ 0) : exec (.loopSwap src v) s =
    .next { s with swap := [0, 1, 2].filter (bitOf (bitsOf v.toNat 0 3)), swapClear := bitOf v.toNat 3 } := by
  rw [exec_loopSwap src v hl, if_neg (by simp [hs, hm])]

end

/-- The address of word `w` of bank `k`. -/
def coefAddr (k w : Nat) : Nat := 0x40071000 + 512 * k + 4 * w

theorem coefAddr_bank {k w : Nat} (hw : w < 36) : (coefAddr k w - 0x40071000) / 512 = k := by
  unfold coefAddr
  omega

theorem coefAddr_word {k w : Nat} (hw : w < 36) : (coefAddr k w - 0x40071000) % 512 = 4 * w := by
  unfold coefAddr
  omega

theorem regFields_coef : ∀ k < 6, ∀ w < 36, regFields (coefAddr k w) = [(Reg.COEF_WORD, 36 * k + w)] := by decide +kernel

/-- What a bank keeps of the word written: I_CLAMP has 16 bits, and nothing is taken at a reserved word. -/
def coefTaken (w : Nat) (v : Word) : Option Word := if w = 7 then some (v &&& 0xFFFF) else if 13 ≤ w ∧ w ≤ 15 then none else some v

/-- Word `w` of bank `k` takes what the bank keeps of `v`. -/
def State.coefWrite (s : State) (src k w : Nat) (v : Word) : State :=
  match coefTaken w v with
  | some x => s.genericWrite src (coefAddr k w) x
  | none => s

section
variable {k w : Nat} (hk : k < 6) (hw : w < 36)
include hl hw

theorem exec_coefBankWrite : exec (.coefBankWrite src (coefAddr k w) v) s = .next
    (if !privileged src then s.denied src (regDetail (coefAddr k w))
    else if !s.swap.isEmpty || b2n (bitOf (s.getF Reg.LOOP_BANKS_ACTIVE) (k / 2)) == k % 2 then s.raise Reg.LOOP_EVENTS_BANK_REJECT
    else s.coefWrite src k w v) := by
  have hexec : exec (.coefBankWrite src (coefAddr k w) v) s = execCoefBankWrite src (coefAddr k w) v s := rfl
  rw [hexec, execCoefBankWrite, State.whenLive_of_live _ _ hl]
  simp only [coefAddr_bank hw, coefAddr_word hw, State.coefWrite, coefTaken]
  interval_cases w <;> rfl

theorem exec_coefBankWrite_denied (hp : privileged src = false) : exec (.coefBankWrite src (coefAddr k w) v) s =
    .next (s.denied src (regDetail (coefAddr k w))) := by
  rw [exec_coefBankWrite src v hl hw, hp]
  rfl

theorem coefBankWrite_refused (hp : privileged src = true)
    (h : s.swap ≠ [] ∨ b2n (bitOf (s.getF Reg.LOOP_BANKS_ACTIVE) (k / 2)) = k % 2) : ∃ t, exec (.coefBankWrite src (coefAddr k w) v) s = .next t ∧
      t.getF Reg.LOOP_EVENTS_BANK_REJECT = 1 ∧ onlyFields s t [(Reg.LOOP_EVENTS_BANK_REJECT, 0)] := by
  refine ⟨_, ?_, s.getF_raise_self Reg.LOOP_EVENTS_BANK_REJECT 0 (by decide) (by decide), s.setF_onlyFields _ _ _⟩
  rw [exec_coefBankWrite src v hl hw, if_neg (by simp [hp]), if_pos (by simpa using h)]

theorem exec_coefBankWrite_taken (hp : privileged src = true) (hs : s.swap = [])
    (h : b2n (bitOf (s.getF Reg.LOOP_BANKS_ACTIVE) (k / 2)) ≠ k % 2) :
    exec (.coefBankWrite src (coefAddr k w) v) s = .next (s.coefWrite src k w v) := by
  rw [exec_coefBankWrite src v hl hw, if_neg (by simp [hp]), if_neg (by simp [hs, h])]

end

section
variable (s) {k w : Nat} (hk : k < 6) (hw : w < 36) (hp : privileged src = true)
include hk hw hp

/-- A word written to a bank's register is the only one that changes. -/
theorem State.coefStore_spec (x : Word) :
    (s.genericWrite src (coefAddr k w) x).getF Reg.COEF_WORD (36 * k + w) = x.toNat ∧
      onlyFields s (s.genericWrite src (coefAddr k w) x) [(Reg.COEF_WORD, 36 * k + w)] := by
  have hfields := regFields_coef k hk w hw
  have hfree : ∀ e ∈ regFields (coefAddr k w), e.1.acc = .rwk ∧ e.1.ok = [] := by
    rw [hfields, List.forall_mem_singleton]
    exact ⟨rfl, rfl⟩
  have hapart : registerApart (coefAddr k w) = true := by
    rw [registerApart_iff, hfields, List.forall_mem_singleton]
    exact ⟨List.pairwise_singleton _ _, show Reg.COEF_WORD.w ≤ 32 by decide⟩
  refine ⟨?_, hfields ▸ s.genericWrite_onlyFields x hp hfree⟩
  rw [s.getF_genericWrite_taken x hp hfree hapart (hfields ▸ List.mem_singleton_self _)]
  exact (congrArg (· % 2 ^ 32) (Nat.div_one x.toNat)).trans (Nat.mod_eq_of_lt x.isLt)

theorem State.coefWrite_spec : (s.coefWrite src k w v).getF Reg.COEF_WORD (36 * k + w) =
      (if w = 7 then v.toNat % 2 ^ 16 else if 13 ≤ w ∧ w ≤ 15 then s.getF Reg.COEF_WORD (36 * k + w) else v.toNat) ∧
    onlyFields s (s.coefWrite src k w v) [(Reg.COEF_WORD, 36 * k + w)] := by
  unfold State.coefWrite coefTaken
  split_ifs
  · obtain ⟨hval, honly⟩ := s.coefStore_spec src hk hw hp (v &&& 0xFFFF)
    exact ⟨hval.trans ((BitVec.toNat_and ..).trans (Nat.and_two_pow_sub_one_eq_mod v.toNat 16)), honly⟩
  · exact ⟨rfl, rfl, fun _ _ _ => rfl⟩
  · exact s.coefStore_spec src hk hw hp v

end

/-! ### The enables (R191, R192; spec/16 R334) -/

section
variable (s)

/-- Actuator `a` goes from IDLE to IDLE or PARKED. -/
theorem State.setAct_of_idle {a st : Nat} (torn : Bool) (h : s.actState a = 0) (hst : st ≤ 1) :
    s.setAct a st torn = (s.setF Reg.ACT_STATE_STATE a st).setLoop a { s.loop a with uPrev := 0 } := by
  have hunavailable : ∀ u : State, u.actState a ≤ 1 → u.available a = false := fun u hu => by
    rw [State.available, decide_eq_false (by omega), Bool.false_and]
  have hafter : (s.setF Reg.ACT_STATE_STATE a st).actState a ≤ 1 := by rwa [State.actState_setF_self _ _ (by omega)]
  have hnow := State.mediaFollowed_of_same _ ((hunavailable _ hafter).trans (hunavailable s (by omega)).symm)
  rw [State.setAct, State.setActFor_of_not_track _ (by omega), State.stateEntered, hnow]
  simp only [if_neg (show st ≠ 7 by omega), if_pos (Or.inr hst : st = 7 ∨ st ≤ 1)]
  rfl

/-- What an enable changes of an actuator that is IDLE and not enabled. -/
def enabledFrom (s t : State) (a : Nat) (on : Bool) : Prop :=
  t.getF Reg.LOOP_CTRL_EN = s.getF Reg.LOOP_CTRL_EN + b2n on * 2 ^ a ∧ t.actState a = b2n on ∧
    (t.loop a = s.loop a ∨ t.loop a = { s.loop a with uPrev := 0 }) ∧ (∀ m, m ≠ a → t.loop m = s.loop m) ∧
    t = { s with regs := t.regs, loops := t.loops } ∧ fieldsKept s t [(Reg.ACT_STATE_STATE, a), (Reg.LOOP_CTRL_EN, 0)]

theorem State.loopEnable_of_idle {a : Nat} (on : Bool) (ha : a < 2) (hen : s.getF Reg.LOOP_CTRL_EN < 2 ^ a) (h : s.actState a = 0) :
    enabledFrom s (s.loopEnable a on) a on := by
  have hbit : bitOf (s.getF Reg.LOOP_CTRL_EN) a = false := by
    rw [bitOf_eq_testBit]
    exact Nat.testBit_lt_two_pow hen
  have hkey : ∀ b < 2, Reg.ACT_STATE_STATE.key b ≠ Reg.LOOP_CTRL_EN.key 0 := by decide
  cases on with
  | false =>
    rw [State.loopEnable, hbit]
    exact ⟨by simp [b2n], h, .inl rfl, fun _ _ => rfl, rfl, fun _ _ _ => rfl⟩
  | true =>
    have hidle : (s.setF Reg.LOOP_CTRL_EN 0 (s.getF Reg.LOOP_CTRL_EN + 2 ^ a)).actState a = 0 :=
      (s.getF_setF_ne _ _ _ _ _ (hkey a ha)).trans h
    have henabled : s.loopEnable a true = ((s.setF Reg.LOOP_CTRL_EN 0 (s.getF Reg.LOOP_CTRL_EN + 2 ^ a)).setF Reg.ACT_STATE_STATE a 1).setLoop a
        { s.loop a with uPrev := 0 } := by
      simp only [State.loopEnable, hbit]
      exact State.setAct_of_idle _ _ hidle le_rfl
    rw [henabled]
    refine ⟨?_, ?_, .inr (State.loop_setLoop_self _ _ _), fun m hm => State.loop_setLoop_ne _ _ _ _ hm, rfl, fun f i hne => ?_⟩
    · have hpow : 2 ^ a ≤ 2 ^ 1 := Nat.pow_le_pow_right (by decide) (by omega)
      rw [State.setLoop_getF, State.getF_setF_ne _ _ _ _ _ _ (hkey a ha).symm, State.getF_setF_self _ _ _ _ (by decide)]
      simp only [b2n, if_true, one_mul]
      exact Nat.mod_eq_of_lt (show _ < 8 by omega)
    · exact (State.setLoop_getF _ _ _ _ _).trans (State.actState_setF_self _ _ (by decide))
    · rw [State.setLoop_getF]
      exact (State.setF_fieldsKept s _ _ _).trans (State.setF_fieldsKept _ _ _ _) f i hne

theorem b2n_bitOf (x n : Nat) : b2n (bitOf x n) = x / 2 ^ n % 2 := by
  unfold b2n bitOf
  split <;> simp_all

theorem bitsOf_three (x : Nat) : b2n (bitOf x 0) + 2 * b2n (bitOf x 1) + 4 * bitsOf x 2 1 = bitsOf x 0 3 := by
  simp only [b2n_bitOf, bitsOf]
  omega

/-- The enables of the three loops take the bits of `v`. -/
def State.loopsEnabled (s : State) (v : Word) : State :=
  let s := (s.loopEnable 0 (bitOf v.toNat 0)).loopEnable 1 (bitOf v.toNat 1)
  s.setF Reg.LOOP_CTRL_EN 0 (s.getF Reg.LOOP_CTRL_EN % 4 + 4 * bitsOf v.toNat 2 1)

/-- With no loop enabled and both actuators in IDLE each enable is taken. -/
theorem State.loopsEnabled_of_idle (hen : s.getF Reg.LOOP_CTRL_EN = 0) (h0 : s.actState 0 = 0) (h1 : s.actState 1 = 0) :
    let t := s.loopsEnabled v
    t.getF Reg.LOOP_CTRL_EN = bitsOf v.toNat 0 3 ∧ t.actState 0 = b2n (bitOf v.toNat 0) ∧ t.actState 1 = b2n (bitOf v.toNat 1) ∧
      (∀ m, t.loop m = s.loop m ∨ t.loop m = { s.loop m with uPrev := 0 }) ∧ t = { s with regs := t.regs, loops := t.loops } ∧
      fieldsKept s t [(Reg.LOOP_CTRL_EN, 0), (Reg.ACT_STATE_STATE, 0), (Reg.ACT_STATE_STATE, 1)] := by
  have hle : ∀ b : Bool, b2n b ≤ 1 := by decide
  obtain ⟨hen0, hst0, hself0, hloop0, hframe0, hkept0⟩ :=
    s.loopEnable_of_idle (a := 0) (bitOf v.toNat 0) (by decide) (by omega) h0
  have hidle : (s.loopEnable 0 (bitOf v.toNat 0)).actState 1 = 0 := (hkept0 _ _ (by decide)).trans h1
  obtain ⟨hen1, hst1, hself1, hloop1, hframe1, hkept1⟩ :=
    (s.loopEnable 0 (bitOf v.toNat 0)).loopEnable_of_idle (a := 1) (bitOf v.toNat 1) (by decide)
      (by have := hle (bitOf v.toNat 0); omega) hidle
  simp only [State.loopsEnabled]
  generalize s.loopEnable 0 (bitOf v.toNat 0) = u at *
  generalize u.loopEnable 1 (bitOf v.toNat 1) = t at *
  refine ⟨?_, ?_, ?_, fun m => ?_, ?_, fun f i hne => ?_⟩
  · rw [State.getF_setF_self _ _ _ _ (by decide), ← bitsOf_three, hen1, hen0, hen]
    have := hle (bitOf v.toNat 0)
    have := hle (bitOf v.toNat 1)
    have : bitsOf v.toNat 2 1 < 2 := bitsOf_lt _ _ _
    exact (Nat.mod_eq_of_lt (show _ < 8 by omega)).trans (by omega)
  · exact (State.getF_setF_ne _ _ _ _ _ _ (by decide)).trans ((hkept1 _ _ (by decide)).trans hst0)
  · exact (State.getF_setF_ne _ _ _ _ _ _ (by decide)).trans hst1
  · rw [State.loop_congr (State.setF_loops _ _ _ _)]
    rcases eq_or_ne m 1 with rfl | hm
    · rwa [hloop0 1 (by decide)] at hself1
    · rw [hloop1 m hm]
      rcases eq_or_ne m 0 with rfl | hm0
      · exact hself0
      · exact .inl (hloop0 m hm0)
  · rw [hframe1, hframe0]
    rfl
  · simp only [List.forall_mem_cons] at hne
    obtain ⟨hen, hst0, hst1, -⟩ := hne
    rw [State.getF_setF_ne _ _ _ _ _ _ hen, hkept1 f i (by simpa using ⟨hst1, hen⟩), hkept0 f i (by simpa using ⟨hst0, hen⟩)]

theorem State.loopEnable_refused {a : Nat} (hbit : bitOf (s.getF Reg.LOOP_CTRL_EN) a = true) (h : 2 ≤ s.actState a) :
    s.loopEnable a false = s.raise Reg.LOOP_EVENTS_BANK_REJECT := by
  have hrest : s.atRest a = false := decide_eq_false (by omega)
  simp [State.loopEnable, hbit, hrest]

/-- The actuators that are not at rest stay enabled, and the spindle's speed loop is disabled. -/
theorem State.loopsEnabled_of_busy (hen : s.getF Reg.LOOP_CTRL_EN = 7) (hv : bitsOf v.toNat 0 3 = 0) (h0 : 2 ≤ s.actState 0)
    (h1 : 2 ≤ s.actState 1) : s.loopsEnabled v =
      ((s.raise Reg.LOOP_EVENTS_BANK_REJECT).raise Reg.LOOP_EVENTS_BANK_REJECT).setF Reg.LOOP_CTRL_EN 0 3 := by
  have hzero : b2n (bitOf v.toNat 0) = 0 ∧ b2n (bitOf v.toNat 1) = 0 ∧ bitsOf v.toNat 2 1 = 0 := by
    have := bitsOf_three v.toNat
    omega
  have hclear : ∀ b : Bool, b2n b = 0 → b = false := by decide
  have hkept : ∀ (u : State) (f : Field) (i : Nat), f.key i ≠ Reg.LOOP_EVENTS_BANK_REJECT.key 0 →
      (u.raise Reg.LOOP_EVENTS_BANK_REJECT).getF f i = u.getF f i := fun u f i h => u.getF_raise_ne _ _ _ _ h
  obtain ⟨hb0, hb1, hb2⟩ := hzero
  rw [State.loopsEnabled, hclear _ hb0, hclear _ hb1, hb2, s.loopEnable_refused (by rw [hen]; decide) h0,
    State.loopEnable_refused _ (by rw [hkept _ _ _ (by decide), hen]; decide) (by rwa [State.actState, hkept _ _ _ (by decide)]),
    hkept _ _ _ (by decide), hkept _ _ _ (by decide), hen]

end

section
include hl

theorem exec_loopCtrlWrite : exec (.loopCtrlWrite src v) s = .next
    (if !privileged src then s.denied src (regDetail 0x40070000)
    else if bitsOf v.toNat 0 3 != 0 && !s.onPll 2 then s.runReject src 0x40070000
    else s.loopsEnabled v) := by
  have hexec : exec (.loopCtrlWrite src v) s = execLoopCtrlWrite src v s := rfl
  rw [hexec, execLoopCtrlWrite, State.whenLive_of_live _ _ hl]
  rfl

theorem exec_loopCtrlWrite_denied (hp : privileged src = false) :
    exec (.loopCtrlWrite src v) s = .next (s.denied src (regDetail 0x40070000)) := by
  rw [exec_loopCtrlWrite src v hl, if_pos (by simp [hp])]

theorem exec_loopCtrlWrite_stopped (hp : privileged src = true) (hpll : s.onPll 2 = false) (hv : bitsOf v.toNat 0 3 ≠ 0) :
    exec (.loopCtrlWrite src v) s = .next (s.runReject src 0x40070000) := by
  rw [exec_loopCtrlWrite src v hl, if_neg (by simp [hp]), if_pos (by simp [hpll, hv])]

theorem exec_loopCtrlWrite_taken (hp : privileged src = true) (h : s.onPll 2 = true ∨ bitsOf v.toNat 0 3 = 0) :
    exec (.loopCtrlWrite src v) s = .next (s.loopsEnabled v) := by
  rw [exec_loopCtrlWrite src v hl, if_neg (by simp [hp]), if_neg]
  rcases h with h | h <;> simp [h]

theorem loopCtrlWrite_busy (hp : privileged src = true) (hen : s.getF Reg.LOOP_CTRL_EN = 7) (hv : bitsOf v.toNat 0 3 = 0)
    (h0 : 2 ≤ s.actState 0) (h1 : 2 ≤ s.actState 1) : ∃ t, exec (.loopCtrlWrite src v) s = .next t ∧ t.getF Reg.LOOP_CTRL_EN = 3 ∧
      t.getF Reg.LOOP_EVENTS_BANK_REJECT = 1 ∧ onlyFields s t [(Reg.LOOP_CTRL_EN, 0), (Reg.LOOP_EVENTS_BANK_REJECT, 0)] := by
  refine ⟨_, exec_loopCtrlWrite_taken src v hl hp (.inr hv), ?_⟩
  rw [s.loopsEnabled_of_busy v hen hv h0 h1]
  refine ⟨State.getF_setF_self _ _ _ _ (by decide), ?_, rfl, fun f i hne => ?_⟩
  · rw [State.getF_setF_ne _ _ _ _ _ _ (by decide), State.getF_raise_self _ _ _ (by decide) (by decide)]
  · simp only [List.forall_mem_cons] at hne
    obtain ⟨hen, hreject, -⟩ := hne
    rw [State.getF_setF_ne _ _ _ _ _ _ hen, State.getF_raise_ne _ _ _ _ _ hreject, State.getF_raise_ne _ _ _ _ _ hreject]

end

end Sys2Proof.Machine
end

section
/-! Shock: its begin, its release, and the ends of the hold and of the quiet period (spec/07 R160; spec/08 R178, R188), and the
obligation about banks, enables and shock. -/

namespace Sys2Proof.Machine

/-! ### SHOCK_N falls (R160, R188) -/

/-- SHOCK_N is low, and the sensor has been read once. -/
def State.shockStarted (s : State) (reading : BitVec 16) : State :=
  { s with shock := { low := true, sample := signed 16 reading.toNat, peak := (signed 16 reading.toNat).natAbs } }

theorem State.shockReading_first (s : State) (reading : BitVec 16) :
    State.shockReading { s with shock := { s.shock with low := true, peak := 0 } } reading = s.shockStarted reading := by
  simp [State.shockReading, State.shockStarted]

/-- Actuator `a` may not write: both counts begin, the write flag is down, write inhibit is up. -/
def State.shockFelt (s : State) (a : Nat) : State :=
  ((s.setLoop a { s.loop a with shockHold := some 0, shockQuiet := some 0 }).lower Reg.ACT_STATE_ON_TRK_WR a).raise Reg.ACT_STATE_WINH a

/-- Both actuators feel the shock, and no gate is forced off yet. -/
def State.shocked (s : State) (reading : BitVec 16) : State := ((s.shockStarted reading).shockFelt 0).shockFelt 1

section
variable (s : State)

theorem State.shockFelt_fieldsKept (a : Nat) : fieldsKept s (s.shockFelt a) [(Reg.ACT_STATE_WINH, a), (Reg.ACT_STATE_ON_TRK_WR, a)] :=
  fun f i hne => ((State.setF_fieldsKept _ _ _ _).trans (State.setF_fieldsKept _ _ _ _) f i hne).trans (State.setLoop_getF _ _ _ _ _)

theorem State.shockFelt_flags (a : Nat) :
    (s.shockFelt a).getF Reg.ACT_STATE_ON_TRK_WR a = 0 ∧ (s.shockFelt a).getF Reg.ACT_STATE_WINH a = 1 := by
  refine ⟨?_, State.getF_raise_self _ _ _ (by decide) (by decide)⟩
  rw [State.shockFelt, State.raise, State.getF_setF_apart _ _ _ _ _ (by decide), State.getF_lower_self _ _ _ (by decide)]

theorem State.shockFelt_loop_self (a : Nat) : (s.shockFelt a).loop a = { s.loop a with shockHold := some 0, shockQuiet := some 0 } :=
  State.loop_setLoop_self _ _ _

theorem State.shockFelt_loop_ne {a m : Nat} (h : m ≠ a) : (s.shockFelt a).loop m = s.loop m := State.loop_setLoop_ne _ _ _ _ h

theorem State.shockFelt_frame (a : Nat) : s.shockFelt a = { s with regs := (s.shockFelt a).regs, loops := (s.shockFelt a).loops } := rfl

theorem State.shocked_frame (reading : BitVec 16) : s.shocked reading = { s with
    regs := (s.shocked reading).regs, loops := (s.shocked reading).loops, shock := (s.shocked reading).shock } := by
  rw [State.shocked, State.shockFelt_frame, State.shockFelt_frame (s.shockStarted reading)]
  rfl

theorem State.shocked_rw (reading : BitVec 16) (m : Nat) : (s.shocked reading).rw m = s.rw m := by
  rw [State.rw, s.shocked_frame reading]
  rfl

theorem State.shocked_spec (reading : BitVec 16) : let t := s.shocked reading
    (∀ m < 2, t.getF Reg.ACT_STATE_ON_TRK_WR m = 0 ∧ t.getF Reg.ACT_STATE_WINH m = 1 ∧
      t.loop m = { s.loop m with shockHold := some 0, shockQuiet := some 0 }) ∧
    t = { s with regs := t.regs, loops := t.loops, shock := t.shock } ∧ fieldsKept s t [(Reg.ACT_STATE_ON_TRK_WR, 0),
      (Reg.ACT_STATE_ON_TRK_WR, 1), (Reg.ACT_STATE_WINH, 0), (Reg.ACT_STATE_WINH, 1)] := by
  refine ⟨fun m hm => ?_, s.shocked_frame reading, fun f i hne => ?_⟩
  · obtain ⟨hwr, hinh⟩ := State.shockFelt_flags (s.shockStarted reading) 0
    have hsecond := State.shockFelt_fieldsKept ((s.shockStarted reading).shockFelt 0) 1
    match m, hm with
    | 0, _ =>
      refine ⟨(hsecond _ _ (by decide)).trans hwr, (hsecond _ _ (by decide)).trans hinh, ?_⟩
      rw [State.shocked, State.shockFelt_loop_ne _ (by decide), State.shockFelt_loop_self]
      rfl
    | 1, _ =>
      obtain ⟨hwr, hinh⟩ := State.shockFelt_flags ((s.shockStarted reading).shockFelt 0) 1
      refine ⟨hwr, hinh, ?_⟩
      rw [State.shocked, State.shockFelt_loop_self, State.shockFelt_loop_ne _ (by decide)]
      rfl
  · simp only [List.forall_mem_cons] at hne
    obtain ⟨hwr0, hwr1, hinh0, hinh1, -⟩ := hne
    rw [State.shocked, State.shockFelt_fieldsKept _ 1 f i (by simpa using ⟨hinh1, hwr1⟩),
      State.shockFelt_fieldsKept _ 0 f i (by simpa using ⟨hinh0, hwr0⟩)]
    rfl

end

/-- A tear leaves the other channel. -/
theorem State.tear_rw_ne (s : State) {ch m : Nat} (cause : Nat) (r : Rec) (h : m ≠ ch) : (s.tear ch cause r).rw m = s.rw m := by
  have hrwc : (s.tear ch cause r).rwc = (s.setRw ch { s.rw ch with wq := { r with torn := true } :: (s.rw ch).wq }).rwc := by
    simp only [State.tear, State.event_rwc, State.setF_rwc, State.bump_rwc, State.raise_rwc]
  rw [State.rw_congr hrwc, State.rw_setRw_ne _ _ _ _ h]

section
variable {s : State} (hl : s.live = true)
include hl

theorem exec_shockAssert (reading : BitVec 16) (tornA tornB : Bool) : exec (.shockAssert reading tornA tornB) s =
    .next (((s.shocked reading).forceOff 0 5 tornA).forceOff 1 5 tornB) := by
  have hexec : exec (.shockAssert reading tornA tornB) s = execShockAssert reading tornA tornB s := rfl
  rw [hexec, execShockAssert, State.whenLive_of_live _ _ hl]
  simp only [State.shockReading_first]
  rfl

theorem exec_shockAssert_closed (reading : BitVec 16) (tornA tornB : Bool) (h0 : (s.rw 0).gate = none) (h1 : (s.rw 1).gate = none) :
    exec (.shockAssert reading tornA tornB) s = .next (s.shocked reading) := by
  rw [exec_shockAssert hl, State.forceOff_of_closed _ 0 5 tornA (by rw [State.shocked_rw, h0]),
    State.forceOff_of_closed _ 1 5 tornB (by rw [State.shocked_rw, h1])]

/-- A gate open before the dram is torn with cause 5. -/
theorem shockAssert_tears (reading : BitVec 16) (tornB : Bool) {r : Rec} (h0 : (s.rw 0).gate = some r) (h1 : (s.rw 1).gate = none) :
    ∃ t, exec (.shockAssert reading true tornB) s = .next t ∧ (t.rw 0).gate = none ∧
      (t.rw 0).wq = { r with torn := true } :: (s.rw 0).wq ∧ t.getF Reg.RWC_TEAR_LAST_CAUSE 0 = 5 := by
  let u := (s.shocked reading).setRw 0 { (s.shocked reading).rw 0 with gate := none, sector := [] }
  obtain ⟨hrw, -, -, hcause, -⟩ := u.tear_spec 0 5 r (by decide)
  have hother : ((u.tear 0 5 r).rw 1).gate = none := by
    rw [State.tear_rw_ne _ 5 r (by decide), State.rw_setRw_ne _ _ _ _ (by decide), State.shocked_rw, h1]
  refine ⟨u.tear 0 5 r, ?_, by rw [hrw, State.rw_setRw_self], by rw [hrw, State.rw_setRw_self, State.shocked_rw], hcause⟩
  rw [exec_shockAssert hl, State.forceOff_of_torn _ 0 5 r (by rw [State.shocked_rw, h0]), State.forceOff_of_closed _ 1 5 tornB hother]

/-! ### SHOCK_N rises, and the periods that end after it (R188) -/

theorem shockRelease_spec (h : s.shock.low = true) : ∃ t, exec .shockRelease s = .next t ∧ t.shock = { s.shock with low := false } ∧
    t.getF Reg.SHK_LAST_PEAK = s.shock.peak % 2 ^ 16 ∧ t.evr = (s.event 0x29 0 0 s.shock.peak).evr ∧
    t = { s with regs := t.regs, shock := t.shock, evr := t.evr } ∧ fieldsKept s t [(Reg.SHK_LAST_PEAK, 0)] := by
  have hexec : exec .shockRelease s = execShockRelease s := rfl
  rw [hexec, execShockRelease, State.whenLive_of_live _ _ hl, State.when', if_pos h]
  refine ⟨_, rfl, ?_, ?_, State.event_evr_congr ?_ ?_ ?_ _ _ _ _, ?_, fun f i hne => ?_⟩
  · rw [State.event_shock, State.setF_shock]
  · rw [State.event_getF, State.getF_setF_self _ _ _ _ (by decide)]
    rfl
  · rw [State.setF_live]
    rfl
  · rfl
  · rfl
  · rw [State.event_withEvr]
    rfl
  · rw [State.event_getF, State.setF_fieldsKept _ _ _ _ f i hne]
    rfl

theorem exec_shockHoldEnd {a n : Nat} (h : (s.loop a).shockHold = some n) : exec (.shockHoldEnd a) s = .next
    (if !s.shock.low && decide (s.getF Reg.SHK_CTRL_SHK_HOLD ≤ n) then s.setLoop a { s.loop a with shockHold := none } else s) := by
  have hexec : exec (.shockHoldEnd a) s = execShockHoldEnd a s := rfl
  rw [hexec, execShockHoldEnd, State.whenLive_of_live _ _ hl]
  simp only [h]

theorem exec_shockQuietEnd {a n : Nat} (h : (s.loop a).shockQuiet = some n) : exec (.shockQuietEnd a) s = .next
    (if !s.shock.low && decide (s.getF Reg.SHK_CTRL_SHK_QUIET ≤ n) then
      (s.setLoop a { s.loop a with shockQuiet := none }).trackFlags a (((s.loop a).pesHist.head?.map (·.2)).getD true) true
    else s) := by
  have hexec : exec (.shockQuietEnd a) s = execShockQuietEnd a s := rfl
  rw [hexec, execShockQuietEnd, State.whenLive_of_live _ _ hl]
  simp only [h, State.loop_setLoop_self]

end

/-! ### The on-track flags (R178) -/

section
variable (s : State) (a : Nat)

/-- |PES| of the last sample. -/
def State.lastPes : Nat := ((s.loop a).pesHist.head?.map (·.1)).getD 0

/-- ON_TRK_RD as it is judged now. -/
def State.mayRead : Bool := s.actState a == 3 && decide (s.lastPes a ≤ s.getF Reg.LIM_RD_RD_LIM a)

/-- No shock stands, and no period after one runs. -/
def State.quiet : Bool :=
  !shockRuns (s.loop a).shockHold (s.getF Reg.SHK_CTRL_SHK_HOLD) && !shockRuns (s.loop a).shockQuiet (s.getF Reg.SHK_CTRL_SHK_QUIET) &&
    !s.shock.low

/-- ON_TRK_WR as it is judged now. -/
def State.mayWriteTrack : Bool :=
  s.actState a == 3 && (s.loop a).jog == 0 && (s.loop a).want == 0 && s.quiet a &&
    decide (s.getF Reg.COUNTS_WR_N a ≤ (s.loop a).pesHist.length) &&
    ((s.loop a).pesHist.take (s.getF Reg.COUNTS_WR_N a)).all (fun x => decide (x.1 ≤ s.getF Reg.LIM_WR_WR_LIM a) && !x.2)

/-- Write inhibit as it is judged now. -/
def State.inhibited (missed : Bool) : Bool :=
  !(s.actState a == 3) || decide (s.getF Reg.LIM_WR_WI_LIM a < s.lastPes a) || missed || s.shock.low

/-- The three flags, and no gate forced off. -/
def State.flagsJudged (missed : Bool) : State :=
  ((s.setBit Reg.ACT_STATE_ON_TRK_RD a (s.mayRead a)).setBit Reg.ACT_STATE_ON_TRK_WR a (s.mayWriteTrack a)).setBit Reg.ACT_STATE_WINH a
    (s.inhibited a missed)

theorem State.trackFlags_eq (missed torn : Bool) : s.trackFlags a missed torn =
    if s.inhibited a missed then (s.flagsJudged a missed).forceOff a 4 torn else s.flagsJudged a missed := by
  unfold State.trackFlags
  rfl

theorem State.trackFlags_of_closed (missed torn : Bool) (hg : (s.rw a).gate = none) :
    s.trackFlags a missed torn = s.flagsJudged a missed := by
  rw [State.trackFlags_eq, State.forceOff_of_closed (s.flagsJudged a missed) a 4 torn hg, ite_self]

theorem State.flagsJudged_onTrkWr (missed : Bool) : (s.flagsJudged a missed).getF Reg.ACT_STATE_ON_TRK_WR a = b2n (s.mayWriteTrack a) := by
  rw [State.flagsJudged, State.setBit, State.getF_setF_apart _ _ _ _ _ (by decide), State.getF_setBit_self _ _ _ _ (by decide) (by decide)]

theorem State.mayWriteTrack_of_settled (h3 : s.actState a = 3) (hj : (s.loop a).jog = 0) (hw : (s.loop a).want = 0) (hq : s.quiet a = true)
    (hn : s.getF Reg.COUNTS_WR_N a ≤ (s.loop a).pesHist.length)
    (hall : ∀ x ∈ (s.loop a).pesHist, x.1 ≤ s.getF Reg.LIM_WR_WR_LIM a ∧ x.2 = false) : s.mayWriteTrack a = true := by
  have htake : ((s.loop a).pesHist.take (s.getF Reg.COUNTS_WR_N a)).all (fun x => decide (x.1 ≤ s.getF Reg.LIM_WR_WR_LIM a) && !x.2) =
      true := List.all_eq_true.2 fun x hx => by simpa using hall x (List.mem_of_mem_take hx)
  simp [State.mayWriteTrack, h3, hj, hw, hq, hn, htake]

end

theorem shockQuietEnd_spec {s : State} (hl : s.live = true) {a n : Nat} (h : (s.loop a).shockQuiet = some n) (hlow : s.shock.low = false)
    (hn : s.getF Reg.SHK_CTRL_SHK_QUIET ≤ n) (hg : (s.rw a).gate = none) : ∃ t, exec (.shockQuietEnd a) s = .next t ∧
      t.loop a = { s.loop a with shockQuiet := none } ∧ t = { s with regs := t.regs, loops := t.loops } ∧
      (s.actState a = 3 → (s.loop a).jog = 0 → (s.loop a).want = 0 → (s.loop a).shockHold = none →
        s.getF Reg.COUNTS_WR_N a ≤ (s.loop a).pesHist.length →
        (∀ x ∈ (s.loop a).pesHist, x.1 ≤ s.getF Reg.LIM_WR_WR_LIM a ∧ x.2 = false) → t.getF Reg.ACT_STATE_ON_TRK_WR a = 1) := by
  let u := s.setLoop a { s.loop a with shockQuiet := none }
  have hu : u.loop a = { s.loop a with shockQuiet := none } := State.loop_setLoop_self _ _ _
  refine ⟨u.flagsJudged a (((s.loop a).pesHist.head?.map (·.2)).getD true), ?_, hu, rfl, fun h3 hj hw hh hc hall => ?_⟩
  · rw [exec_shockQuietEnd hl h, if_pos (by simp [hlow, hn]), State.trackFlags_of_closed u a _ true hg]
  · have hfields : ∀ f i, u.getF f i = s.getF f i := State.setLoop_getF _ _ _
    have hquiet : u.quiet a = true := by
      rw [State.quiet, hu, hh, show u.shock = s.shock from rfl, hlow]
      rfl
    rw [State.flagsJudged_onTrkWr, u.mayWriteTrack_of_settled a ((hfields _ _).trans h3) (by rw [hu, hj]) (by rw [hu, hw]) hquiet
      (by rwa [hu, hfields]) (by simpa only [hu, hfields] using hall)]
    rfl

/-- Settles O29: swaps, banks and enables by their accepted and refused forms, a shock by what both actuators feel of it, and the ends of
its periods. -/
theorem banksEnablesAndShock : Obligations.BanksEnablesAndShock := by
  refine ⟨fun s src k w v hl => ⟨loopSwap_refused src v hl, exec_loopSwap_taken src v hl, fun hk hw => ⟨?_, ?_, fun hp hs h => ?_⟩,
    exec_loopCtrlWrite_denied src v hl, exec_loopCtrlWrite_stopped src v hl, fun hp hpll hen h0 h1 => ?_, loopCtrlWrite_busy src v hl⟩,
    fun s reading a n r tornA tornB hl ha => ⟨fun h0 h1 => ?_, shockAssert_tears hl reading tornB, shockRelease_spec hl,
      fun h hlow hn => ?_, fun h hn => ?_, shockQuietEnd_spec hl, fun h hn => ?_⟩⟩
  · exact exec_coefBankWrite_denied src v hl hw
  · exact coefBankWrite_refused src v hl hw
  · exact ⟨_, exec_coefBankWrite_taken src v hl hw hp hs h, s.coefWrite_spec src v hk hw hp⟩
  · exact ⟨_, exec_loopCtrlWrite_taken src v hl hp (.inl hpll), s.loopsEnabled_of_idle v hen h0 h1⟩
  · exact ⟨_, exec_shockAssert_closed hl reading tornA tornB h0 h1, rfl, rfl, s.shocked_spec reading⟩
  · rw [exec_shockHoldEnd hl h, if_pos (by simp [hlow, hn])]
  · rw [exec_shockHoldEnd hl h, if_neg (by simp [hn])]
  · rw [exec_shockQuietEnd hl h, if_neg (by simp [hn])]

end Sys2Proof.Machine
end

section
/-! What a loop that changes state leaves as it was (spec/08 R177, R178, R190; spec/09 R207): the parts of the state that it may touch,
the register fields that it may set, and the retract below UNLOAD_RPM. -/

namespace Sys2Proof.Machine

-- One theorem at a time: the memory that the compile of the whole text takes stays as it is.
set_option Elab.async false

/-! ### The parts of the state that a loop's change of state may touch -/

/-- `t` differs from `s` at most in registers, loops, read/write channels, events and what shedding may change. -/
def loopFrame (s t : State) : Prop :=
  t = { s with
    regs := t.regs, evr := t.evr, tenants := t.tenants, dict := t.dict, critSeen := t.critSeen, shed := t.shed, shedIn := t.shedIn
    rwc := t.rwc, loops := t.loops }

theorem loopFrame.trans {s t u : State} (h : loopFrame s t) (h' : loopFrame t u) : loopFrame s u :=
  Eq.trans h' (congrArg (fun v : State => { v with
    regs := u.regs, evr := u.evr, tenants := u.tenants, dict := u.dict, critSeen := u.critSeen, shed := u.shed, shedIn := u.shedIn
    rwc := u.rwc, loops := u.loops }) h)

theorem shedFrame.toLoopFrame {s t : State} (h : shedFrame s t) : loopFrame s t := by
  rw [loopFrame, h]

theorem shedFrame.rwc {s t : State} (h : shedFrame s t) : t.rwc = s.rwc := by rw [h]
theorem shedFrame.loops {s t : State} (h : shedFrame s t) : t.loops = s.loops := by rw [h]

section
variable {s t : State} (h : loopFrame s t)
include h

theorem loopFrame.chans : t.chans = s.chans := by rw [h]
theorem loopFrame.power : t.power = s.power := by rw [h]
theorem loopFrame.spindle : t.spindle = s.spindle := by rw [h]
theorem loopFrame.spl : t.spl = s.spl := by rw [h]

end

section
variable (s : State) (a : Nat)

/-! ### A write gate forced off -/

/-- Forcing the write gate of channel `a` off completes no record: none is under it, or the record is torn. -/
def State.completesNone (s : State) (a : Nat) (torn : Bool) : Prop := (s.rw a).gate = none ∨ torn = true

/-- The fields that a tear sets. -/
def tearFields (a : Nat) : List (Field × Nat) :=
  [(Reg.RWC_TEAR_LAST_PLACE_BUSHEL, a), (Reg.RWC_TEAR_LAST_CAUSE, a), (Reg.RWC_CNT_TEAR_COUNT, a), (Reg.RWC_EVENTS_TEAR, a)]

theorem State.tear_fieldsKept (cause : Nat) (r : Rec) : fieldsKept s (s.tear a cause r) (tearFields a) := fun f i hne => by
  rw [State.tear, State.event_getF]
  exact ((((State.setF_fieldsKept _ _ _ _).trans (State.setF_fieldsKept _ _ _ _)).trans (State.setF_fieldsKept _ _ _ _)).trans
    (State.setF_fieldsKept _ _ _ _) f i hne).trans (State.setRw_getF _ _ _ _ _)

section
variable {a : Nat} (cause : Nat) {torn : Bool} (hc : s.completesNone a torn)
include hc

/-- The gate forced off without a record completed: nothing, or a tear. -/
theorem State.forceOff_cases : s.forceOff a cause torn = s ∨
    ∃ r, s.forceOff a cause torn = (s.setRw a { s.rw a with gate := none, sector := [] }).tear a cause r := by
  rcases hg : (s.rw a).gate with _ | r
  · exact .inl (s.forceOff_of_closed a cause torn hg)
  · obtain rfl : torn = true := hc.resolve_left (by simp [hg])
    exact .inr ⟨r, s.forceOff_of_torn a cause r hg⟩

theorem State.forceOff_loopFrame : loopFrame s (s.forceOff a cause torn) := by
  obtain h | ⟨r, h⟩ := s.forceOff_cases cause hc <;> rw [h]
  · rfl
  · rw [State.tear_withRwc]
    rfl

theorem State.forceOff_fieldsKept : fieldsKept s (s.forceOff a cause torn) (tearFields a) := by
  obtain h | ⟨r, h⟩ := s.forceOff_cases cause hc <;> rw [h]
  · exact fieldsKept_of_regs rfl _
  · exact fun f i hne => (State.tear_fieldsKept _ a cause r f i hne).trans (State.setRw_getF _ _ _ _ _)

theorem State.forceOff_loops : (s.forceOff a cause torn).loops = s.loops := by
  obtain h | ⟨r, h⟩ := s.forceOff_cases cause hc <;> rw [h]
  rw [State.tear_withRwc, State.setRw_loops]

theorem State.forceOff_rw_ne {m : Nat} (hm : m ≠ a) : (s.forceOff a cause torn).rw m = s.rw m := by
  obtain h | ⟨r, h⟩ := s.forceOff_cases cause hc <;> rw [h]
  rw [State.tear_rw_ne _ _ _ hm, State.rw_setRw_ne _ _ _ _ hm]

end

/-! ### A state entered -/

/-- The fields that entering a state may set. -/
def enteredFields (a : Nat) : List (Field × Nat) := portFields a ++ (mediaFields ++ [(Reg.ACT_STATE_STATE, a)])

variable (st : Nat)

/-- The state set, and MEDIA_NOW after it. -/
def State.stateSet (s : State) (a st : Nat) : State := (s.setF Reg.ACT_STATE_STATE a st).mediaFollowed a (s.available a)

theorem State.stateSet_shedFrame : shedFrame s (s.stateSet a st) :=
  shedFrame.trans (show shedFrame s (s.setF Reg.ACT_STATE_STATE a st) from rfl) (State.mediaFollowed_shedFrame _ _ _)

theorem State.stateSet_fieldsKept : fieldsKept s (s.stateSet a st) (mediaFields ++ [(Reg.ACT_STATE_STATE, a)]) :=
  (s.setF_fieldsKept _ _ _).trans (State.mediaFollowed_fieldsKept _ _ _)

/-- A retract has ended the port's read. -/
def State.readEnded (s : State) (a st : Nat) : State := if st = 7 then s.portFail a else s

/-- The output is 0 in a state that has none. -/
def State.outputEnded (s : State) (a st : Nat) : State := if st = 7 ∨ st ≤ 1 then s.setLoop a { s.loop a with uPrev := 0 } else s

theorem State.stateEntered_eq : s.stateEntered a st = ((s.stateSet a st).readEnded a st).outputEnded a st := rfl

theorem State.readEnded_frame : s.readEnded a st = { s with regs := (s.readEnded a st).regs, rwc := (s.readEnded a st).rwc } ∧
    fieldsKept s (s.readEnded a st) (portFields a) ∧ ∀ m, ((s.readEnded a st).rw m).gate = (s.rw m).gate := by
  unfold State.readEnded
  split
  · exact ⟨s.portFail_withRwc a, s.portFail_fieldsKept a, s.portFail_gate a⟩
  · exact ⟨rfl, fieldsKept_of_regs rfl _, fun _ => rfl⟩

theorem State.outputEnded_withLoops : s.outputEnded a st = { s with loops := (s.outputEnded a st).loops } := by
  unfold State.outputEnded
  split <;> rfl

theorem State.outputEnded_regs : (s.outputEnded a st).regs = s.regs := by rw [State.outputEnded_withLoops]
theorem State.outputEnded_rwc : (s.outputEnded a st).rwc = s.rwc := by rw [State.outputEnded_withLoops]

theorem State.outputEnded_loop_ne {m : Nat} (hm : m ≠ a) : (s.outputEnded a st).loop m = s.loop m := by
  unfold State.outputEnded
  split
  · exact State.loop_setLoop_ne _ _ _ _ hm
  · rfl

theorem State.outputEnded_loop_self : (s.outputEnded a st).loop a = { s.loop a with uPrev := ((s.outputEnded a st).loop a).uPrev } := by
  unfold State.outputEnded
  split
  · rw [State.loop_setLoop_self]
  · rfl

theorem State.stateEntered_loopFrame : loopFrame s (s.stateEntered a st) := by
  obtain ⟨hread, -⟩ := (s.stateSet a st).readEnded_frame a st
  refine (s.stateSet_shedFrame a st).toLoopFrame.trans ?_
  rw [State.stateEntered_eq, State.outputEnded_withLoops, hread]
  rfl

theorem State.stateEntered_fieldsKept : fieldsKept s (s.stateEntered a st) (enteredFields a) := by
  obtain ⟨-, hread, -⟩ := (s.stateSet a st).readEnded_frame a st
  refine fun f i hne => Eq.trans ?_ ((s.stateSet_fieldsKept a st).trans hread f i hne)
  exact State.getF_congr (State.outputEnded_regs _ a st) f i

theorem State.stateEntered_gate (m : Nat) : ((s.stateEntered a st).rw m).gate = (s.rw m).gate := by
  obtain ⟨-, -, hread⟩ := (s.stateSet a st).readEnded_frame a st
  rw [State.stateEntered_eq, State.rw_congr (State.outputEnded_rwc _ a st), hread,
    State.rw_congr (s.stateSet_shedFrame a st).rwc]

/-- A state that is not RETRACT leaves the read/write channels. -/
theorem State.stateEntered_rwc (h : st ≠ 7) : (s.stateEntered a st).rwc = s.rwc := by
  rw [State.stateEntered_eq, State.outputEnded_rwc, State.readEnded, if_neg h, (s.stateSet_shedFrame a st).rwc]

theorem State.stateEntered_loop_ne {m : Nat} (hm : m ≠ a) : (s.stateEntered a st).loop m = s.loop m := by
  obtain ⟨hread, -⟩ := (s.stateSet a st).readEnded_frame a st
  rw [State.stateEntered_eq, State.outputEnded_loop_ne _ _ _ hm, hread]
  exact State.loop_congr (s.stateSet_shedFrame a st).loops m

/-- A state entered may end the output; the rest of the loop stays. -/
theorem State.stateEntered_loop_self :
    (s.stateEntered a st).loop a = { s.loop a with uPrev := ((s.stateEntered a st).loop a).uPrev } := by
  obtain ⟨hread, -⟩ := (s.stateSet a st).readEnded_frame a st
  have hsame : ((s.stateSet a st).readEnded a st).loop a = s.loop a := by
    rw [hread]
    exact State.loop_congr (s.stateSet_shedFrame a st).loops a
  have hself := ((s.stateSet a st).readEnded a st).outputEnded_loop_self a st
  rwa [hsame] at hself

theorem State.stateEntered_actState (ha : a < 2) (hst : st < 8) : (s.stateEntered a st).actState a = st := by
  obtain ⟨-, hread, -⟩ := (s.stateSet a st).readEnded_frame a st
  obtain ⟨hport, hmedia⟩ := actState_apart a ha
  rw [State.actState, State.stateEntered_eq, State.getF_congr (State.outputEnded_regs _ a st), hread _ _ hport, State.stateSet,
    State.mediaFollowed_fieldsKept _ _ _ _ _ hmedia, ← State.actState, State.actState_setF_self _ _ hst]

/-! ### TRACK left, and a state changed -/

/-- The fields that leaving TRACK may set. -/
def leftFields (a : Nat) : List (Field × Nat) :=
  tearFields a ++ [(Reg.ACT_STATE_WINH, a), (Reg.ACT_STATE_ON_TRK_WR, a), (Reg.ACT_STATE_ON_TRK_RD, a)]

/-- The fields that a change of state may set. -/
def stateFields (a : Nat) : List (Field × Nat) := leftFields a ++ enteredFields a

/-- Actuator `a` is off its track, and its write gate not yet forced off. -/
def State.flagsDown (s : State) (a : Nat) : State :=
  (((s.setRw a { s.rw a with rgate := none }).lower Reg.ACT_STATE_ON_TRK_RD a).lower Reg.ACT_STATE_ON_TRK_WR a).raise Reg.ACT_STATE_WINH a

theorem State.trackLeft_eq (cause : Nat) (torn : Bool) : s.trackLeft a cause torn = (s.flagsDown a).forceOff a cause torn := rfl

theorem State.flagsDown_rw_self : (s.flagsDown a).rw a = { s.rw a with rgate := none } := State.rw_setRw_self _ _ _

theorem State.flagsDown_rw_ne {m : Nat} (hm : m ≠ a) : (s.flagsDown a).rw m = s.rw m := State.rw_setRw_ne _ _ _ _ hm

theorem State.flagsDown_fieldsKept : fieldsKept s (s.flagsDown a)
    [(Reg.ACT_STATE_WINH, a), (Reg.ACT_STATE_ON_TRK_WR, a), (Reg.ACT_STATE_ON_TRK_RD, a)] := fun f i hne =>
  (((State.setF_fieldsKept _ _ _ _).trans (State.setF_fieldsKept _ _ _ _)).trans (State.setF_fieldsKept _ _ _ _) f i hne).trans
    (State.setRw_getF _ _ _ _ _)

theorem State.flagsDown_completesNone {torn : Bool} (hc : s.completesNone a torn) : (s.flagsDown a).completesNone a torn := by
  rwa [State.completesNone, State.flagsDown_rw_self]

theorem State.stateEntered_completesNone {torn : Bool} (m : Nat) (hc : s.completesNone m torn) :
    (s.stateEntered a st).completesNone m torn := by
  rwa [State.completesNone, State.stateEntered_gate]

/-- A loop changes state by entering it, and where it was in TRACK by leaving that. -/
theorem State.setActFor_cases (cause : Nat) (torn : Bool) : s.setActFor a st cause torn = s.stateEntered a st ∨
    (s.actState a = 3 ∧ s.setActFor a st cause torn = (s.stateEntered a st).trackLeft a cause torn) := by
  rw [State.setActFor_eq]
  split
  next h => exact .inr ⟨by simpa using (Bool.and_eq_true_iff.1 h).1, rfl⟩
  next => exact .inl rfl

section
variable {a : Nat} (cause : Nat) {torn : Bool} (hc : s.completesNone a torn)
include hc

theorem State.trackLeft_loopFrame : loopFrame s (s.trackLeft a cause torn) :=
  loopFrame.trans (show loopFrame s (s.flagsDown a) from rfl) (State.forceOff_loopFrame _ cause (s.flagsDown_completesNone a hc))

theorem State.trackLeft_fieldsKept : fieldsKept s (s.trackLeft a cause torn) (leftFields a) :=
  (s.flagsDown_fieldsKept a).trans (State.forceOff_fieldsKept _ cause (s.flagsDown_completesNone a hc))

theorem State.trackLeft_loops : (s.trackLeft a cause torn).loops = s.loops :=
  State.forceOff_loops _ cause (s.flagsDown_completesNone a hc)

theorem State.trackLeft_rw_ne {m : Nat} (hm : m ≠ a) : (s.trackLeft a cause torn).rw m = s.rw m := by
  rw [State.trackLeft_eq, State.forceOff_rw_ne _ cause (s.flagsDown_completesNone a hc) hm, State.flagsDown_rw_ne _ _ hm]

theorem State.setActFor_loopFrame : loopFrame s (s.setActFor a st cause torn) := by
  obtain h | ⟨-, h⟩ := s.setActFor_cases a st cause torn <;> rw [h]
  · exact s.stateEntered_loopFrame a st
  · exact (s.stateEntered_loopFrame a st).trans (State.trackLeft_loopFrame _ cause (s.stateEntered_completesNone a st a hc))

theorem State.setActFor_fieldsKept : fieldsKept s (s.setActFor a st cause torn) (stateFields a) := by
  obtain h | ⟨-, h⟩ := s.setActFor_cases a st cause torn <;> rw [h]
  · exact fun f i hne => s.stateEntered_fieldsKept a st f i fun e he => hne e (List.mem_append_right _ he)
  · exact (s.stateEntered_fieldsKept a st).trans (State.trackLeft_fieldsKept _ cause (s.stateEntered_completesNone a st a hc))

theorem State.setActFor_loops : (s.setActFor a st cause torn).loops = (s.stateEntered a st).loops := by
  obtain h | ⟨-, h⟩ := s.setActFor_cases a st cause torn <;> rw [h]
  exact State.trackLeft_loops _ cause (s.stateEntered_completesNone a st a hc)

theorem State.setActFor_gate_ne {m : Nat} (hm : m ≠ a) : ((s.setActFor a st cause torn).rw m).gate = (s.rw m).gate := by
  obtain h | ⟨-, h⟩ := s.setActFor_cases a st cause torn <;> rw [h]
  · exact s.stateEntered_gate a st m
  · rw [State.trackLeft_rw_ne _ cause (s.stateEntered_completesNone a st a hc) hm, State.stateEntered_gate]

end

theorem actState_apart_left : ∀ a < 2, ∀ e ∈ leftFields a, Reg.ACT_STATE_STATE.key a ≠ e.1.key e.2 := by decide

theorem actState_apart_other : ∀ a < 2, ∀ e ∈ stateFields a, Reg.ACT_STATE_STATE.key (1 - a) ≠ e.1.key e.2 := by decide

section
variable {a : Nat} (cause : Nat) {torn : Bool} (ha : a < 2) (hc : s.completesNone a torn)
include ha hc

theorem State.setActFor_actState (hst : st < 8) : (s.setActFor a st cause torn).actState a = st := by
  obtain h | ⟨-, h⟩ := s.setActFor_cases a st cause torn <;> rw [h]
  · exact s.stateEntered_actState a st ha hst
  · rw [State.actState, State.trackLeft_fieldsKept _ cause (s.stateEntered_completesNone a st a hc) _ _ (actState_apart_left a ha),
      ← State.actState, s.stateEntered_actState a st ha hst]

end

/-! ### A retract (R190) and the retract below UNLOAD_RPM (R207) -/

section
variable {a : Nat} (cause : Nat) {torn : Bool} (hc : s.completesNone a torn)

theorem State.retractLoopFor_eq (torn : Bool) : s.retractLoopFor a cause torn = (s.retractAsked a).setActFor a 7 cause torn := rfl

include hc

theorem State.retractLoopFor_loopFrame : loopFrame s (s.retractLoopFor a cause torn) :=
  loopFrame.trans (show loopFrame s (s.retractAsked a) from rfl) ((s.retractAsked a).setActFor_loopFrame 7 cause hc)

theorem State.retractLoopFor_fieldsKept : fieldsKept s (s.retractLoopFor a cause torn) (stateFields a) := fun f i hne =>
  ((s.retractAsked a).setActFor_fieldsKept 7 cause hc f i hne).trans (State.setLoop_getF _ _ _ _ _)

theorem State.retractLoopFor_gate_ne {m : Nat} (hm : m ≠ a) : ((s.retractLoopFor a cause torn).rw m).gate = (s.rw m).gate :=
  (s.retractAsked a).setActFor_gate_ne 7 cause hc hm

theorem State.retractLoopFor_loop_ne {m : Nat} (hm : m ≠ a) : (s.retractLoopFor a cause torn).loop m = s.loop m := by
  rw [State.retractLoopFor_eq, State.loop_congr (State.setActFor_loops (s.retractAsked a) 7 cause hc), State.stateEntered_loop_ne _ _ _ hm,
    State.retractAsked_loop_ne _ _ hm]

theorem State.retractLoopFor_loop_self : (s.retractLoopFor a cause torn).loop a =
    { (s.retractAsked a).loop a with uPrev := ((s.retractLoopFor a cause torn).loop a).uPrev } := by
  rw [State.retractLoopFor_eq, State.loop_congr (State.setActFor_loops (s.retractAsked a) 7 cause hc)]
  exact State.stateEntered_loop_self _ _ _

end

/-- Below UNLOAD_RPM actuator `a` is retracted, unless it is at rest or on its way. -/
def State.unloadOne (s : State) (a : Nat) (torn : Bool) : State := if s.atRest a || s.actState a == 7 then s else s.retractLoop a torn

theorem State.unloadCheck_eq (tornA tornB : Bool) : s.unloadCheck tornA tornB =
    if s.measured8 < 8 * s.getF Reg.SPN_THR_UNLOAD_RPM then (s.unloadOne 0 tornA).unloadOne 1 tornB else s := rfl

section
variable {a : Nat} {torn : Bool}

/-- What is unloaded is at rest, on its way, or retracted now. -/
theorem State.unloadOne_cases : ((s.actState a ≤ 1 ∨ s.actState a = 7) ∧ s.unloadOne a torn = s) ∨
    (2 ≤ s.actState a ∧ s.actState a ≠ 7 ∧ s.unloadOne a torn = s.retractLoop a torn) := by
  unfold State.unloadOne State.atRest
  by_cases h : s.actState a ≤ 1 ∨ s.actState a = 7
  · exact .inl ⟨h, if_pos (by simpa using h)⟩
  · exact .inr ⟨by omega, by omega, if_neg (by simpa using h)⟩

theorem State.unloadOne_of_atRest (h : s.atRest a = true) : s.unloadOne a torn = s := by
  rw [State.unloadOne, h, Bool.true_or, if_pos rfl]

variable (hc : s.completesNone a torn)
include hc

theorem State.unloadOne_loopFrame : loopFrame s (s.unloadOne a torn) := by
  obtain ⟨-, h⟩ | ⟨-, -, h⟩ := s.unloadOne_cases (a := a) (torn := torn) <;> rw [h]
  · rfl
  · exact s.retractLoopFor_loopFrame 4 hc

theorem State.unloadOne_fieldsKept : fieldsKept s (s.unloadOne a torn) (stateFields a) := by
  obtain ⟨-, h⟩ | ⟨-, -, h⟩ := s.unloadOne_cases (a := a) (torn := torn) <;> rw [h]
  · exact fieldsKept_of_regs rfl _
  · exact s.retractLoopFor_fieldsKept 4 hc

theorem State.unloadOne_gate_ne {m : Nat} (hm : m ≠ a) : ((s.unloadOne a torn).rw m).gate = (s.rw m).gate := by
  obtain ⟨-, h⟩ | ⟨-, -, h⟩ := s.unloadOne_cases (a := a) (torn := torn) <;> rw [h]
  exact s.retractLoopFor_gate_ne 4 hc hm

theorem State.unloadOne_loop_ne {m : Nat} (hm : m ≠ a) : (s.unloadOne a torn).loop m = s.loop m := by
  obtain ⟨-, h⟩ | ⟨-, -, h⟩ := s.unloadOne_cases (a := a) (torn := torn) <;> rw [h]
  exact s.retractLoopFor_loop_ne 4 hc hm

/-- An actuator that was neither at rest nor on its way is in RETRACT, and asks the power die for it. -/
theorem State.unloadOne_spec (ha : a < 2) : (s.unloadOne a torn).actState a = (if s.actState a ≤ 1 then s.actState a else 7) ∧
    (2 ≤ s.actState a → s.actState a < 7 → ((s.unloadOne a torn).loop a).retReq = true) := by
  obtain ⟨hst, h⟩ | ⟨hlo, -, h⟩ := s.unloadOne_cases (a := a) (torn := torn) <;> rw [h]
  · exact ⟨by split <;> omega, fun _ _ => by omega⟩
  · have hasked : (s.retractAsked a).completesNone a torn := hc
    rw [if_neg (by omega), State.retractLoop, s.retractLoopFor_loop_self 4 hc, State.retractAsked, State.loop_setLoop_self]
    exact ⟨(s.retractAsked a).setActFor_actState 7 4 ha hasked (by decide), fun _ _ => rfl⟩

end
end

/-- The fields that the retract below UNLOAD_RPM may set. -/
def unloadFields : List (Field × Nat) := stateFields 1 ++ stateFields 0

section
variable (s : State) {tornA tornB : Bool}

theorem State.unloadCheck_of_atRest (h : s.bothAtRest = true) : s.unloadCheck tornA tornB = s := by
  obtain ⟨h0, h1⟩ := Bool.and_eq_true_iff.1 h
  rw [State.unloadCheck_eq, s.unloadOne_of_atRest h0, s.unloadOne_of_atRest h1, ite_self]

variable (hcA : s.completesNone 0 tornA) (hcB : s.completesNone 1 tornB)
include hcA hcB

theorem State.unloadOne_completesNone : (s.unloadOne 0 tornA).completesNone 1 tornB := by
  rwa [State.completesNone, s.unloadOne_gate_ne hcA (by decide)]

theorem State.unloadCheck_loopFrame : loopFrame s (s.unloadCheck tornA tornB) := by
  rw [State.unloadCheck_eq]
  split
  · exact (s.unloadOne_loopFrame hcA).trans (State.unloadOne_loopFrame _ (s.unloadOne_completesNone hcA hcB))
  · rfl

theorem State.unloadCheck_fieldsKept : fieldsKept s (s.unloadCheck tornA tornB) unloadFields := by
  rw [State.unloadCheck_eq]
  split
  · exact (s.unloadOne_fieldsKept hcA).trans (State.unloadOne_fieldsKept _ (s.unloadOne_completesNone hcA hcB))
  · exact fieldsKept_of_regs rfl _

theorem State.unloadCheck_retracts (hslow : s.measured8 < 8 * s.getF Reg.SPN_THR_UNLOAD_RPM) (a : Nat) (ha : a < 2) :
    (s.unloadCheck tornA tornB).actState a = (if s.actState a ≤ 1 then s.actState a else 7) ∧
      (2 ≤ s.actState a → s.actState a < 7 → ((s.unloadCheck tornA tornB).loop a).retReq = true) := by
  have hB := s.unloadOne_completesNone hcA hcB
  rw [State.unloadCheck_eq, if_pos hslow]
  match a, ha with
  | 0, _ =>
    obtain ⟨hstate, hreq⟩ := s.unloadOne_spec hcA (by decide)
    rw [State.actState, State.unloadOne_fieldsKept _ hB _ _ (actState_apart_other 1 (by decide)), ← State.actState,
      State.unloadOne_loop_ne _ hB (by decide)]
    exact ⟨hstate, hreq⟩
  | 1, _ =>
    have hspec := (s.unloadOne 0 tornA).unloadOne_spec hB (by decide)
    rwa [State.actState, State.actState, s.unloadOne_fieldsKept hcA _ _ (actState_apart_other 0 (by decide)), ← State.actState,
      ← State.actState] at hspec

end

end Sys2Proof.Machine
end

section
/-! A wedge of an actuator (spec/08 R171, R174, R175, R178, R186, R187): what its sample shows, the search for its mark, the observer, the
output and the on-track flags. -/

namespace Sys2Proof.Machine

set_option Elab.async false

/-! ### The registers and the loop of one actuator -/

/-- `t` differs from `s` at most in registers and in the loop of actuator `a`. -/
def loopOnly (s t : State) (a : Nat) : Prop := (∀ m, m ≠ a → t.loop m = s.loop m) ∧ t = { s with regs := t.regs, loops := t.loops }

theorem loopOnly.trans {s t u : State} {a : Nat} (h : loopOnly s t a) (h' : loopOnly t u a) : loopOnly s u a :=
  ⟨fun m hm => (h'.1 m hm).trans (h.1 m hm),
    h'.2.trans (congrArg (fun v : State => { v with regs := u.regs, loops := u.loops }) h.2)⟩

theorem loopOnly.rwc {s t : State} {a : Nat} (h : loopOnly s t a) : t.rwc = s.rwc := by rw [h.2]
theorem loopOnly.chans {s t : State} {a : Nat} (h : loopOnly s t a) : t.chans = s.chans := by rw [h.2]

theorem clampI_toNat_lt (v : Int) : (clampI v 0 4294967295).toNat < 2 ^ 32 := by
  unfold clampI
  split_ifs <;> omega

theorem unsigned_lt (w : Nat) (v : Int) : unsigned w v < 2 ^ w := by
  have hpos : (0 : Int) < (2 ^ w : Nat) := by exact_mod_cast Nat.two_pow_pos w
  have := Int.emod_lt_of_pos v hpos
  have := Int.emod_nonneg v hpos.ne'
  unfold unsigned
  omega

section
variable (s : State) (a : Nat)

theorem State.setF_loopOnly (f : Field) (i v : Nat) : loopOnly s (s.setF f i v) a := ⟨fun _ _ => rfl, rfl⟩

theorem State.setLoop_loopOnly (x : Loop) : loopOnly s (s.setLoop a x) a := ⟨fun m hm => s.loop_setLoop_ne a m x hm, rfl⟩

/-! ### What a sample shows (R186, R192) -/

/-- A valid wedge ends a run of missed ones; a missed one is counted. -/
def State.missCounted (s : State) (a : Nat) (valid : Bool) : State :=
  if valid then s.setF Reg.ACT_STATE_MISS a 0
  else (s.setF Reg.ACT_STATE_MISS a (satN 3 (s.getF Reg.ACT_STATE_MISS a + 1))).bump Reg.CNT_MISS_COUNT a

/-- The loop of actuator `a` is `l`, its position `p` and its PES `pes` are shown, and the wedge is counted. -/
def State.sampleShown (s : State) (a : Nat) (l : Loop) (p pes : Int) (valid : Bool) : State :=
  ((s.setLoop a l).showPos a p pes).missCounted a valid

theorem State.missCounted_loopOnly (valid : Bool) : loopOnly s (s.missCounted a valid) a := by
  unfold State.missCounted
  split <;> exact ⟨fun _ _ => rfl, rfl⟩

theorem State.missCounted_loops (valid : Bool) : (s.missCounted a valid).loops = s.loops := by
  unfold State.missCounted
  split <;> rfl

/-- A field in the array of the actuators' registers is left alone by the count of a wedge. -/
theorem State.missCounted_getF (valid : Bool) (f : Field) (hmiss : f.apart Reg.ACT_STATE_MISS = true)
    (hcnt : f.apart Reg.CNT_MISS_COUNT = true) : (s.missCounted a valid).getF f a = s.getF f a := by
  unfold State.missCounted
  split
  · exact State.getF_setF_apart _ _ _ _ _ hmiss
  · exact (State.getF_setF_apart _ _ _ _ _ hcnt).trans (State.getF_setF_apart _ _ _ _ _ hmiss)

theorem State.missCounted_valid : (s.missCounted a true).getF Reg.ACT_STATE_MISS a = 0 ∧
    (s.missCounted a true).getF Reg.CNT_MISS_COUNT a = s.getF Reg.CNT_MISS_COUNT a :=
  ⟨State.getF_setF_self _ _ _ _ (by decide), State.getF_setF_apart _ _ _ _ _ (by decide)⟩

theorem State.missCounted_missed : (s.missCounted a false).getF Reg.ACT_STATE_MISS a = satN 3 (s.getF Reg.ACT_STATE_MISS a + 1) ∧
    (s.missCounted a false).getF Reg.CNT_MISS_COUNT a = (s.getF Reg.CNT_MISS_COUNT a + 1) % 2 ^ 32 := by
  refine ⟨?_, ?_⟩
  · exact (State.getF_setF_apart _ _ _ _ _ (by decide)).trans (s.getF_setF_satN (f := Reg.ACT_STATE_MISS) (by decide) _ _)
  · refine (State.getF_bump_self _ _ _ _ (by decide)).trans ?_
    rw [State.getF_setF_apart _ _ _ _ _ (by decide)]
    rfl

section
variable (l : Loop) (p pes : Int) (valid : Bool)

theorem State.sampleShown_loopOnly : loopOnly s (s.sampleShown a l p pes valid) a :=
  ((s.setLoop_loopOnly a l).trans ((State.setF_loopOnly _ a _ _ _).trans (State.setF_loopOnly _ a _ _ _))).trans
    (State.missCounted_loopOnly _ a valid)

theorem State.sampleShown_loop : (s.sampleShown a l p pes valid).loop a = l :=
  (State.loop_congr (State.missCounted_loops _ a valid) a).trans (s.loop_setLoop_self a l)

/-- A field in the array of the actuators' registers that shows neither position nor wedges stays. -/
theorem State.sampleShown_getF (f : Field) (hmiss : f.apart Reg.ACT_STATE_MISS = true) (hcnt : f.apart Reg.CNT_MISS_COUNT = true)
    (hpos : f.apart Reg.ACT_POS_P = true) (hpes : f.apart Reg.ACT_PES_PES = true) :
    (s.sampleShown a l p pes valid).getF f a = s.getF f a :=
  (State.missCounted_getF _ a valid f hmiss hcnt).trans ((State.getF_setF_apart _ _ _ _ _ hpos).trans
    ((State.getF_setF_apart _ _ _ _ _ hpes).trans (State.setLoop_getF _ _ _ _ _)))

theorem State.sampleShown_actState : (s.sampleShown a l p pes valid).actState a = s.actState a :=
  s.sampleShown_getF a l p pes valid _ (by decide) (by decide) (by decide) (by decide)

theorem State.sampleShown_pos (hp : p.toNat < 2 ^ 32) : (s.sampleShown a l p pes valid).getF Reg.ACT_POS_P a = p.toNat :=
  (State.missCounted_getF _ a valid _ (by decide) (by decide)).trans ((State.getF_setF_self _ _ _ _ (by decide)).trans (Nat.mod_eq_of_lt hp))

theorem State.sampleShown_pes : (s.sampleShown a l p pes valid).getF Reg.ACT_PES_PES a = unsigned 16 (satI 16 pes) :=
  (State.missCounted_getF _ a valid _ (by decide) (by decide)).trans ((State.getF_setF_apart _ _ _ _ _ (by decide)).trans
    ((State.getF_setF_self _ _ _ _ (by decide)).trans (Nat.mod_eq_of_lt (unsigned_lt _ _))))

theorem State.positionShown_miss : ((s.setLoop a l).showPos a p pes).getF Reg.ACT_STATE_MISS a = s.getF Reg.ACT_STATE_MISS a ∧
    ((s.setLoop a l).showPos a p pes).getF Reg.CNT_MISS_COUNT a = s.getF Reg.CNT_MISS_COUNT a := by
  simp (disch := decide) only [State.showPos, State.getF_setF_apart, State.setLoop_getF, and_self]

theorem State.sampleShown_valid : (s.sampleShown a l p pes true).getF Reg.ACT_STATE_MISS a = 0 ∧
    (s.sampleShown a l p pes true).getF Reg.CNT_MISS_COUNT a = s.getF Reg.CNT_MISS_COUNT a := by
  obtain ⟨hmiss, hcnt⟩ := State.missCounted_valid ((s.setLoop a l).showPos a p pes) a
  exact ⟨hmiss, hcnt.trans (s.positionShown_miss a l p pes).2⟩

theorem State.sampleShown_missed :
    (s.sampleShown a l p pes false).getF Reg.ACT_STATE_MISS a = satN 3 (s.getF Reg.ACT_STATE_MISS a + 1) ∧
    (s.sampleShown a l p pes false).getF Reg.CNT_MISS_COUNT a = (s.getF Reg.CNT_MISS_COUNT a + 1) % 2 ^ 32 := by
  obtain ⟨hmiss, hcnt⟩ := s.positionShown_miss a l p pes
  rw [← hmiss, ← hcnt]
  exact State.missCounted_missed _ a

end

/-! ### The output (R174) and the flags (R178) -/

/-- The fields that the output sets. -/
def outputFields (a : Nat) : List (Field × Nat) := [(Reg.LOOP_EVENTS_SAT, 0), (Reg.CNT_SAT_COUNT, a)]

/-- An output that saturates is counted. -/
def State.satCounted (s : State) (a : Nat) (x : Int) : State :=
  let lim : Int := s.getF Reg.I_LIM_I_LIM a
  let u := roundShift (satI 64 x) 36
  if u < -lim ∨ lim < u then
    (s.bump Reg.CNT_SAT_COUNT a).setF Reg.LOOP_EVENTS_SAT 0 (BitVec.ofNat 2 (s.getF Reg.LOOP_EVENTS_SAT) ||| BitVec.ofNat 2 (2 ^ a)).toNat
  else s

theorem State.satCounted_onlyFields (x : Int) : onlyFields s (s.satCounted a x) (outputFields a) := by
  unfold State.satCounted
  extract_lets lim u
  split
  · exact ⟨rfl, (s.setF_fieldsKept _ _ _).trans (State.setF_fieldsKept _ _ _ _)⟩
  · exact ⟨rfl, fieldsKept_of_regs rfl _⟩

theorem State.output_eq (x : Int) : ∃ u, s.output a x = (s.satCounted a x).setLoop a { (s.satCounted a x).loop a with uPrev := u } :=
  ⟨_, rfl⟩

section
variable (x : Int)

theorem State.output_loopOnly : loopOnly s (s.output a x) a := by
  obtain ⟨u, hu⟩ := s.output_eq a x
  obtain ⟨hregs, -⟩ := s.satCounted_onlyFields a x
  rw [hu]
  refine loopOnly.trans ⟨fun m _ => State.loop_congr (by rw [hregs]) m, ?_⟩ (State.setLoop_loopOnly _ a _)
  exact hregs.trans (by rw [hregs])

theorem State.output_fieldsKept : fieldsKept s (s.output a x) (outputFields a) := by
  obtain ⟨u, hu⟩ := s.output_eq a x
  rw [hu]
  exact fun f i hne => (State.setLoop_getF _ _ _ _ _).trans ((s.satCounted_onlyFields a x).2 f i hne)

theorem State.output_loop : (s.output a x).loop a = { s.loop a with uPrev := ((s.output a x).loop a).uPrev } := by
  obtain ⟨u, hu⟩ := s.output_eq a x
  obtain ⟨hregs, -⟩ := s.satCounted_onlyFields a x
  rw [hu, State.loop_setLoop_self, State.loop_congr (by rw [hregs] : (s.satCounted a x).loops = s.loops)]

end

/-- The fields that a sample sets once its position is shown. -/
def closingFields (a : Nat) : List (Field × Nat) :=
  [(Reg.ACT_STATE_WINH, a), (Reg.ACT_STATE_ON_TRK_WR, a), (Reg.ACT_STATE_ON_TRK_RD, a)] ++ outputFields a

theorem State.flagsJudged_fieldsKept (missed : Bool) : fieldsKept s (s.flagsJudged a missed)
    [(Reg.ACT_STATE_WINH, a), (Reg.ACT_STATE_ON_TRK_WR, a), (Reg.ACT_STATE_ON_TRK_RD, a)] :=
  ((s.setF_fieldsKept _ _ _).trans (State.setF_fieldsKept _ _ _ _)).trans (State.setF_fieldsKept _ _ _ _)

theorem State.flagsJudged_loopOnly (missed : Bool) : loopOnly s (s.flagsJudged a missed) a := ⟨fun _ _ => rfl, rfl⟩

theorem State.flagsJudged_winh (missed : Bool) : (s.flagsJudged a missed).getF Reg.ACT_STATE_WINH a = b2n (s.inhibited a missed) :=
  State.getF_setBit_self _ _ _ _ (by decide) (by decide)

theorem State.flagsJudged_onTrkRd (missed : Bool) : (s.flagsJudged a missed).getF Reg.ACT_STATE_ON_TRK_RD a = b2n (s.mayRead a) := by
  rw [State.flagsJudged, State.setBit, State.getF_setF_apart _ _ _ _ _ (by decide), State.setBit, State.getF_setF_apart _ _ _ _ _ (by decide),
    State.getF_setBit_self _ _ _ _ (by decide) (by decide)]

theorem State.inhibited_of_missed : s.inhibited a true = true := by simp [State.inhibited]

theorem State.inhibited_of_offTrack (missed : Bool) (h : s.actState a ≠ 3) : s.inhibited a missed = true := by simp [State.inhibited, h]

theorem State.mayRead_of_offTrack (h : s.actState a ≠ 3) : s.mayRead a = false := by simp [State.mayRead, h]

theorem State.mayWriteTrack_of_offTrack (h : s.actState a ≠ 3) : s.mayWriteTrack a = false := by simp [State.mayWriteTrack, h]

/-- With a missed wedge among the last WR_N, the newest, no write may begin. -/
theorem State.mayWriteTrack_of_missed {k : Nat} {l : List (Nat × Bool)} (hh : (s.loop a).pesHist = (k, true) :: l)
    (hn : 1 ≤ s.getF Reg.COUNTS_WR_N a) : s.mayWriteTrack a = false := by
  obtain ⟨n, hn⟩ := Nat.exists_eq_add_of_le' hn
  simp [State.mayWriteTrack, hh, hn]

/-- The sample's output is handed on, and its flags are judged. -/
def State.sampleClosed (s : State) (a : Nat) (x : Int) (missed : Bool) : State := (s.output a x).flagsJudged a missed

section
variable (x : Int) (missed : Bool)

theorem State.sampleClosed_loopOnly : loopOnly s (s.sampleClosed a x missed) a :=
  (s.output_loopOnly a x).trans (State.flagsJudged_loopOnly _ a missed)

theorem State.sampleClosed_fieldsKept : fieldsKept s (s.sampleClosed a x missed) (closingFields a) :=
  (s.output_fieldsKept a x).trans (State.flagsJudged_fieldsKept _ a missed)

theorem State.sampleClosed_loop : (s.sampleClosed a x missed).loop a = { s.loop a with uPrev := ((s.output a x).loop a).uPrev } :=
  s.output_loop a x

end

/-- The fields of an actuator that a sample shows before it closes. -/
def shownFields : List Field :=
  [Reg.ACT_STATE_STATE, Reg.ACT_STATE_MISS, Reg.ACT_POS_P, Reg.ACT_PES_PES, Reg.CNT_MISS_COUNT, Reg.CNT_LOST_COUNT]

theorem shownFields_apart : ∀ a < 2, ∀ f ∈ shownFields, ∀ e ∈ closingFields a, f.key a ≠ e.1.key e.2 := by decide

theorem output_apart : ∀ a < 2, ∀ f ∈ [Reg.ACT_STATE_STATE, Reg.COUNTS_WR_N], ∀ e ∈ outputFields a, f.key a ≠ e.1.key e.2 := by decide

section
variable (x : Int) (missed : Bool) (ha : a < 2)
include ha

theorem State.sampleClosed_getF {f : Field} (hf : f ∈ shownFields) : (s.sampleClosed a x missed).getF f a = s.getF f a :=
  s.sampleClosed_fieldsKept a x missed f a (shownFields_apart a ha f hf)

theorem State.output_actState : (s.output a x).actState a = s.actState a :=
  s.output_fieldsKept a x _ _ (output_apart a ha _ (by decide))

theorem State.sampleClosed_winh (h : missed = true ∨ s.actState a ≠ 3) : (s.sampleClosed a x missed).getF Reg.ACT_STATE_WINH a = 1 := by
  rw [State.sampleClosed, State.flagsJudged_winh]
  rcases h with rfl | h
  · rw [State.inhibited_of_missed]
    rfl
  · rw [State.inhibited_of_offTrack _ _ _ (by rwa [State.output_actState _ _ _ ha])]
    rfl

/-- After a missed wedge no write may begin. -/
theorem State.sampleClosed_missed {k : Nat} {l : List (Nat × Bool)} (hh : (s.loop a).pesHist = (k, true) :: l)
    (hn : 1 ≤ s.getF Reg.COUNTS_WR_N a) : (s.sampleClosed a x missed).getF Reg.ACT_STATE_ON_TRK_WR a = 0 := by
  rw [State.sampleClosed, State.flagsJudged_onTrkWr, State.mayWriteTrack_of_missed _ _ (by rw [State.output_loop]; exact hh)
    (by rwa [s.output_fieldsKept a x _ _ (output_apart a ha _ (by decide))])]
  rfl

/-- Off the track neither on-track flag stands. -/
theorem State.sampleClosed_offTrack (h : s.actState a ≠ 3) : (s.sampleClosed a x missed).getF Reg.ACT_STATE_ON_TRK_RD a = 0 ∧
    (s.sampleClosed a x missed).getF Reg.ACT_STATE_ON_TRK_WR a = 0 := by
  have hout : (s.output a x).actState a ≠ 3 := by rwa [State.output_actState _ _ _ ha]
  rw [State.sampleClosed, State.flagsJudged_onTrkRd, State.flagsJudged_onTrkWr, State.mayRead_of_offTrack _ _ hout,
    State.mayWriteTrack_of_offTrack _ _ hout]
  exact ⟨rfl, rfl⟩

end

end

end Sys2Proof.Machine
end

section
/-! A wedge searched (spec/08 R171, R186, R188), and the observer and the control law in TRACK, SEEK and SETTLE (R175, R182, R186). -/

namespace Sys2Proof.Machine

set_option Elab.async false

/-! ### The wedge searched (R171, R186, R188) -/

/-- A loop after the search for a wedge: its counts, the shift of the window and the burst mean may have changed. -/
def Loop.searchedFrom (l l' : Loop) : Prop := l' = { l with
  shockHold := l'.shockHold, shockQuiet := l'.shockQuiet, seekCount := l'.seekCount, shift := l'.shift, burst := l'.burst }

/-- The samples are counted and the wedge is searched: the state, and whether its mark, Gray code and burst are good. -/
def State.wedgeTaken (s : State) (a : Nat) (sam : Option Int) (parity : Bool) (burst : Nat) : State × Bool :=
  let x := (s.countSamples a).searchSam a sam
  let l := x.1.loop a
  let found := x.2 && parity && burstOk l.burst burst
  (if found then x.1.setLoop a { l with burst := if l.burst = 0 then burst else (15 * l.burst + burst) / 16 } else x.1, found)

section
variable (s : State) (a : Nat)

theorem State.searchSam_shift (sam : Option Int) : ∃ k, (s.searchSam a sam).1 = s.setLoop a { s.loop a with shift := k } := by
  unfold State.searchSam
  cases sam with
  | none => exact ⟨_, rfl⟩
  | some o =>
    dsimp only
    split_ifs <;> exact ⟨_, rfl⟩

theorem State.searchSam_loop (sam : Option Int) : ∃ k, ((s.searchSam a sam).1).loop a = { s.loop a with shift := k } := by
  obtain ⟨k, h⟩ := s.searchSam_shift a sam
  exact ⟨k, by rw [h, State.loop_setLoop_self]⟩

variable (sam : Option Int) (parity : Bool) (burst : Nat)

theorem State.wedgeTaken_loopOnly : loopOnly s (s.wedgeTaken a sam parity burst).1 a ∧
    (s.wedgeTaken a sam parity burst).1.regs = s.regs := by
  obtain ⟨k, h⟩ := (s.countSamples a).searchSam_shift a sam
  have hsearch : loopOnly s ((s.countSamples a).searchSam a sam).1 a :=
    loopOnly.trans (s.setLoop_loopOnly a _) (h ▸ State.setLoop_loopOnly _ a _)
  have hregs : ((s.countSamples a).searchSam a sam).1.regs = s.regs := by rw [h]; rfl
  unfold State.wedgeTaken
  dsimp only
  split
  · exact ⟨hsearch.trans (State.setLoop_loopOnly _ a _), hregs⟩
  · exact ⟨hsearch, hregs⟩

theorem State.wedgeTaken_loop : (s.loop a).searchedFrom ((s.wedgeTaken a sam parity burst).1.loop a) := by
  obtain ⟨k, h⟩ := (s.countSamples a).searchSam_loop a sam
  have hcount : (s.countSamples a).loop a = _ := State.loop_setLoop_self _ _ _
  rw [hcount] at h
  unfold State.wedgeTaken Loop.searchedFrom
  dsimp only
  split
  · rw [State.loop_setLoop_self, h]
  · rw [h]

/-- No mark, or a Gray code that fails: the wedge is missed. -/
theorem State.wedgeTaken_missed (h : sam = none ∨ parity = false) : (s.wedgeTaken a sam parity burst).2 = false := by
  rcases h with rfl | rfl
  · rfl
  · simp [State.wedgeTaken]

/-- With the chain in lock a mark in the servo window with a good burst is a wedge found. -/
theorem State.wedgeTaken_found {o : Int} (hlock : s.flag Reg.CHN_STATUS_LOCK = true) (ho : o.natAbs ≤ 256 * s.servoWindow a)
    (hb : burstOk (s.loop a).burst burst = true) : (s.wedgeTaken a (some o) true burst).2 = true := by
  have hlock' : (s.countSamples a).flag Reg.CHN_STATUS_LOCK = true := hlock
  have hwin : (s.countSamples a).servoWindow a = s.servoWindow a := rfl
  have hcount : (s.countSamples a).loop a = _ := State.loop_setLoop_self _ _ _
  simp [State.wedgeTaken, State.searchSam, hlock', hwin, ho, hcount, hb]

theorem State.swapBank_of_none (l : Nat) (h : s.swap = []) : s.swapBank l = s := by simp [State.swapBank, h]

variable {s a}

theorem exec_servoSample (y t : Word) (torn : Bool) (hl : s.live = true) (hlo : 2 ≤ s.actState a) (hhi : s.actState a ≤ 6)
    (hswap : s.swap = []) : exec (.servoSample a sam parity burst y t torn) s = .next (
      let w := s.wedgeTaken a sam parity burst
      let u := if s.actState a = 2 ∨ s.actState a = 6 then w.1.searchSample a w.2 y.toNat t.toNat
        else w.1.trackSample a w.2 y.toNat t.toNat torn
      u.trackFlags a (((u.loop a).pesHist.head?.map (·.2)).getD (!w.2)) torn) := by
  have hexec : exec (.servoSample a sam parity burst y t torn) s = execServoSample a sam parity burst y t torn s := rfl
  have hstate : (s.wedgeTaken a sam parity burst).1.actState a = s.actState a :=
    State.getF_congr (s.wedgeTaken_loopOnly a sam parity burst).2 _ _
  rw [hexec, execServoSample, State.whenLive_of_live _ _ hl, State.when', if_pos (by simp [hlo, hhi]), s.swapBank_of_none a hswap, ← hstate]
  rfl

end

/-! ### The observer and the control law in TRACK, SEEK and SETTLE (R175, R182, R186) -/

section
variable (s : State) (a : Nat)

/-- The reference advances by the sample interval, and a target or an offset that waits is taken. -/
def State.referenceMoved (s : State) (a t : Nat) (torn : Bool) : State :=
  let l := s.loop a
  let prof := runProfile t l.profile
  let r := profileRef l.target prof
  let s := if s.actState a = 4 then
      s.setLoop a { l with profile := prof, rPos := clampI r.1 0 4294967295, rVel := satI 32 r.2.1, rAcc := satI 32 r.2.2 }
    else s
  let s := s.takeTarget a torn
  if s.actState a = 4 && (s.loop a).profile.isEmpty then
    (s.setLoop a { s.loop a with rPos := clampI (s.loop a).target 0 4294967295, rVel := 0, rAcc := 0, settle := 0 }).setAct a 5 torn
  else s

/-- The measured position with the offset removed. -/
def State.measuredPos (s : State) (a y : Nat) : Int := clampI ((y : Int) - (s.loop a).jog) 0 4294967295

/-- How far the measured position lies from the predicted one. -/
def State.residual (s : State) (a y t : Nat) : Int := satI 32 (s.measuredPos a y - (s.predict a t).1)

/-- A wedge found counts near its prediction, or as the first on a new head. -/
def State.wedgeValid (s : State) (a : Nat) (found : Bool) (y t : Nat) : Bool :=
  found && ((s.loop a).headNew || (decide (s.residual a y t ≤ 256 * s.getF Reg.WINDOW_MISS_DEV a) &&
    decide (-(256 * s.getF Reg.WINDOW_MISS_DEV a : Int) ≤ s.residual a y t)))

/-- The observer's estimate: position, velocity and bias. -/
def State.estimate (s : State) (a : Nat) (valid : Bool) (y t : Nat) : Int × Int × Int :=
  let l := s.loop a
  let pv := s.predict a t
  let e := s.residual a y t
  (if !valid then pv.1 else if l.headNew then s.measuredPos a y
    else clampI (roundShift (pv.1 * (2 ^ 20 : Nat) + s.coef a 1 * e) 20) 0 4294967295,
   if valid && !l.headNew then satI 32 (roundShift (pv.2 * 65536 + s.coef a 2 * e) 16) else pv.2,
   if valid && !l.headNew then satI 32 (roundShift (l.b * 65536 + s.coef a 3 * e) 16) else l.b)

/-- PES of a sample. -/
def State.pesOf (s : State) (a : Nat) (valid : Bool) (y t : Nat) : Int :=
  satI 32 ((if valid then s.measuredPos a y else (s.estimate a valid y t).1) - (s.loop a).rPos)

/-- The loop that takes the estimate. -/
def State.estimated (s : State) (a : Nat) (valid : Bool) (y t : Nat) : Loop :=
  let l := s.loop a
  let x := s.estimate a valid y t
  let pes := s.pesOf a valid y t
  { l with p := x.1, v := x.2.1, b := x.2.2, headNew := l.headNew && !valid, pesHist := ((pes.natAbs, !valid) :: l.pesHist).take 15
           settle := if pes.natAbs ≤ s.getF Reg.LIM_RD_SETTLE_LIM a then l.settle + 1 else 0 }

/-- The observer has taken the sample. -/
def State.observed (s : State) (a : Nat) (valid : Bool) (y t : Nat) : State :=
  s.sampleShown a (s.estimated a valid y t) (s.estimate a valid y t).1 (s.pesOf a valid y t) valid

/-- The control law from the estimate `x`. -/
def State.controlled (s : State) (a : Nat) (x : Int × Int × Int) (torn : Bool) : State :=
  let s := if s.actState a = 5 && decide (s.getF Reg.COUNTS_SETTLE_N a ≤ (s.loop a).settle) then
      (s.setAct a 3 torn).raise Reg.ACT_STATE_SEEK_DONE a
    else s
  let l := s.loop a
  let err := satI 32 (l.rPos - x.1)
  let ev := satI 32 (l.rVel - x.2.1)
  let st := s.actState a
  let frozen := (st != 3 && st != 5) || shockRuns l.shockHold (s.getF Reg.SHK_CTRL_SHK_HOLD) || s.shock.low
  let lim := s.iClamp a * 65536
  let i := if frozen then l.i else clampI (roundShift (l.i * 65536 + s.coef a 5 * err) 16) (-lim) lim
  let y := satI 32 (roundShift (satI 64 (s.coef a 4 * err * 16 + s.coef a 6 * ev + i * (2 ^ 20 : Nat))) 20)
  let f := s.filter a 0 y l.notches
  let shk := if s.flag Reg.SHK_CTRL_FF_EN then s.shock.sample else 0
  (s.setLoop a { l with i := i, notches := f.2 }).output a (f.1 * (2 ^ 20 : Nat) + s.coef a 8 * l.rAcc +
    s.coef a 9 * ((s.setLoop a { l with i := i, notches := f.2 }).loop (1 - a)).rAcc + s.coef a 10 * shk * 65536 + s.coef a 11 * x.2.2)

/-- The sample taken once the reference stands. -/
def State.wedgeTracked (s : State) (a : Nat) (found : Bool) (y t : Nat) (torn : Bool) : State :=
  let valid := s.wedgeValid a found y t
  let o := s.observed a valid y t
  let x := s.estimate a valid y t
  if 4 ≤ o.getF Reg.ACT_STATE_MISS a then ((o.positionLost a torn).setLoop a { o.loop a with acq := 0 }).output a (o.coef a 11 * x.2.2)
  else o.controlled a x torn

/-- The observer and the control law start from the reference moved. Each intermediate of the sample is named and put in place of the
function that gives it, which keeps the comparison of the two sides small. -/
theorem State.trackSample_eq (found : Bool) (y t : Nat) (torn : Bool) :
    s.trackSample a found y t torn = (s.referenceMoved a t torn).wedgeTracked a found y t torn := by
  delta State.trackSample
  extract_lets l prof ref moving taken src r l1 pv dev pos e valid p v b pes set shown o
  have hr : s.referenceMoved a t torn = r := rfl
  rw [hr]
  clear_value r
  have hvalid : r.wedgeValid a found y t = valid := rfl
  have hx : r.estimate a valid y t = (p, v, b) := rfl
  have ho : r.observed a valid y t = o := rfl
  rw [State.wedgeTracked, hvalid, hx, ho]
  rfl

/-- In TRACK with no target and no offset that waits the reference stands. -/
theorem State.referenceMoved_of_track (t : Nat) (torn : Bool) (h3 : s.actState a = 3) (hr : (s.loop a).replan = none)
    (hh : (s.loop a).held = none) (hw : (s.loop a).want = (s.loop a).jog) : s.referenceMoved a t torn = s := by
  have htake : s.takeTarget a torn = s := by simp only [State.takeTarget, hr, hh, hw, Option.orElse, if_pos]
  simp [State.referenceMoved, h3, htake]

/-- In TRACK the control law changes the loop, but for its record of samples, and gives the output. -/
theorem State.controlled_of_track (x : Int × Int × Int) (torn : Bool) (h3 : s.actState a = 3) : ∃ l out,
    l.pesHist = (s.loop a).pesHist ∧ s.controlled a x torn = (s.setLoop a l).output a out := by
  have h5 : (if s.actState a = 5 && decide (s.getF Reg.COUNTS_SETTLE_N a ≤ (s.loop a).settle) then
      (s.setAct a 3 torn).raise Reg.ACT_STATE_SEEK_DONE a else s) = s := if_neg (by simp [h3])
  unfold State.controlled
  rw [h5]
  refine ⟨_, _, ?_, rfl⟩
  rfl

theorem State.estimate_lt (valid : Bool) (y t : Nat) : (s.estimate a valid y t).1.toNat < 2 ^ 32 := by
  simp only [State.estimate, State.predict, State.measuredPos]
  split_ifs <;> exact clampI_toNat_lt _

theorem State.observed_pesHist (valid : Bool) (y t : Nat) :
    ∃ k l, ((s.observed a valid y t).loop a).pesHist = (k, !valid) :: l := by
  rw [State.observed, State.sampleShown_loop]
  exact ⟨_, _, rfl⟩

/-! ### The observer reads what the search leaves alone -/

section
variable {s a} {u : State} (hregs : u.regs = s.regs) (h : (s.loop a).searchedFrom (u.loop a))
include hregs h

theorem State.predict_searched (t : Nat) : u.predict a t = s.predict a t := by
  unfold State.predict State.coef State.getI
  simp only [State.getF_congr hregs]
  rw [h]

theorem State.residual_searched (y t : Nat) : u.residual a y t = s.residual a y t := by
  rw [State.residual, State.predict_searched hregs h, State.measuredPos, h]
  rfl

theorem State.wedgeValid_searched (found : Bool) (y t : Nat) : u.wedgeValid a found y t = s.wedgeValid a found y t := by
  rw [State.wedgeValid, State.residual_searched hregs h, State.getF_congr hregs, h]
  rfl

theorem State.estimate_searched (valid : Bool) (y t : Nat) : u.estimate a valid y t = s.estimate a valid y t := by
  unfold State.estimate
  rw [State.residual_searched hregs h, State.predict_searched hregs h, State.measuredPos, State.coef, State.coef, State.coef, State.getI,
    State.getI, State.getI]
  simp only [State.getF_congr hregs]
  rw [h]
  rfl

theorem State.pesOf_searched (valid : Bool) (y t : Nat) : u.pesOf a valid y t = s.pesOf a valid y t := by
  rw [State.pesOf, State.estimate_searched hregs h, State.measuredPos, h]
  rfl

end

end

end Sys2Proof.Machine
end

section
/-! A sample in TRACK (spec/08 R171, R175, R178, R186, R187): position lost, a wedge found, and a wedge missed. -/

namespace Sys2Proof.Machine

set_option Elab.async false

/-! ### Position lost (R187) -/

/-- With no gate open, what the change to LOST leaves of a loop in TRACK. -/
theorem State.setActFor_rw_of_track (s : State) {a st cause : Nat} {torn : Bool} (h3 : s.actState a = 3) (hst : st ≠ 3) (h7 : st ≠ 7)
    (hg : (s.rw a).gate = none) : (s.setActFor a st cause torn).rw a = { s.rw a with rgate := none } ∧
      ∀ m, m ≠ a → (s.setActFor a st cause torn).rw m = s.rw m := by
  have hkept : ∀ m, (s.stateEntered a st).rw m = s.rw m := fun m => State.rw_congr (s.stateEntered_rwc a st h7) m
  have hclosed : ((s.stateEntered a st).flagsDown a).forceOff a cause torn = (s.stateEntered a st).flagsDown a :=
    State.forceOff_of_closed _ _ _ _ (by rw [State.flagsDown_rw_self, hkept, hg])
  rw [State.setActFor_eq, if_pos (by simp [h3, hst]), State.trackLeft_eq, hclosed, State.flagsDown_rw_self, hkept]
  exact ⟨rfl, fun m hm => (State.flagsDown_rw_ne _ _ hm).trans (hkept m)⟩

section
variable (s : State) (a : Nat)

/-- The loss is counted and recorded; the loop is still in TRACK. -/
def State.lossRecorded (s : State) (a : Nat) : State :=
  let s := (s.setLoop a ((s.loop a).rebase 0)).bump Reg.CNT_LOST_COUNT a
  let s := s.setF Reg.LOOP_EVENTS_LOST 0 (BitVec.ofNat 2 (s.getF Reg.LOOP_EVENTS_LOST) ||| BitVec.ofNat 2 (2 ^ a)).toNat
  (s.event 0x27 a 0 (s.getF Reg.CNT_LOST_COUNT a)).emcy 0xFF04 (BitVec.ofNat 8 a) (s.getF Reg.CNT_LOST_COUNT a)

theorem State.positionLost_eq (torn : Bool) : s.positionLost a torn = (s.lossRecorded a).setActFor a 6 4 torn := rfl

theorem State.lossRecorded_frame : s.lossRecorded a = { s with
    regs := (s.lossRecorded a).regs, loops := (s.lossRecorded a).loops, evr := (s.lossRecorded a).evr, dict := (s.lossRecorded a).dict } := by
  simp only [State.lossRecorded, State.emcy]
  rw [State.event_withEvr]
  rfl

theorem State.lossRecorded_rw (m : Nat) : (s.lossRecorded a).rw m = s.rw m := State.rw_congr (by rw [State.lossRecorded_frame]) m

theorem State.lossRecorded_chans : (s.lossRecorded a).chans = s.chans := by rw [State.lossRecorded_frame]

theorem lossFields_apart : ∀ a < 2, Reg.ACT_STATE_STATE.key a ≠ Reg.LOOP_EVENTS_LOST.key 0 ∧
    Reg.CNT_LOST_COUNT.key a ≠ Reg.LOOP_EVENTS_LOST.key 0 ∧
    (∀ e ∈ stateFields a, Reg.CNT_LOST_COUNT.key a ≠ e.1.key e.2) ∧ (∀ e ∈ stateFields a, Reg.LOOP_EVENTS_LOST.key 0 ≠ e.1.key e.2) ∧
    ∀ e ∈ closingFields a, Reg.LOOP_EVENTS_LOST.key 0 ≠ e.1.key e.2 := by decide

/-- The bit of actuator `a` joins the two of an event. -/
theorem bitOf_eventBits (x : Nat) (ha : a < 2) : bitOf ((BitVec.ofNat 2 x ||| BitVec.ofNat 2 (2 ^ a)).toNat % 2 ^ 2) a = true := by
  have hbit : (BitVec.ofNat 2 (2 ^ a)).toNat.testBit a = true := by
    match a, ha with
    | 0, _ => rfl
    | 1, _ => rfl
  rw [Nat.mod_eq_of_lt (BitVec.isLt _), bitOf_eq_testBit, BitVec.toNat_or, Nat.testBit_or, hbit, Bool.or_true]

variable {a} (ha : a < 2)
include ha

theorem State.lossRecorded_fields : (s.lossRecorded a).actState a = s.actState a ∧
    (s.lossRecorded a).getF Reg.CNT_LOST_COUNT a = (s.getF Reg.CNT_LOST_COUNT a + 1) % 2 ^ 32 ∧
    bitOf ((s.lossRecorded a).getF Reg.LOOP_EVENTS_LOST) a = true := by
  obtain ⟨hstate, hlost, -⟩ := lossFields_apart a ha
  simp only [State.lossRecorded, State.actState, State.emcy_getF, State.event_getF]
  refine ⟨?_, ?_, ?_⟩
  · rw [State.getF_setF_ne _ _ _ _ _ _ hstate, State.bump, State.getF_setF_apart _ _ _ _ _ (by decide), State.setLoop_getF]
  · rw [State.getF_setF_ne _ _ _ _ _ _ hlost, State.getF_bump_self _ _ _ _ (by decide), State.setLoop_getF]
    rfl
  · rw [State.getF_setF_self _ _ _ _ (by decide)]
    exact bitOf_eventBits a _ ha

theorem State.positionLost_spec (torn : Bool) (h3 : s.actState a = 3) (hg : (s.rw a).gate = none) : let t := s.positionLost a torn
    t.actState a = 6 ∧ t.getF Reg.CNT_LOST_COUNT a = (s.getF Reg.CNT_LOST_COUNT a + 1) % 2 ^ 32 ∧
      bitOf (t.getF Reg.LOOP_EVENTS_LOST) a = true ∧ t.chans = s.chans ∧ t.rw a = { s.rw a with rgate := none } ∧
      ∀ m, m ≠ a → t.rw m = s.rw m := by
  obtain ⟨hstate, hcnt, hbit⟩ := s.lossRecorded_fields ha
  obtain ⟨-, -, hcntApart, hbitApart, -⟩ := lossFields_apart a ha
  have hc : (s.lossRecorded a).completesNone a torn := .inl (by rw [State.lossRecorded_rw, hg])
  obtain ⟨hself, hother⟩ := (s.lossRecorded a).setActFor_rw_of_track (cause := 4) (torn := torn) (hstate.trans h3)
    (show 6 ≠ 3 by decide) (by decide) (by rw [State.lossRecorded_rw, hg])
  rw [State.positionLost_eq]
  refine ⟨State.setActFor_actState _ 6 4 ha hc (by decide), ?_, ?_, ?_, ?_, fun m hm => ?_⟩
  · rw [State.setActFor_fieldsKept _ 6 4 hc _ _ hcntApart, hcnt]
  · rwa [State.setActFor_fieldsKept _ 6 4 hc _ _ hbitApart]
  · rw [(State.setActFor_loopFrame _ 6 4 hc).chans, State.lossRecorded_chans]
  · rw [hself, State.lossRecorded_rw]
  · rw [hother m hm, State.lossRecorded_rw]

end

/-! ### A sample in TRACK (R171, R178, R186) -/

section
variable {s : State} {a : Nat} (sam : Option Int) (parity : Bool) (burst : Nat) (y t : Word) (torn : Bool)
  (hl : s.live = true) (h3 : s.actState a = 3) (hswap : s.swap = [])
  (hr : (s.loop a).replan = none) (hh : (s.loop a).held = none) (hw : (s.loop a).want = (s.loop a).jog)

/-- The state in which the observer finds the sample in TRACK. -/
def State.trackObserved (s : State) (a : Nat) (sam : Option Int) (parity : Bool) (burst y t : Nat) (valid : Bool) : State :=
  (s.wedgeTaken a sam parity burst).1.observed a valid y t

section
variable (valid : Bool)

theorem State.trackObserved_loopOnly (y t : Nat) : loopOnly s (s.trackObserved a sam parity burst y t valid) a :=
  (s.wedgeTaken_loopOnly a sam parity burst).1.trans (State.sampleShown_loopOnly _ a _ _ _ _)

theorem State.trackObserved_getF (y t : Nat) {f : Field} (hmiss : f.apart Reg.ACT_STATE_MISS = true)
    (hcnt : f.apart Reg.CNT_MISS_COUNT = true) (hpos : f.apart Reg.ACT_POS_P = true) (hpes : f.apart Reg.ACT_PES_PES = true) :
    (s.trackObserved a sam parity burst y t valid).getF f a = s.getF f a :=
  (State.sampleShown_getF _ a _ _ _ _ f hmiss hcnt hpos hpes).trans (State.getF_congr (s.wedgeTaken_loopOnly a sam parity burst).2 _ _)

theorem State.trackObserved_actState (y t : Nat) : (s.trackObserved a sam parity burst y t valid).actState a = s.actState a :=
  s.trackObserved_getF sam parity burst valid y t (by decide) (by decide) (by decide) (by decide)

theorem State.trackObserved_pos (y t : Nat) : (s.trackObserved a sam parity burst y t valid).getF Reg.ACT_POS_P a =
    (s.estimate a valid y t).1.toNat := by
  obtain ⟨-, hregs⟩ := s.wedgeTaken_loopOnly a sam parity burst
  have hest := State.estimate_searched hregs (s.wedgeTaken_loop a sam parity burst) valid y t
  rw [State.trackObserved, State.observed, State.sampleShown_pos _ _ _ _ _ _ (State.estimate_lt _ _ _ _ _), hest]

theorem State.trackObserved_pes (y t : Nat) : (s.trackObserved a sam parity burst y t valid).getF Reg.ACT_PES_PES a =
    unsigned 16 (satI 16 (s.pesOf a valid y t)) := by
  obtain ⟨-, hregs⟩ := s.wedgeTaken_loopOnly a sam parity burst
  rw [State.trackObserved, State.observed, State.sampleShown_pes, State.pesOf_searched hregs (s.wedgeTaken_loop a sam parity burst)]

theorem State.trackObserved_valid (y t : Nat) : (s.trackObserved a sam parity burst y t true).getF Reg.ACT_STATE_MISS a = 0 ∧
    (s.trackObserved a sam parity burst y t true).getF Reg.CNT_MISS_COUNT a = s.getF Reg.CNT_MISS_COUNT a := by
  obtain ⟨-, hregs⟩ := s.wedgeTaken_loopOnly a sam parity burst
  rw [← State.getF_congr hregs]
  exact State.sampleShown_valid _ _ _ _ _

theorem State.trackObserved_missed (y t : Nat) : (s.trackObserved a sam parity burst y t false).getF Reg.ACT_STATE_MISS a =
      satN 3 (s.getF Reg.ACT_STATE_MISS a + 1) ∧
    (s.trackObserved a sam parity burst y t false).getF Reg.CNT_MISS_COUNT a = (s.getF Reg.CNT_MISS_COUNT a + 1) % 2 ^ 32 := by
  obtain ⟨-, hregs⟩ := s.wedgeTaken_loopOnly a sam parity burst
  rw [← State.getF_congr hregs, ← State.getF_congr hregs]
  exact State.sampleShown_missed _ _ _ _ _

end

/-- A wedge valid or not is seen as such after the search. -/
theorem State.wedgeTaken_valid (found : Bool) (y t : Nat) (hfound : (s.wedgeTaken a sam parity burst).2 = found) :
    (s.wedgeTaken a sam parity burst).1.wedgeValid a (s.wedgeTaken a sam parity burst).2 y t = s.wedgeValid a found y t := by
  rw [State.wedgeValid_searched (s.wedgeTaken_loopOnly a sam parity burst).2 (s.wedgeTaken_loop a sam parity burst), hfound]

section
include h3 hr hh hw

/-- In TRACK the observer takes the sample; then position is lost, or the control law goes on. -/
theorem State.trackSample_of_track {found valid : Bool} (y t : Nat) (hfound : (s.wedgeTaken a sam parity burst).2 = found)
    (hvalid : s.wedgeValid a found y t = valid) :
    let o := s.trackObserved a sam parity burst y t valid
    ∃ x l, l.pesHist = (o.loop a).pesHist ∧
      (s.wedgeTaken a sam parity burst).1.trackSample a (s.wedgeTaken a sam parity burst).2 y t torn =
        if 4 ≤ o.getF Reg.ACT_STATE_MISS a then ((o.positionLost a torn).setLoop a l).output a (o.coef a 11 * x.2.2)
        else o.controlled a x torn := by
  obtain ⟨-, hregs⟩ := s.wedgeTaken_loopOnly a sam parity burst
  have hloop := s.wedgeTaken_loop a sam parity burst
  have hmoved := (s.wedgeTaken a sam parity burst).1.referenceMoved_of_track a t torn ((State.getF_congr hregs _ _).trans h3)
    (by rw [hloop]; exact hr) (by rw [hloop]; exact hh) (by rw [hloop]; exact hw)
  refine ⟨(s.wedgeTaken a sam parity burst).1.estimate a valid y t,
    { (s.trackObserved a sam parity burst y t valid).loop a with acq := 0 }, rfl, ?_⟩
  rw [State.trackSample_eq, hmoved, State.wedgeTracked, State.wedgeTaken_valid sam parity burst found y t hfound, hvalid]
  rfl

end

include hl h3 hswap hr hh hw

section
variable {found valid : Bool} (hfound : (s.wedgeTaken a sam parity burst).2 = found)
  (hvalid : s.wedgeValid a found y.toNat t.toNat = valid)
include hfound hvalid

/-- Fewer than four wedges missed in a row: the control law goes on. -/
theorem exec_servoSample_follows (hg : (s.rw a).gate = none)
    (hmiss : (s.trackObserved a sam parity burst y.toNat t.toNat valid).getF Reg.ACT_STATE_MISS a < 4) : ∃ l x,
      l.pesHist = ((s.trackObserved a sam parity burst y.toNat t.toNat valid).loop a).pesHist ∧
      exec (.servoSample a sam parity burst y t torn) s = .next
        (((s.trackObserved a sam parity burst y.toNat t.toNat valid).setLoop a l).sampleClosed a x (!valid)) := by
  obtain ⟨k, l, hhist⟩ := State.observed_pesHist (s.wedgeTaken a sam parity burst).1 a valid y.toNat t.toNat
  obtain ⟨e, l₀, -, htrack⟩ := State.trackSample_of_track sam parity burst torn h3 hr hh hw y.toNat t.toNat hfound hvalid
  rw [if_neg (by omega)] at htrack
  have hobserved := s.trackObserved_loopOnly (a := a) sam parity burst valid y.toNat t.toNat
  have hstate := (s.trackObserved_actState (a := a) sam parity burst valid y.toNat t.toNat).trans h3
  generalize ho : s.trackObserved a sam parity burst y.toNat t.toNat valid = o at *
  rw [show State.observed _ a valid y.toNat t.toNat = o from ho] at hhist
  obtain ⟨l', x, hkept, hctl⟩ := o.controlled_of_track a e torn hstate
  have hclosed := (hobserved.trans (o.setLoop_loopOnly a l')).trans (State.output_loopOnly _ a x)
  refine ⟨l', x, hkept, ?_⟩
  rw [exec_servoSample _ _ _ _ _ _ hl (by omega) (by omega) hswap]
  dsimp only
  rw [if_neg (by omega), htrack, hctl, State.trackFlags_of_closed _ _ _ _ (by rw [State.rw_congr hclosed.rwc, hg]), State.output_loop,
    State.loop_setLoop_self, hkept, hhist]
  rfl

/-- The fourth wedge missed in a row: position is lost. -/
theorem exec_servoSample_loses (hmiss : 4 ≤ (s.trackObserved a sam parity burst y.toNat t.toNat valid).getF Reg.ACT_STATE_MISS a)
    (hg : (((s.trackObserved a sam parity burst y.toNat t.toNat valid).positionLost a torn).rw a).gate = none) : ∃ l x,
      exec (.servoSample a sam parity burst y t torn) s = .next
        ((((s.trackObserved a sam parity burst y.toNat t.toNat valid).positionLost a torn).setLoop a l).sampleClosed a x (!valid)) := by
  obtain ⟨k, l, hhist⟩ := State.observed_pesHist (s.wedgeTaken a sam parity burst).1 a valid y.toNat t.toNat
  obtain ⟨e, l', hkept, htrack⟩ := State.trackSample_of_track sam parity burst torn h3 hr hh hw y.toNat t.toNat hfound hvalid
  rw [if_pos hmiss] at htrack
  generalize ho : s.trackObserved a sam parity burst y.toNat t.toNat valid = o at *
  rw [show State.observed _ a valid y.toNat t.toNat = o from ho] at hhist
  have hclosed := (State.setLoop_loopOnly (o.positionLost a torn) a l').trans
    (State.output_loopOnly _ a (o.coef a 11 * e.2.2))
  refine ⟨l', o.coef a 11 * e.2.2, ?_⟩
  rw [exec_servoSample _ _ _ _ _ _ hl (by omega) (by omega) hswap]
  dsimp only
  rw [if_neg (by omega), htrack, State.trackFlags_of_closed _ _ _ _ (by rw [State.rw_congr hclosed.rwc, hg]), State.output_loop,
    State.loop_setLoop_self, hkept, hhist]
  rfl

end

/-! ### A wedge found (R171, R175) -/

theorem servoSample_found (ha : a < 2) (hg : (s.rw a).gate = none) {o : Int} (hlock : s.flag Reg.CHN_STATUS_LOCK = true)
    (ho : o.natAbs ≤ 256 * s.getF Reg.WINDOW_SV_WIN a) (hnew : (s.loop a).headNew = false) (hb : burstOk (s.loop a).burst burst = true)
    (hhi : s.residual a y.toNat t.toNat ≤ 256 * s.getF Reg.WINDOW_MISS_DEV a)
    (hlo : -(256 * s.getF Reg.WINDOW_MISS_DEV a : Int) ≤ s.residual a y.toNat t.toNat) :
    ∃ u, exec (.servoSample a (some o) true burst y t torn) s = .next u ∧
      u.getF Reg.ACT_POS_P a = (clampI (roundShift ((s.predict a t.toNat).1 * (2 ^ 20 : Nat) +
        s.coef a 1 * s.residual a y.toNat t.toNat) 20) 0 4294967295).toNat ∧
      u.getF Reg.ACT_PES_PES a = unsigned 16 (satI 16 (satI 32 (s.measuredPos a y.toNat - (s.loop a).rPos))) ∧
      u.getF Reg.ACT_STATE_MISS a = 0 ∧ u.getF Reg.CNT_MISS_COUNT a = s.getF Reg.CNT_MISS_COUNT a ∧ u.actState a = 3 ∧
      loopOnly s u a := by
  have hwin : s.servoWindow a = s.getF Reg.WINDOW_SV_WIN a := if_neg (by omega)
  have hfound := s.wedgeTaken_found a burst hlock (by rwa [hwin]) hb
  have hvalid : s.wedgeValid a true y.toNat t.toNat = true := by simp [State.wedgeValid, hhi, hlo]
  obtain ⟨hmiss, hcnt⟩ := s.trackObserved_valid (a := a) (some o) true burst y.toNat t.toNat
  obtain ⟨l, x, -, hexec⟩ := exec_servoSample_follows (some o) true burst y t torn hl h3 hswap hr hh hw hfound hvalid hg (by omega)
  refine ⟨_, hexec, ?_, ?_, ?_, ?_, ?_, ?_⟩
  · rw [State.sampleClosed_getF _ _ _ _ ha (by decide), State.setLoop_getF, State.trackObserved_pos]
    simp only [State.estimate, hnew, Bool.not_true, Bool.false_eq_true, if_false]
  · rw [State.sampleClosed_getF _ _ _ _ ha (by decide), State.setLoop_getF, State.trackObserved_pes]
    rfl
  · rw [State.sampleClosed_getF _ _ _ _ ha (by decide), State.setLoop_getF, hmiss]
  · rw [State.sampleClosed_getF _ _ _ _ ha (by decide), State.setLoop_getF, hcnt]
  · rw [State.actState, State.sampleClosed_getF _ _ _ _ ha (by decide), State.setLoop_getF, ← State.actState, State.trackObserved_actState, h3]
  · exact ((s.trackObserved_loopOnly _ _ _ _ _ _).trans (State.setLoop_loopOnly _ _ _)).trans (State.sampleClosed_loopOnly _ _ _ _)

/-! ### A wedge missed, and position lost (R178, R186, R187) -/

section
variable (hmissed : sam = none ∨ parity = false)
include hmissed

/-- Fewer than four missed in a row: the prediction stands for the position, and no write may begin. -/
theorem servoSample_missed (ha : a < 2) (hg : (s.rw a).gate = none) (hlt : s.getF Reg.ACT_STATE_MISS a < 3)
    (hn : 1 ≤ s.getF Reg.COUNTS_WR_N a) : ∃ u, exec (.servoSample a sam parity burst y t torn) s = .next u ∧
      u.getF Reg.ACT_STATE_MISS a = s.getF Reg.ACT_STATE_MISS a + 1 ∧
      u.getF Reg.CNT_MISS_COUNT a = (s.getF Reg.CNT_MISS_COUNT a + 1) % 2 ^ 32 ∧
      u.getF Reg.ACT_POS_P a = (s.predict a t.toNat).1.toNat ∧ u.getF Reg.ACT_STATE_WINH a = 1 ∧ u.getF Reg.ACT_STATE_ON_TRK_WR a = 0 ∧
      u.actState a = 3 ∧ loopOnly s u a := by
  obtain ⟨hmiss, hcnt⟩ := s.trackObserved_missed (a := a) sam parity burst y.toNat t.toNat
  have hsat : satN 3 (s.getF Reg.ACT_STATE_MISS a + 1) = s.getF Reg.ACT_STATE_MISS a + 1 := min_eq_left (by omega)
  rw [hsat] at hmiss
  obtain ⟨l, x, hkept, hexec⟩ := exec_servoSample_follows sam parity burst y t torn hl h3 hswap hr hh hw
    (s.wedgeTaken_missed a sam parity burst hmissed) (valid := false) rfl hg (by omega)
  obtain ⟨k, h, hhist⟩ := State.observed_pesHist (s.wedgeTaken a sam parity burst).1 a false y.toNat t.toNat
  refine ⟨_, hexec, ?_, ?_, ?_, State.sampleClosed_winh _ _ _ _ ha (.inl rfl), ?_, ?_, ?_⟩
  · rw [State.sampleClosed_getF _ _ _ _ ha (by decide), State.setLoop_getF, hmiss]
  · rw [State.sampleClosed_getF _ _ _ _ ha (by decide), State.setLoop_getF, hcnt]
  · rw [State.sampleClosed_getF _ _ _ _ ha (by decide), State.setLoop_getF, State.trackObserved_pos]
    rfl
  · refine State.sampleClosed_missed _ _ _ _ ha (k := k) (l := h) ?_ ?_
    · rw [State.loop_setLoop_self, hkept]
      exact hhist
    · rwa [State.setLoop_getF, State.trackObserved_getF _ _ _ _ _ _ (by decide) (by decide) (by decide) (by decide)]
  · rw [State.actState, State.sampleClosed_getF _ _ _ _ ha (by decide), State.setLoop_getF, ← State.actState, State.trackObserved_actState, h3]
  · exact ((s.trackObserved_loopOnly _ _ _ _ _ _).trans (State.setLoop_loopOnly _ _ _)).trans (State.sampleClosed_loopOnly _ _ _ _)

/-- The fourth missed in a row. -/
theorem servoSample_loses (ha : a < 2) (hg : (s.rw a).gate = none) (hthree : s.getF Reg.ACT_STATE_MISS a = 3) :
    ∃ u, exec (.servoSample a sam parity burst y t torn) s = .next u ∧ u.actState a = 6 ∧
      u.getF Reg.CNT_LOST_COUNT a = (s.getF Reg.CNT_LOST_COUNT a + 1) % 2 ^ 32 ∧ bitOf (u.getF Reg.LOOP_EVENTS_LOST) a = true ∧
      u.getF Reg.ACT_STATE_WINH a = 1 ∧ u.getF Reg.ACT_STATE_ON_TRK_RD a = 0 ∧ u.getF Reg.ACT_STATE_ON_TRK_WR a = 0 ∧
      u.chans = s.chans ∧ u.rw a = { s.rw a with rgate := none } ∧ ∀ m, m ≠ a → u.rw m = s.rw m := by
  obtain ⟨hmiss, -⟩ := s.trackObserved_missed (a := a) sam parity burst y.toNat t.toNat
  rw [hthree] at hmiss
  have hobserved := s.trackObserved_loopOnly (a := a) sam parity burst false y.toNat t.toNat
  have hrw : ∀ m, (s.trackObserved a sam parity burst y.toNat t.toNat false).rw m = s.rw m := State.rw_congr hobserved.rwc
  obtain ⟨hstate, hcnt, hbit, hchans, hself, hother⟩ := (s.trackObserved a sam parity burst y.toNat t.toNat false).positionLost_spec ha torn
    ((State.trackObserved_actState _ _ _ _ _ _).trans h3) (by rw [hrw, hg])
  obtain ⟨l, x, hexec⟩ := exec_servoSample_loses sam parity burst y t torn hl h3 hswap hr hh hw
    (s.wedgeTaken_missed a sam parity burst hmissed) (valid := false) rfl (by rw [hmiss]; decide) (by rw [hself, hrw, hg])
  rw [Bool.not_false] at hexec
  generalize State.positionLost _ a torn = p at *
  have hoff : (p.setLoop a l).actState a = 6 := (State.setLoop_getF _ _ _ _ _).trans hstate
  obtain ⟨hrd, hwr⟩ := State.sampleClosed_offTrack _ a x true ha (by rw [hoff]; decide)
  have hclosed := (p.setLoop_loopOnly a l).trans (State.sampleClosed_loopOnly _ a x true)
  have hrwClosed := State.rw_congr hclosed.rwc
  refine ⟨_, hexec, ?_, ?_, ?_, State.sampleClosed_winh _ _ _ _ ha (.inl rfl), hrd, hwr, ?_, ?_, fun m hm => ?_⟩
  · rw [State.actState, State.sampleClosed_getF _ _ _ _ ha (by decide)]
    exact hoff
  · rw [State.sampleClosed_getF _ _ _ _ ha (by decide), State.setLoop_getF, hcnt,
      State.trackObserved_getF _ _ _ _ _ _ (by decide) (by decide) (by decide) (by decide)]
  · obtain ⟨-, -, -, -, hapart⟩ := lossFields_apart a ha
    rw [State.sampleClosed_fieldsKept _ a x true Reg.LOOP_EVENTS_LOST 0 hapart, State.setLoop_getF]
    exact hbit
  · exact hclosed.chans.trans (hchans.trans hobserved.chans)
  · exact (hrwClosed a).trans (by rw [hself, hrw])
  · exact (hrwClosed m).trans ((hother m hm).trans (hrw m))

end

end

end Sys2Proof.Machine
end

section
/-! A sample in ACQUIRE or LOST (spec/08 R177, R186, R187), position regained, and the obligation about servo samples. -/

namespace Sys2Proof.Machine

set_option Elab.async false

/-! ### The search and position regained (R186, R187) -/

section
variable (s : State) (a : Nat)

/-- The measured position is near its prediction. -/
def State.nearPredicted (s : State) (a y t : Nat) : Bool :=
  decide ((y : Int) - (s.predict a t).1 ≤ 256 * (s.getF Reg.WINDOW_MISS_DEV a : Int)) &&
    decide ((s.predict a t).1 - (y : Int) ≤ 256 * (s.getF Reg.WINDOW_MISS_DEV a : Int))

/-- A wedge found counts as the first of a search, or near its prediction. -/
def State.searchValid (s : State) (a : Nat) (found : Bool) (y t : Nat) : Bool := found && ((s.loop a).acq == 0 || s.nearPredicted a y t)

/-- The consistent wedges in a row. -/
def State.consistent (s : State) (a : Nat) (valid : Bool) : Nat := if valid then (s.loop a).acq + 1 else 0

/-- The position that a search takes. -/
def State.searchPos (s : State) (a : Nat) (valid : Bool) (y t : Nat) : Int := if valid then y else (s.predict a t).1

/-- The loop that takes the wedge of a search. -/
def State.searching (s : State) (a : Nat) (valid : Bool) (y t : Nat) : Loop :=
  let l := s.loop a
  let pv := s.predict a t
  { l with p := s.searchPos a valid y t, acq := s.consistent a valid
           v := if valid && l.acq != 0 then
               satI 32 (roundShift (pv.2 * 65536 + s.coef a 2 * satI 32 ((y : Int) - pv.1)) 16)
             else pv.2 }

/-- The wedge of a search is taken. -/
def State.searchShown (s : State) (a : Nat) (valid : Bool) (y t : Nat) : State :=
  s.sampleShown a (s.searching a valid y t) (s.searchPos a valid y t) (satI 32 (s.searchPos a valid y t - (s.loop a).rPos)) valid

/-- The reference stands at the position measured, with no target and no offset that waits. -/
def State.referenceSet (s : State) (a y : Nat) : State :=
  (s.setLoop a { s.loop a with rPos := y, rVel := 0, rAcc := 0, profile := [], target := y, jog := 0, want := 0, acq := 0
                               headNew := false, settle := 0, pesHist := [(0, false)] }).showPos a y 0

/-- Position is regained. -/
def State.regained (s : State) (a y : Nat) : State :=
  (((s.referenceSet a y).headTo a ((s.referenceSet a y).loop a).head (y / 4096)).event 0x28 a 0 (y / 4096)).setAct a 3 true

theorem State.searchSample_eq (found : Bool) (y t : Nat) : ∃ x x', s.searchSample a found y t =
    let valid := s.searchValid a found y t
    let o := s.searchShown a valid y t
    if o.getF Reg.COUNTS_ACQ_N a ≤ s.consistent a valid then (o.regained a y).output a x else o.output a x' := ⟨_, _, rfl⟩

/-! ### The search reads what the search for the mark leaves alone -/

section
variable {s a} {u : State} (hregs : u.regs = s.regs) (h : (s.loop a).searchedFrom (u.loop a))
include hregs h

theorem State.searchValid_searched (found : Bool) (y t : Nat) : u.searchValid a found y t = s.searchValid a found y t := by
  rw [State.searchValid, State.nearPredicted, State.predict_searched hregs h, State.getF_congr hregs, h]
  rfl

omit hregs in
theorem State.consistent_searched (valid : Bool) : u.consistent a valid = s.consistent a valid := by
  rw [State.consistent, h]
  rfl

theorem State.searchPos_searched (valid : Bool) (y t : Nat) : u.searchPos a valid y t = s.searchPos a valid y t := by
  rw [State.searchPos, State.predict_searched hregs h]
  rfl

end

theorem State.headTo_rw (head track : Nat) : (s.headTo a head track).rw a =
    { s.rw a with ratio := ((s.headTo a head track).rw a).ratio, settled := ((s.headTo a head track).rw a).settled } := by
  rw [State.headTo_eq]
  split
  · rfl
  · rw [State.rw_setRw_self]

theorem State.headTo_loops (head track : Nat) : (s.headTo a head track).loops = s.loops := by rw [State.headTo_withRwc]

theorem State.headTo_chans (head track : Nat) : (s.headTo a head track).chans = s.chans := by rw [State.headTo_withRwc]

theorem State.referenceSet_loop (y : Nat) : (s.referenceSet a y).loop a =
    { s.loop a with rPos := y, rVel := 0, rAcc := 0, profile := [], target := y, jog := 0, want := 0, acq := 0
                    headNew := false, settle := 0, pesHist := [(0, false)] } := State.loop_setLoop_self _ _ _

/-- Position regained, the state not yet entered. -/
def State.headServed (s : State) (a y : Nat) : State :=
  ((s.referenceSet a y).headTo a ((s.referenceSet a y).loop a).head (y / 4096)).event 0x28 a 0 (y / 4096)

theorem State.headServed_loop (y : Nat) : (s.headServed a y).loop a = (s.referenceSet a y).loop a :=
  State.loop_congr ((State.event_loops ..).trans (State.headTo_loops ..)) a

theorem State.headServed_chans (y : Nat) : (s.headServed a y).chans = s.chans := (State.event_chans ..).trans (State.headTo_chans ..)

theorem State.headServed_rw (y : Nat) : (s.headServed a y).rw a =
    { s.rw a with ratio := ((s.headServed a y).rw a).ratio, settled := ((s.headServed a y).rw a).settled } := by
  rw [State.headServed, State.rw_congr (State.event_rwc ..)]
  exact State.headTo_rw _ _ _ _

theorem State.regained_eq (y : Nat) : s.regained a y = (s.headServed a y).stateEntered a 3 := by
  rw [State.regained, State.setAct, State.setActFor_eq, if_neg (by simp)]
  rfl

/-- Regained, the loop is in TRACK, its reference and target at the position. -/
theorem State.regained_spec (y : Nat) (ha : a < 2) : let t := s.regained a y
    t.actState a = 3 ∧ (t.loop a).rPos = y ∧ (t.loop a).target = y ∧ (t.loop a).rVel = 0 ∧ (t.loop a).acq = 0 ∧ t.chans = s.chans ∧
      t.rw a = { s.rw a with ratio := (t.rw a).ratio, settled := (t.rw a).settled } := by
  have hloop := (s.headServed a y).stateEntered_loop_self a 3
  rw [State.headServed_loop, State.referenceSet_loop] at hloop
  have hrw : ((s.headServed a y).stateEntered a 3).rw a = (s.headServed a y).rw a :=
    State.rw_congr (State.stateEntered_rwc _ a 3 (by decide)) a
  simp only [State.regained_eq]
  refine ⟨State.stateEntered_actState _ a 3 ha (by decide), by rw [hloop], by rw [hloop], by rw [hloop], by rw [hloop], ?_, ?_⟩
  · rw [(State.stateEntered_loopFrame _ a 3).chans, State.headServed_chans]
  · rw [hrw]
    exact s.headServed_rw a y

end

/-! ### A sample in ACQUIRE or LOST (R187) -/

section
variable {s : State} {a : Nat} (sam : Option Int) (parity : Bool) (burst : Nat)

/-- The state in which the wedge of a search has been taken. -/
def State.searchTaken (s : State) (a : Nat) (sam : Option Int) (parity : Bool) (burst y t : Nat) (valid : Bool) : State :=
  (s.wedgeTaken a sam parity burst).1.searchShown a valid y t

section
variable (valid : Bool) (y t : Nat)

theorem State.searchTaken_loopOnly : loopOnly s (s.searchTaken a sam parity burst y t valid) a :=
  (s.wedgeTaken_loopOnly a sam parity burst).1.trans (State.sampleShown_loopOnly _ a _ _ _ _)

theorem State.searchTaken_actState : (s.searchTaken a sam parity burst y t valid).actState a = s.actState a :=
  (State.sampleShown_actState _ a _ _ _ _).trans (State.getF_congr (s.wedgeTaken_loopOnly a sam parity burst).2 _ _)

theorem State.searchTaken_acqN : (s.searchTaken a sam parity burst y t valid).getF Reg.COUNTS_ACQ_N a = s.getF Reg.COUNTS_ACQ_N a :=
  (State.sampleShown_getF _ a _ _ _ _ _ (by decide) (by decide) (by decide) (by decide)).trans
    (State.getF_congr (s.wedgeTaken_loopOnly a sam parity burst).2 _ _)

theorem State.searchTaken_loop : ((s.searchTaken a sam parity burst y t valid).loop a).acq = s.consistent a valid ∧
    ((s.searchTaken a sam parity burst y t valid).loop a).p = s.searchPos a valid y t := by
  obtain ⟨-, hregs⟩ := s.wedgeTaken_loopOnly a sam parity burst
  have hloop := s.wedgeTaken_loop a sam parity burst
  rw [State.searchTaken, State.searchShown, State.sampleShown_loop]
  exact ⟨State.consistent_searched hloop valid, State.searchPos_searched hregs hloop valid y t⟩

theorem State.searchTaken_valid : (s.searchTaken a sam parity burst y t true).getF Reg.ACT_STATE_MISS a = 0 :=
  (State.sampleShown_valid _ _ _ _ _).1

theorem State.searchTaken_missed : (s.searchTaken a sam parity burst y t false).getF Reg.CNT_MISS_COUNT a =
    (s.getF Reg.CNT_MISS_COUNT a + 1) % 2 ^ 32 := by
  rw [← State.getF_congr (s.wedgeTaken_loopOnly a sam parity burst).2]
  exact (State.sampleShown_missed _ _ _ _ _).2

end

variable (y t : Word) (torn : Bool) (hl : s.live = true) (ha : a < 2) (hst : s.actState a = 2 ∨ s.actState a = 6) (hswap : s.swap = [])
  (hg : (s.rw a).gate = none) {found valid : Bool} (hfound : (s.wedgeTaken a sam parity burst).2 = found)
  (hvalid : s.searchValid a found y.toNat t.toNat = valid)

include hfound hvalid in
/-- The search takes the wedge, and position is regained after ACQ_N consistent ones. -/
theorem State.searchSample_taken : ∃ x x', (s.wedgeTaken a sam parity burst).1.searchSample a (s.wedgeTaken a sam parity burst).2 y.toNat t.toNat =
    let o := s.searchTaken a sam parity burst y.toNat t.toNat valid
    if s.getF Reg.COUNTS_ACQ_N a ≤ s.consistent a valid then (o.regained a y.toNat).output a x else o.output a x' := by
  obtain ⟨-, hregs⟩ := s.wedgeTaken_loopOnly a sam parity burst
  have hloop := s.wedgeTaken_loop a sam parity burst
  obtain ⟨x, x', h⟩ := (s.wedgeTaken a sam parity burst).1.searchSample_eq a (s.wedgeTaken a sam parity burst).2 y.toNat t.toNat
  refine ⟨x, x', h.trans ?_⟩
  dsimp only
  rw [State.searchValid_searched hregs hloop, hfound, hvalid, State.consistent_searched hloop]
  change (if (s.searchTaken a sam parity burst y.toNat t.toNat valid).getF Reg.COUNTS_ACQ_N a ≤ _ then _ else _) = _
  rw [State.searchTaken_acqN]
  rfl

include hl hst hswap hg hfound hvalid

theorem exec_servoSample_searches (hfew : s.consistent a valid < s.getF Reg.COUNTS_ACQ_N a) : ∃ x missed,
    exec (.servoSample a sam parity burst y t torn) s = .next
      ((s.searchTaken a sam parity burst y.toNat t.toNat valid).sampleClosed a x missed) := by
  obtain ⟨x', x, h⟩ := State.searchSample_taken sam parity burst y t hfound hvalid
  rw [if_neg (by omega)] at h
  have hclosed := (s.searchTaken_loopOnly (a := a) sam parity burst valid y.toNat t.toNat).trans (State.output_loopOnly _ a x)
  rw [exec_servoSample _ _ _ _ _ _ hl (by omega) (by omega) hswap]
  dsimp only
  rw [if_pos hst, h, State.trackFlags_of_closed _ _ _ _ (by rw [State.rw_congr hclosed.rwc, hg])]
  exact ⟨x, _, rfl⟩

theorem exec_servoSample_regains (ha : a < 2) (hmany : s.getF Reg.COUNTS_ACQ_N a ≤ s.consistent a valid) : ∃ x missed,
    exec (.servoSample a sam parity burst y t torn) s = .next
      (((s.searchTaken a sam parity burst y.toNat t.toNat valid).regained a y.toNat).sampleClosed a x missed) := by
  obtain ⟨x, x', h⟩ := State.searchSample_taken sam parity burst y t hfound hvalid
  rw [if_pos hmany] at h
  have htaken := State.rw_congr (s.searchTaken_loopOnly (a := a) sam parity burst valid y.toNat t.toNat).rwc
  obtain ⟨-, -, -, -, -, -, hrw⟩ := (s.searchTaken a sam parity burst y.toNat t.toNat valid).regained_spec a y.toNat ha
  have hclosed := State.rw_congr (State.output_loopOnly ((s.searchTaken a sam parity burst y.toNat t.toNat valid).regained a y.toNat) a x).rwc
  rw [exec_servoSample _ _ _ _ _ _ hl (by omega) (by omega) hswap]
  dsimp only
  rw [if_pos hst, h, State.trackFlags_of_closed _ _ _ _ (by rw [hclosed, hrw, htaken, hg])]
  exact ⟨x, _, rfl⟩

end

section
variable {s : State} {a : Nat} (burst : Nat) (y t : Word) (torn : Bool) (hl : s.live = true) (ha : a < 2)
  (hst : s.actState a = 2 ∨ s.actState a = 6) (hswap : s.swap = []) (hg : (s.rw a).gate = none)
include hl ha hst hswap hg

/-- A missed wedge starts the count of consistent ones anew. -/
theorem servoSample_searchMissed (parity : Bool) (hn : 1 ≤ s.getF Reg.COUNTS_ACQ_N a) : ∃ u,
    exec (.servoSample a none parity burst y t torn) s = .next u ∧ (u.loop a).acq = 0 ∧ (u.loop a).p = (s.predict a t.toNat).1 ∧
      u.actState a = s.actState a ∧ u.getF Reg.ACT_STATE_WINH a = 1 ∧
      u.getF Reg.CNT_MISS_COUNT a = (s.getF Reg.CNT_MISS_COUNT a + 1) % 2 ^ 32 ∧ loopOnly s u a := by
  obtain ⟨x, missed, hexec⟩ := exec_servoSample_searches none parity burst y t torn hl hst hswap hg
    (s.wedgeTaken_missed a none parity burst (.inl rfl)) (valid := false) rfl hn
  obtain ⟨hacq, hp⟩ := s.searchTaken_loop (a := a) none parity burst false y.toNat t.toNat
  have hstate := s.searchTaken_actState (a := a) none parity burst false y.toNat t.toNat
  refine ⟨_, hexec, ?_, ?_, ?_, State.sampleClosed_winh _ _ _ _ ha (.inr (by omega)), ?_, ?_⟩
  · rw [State.sampleClosed_loop]
    exact hacq
  · rw [State.sampleClosed_loop]
    exact hp
  · rw [State.actState, State.sampleClosed_getF _ _ _ _ ha (by decide)]
    exact hstate
  · rw [State.sampleClosed_getF _ _ _ _ ha (by decide), State.searchTaken_missed]
  · exact (s.searchTaken_loopOnly _ _ _ _ _ _).trans (State.sampleClosed_loopOnly _ _ _ _)

section
variable {o : Int} (hlock : s.flag Reg.CHN_STATUS_LOCK = true) (ho : o.natAbs ≤ 256 * s.servoWindow a)
  (hb : burstOk (s.loop a).burst burst = true) (hnear : (s.loop a).acq = 0 ∨ ((y.toNat : Int) - (s.predict a t.toNat).1 ≤
    256 * (s.getF Reg.WINDOW_MISS_DEV a : Int) ∧ (s.predict a t.toNat).1 - (y.toNat : Int) ≤ 256 * (s.getF Reg.WINDOW_MISS_DEV a : Int)))
include hlock ho hb hnear

theorem servoSample_searchFound (hfew : (s.loop a).acq + 1 < s.getF Reg.COUNTS_ACQ_N a) : ∃ u,
    exec (.servoSample a (some o) true burst y t torn) s = .next u ∧ (u.loop a).acq = (s.loop a).acq + 1 ∧ (u.loop a).p = y.toNat ∧
      u.actState a = s.actState a ∧ u.getF Reg.ACT_STATE_MISS a = 0 ∧ loopOnly s u a := by
  have hvalid : s.searchValid a true y.toNat t.toNat = true := by simpa [State.searchValid, State.nearPredicted] using hnear
  obtain ⟨x, missed, hexec⟩ := exec_servoSample_searches (some o) true burst y t torn hl hst hswap hg
    (s.wedgeTaken_found a burst hlock ho hb) hvalid hfew
  obtain ⟨hacq, hp⟩ := s.searchTaken_loop (a := a) (some o) true burst true y.toNat t.toNat
  refine ⟨_, hexec, ?_, ?_, ?_, ?_, ?_⟩
  · rw [State.sampleClosed_loop]
    exact hacq
  · rw [State.sampleClosed_loop]
    exact hp
  · rw [State.actState, State.sampleClosed_getF _ _ _ _ ha (by decide)]
    exact s.searchTaken_actState _ _ _ _ _ _
  · rw [State.sampleClosed_getF _ _ _ _ ha (by decide), State.searchTaken_valid]
  · exact (s.searchTaken_loopOnly _ _ _ _ _ _).trans (State.sampleClosed_loopOnly _ _ _ _)

theorem servoSample_regains (hmany : s.getF Reg.COUNTS_ACQ_N a ≤ (s.loop a).acq + 1) : ∃ u,
    exec (.servoSample a (some o) true burst y t torn) s = .next u ∧ u.actState a = 3 ∧ (u.loop a).rPos = y.toNat ∧
      (u.loop a).target = y.toNat ∧ (u.loop a).rVel = 0 ∧ (u.loop a).acq = 0 ∧ u.chans = s.chans ∧
      u.rw a = { s.rw a with ratio := (u.rw a).ratio, settled := (u.rw a).settled } := by
  have hvalid : s.searchValid a true y.toNat t.toNat = true := by simpa [State.searchValid, State.nearPredicted] using hnear
  obtain ⟨x, missed, hexec⟩ := exec_servoSample_regains (some o) true burst y t torn hl hst hswap hg
    (s.wedgeTaken_found a burst hlock ho hb) hvalid ha hmany
  have htaken := s.searchTaken_loopOnly (a := a) (some o) true burst true y.toNat t.toNat
  obtain ⟨hstate, hpos, htarget, hvel, hacq, hchans, hrw⟩ :=
    (s.searchTaken a (some o) true burst y.toNat t.toNat true).regained_spec a y.toNat ha
  rw [State.rw_congr htaken.rwc] at hrw
  generalize State.regained _ a y.toNat = p at *
  have hclosed := p.sampleClosed_loopOnly a x missed
  have hrwClosed := State.rw_congr hclosed.rwc a
  refine ⟨_, hexec, ?_, ?_, ?_, ?_, ?_, hclosed.chans.trans (hchans.trans htaken.chans), ?_⟩
  · rw [State.actState, State.sampleClosed_getF _ _ _ _ ha (by decide)]
    exact hstate
  · rw [State.sampleClosed_loop]
    exact hpos
  · rw [State.sampleClosed_loop]
    exact htarget
  · rw [State.sampleClosed_loop]
    exact hvel
  · rw [State.sampleClosed_loop]
    exact hacq
  · rw [hrwClosed]
    exact hrw

end

end

/-- Settles O27: a wedge found, missed or the fourth missed in TRACK, and the wedges of a search, have their theorems above. -/
theorem servoSamples : Obligations.ServoSamples := by
  refine ⟨fun s a burst o sam parity torn y t hl ha h3 hswap hg hr hh hw => ⟨fun hlock ho hnew hb hhi hlo => ?_,
    fun hmissed hlt hn => ?_, fun hmissed hthree => ?_⟩, fun s a burst o parity torn y t hl ha hst hswap hg => ⟨fun hn => ?_,
      fun hlock ho hb hnear => ⟨fun hfew => ?_, fun hmany => ?_⟩⟩⟩
  · exact servoSample_found burst y t torn hl h3 hswap hr hh hw ha hg hlock ho hnew hb hhi hlo
  · exact servoSample_missed sam parity burst y t torn hl h3 hswap hr hh hw hmissed ha hg hlt hn
  · exact servoSample_loses sam parity burst y t torn hl h3 hswap hr hh hw hmissed ha hg hthree
  · obtain ⟨u, hexec, hacq, hp, hstate, hwinh, hcnt, -, hframe⟩ := servoSample_searchMissed burst y t torn hl ha hst hswap hg parity hn
    exact ⟨u, hexec, hacq, hp, hstate, hwinh, hcnt, hframe⟩
  · obtain ⟨u, hexec, hacq, hp, hstate, hmiss, -, hframe⟩ :=
      servoSample_searchFound burst y t torn hl ha hst hswap hg hlock ho hb hnear hfew
    exact ⟨u, hexec, hacq, hp, hstate, hmiss, hframe⟩
  · exact servoSample_regains burst y t torn hl ha hst hswap hg hlock ho hb hnear hmany

end Sys2Proof.Machine
end

section
/-! The sequencer's states (spec/09 R194, R196, R197, R202, R203, R206, R209): what entering one sets and leaves as it was. -/

namespace Sys2Proof.Machine

set_option Elab.async false

section
variable (s : State)

/-! ### SPN_EST, and no rotation (R194, R197, R207) -/

/-- SPN_EST is set, and no actuator has been retracted yet. -/
def State.estSet (s : State) (rpm8 : Nat) : State := s.setF Reg.SPN_EST_RPM8 0 (satN 16 rpm8)

theorem State.setEst_eq (rpm8 : Nat) : s.setEst rpm8 = (s.estSet rpm8).unloadCheck true true := rfl

theorem State.setEst_fieldsKept (rpm8 : Nat) : fieldsKept s (s.setEst rpm8) (unloadFields ++ [(Reg.SPN_EST_RPM8, 0)]) :=
  (s.setF_fieldsKept _ _ _).trans (State.unloadCheck_fieldsKept _ (.inr rfl) (.inr rfl))

theorem State.setEst_est (rpm8 : Nat) : (s.setEst rpm8).getF Reg.SPN_EST_RPM8 = satN 16 rpm8 := by
  rw [State.setEst_eq, State.unloadCheck_fieldsKept _ (.inr rfl) (.inr rfl) _ _ (by decide)]
  exact s.getF_setF_satN (f := Reg.SPN_EST_RPM8) (by decide) 0 rpm8

theorem State.bothAtRest_congr {s t : State} (h : ∀ a < 2, t.actState a = s.actState a) : t.bothAtRest = s.bothAtRest := by
  rw [State.bothAtRest, State.atRest, State.atRest, h 0 (by decide), h 1 (by decide)]
  rfl

/-- With both actuators at rest nothing is retracted. -/
theorem State.setEst_of_atRest (rpm8 : Nat) (h : s.bothAtRest = true) : s.setEst rpm8 = s.estSet rpm8 := by
  refine State.unloadCheck_of_atRest _ ?_
  have hapart : ∀ a < 2, Reg.ACT_STATE_STATE.key a ≠ Reg.SPN_EST_RPM8.key 0 := by decide
  rwa [State.bothAtRest_congr fun a ha => s.getF_setF_ne _ _ _ _ _ (hapart a ha)]

/-! ### A state of the sequencer entered (R196, R209) -/

/-- The fields that entering a state of the sequencer sets. -/
def spnFields : List (Field × Nat) := [(Reg.SPN_STATE_HANDED, 0), (Reg.SPN_STATE_HEATING, 0), (Reg.SPN_STATE_STATE, 0)]

/-- The sequencer is in state `st`; SPN_EST is not yet 0 in OFF and FAIL. -/
def State.spnSet (s : State) (st : Nat) : State :=
  let s := s.setF Reg.SPN_STATE_STATE 0 st
  let s := if st = 0 ∨ st = 8 ∨ st = 10 then s.lower Reg.SPN_STATE_HEATING else s
  let s := if st = 7 then s else s.lower Reg.SPN_STATE_HANDED
  if st = 10 then s else s.modSpn (fun p => { p with failed := false })

theorem State.enterSpn_eq (st : Nat) : s.enterSpn st = if st = 0 ∨ st = 10 then (s.spnSet st).noRotation else s.spnSet st := rfl

/-- Every state but OFF and FAIL. -/
theorem State.enterSpn_of_driven {st : Nat} (h0 : st ≠ 0) (h10 : st ≠ 10) : s.enterSpn st = s.spnSet st := by
  rw [State.enterSpn_eq, if_neg (by omega)]

end

/-- A field lowered where `p` holds. -/
def State.lowerIf (s : State) (p : Prop) [Decidable p] (f : Field) : State := if p then s.lower f else s

theorem State.lowerIf_onlyFields (s : State) (p : Prop) [Decidable p] (f : Field) : onlyFields s (s.lowerIf p f) [(f, 0)] := by
  unfold State.lowerIf
  split
  · exact s.setF_onlyFields f 0 0
  · exact ⟨rfl, fieldsKept_of_regs rfl _⟩

theorem onlyFields.trans {s t u : State} {l k : List (Field × Nat)} (h : onlyFields s t l) (h' : onlyFields t u k) :
    onlyFields s u (k ++ l) :=
  ⟨h'.1.trans (congrArg (fun v : State => { v with regs := u.regs }) h.1), h.2.trans h'.2⟩

section
variable (s : State) (st : Nat)

/-- The state of the sequencer and the flags of heating and of the speed loop. -/
def State.spnRegs (s : State) (st : Nat) : State :=
  ((s.setF Reg.SPN_STATE_STATE 0 st).lowerIf (st = 0 ∨ st = 8 ∨ st = 10) Reg.SPN_STATE_HEATING).lowerIf (¬st = 7) Reg.SPN_STATE_HANDED

theorem State.spnSet_eq : s.spnSet st = if st = 10 then s.spnRegs st else (s.spnRegs st).modSpn (fun p => { p with failed := false }) := by
  simp only [State.spnSet, State.spnRegs, State.lowerIf, ite_not]

theorem State.spnRegs_onlyFields : onlyFields s (s.spnRegs st) spnFields :=
  ((s.setF_onlyFields Reg.SPN_STATE_STATE 0 st).trans (State.lowerIf_onlyFields _ _ _)).trans (State.lowerIf_onlyFields _ _ _)

theorem State.spnRegs_spn (h : st < 16) : (s.spnRegs st).spn = st := by
  refine ((State.lowerIf_onlyFields _ _ _).2 _ 0 (by decide)).trans (((State.lowerIf_onlyFields _ _ _).2 _ 0 (by decide)).trans ?_)
  exact (s.getF_setF_self _ _ _ (by decide)).trans (Nat.mod_eq_of_lt h)

theorem State.spnRegs_handed (h : st ≠ 7) : (s.spnRegs st).flag Reg.SPN_STATE_HANDED = false := by
  rw [State.spnRegs, State.lowerIf, if_pos h, State.flag, State.getF_lower_self _ _ _ (by decide)]
  rfl

theorem State.spnSet_regs : (s.spnSet st).regs = (s.spnRegs st).regs := by
  rw [State.spnSet_eq]
  split <;> rfl

theorem State.spnSet_frame : s.spnSet st = { s with regs := (s.spnSet st).regs, spindle := (s.spnSet st).spindle } := by
  rw [State.spnSet_eq]
  split <;> rw [(s.spnRegs_onlyFields st).1]
  rfl

theorem State.spnSet_spindle : (s.spnSet st).spindle = { s.spindle with failed := (s.spnSet st).spindle.failed } := by
  rw [State.spnSet_eq]
  split <;> rw [(s.spnRegs_onlyFields st).1]
  rfl

theorem State.spnSet_fieldsKept : fieldsKept s (s.spnSet st) spnFields := fun f i hne =>
  (State.getF_congr (s.spnSet_regs st) f i).trans ((s.spnRegs_onlyFields st).2 f i hne)

theorem State.spnSet_spn (h : st < 16) : (s.spnSet st).spn = st := (State.getF_congr (s.spnSet_regs st) _ _).trans (s.spnRegs_spn st h)

theorem State.spnSet_handed (h : st ≠ 7) : (s.spnSet st).flag Reg.SPN_STATE_HANDED = false := by
  rw [State.flag_congr (s.spnSet_regs st), State.spnRegs_handed _ _ h]

end

section
variable (s : State)

/-! ### OFF and FAIL (R197) -/

theorem State.noRotation_fieldsKept : fieldsKept s s.noRotation (unloadFields ++ [(Reg.SPN_EST_RPM8, 0)]) := fun f i hne =>
  (State.setEst_fieldsKept _ 0 f i hne).trans (State.modSpn_getF _ _ _ _)

/-- The fields that entering any state of the sequencer may set. -/
def enterFields : List (Field × Nat) := unloadFields ++ [(Reg.SPN_EST_RPM8, 0)] ++ spnFields

theorem State.enterSpn_fieldsKept (st : Nat) : fieldsKept s (s.enterSpn st) enterFields := by
  rw [State.enterSpn_eq]
  split
  · exact (s.spnSet_fieldsKept st).trans (State.noRotation_fieldsKept _)
  · exact fun f i hne => s.spnSet_fieldsKept st f i fun e he => hne e (List.mem_append_right _ he)

theorem State.enterSpn_spn {st : Nat} (h : st < 16) : (s.enterSpn st).spn = st := by
  rw [State.enterSpn_eq]
  split
  · exact (State.noRotation_fieldsKept _ _ 0 (by decide)).trans (s.spnSet_spn st h)
  · exact s.spnSet_spn st h

/-! ### DETECT, SENSE and RAMP (R199, R202, R203) -/

/-- `t` differs from `s` at most in registers and in the sequencer. -/
def sequencerFrame (s t : State) : Prop := t = { s with regs := t.regs, spindle := t.spindle }

theorem sequencerFrame.trans {s t u : State} (h : sequencerFrame s t) (h' : sequencerFrame t u) : sequencerFrame s u :=
  Eq.trans h' (congrArg (fun v : State => { v with regs := u.regs, spindle := u.spindle }) h)

/-- `t` differs from `s` at most in the sequencer, its state and the flags that this sets. -/
def sequencerOnly (s t : State) : Prop := sequencerFrame s t ∧ fieldsKept s t spnFields

theorem sequencerOnly.trans {s t u : State} (h : sequencerOnly s t) (h' : sequencerOnly t u) : sequencerOnly s u :=
  ⟨h.1.trans h'.1, fun f i hne => (h'.2 f i hne).trans (h.2 f i hne)⟩

theorem State.modSpn_sequencerOnly (g : Spindle → Spindle) : sequencerOnly s (s.modSpn g) := ⟨rfl, fieldsKept_of_regs rfl _⟩

theorem State.enterSpn_sequencerOnly {st : Nat} (h0 : st ≠ 0) (h10 : st ≠ 10) : sequencerOnly s (s.enterSpn st) := by
  rw [s.enterSpn_of_driven h0 h10]
  exact ⟨s.spnSet_frame st, s.spnSet_fieldsKept st⟩

theorem State.enterDetect_sequencerOnly : sequencerOnly s s.enterDetect :=
  (s.modSpn_sequencerOnly _).trans (State.enterSpn_sequencerOnly (st := 1) _ (by decide) (by decide))

theorem State.enterRamp_sequencerOnly (v : Nat) : sequencerOnly s (s.enterRamp v) :=
  (s.modSpn_sequencerOnly _).trans (State.enterSpn_sequencerOnly (st := 5) _ (by decide) (by decide))

/-- SENSE or RAMP, or the wait for the actuators in DETECT. -/
theorem State.enterSense_sequencerOnly : sequencerOnly s s.enterSense := by
  unfold State.enterSense
  split
  · dsimp only
    split
    · exact (s.modSpn_sequencerOnly _).trans (State.enterRamp_sequencerOnly _ _)
    · exact (s.modSpn_sequencerOnly _).trans (State.enterSpn_sequencerOnly (st := 4) _ (by decide) (by decide))
  · exact s.modSpn_sequencerOnly _

theorem State.restReached_sequencerOnly : sequencerOnly s s.restReached := by
  unfold State.restReached
  split
  · exact s.enterSense_sequencerOnly
  · exact ⟨rfl, fieldsKept_of_regs rfl _⟩

end

end Sys2Proof.Machine
end

section
/-! What the logic die sends to the power die (spec/10 R223, R224, R231): the coil budget of an ACTUATOR frame, and the bridge of a SPINDLE
frame. -/

namespace Sys2Proof.Machine

set_option Elab.async false

/-- What stands for each of the two actuators after both have been written. -/
theorem sget_sput_pair {α : Type} [DecidableEq α] (d : α) (f : Nat → α) (l : Sparse α) {a : Nat} (ha : a < 2) :
    sget d a (sput d 1 (f 1) (sput d 0 (f 0) l)) = f a := by
  match a, ha with
  | 0, _ => rw [sget_sput_ne _ _ _ _ _ _ (by decide), sget_sput_self]
  | 1, _ => rw [sget_sput_self]

section
variable (s : State)

/-! ### The ACTUATOR frame (R190, R191, R223, R225) -/

/-- A load request of actuator `a` goes out: no retract request stands beside it. -/
def State.asksLoad (s : State) (a : Nat) : Bool := (s.loop a).loadReq && !(s.loop a).retReq

/-- The power die retracts actuator `a`, of its own or because this frame asks for it. -/
def State.dieRetracts (s : State) (a : Nat) : Bool := sget false a s.power.retract || (s.loop a).retReq

/-- AUTO_RETRACT stands, and no RESUME comes. -/
def State.staysAuto (s : State) : Bool := s.power.autoRetract && !(s.asksLoad 0 || s.asksLoad 1)

/-- The coil command that the power die is given for actuator `a`, before the budget. -/
def State.coilAsked (s : State) (a : Nat) : Int := if s.dieRetracts a || s.staysAuto then 0 else (s.loop a).uPrev

/-- The two coil commands within the budget, and whether they have been cut. -/
def State.coils (s : State) : Int × Int × Bool := s.budget (s.coilAsked 0) (s.coilAsked 1)

/-- The coil command of actuator `a` within the budget. -/
def State.coilShare (s : State) : Nat → Int
  | 0 => s.coils.1
  | _ + 1 => s.coils.2.1

/-- A cut of the commands is recorded and counted. -/
def State.clipCounted (s : State) (clipped : Bool) : State :=
  if clipped then (s.raise Reg.ENG_EVENTS_ACT_CLIP).bumpSat Reg.ENG_ACT_CNT_CLIP else s

/-- What the power die takes from an ACTUATOR frame; it loads heads only where `fast` holds. -/
def State.actuatorPower (s : State) (fast : Bool) : Power := { s.power with
  coil := sput 0 1 (s.coilShare 1) (sput 0 0 (s.coilShare 0) s.power.coil), autoRetract := s.staysAuto
  retract := sput false 1 (s.dieRetracts 1) (sput false 0 (s.dieRetracts 0) s.power.retract)
  loadReq := sput false 1 (s.asksLoad 1 && fast) (sput false 0 (s.asksLoad 0 && fast) s.power.loadReq) }

/-- The retract requests have gone out. -/
def State.retractsSent (s : State) : State := s.each [0, 1] (fun s a => s.setLoop a { s.loop a with retReq := false })

/-- The ACTUATOR frame as it goes out. -/
def State.actuatorSent (s : State) : State :=
  s.dlSend 2 (actPayload (s.loop 0).uPrev (s.loop 1).uPrev (s.loop 0).retReq (s.loop 1).retReq (s.asksLoad 0) (s.asksLoad 1)
    (s.asksLoad 0 || s.asksLoad 1))

/-- The state after an ACTUATOR frame. -/
def State.actuatorFramed (s : State) : State :=
  State.retractsSent { s.actuatorSent.clipCounted s.coils.2.2 with power := s.actuatorPower s.atSpeed }

theorem State.clipCounted_withRegs (clipped : Bool) : s.clipCounted clipped = { s with regs := (s.clipCounted clipped).regs } := by
  unfold State.clipCounted
  split <;> rfl

theorem State.clipCounted_atSpeed (clipped : Bool) : (s.clipCounted clipped).atSpeed = s.atSpeed := by
  unfold State.clipCounted
  split
  · refine congrArg (· != 0) ?_
    exact (State.getF_setF_ne _ _ _ _ _ _ (by decide)).trans (State.getF_setF_ne _ _ _ _ _ _ (by decide))
  · rfl

theorem State.clipCounted_clip : (s.clipCounted true).getF Reg.ENG_EVENTS_ACT_CLIP = 1 ∧
    (s.clipCounted true).getF Reg.ENG_ACT_CNT_CLIP = satN 16 (s.getF Reg.ENG_ACT_CNT_CLIP + 1) := by
  refine ⟨?_, ?_⟩
  · exact (State.getF_setF_ne _ _ _ _ _ _ (by decide)).trans (s.getF_raise_self _ _ (by decide) (by decide))
  · refine (State.getF_bumpSat_self _ _ _ _ (by decide)).trans ?_
    rw [State.raise, State.getF_setF_ne _ _ _ _ _ _ (by decide)]
    rfl

theorem exec_dlActuatorFrame (hl : s.live = true) : exec .dlActuatorFrame s = .next s.actuatorFramed := by
  have hexec : exec .dlActuatorFrame s = execDlActuatorFrame s := rfl
  rw [hexec, execDlActuatorFrame, State.whenLive_of_live _ _ hl]
  exact congrArg (fun fast => Host.Outcome.next (State.retractsSent
    { s.actuatorSent.clipCounted s.coils.2.2 with power := s.actuatorPower fast })) (s.actuatorSent.clipCounted_atSpeed _)

section
variable {a : Nat} (ha : a < 2)
include ha

theorem State.retractsSent_loop : s.retractsSent.loop a = { s.loop a with retReq := false } := by
  match a, ha with
  | 0, _ => exact (State.loop_setLoop_ne _ _ _ _ (by decide)).trans (s.loop_setLoop_self _ _)
  | 1, _ =>
    refine (State.loop_setLoop_self _ _ _).trans ?_
    rw [State.loop_setLoop_ne _ _ _ _ (by decide)]

/-- Commands within the budget stand as they are. -/
theorem State.coilShare_within (h : (s.coilAsked 0).natAbs + (s.coilAsked 1).natAbs ≤ s.getF Reg.ENG_ACT_SUM_MAX) :
    s.coilShare a = s.coilAsked a := by
  have hcoils : s.coils = (s.coilAsked 0, s.coilAsked 1, false) := if_pos h
  match a, ha with
  | 0, _ => rw [State.coilShare, hcoils]
  | 1, _ => rw [State.coilShare, hcoils]

theorem State.coilShare_beyond (h : s.getF Reg.ENG_ACT_SUM_MAX < (s.coilAsked 0).natAbs + (s.coilAsked 1).natAbs) :
    s.coilShare a = Int.tdiv (s.coilAsked a * (s.getF Reg.ENG_ACT_SUM_MAX : Int))
      (((s.coilAsked 0).natAbs + (s.coilAsked 1).natAbs : Nat) : Int) := by
  have hcoils : s.coils = (_, _, true) := if_neg (Nat.not_le.2 h)
  match a, ha with
  | 0, _ => rw [State.coilShare, hcoils]
  | 1, _ => rw [State.coilShare, hcoils]

theorem State.coilShare_of_zero (h : s.coilAsked a = 0) : s.coilShare a = 0 := by
  obtain hout | hin := Nat.lt_or_ge (s.getF Reg.ENG_ACT_SUM_MAX) ((s.coilAsked 0).natAbs + (s.coilAsked 1).natAbs)
  · rw [s.coilShare_beyond ha hout, h, Int.zero_mul, Int.zero_tdiv]
  · rw [s.coilShare_within ha hin, h]

theorem State.actuatorFramed_coil : sget 0 a s.actuatorFramed.power.coil = s.coilShare a := sget_sput_pair 0 s.coilShare _ ha

theorem State.actuatorFramed_retract : sget false a s.actuatorFramed.power.retract = s.dieRetracts a :=
  sget_sput_pair false s.dieRetracts _ ha

theorem State.actuatorFramed_loadReq : sget false a s.actuatorFramed.power.loadReq = (s.asksLoad a && s.atSpeed) :=
  sget_sput_pair false (fun a => s.asksLoad a && s.atSpeed) _ ha

end

theorem State.actuatorFramed_frame : s.actuatorFramed = { s with
    regs := (s.actuatorSent.clipCounted s.coils.2.2).regs, dl := s.actuatorSent.dl, power := s.actuatorFramed.power
    loops := s.actuatorFramed.loops } := by
  rw [State.actuatorFramed, State.clipCounted_withRegs]
  rfl

theorem State.actuatorFramed_regs : s.actuatorFramed.regs = (s.actuatorSent.clipCounted s.coils.2.2).regs := by
  rw [State.actuatorFramed_frame]

variable (hl : s.live = true)
include hl

/-- Nothing of the power die holds a coil back: it takes the commands within the budget. -/
theorem dlActuatorFrame_drives (hauto : s.power.autoRetract = false)
    (hret : ∀ a < 2, sget false a s.power.retract = false ∧ (s.loop a).retReq = false) : ∃ t,
      exec .dlActuatorFrame s = .next t ∧ t.dl = { s.dl with
        tx := s.dl.tx + 1
        out := dlFrame 2 s.dl.tx (actPayload (s.loop 0).uPrev (s.loop 1).uPrev false false (s.loop 0).loadReq (s.loop 1).loadReq
          ((s.loop 0).loadReq || (s.loop 1).loadReq)) } ∧
      (∀ a < 2, sget false a t.power.loadReq = ((s.loop a).loadReq && s.atSpeed)) ∧
      ((s.loop 0).uPrev.natAbs + (s.loop 1).uPrev.natAbs ≤ s.getF Reg.ENG_ACT_SUM_MAX →
        (∀ a < 2, sget 0 a t.power.coil = (s.loop a).uPrev) ∧ t.regs = s.regs) ∧
      (s.getF Reg.ENG_ACT_SUM_MAX < (s.loop 0).uPrev.natAbs + (s.loop 1).uPrev.natAbs →
        t.getF Reg.ENG_EVENTS_ACT_CLIP = 1 ∧ t.getF Reg.ENG_ACT_CNT_CLIP = satN 16 (s.getF Reg.ENG_ACT_CNT_CLIP + 1) ∧
        ∀ a < 2, sget 0 a t.power.coil = Int.tdiv ((s.loop a).uPrev * (s.getF Reg.ENG_ACT_SUM_MAX : Int))
          (((s.loop 0).uPrev.natAbs + (s.loop 1).uPrev.natAbs : Nat) : Int)) ∧
      t = { s with regs := t.regs, dl := t.dl, power := t.power, loops := t.loops } := by
  have hasks : ∀ a < 2, s.asksLoad a = (s.loop a).loadReq := fun a ha => by
    rw [State.asksLoad, (hret a ha).2, Bool.not_false, Bool.and_true]
  have hasked : ∀ a < 2, s.coilAsked a = (s.loop a).uPrev := fun a ha => by
    obtain ⟨hdie, hreq⟩ := hret a ha
    rw [State.coilAsked, State.dieRetracts, State.staysAuto, hdie, hreq, hauto]
    rfl
  have hsum : (s.coilAsked 0).natAbs + (s.coilAsked 1).natAbs = (s.loop 0).uPrev.natAbs + (s.loop 1).uPrev.natAbs := by
    rw [hasked 0 (by decide), hasked 1 (by decide)]
  have hdl : s.actuatorFramed.dl = s.actuatorSent.dl := by rw [State.actuatorFramed_frame]
  refine ⟨_, exec_dlActuatorFrame s hl, ?_, fun a ha => ?_, fun hin => ⟨fun a ha => ?_, ?_⟩, fun hout => ?_, ?_⟩
  · rw [hdl, State.actuatorSent, hasks 0 (by decide), hasks 1 (by decide), (hret 0 (by decide)).2, (hret 1 (by decide)).2]
    rfl
  · rw [s.actuatorFramed_loadReq ha, hasks a ha]
  · rw [s.actuatorFramed_coil ha, s.coilShare_within ha (hsum.trans_le hin), hasked a ha]
  · have hcoils : s.coils.2.2 = false := congrArg (fun c : Int × Int × Bool => c.2.2) (if_pos (hsum.trans_le hin))
    rw [State.actuatorFramed_regs, hcoils]
    rfl
  · have hcoils : s.coils.2.2 = true := congrArg (fun c : Int × Int × Bool => c.2.2) (if_neg (Nat.not_le.2 (hout.trans_eq hsum.symm)))
    obtain ⟨hclip, hcount⟩ := s.actuatorSent.clipCounted_clip
    refine ⟨?_, ?_, fun a ha => ?_⟩
    · rwa [State.getF_congr s.actuatorFramed_regs, hcoils]
    · rwa [State.getF_congr s.actuatorFramed_regs, hcoils]
    · rw [s.actuatorFramed_coil ha, s.coilShare_beyond ha (hout.trans_eq hsum.symm), hasked a ha, hsum]
  · rw [State.actuatorFramed_frame]

theorem dlActuatorFrame_retracts {a : Nat} (ha : a < 2) (hreq : (s.loop a).retReq = true) : ∃ t,
    exec .dlActuatorFrame s = .next t ∧ sget false a t.power.retract = true ∧ sget 0 a t.power.coil = 0 ∧
      sget false a t.power.loadReq = false ∧ (t.loop a).retReq = false := by
  have hdie : s.dieRetracts a = true := by rw [State.dieRetracts, hreq, Bool.or_true]
  have hasked : s.coilAsked a = 0 := by rw [State.coilAsked, hdie, Bool.true_or, if_pos rfl]
  refine ⟨_, exec_dlActuatorFrame s hl, (s.actuatorFramed_retract ha).trans hdie,
    (s.actuatorFramed_coil ha).trans (s.coilShare_of_zero ha hasked), ?_, ?_⟩
  · rw [s.actuatorFramed_loadReq ha, State.asksLoad, hreq, Bool.not_true, Bool.and_false, Bool.false_and]
  · rw [State.actuatorFramed, State.retractsSent_loop _ ha]

end

section
variable (s : State)

/-! ### The SPINDLE frame (R224, R231) -/

/-- What the power die takes from a SPINDLE frame. -/
def State.spindlePower (s : State) : Power :=
  if s.power.driveNL && !s.queuesEmpty then { s.power with drain := true }
  else if s.power.driveNL || s.power.harvest then
    { s.power with driveNL := false, harvest := true, spinCmd := 0, bridge := 9, heater := false, drain := !s.queuesEmpty }
  else { s.power with
    spinCmd := s.spinCurrent, bridge := if s.spn = 9 then s.power.bridge else s.bridgeState, heater := s.spn == 3
    drain := !s.queuesEmpty }

/-- The state after a SPINDLE frame. -/
def State.spindleFramed (s : State) : State :=
  { s.dlSend 3 (spinPayload s.spinCurrent s.bridgeState (s.spn == 3) (!s.queuesEmpty)) with power := s.spindlePower }

theorem exec_dlSpindleFrame (hl : s.live = true) : exec .dlSpindleFrame s = .next s.spindleFramed := by
  have hexec : exec .dlSpindleFrame s = execDlSpindleFrame s := rfl
  rw [hexec, execDlSpindleFrame, State.whenLive_of_live _ _ hl, State.spindleFramed, State.spindlePower]
  refine congrArg Host.Outcome.next ?_
  by_cases hheld : (s.power.driveNL && !s.queuesEmpty) = true
  · rw [if_pos hheld]
    exact if_pos hheld
  · rw [if_neg hheld]
    refine (if_neg hheld).trans ?_
    by_cases hlost : (s.power.driveNL || s.power.harvest) = true
    · rw [if_pos hlost]
      exact if_pos hlost
    · rw [if_neg hlost]
      exact if_neg hlost

/-- The bridge that the power die does not hold follows the sequencer. -/
theorem State.spindlePower_follows (hh : s.power.harvest = false) (hd : s.power.driveNL = false) : s.spindlePower = { s.power with
    spinCmd := s.spinCurrent, bridge := if s.spn = 9 then s.power.bridge else s.bridgeState, heater := s.spn == 3
    drain := !s.queuesEmpty } := by
  rw [State.spindlePower, hh, hd]
  rfl

theorem State.bridgeState_eq : s.bridgeState = (if s.spn = 8 ∧ s.spindle.stopBrake = true then 2
    else if s.spn = 6 ∧ s.spindle.dir = true ∧ 8 * s.getF Reg.SPN_THR_HANDOFF_RPM ≤ s.getF Reg.SPN_EST_RPM8 then 0 else s.spn) := by
  rw [State.bridgeState, State.backCapped]
  simp only [Bool.and_eq_true, beq_iff_eq, decide_eq_true_eq, and_assoc]

/-- The speed loop's command goes out in RUN. -/
theorem State.spinCurrent_of_run (h : s.spn = 7) : s.spinCurrent = s.spl.u := by
  rw [State.spinCurrent, h]
  rfl

/-- No current is commanded in OFF. -/
theorem State.spinCurrent_of_off (h : s.spn = 0) : s.spinCurrent = 0 := by
  rw [State.spinCurrent, h]
  rfl

theorem dlSpindleFrame_taken (hl : s.live = true) : ∃ t, exec .dlSpindleFrame s = .next t ∧ (t.power.drain = true ↔ s.records ≠ []) ∧
    (s.power.harvest = false → s.power.driveNL = false → s.spn ≠ 9 → t.power.bridge = (if s.spn = 8 ∧ s.spindle.stopBrake = true then 2
        else if s.spn = 6 ∧ s.spindle.dir = true ∧ 8 * s.getF Reg.SPN_THR_HANDOFF_RPM ≤ s.getF Reg.SPN_EST_RPM8 then 0 else s.spn) ∧
      (t.power.heater = true ↔ s.spn = 3) ∧
      (s.spn = 7 → t.power.spinCmd = s.spl.u) ∧ (s.spn = 0 → t.power.spinCmd = 0)) ∧
    (s.power.driveNL = true → s.records ≠ [] → t.power = { s.power with drain := true }) ∧
    (s.power.driveNL = true → s.records = [] → t.power.driveNL = false ∧ t.power.harvest = true ∧ t.power.bridge = 9) ∧
    t.dl.tx = s.dl.tx + 1 ∧ t.dl.out = dlFrame 3 s.dl.tx (spinPayload s.spinCurrent s.bridgeState (s.spn == 3) (!s.queuesEmpty)) ∧
    t = { s with dl := t.dl, power := t.power } := by
  have hqueues : (!s.queuesEmpty) = true ↔ s.records ≠ [] := by simp [State.queuesEmpty]
  refine ⟨_, exec_dlSpindleFrame s hl, ?_, fun hh hd h9 => ?_, fun hd hrec => ?_, fun hd hrec => ?_, rfl, rfl, rfl⟩
  · rw [← hqueues]
    change s.spindlePower.drain = true ↔ _
    rw [State.spindlePower]
    split
    next h => exact iff_of_true rfl (Bool.and_eq_true_iff.1 h).2
    next => split <;> rfl
  · change s.spindlePower.bridge = _ ∧ (s.spindlePower.heater = true ↔ _) ∧ (_ → s.spindlePower.spinCmd = _) ∧
      (_ → s.spindlePower.spinCmd = _)
    rw [s.spindlePower_follows hh hd, ← State.bridgeState_eq]
    exact ⟨if_neg h9, beq_iff_eq, s.spinCurrent_of_run, s.spinCurrent_of_off⟩
  · exact if_pos (by rw [hd, hqueues.2 hrec]; rfl)
  · have hpower : s.spindlePower = _ := (if_neg (by rw [hd]; simp [State.queuesEmpty, hrec])).trans (if_pos (by rw [hd]; rfl))
    change s.spindlePower.driveNL = _ ∧ s.spindlePower.harvest = _ ∧ s.spindlePower.bridge = _
    rw [hpower]
    exact ⟨rfl, rfl, rfl⟩

end

end Sys2Proof.Machine
end

section
/-! What the logic die receives from the power die (spec/10 R224, R226; spec/08 R190, R191): a valid frame, MEASURE and STATE frames, and
the silence of the link. -/

namespace Sys2Proof.Machine

set_option Elab.async false

section
variable (s : State) (seq : Byte) (gap : Nat)

/-! ### A valid frame (R224, R226) -/

/-- A gap in SEQ is counted. -/
def State.gapCounted (s : State) (seq : Byte) : State := if s.dl.rxSeen && seq != s.dl.rx + 1 then s.bump Reg.DL_CNT_GAP_COUNT else s

/-- The longest interval between valid frames. -/
def State.gapShown (s : State) (gap : Nat) : State :=
  if s.getF Reg.DL_GAP_MAX_NS10 < gap then s.setF Reg.DL_GAP_MAX_NS10 0 (satN 16 gap) else s

/-- The frame's SEQ stands, and the link is up. -/
def State.frameHeard (s : State) (seq : Byte) (gap : Nat) : State :=
  State.raise { (s.gapCounted seq).gapShown gap with dl := { ((s.gapCounted seq).gapShown gap).dl with rx := seq, rxSeen := true } }
    Reg.DL_STATUS_UP

/-- The return of the link is recorded. -/
def State.linkRecorded (s : State) : State := (s.lower Reg.DL_STATUS_DOWN).event 0x35 0 0 (s.getF Reg.DL_CNT_CRC_COUNT)

/-- Admission opens again outside of a power loss. -/
def State.admissionReopened (s : State) : State :=
  if s.getF Reg.ENG_STATUS_PL_STEP = 0 then { s with power := { s.power with admClosed := false } } else s

theorem State.dlValid_eq : s.dlValid seq gap = if (s.frameHeard seq gap).flag Reg.DL_STATUS_DOWN then
    (s.frameHeard seq gap).linkRecorded.admissionReopened else s.frameHeard seq gap := rfl

theorem State.gapCounted_onlyFields : onlyFields s (s.gapCounted seq) [(Reg.DL_CNT_GAP_COUNT, 0)] := by
  unfold State.gapCounted
  split
  · exact s.setF_onlyFields _ _ _
  · exact ⟨rfl, fieldsKept_of_regs rfl _⟩

theorem State.gapShown_onlyFields : onlyFields s (s.gapShown gap) [(Reg.DL_GAP_MAX_NS10, 0)] := by
  unfold State.gapShown
  split
  · exact s.setF_onlyFields _ _ _
  · exact ⟨rfl, fieldsKept_of_regs rfl _⟩

theorem State.gapCounted_count : (s.gapCounted seq).getF Reg.DL_CNT_GAP_COUNT =
    (if s.dl.rxSeen = true ∧ seq ≠ s.dl.rx + 1 then (s.getF Reg.DL_CNT_GAP_COUNT + 1) % 2 ^ 32 else s.getF Reg.DL_CNT_GAP_COUNT) := by
  have hgap : (s.dl.rxSeen && seq != s.dl.rx + 1) = true ↔ s.dl.rxSeen = true ∧ seq ≠ s.dl.rx + 1 := by simp
  rw [State.gapCounted]
  split
  next h => rw [if_pos (hgap.1 h)]; exact s.getF_bump_self _ _ _ (by decide)
  next h => rw [if_neg (hgap.not.1 h)]

/-- The fields that a frame heard sets. -/
def heardFields : List (Field × Nat) := [(Reg.DL_STATUS_UP, 0), (Reg.DL_GAP_MAX_NS10, 0), (Reg.DL_CNT_GAP_COUNT, 0)]

theorem State.gapsTaken_onlyFields :
    onlyFields s ((s.gapCounted seq).gapShown gap) [(Reg.DL_GAP_MAX_NS10, 0), (Reg.DL_CNT_GAP_COUNT, 0)] :=
  (s.gapCounted_onlyFields seq).trans (State.gapShown_onlyFields _ gap)

theorem State.frameHeard_frame : s.frameHeard seq gap =
    { s with regs := (s.frameHeard seq gap).regs, dl := { s.dl with rx := seq, rxSeen := true } } := by
  rw [State.frameHeard, (s.gapsTaken_onlyFields seq gap).1]
  rfl

theorem State.frameHeard_fieldsKept : fieldsKept s (s.frameHeard seq gap) heardFields :=
  (s.gapsTaken_onlyFields seq gap).2.trans fun f i hne => State.setF_fieldsKept
    ({ (s.gapCounted seq).gapShown gap with dl := { ((s.gapCounted seq).gapShown gap).dl with rx := seq, rxSeen := true } } : State)
    Reg.DL_STATUS_UP 0 1 f i hne

theorem State.frameHeard_up : (s.frameHeard seq gap).flag Reg.DL_STATUS_UP = true :=
  congrArg (· != 0) (State.getF_raise_self _ Reg.DL_STATUS_UP 0 (by decide) (by decide))

theorem State.frameHeard_count : (s.frameHeard seq gap).getF Reg.DL_CNT_GAP_COUNT = (s.gapCounted seq).getF Reg.DL_CNT_GAP_COUNT :=
  (State.getF_setF_ne _ _ _ _ _ _ (by decide)).trans ((s.gapCounted seq).gapShown_onlyFields gap |>.2 _ 0 (by decide))

/-! ### The return of the link (R226) -/

theorem State.linkRecorded_frame : s.linkRecorded = { s with regs := s.linkRecorded.regs, evr := s.linkRecorded.evr } := by
  rw [State.linkRecorded, State.event_withEvr]
  rfl

theorem State.linkRecorded_evr : s.linkRecorded.evr = (s.event 0x35 0 0 (s.getF Reg.DL_CNT_CRC_COUNT)).evr :=
  State.event_evr_congr (s := s) (t := s.lower Reg.DL_STATUS_DOWN) rfl rfl rfl _ _ _ _

theorem State.linkRecorded_fieldsKept : fieldsKept s s.linkRecorded [(Reg.DL_STATUS_DOWN, 0)] := fun f i hne =>
  (State.event_getF _ _ _ _ _ _ _).trans (s.setF_fieldsKept _ _ _ f i hne)

theorem State.linkRecorded_down : s.linkRecorded.flag Reg.DL_STATUS_DOWN = false :=
  congrArg (· != 0) ((State.event_getF _ _ _ _ _ _ _).trans (s.getF_lower_self Reg.DL_STATUS_DOWN 0 (by decide)))

theorem State.admissionReopened_frame :
    s.admissionReopened = { s with power := { s.power with admClosed := s.admissionReopened.power.admClosed } } := by
  unfold State.admissionReopened
  split <;> rfl

theorem State.admissionReopened_regs : s.admissionReopened.regs = s.regs := by rw [State.admissionReopened_frame]

/-- A valid frame ends a silence, or there was none. -/
theorem State.dlValid_cases : (s.flag Reg.DL_STATUS_DOWN = true ∧ s.dlValid seq gap = (s.frameHeard seq gap).linkRecorded.admissionReopened) ∨
    (s.flag Reg.DL_STATUS_DOWN = false ∧ s.dlValid seq gap = s.frameHeard seq gap) := by
  have hdown : (s.frameHeard seq gap).flag Reg.DL_STATUS_DOWN = s.flag Reg.DL_STATUS_DOWN :=
    congrArg (· != 0) (s.frameHeard_fieldsKept seq gap Reg.DL_STATUS_DOWN 0 (by decide))
  rw [State.dlValid_eq, hdown]
  cases s.flag Reg.DL_STATUS_DOWN
  · exact .inr ⟨rfl, rfl⟩
  · exact .inl ⟨rfl, rfl⟩

theorem State.dlValid_frame : s.dlValid seq gap = { s with
    regs := (s.dlValid seq gap).regs, evr := (s.dlValid seq gap).evr, dl := { s.dl with rx := seq, rxSeen := true }
    power := { s.power with admClosed := (s.dlValid seq gap).power.admClosed } } := by
  obtain ⟨-, h⟩ | ⟨-, h⟩ := s.dlValid_cases seq gap <;> rw [h]
  · rw [State.admissionReopened_frame, State.linkRecorded_frame, State.frameHeard_frame]
  · rw [State.frameHeard_frame]

/-- The fields that a valid frame may set. -/
def validFields : List (Field × Nat) := (Reg.DL_STATUS_DOWN, 0) :: heardFields

theorem State.dlValid_fieldsKept : fieldsKept s (s.dlValid seq gap) validFields := by
  intro f i hne
  have hheard : (s.frameHeard seq gap).getF f i = s.getF f i :=
    s.frameHeard_fieldsKept seq gap f i fun e he => hne e (List.mem_cons_of_mem _ he)
  obtain ⟨-, h⟩ | ⟨-, h⟩ := s.dlValid_cases seq gap <;> rw [h]
  · rw [State.getF_congr (State.admissionReopened_regs _), State.linkRecorded_fieldsKept _ f i (by simpa using hne _ List.mem_cons_self),
      hheard]
  · exact hheard

theorem State.dlValid_status : (s.dlValid seq gap).flag Reg.DL_STATUS_UP = true ∧ (s.dlValid seq gap).flag Reg.DL_STATUS_DOWN = false := by
  have hup := s.frameHeard_up seq gap
  obtain ⟨-, h⟩ | ⟨hdown, h⟩ := s.dlValid_cases seq gap <;> rw [h]
  · rw [State.flag_congr (State.admissionReopened_regs _), State.flag_congr (State.admissionReopened_regs _), State.linkRecorded_down]
    exact ⟨(congrArg (· != 0) (State.linkRecorded_fieldsKept _ _ 0 (by decide))).trans hup, rfl⟩
  · exact ⟨hup, (congrArg (· != 0) (s.frameHeard_fieldsKept seq gap Reg.DL_STATUS_DOWN 0 (by decide))).trans hdown⟩

theorem State.dlValid_count : (s.dlValid seq gap).getF Reg.DL_CNT_GAP_COUNT = (s.gapCounted seq).getF Reg.DL_CNT_GAP_COUNT := by
  refine Eq.trans ?_ (s.frameHeard_count seq gap)
  obtain ⟨-, h⟩ | ⟨-, h⟩ := s.dlValid_cases seq gap <;> rw [h]
  rw [State.getF_congr (State.admissionReopened_regs _)]
  exact State.linkRecorded_fieldsKept _ _ 0 (by decide)

/-- The valid frame that ends a silence outside of a power loss. -/
theorem State.dlValid_of_down (hdown : s.flag Reg.DL_STATUS_DOWN = true) (hstep : s.getF Reg.ENG_STATUS_PL_STEP = 0) :
    (s.dlValid seq gap).power.admClosed = false ∧ (s.dlValid seq gap).evr = (s.event 0x35 0 0 (s.getF Reg.DL_CNT_CRC_COUNT)).evr := by
  obtain ⟨-, h⟩ | ⟨hno, -⟩ := s.dlValid_cases seq gap
  · have hlink : (s.frameHeard seq gap).linkRecorded.getF Reg.ENG_STATUS_PL_STEP = 0 :=
      (State.linkRecorded_fieldsKept _ _ 0 (by decide)).trans ((s.frameHeard_fieldsKept seq gap _ 0 (by decide)).trans hstep)
    have hcrc : (s.frameHeard seq gap).getF Reg.DL_CNT_CRC_COUNT = s.getF Reg.DL_CNT_CRC_COUNT :=
      s.frameHeard_fieldsKept seq gap _ 0 (by decide)
    rw [h, State.admissionReopened, if_pos hlink]
    refine ⟨rfl, (State.linkRecorded_evr _).trans ?_⟩
    have hframe := s.frameHeard_frame seq gap
    rw [hcrc]
    exact State.event_evr_congr (State.live_congr (by rw [hframe]) (by rw [hframe])) (by rw [hframe]) (by rw [hframe]) _ _ _ _
  · rw [hdown] at hno
    cases hno

theorem State.dlValid_of_up (hdown : s.flag Reg.DL_STATUS_DOWN = false) :
    (s.dlValid seq gap).power.admClosed = s.power.admClosed ∧ (s.dlValid seq gap).evr = s.evr := by
  obtain ⟨hno, -⟩ | ⟨-, h⟩ := s.dlValid_cases seq gap
  · rw [hdown] at hno
    cases hno
  · rw [h, State.frameHeard_frame]
    exact ⟨rfl, rfl⟩

/-! ### The MEASURE frame (R228, R229, R235) -/

variable (vhold vin : Nat)

/-- VIN as the frame gives it. -/
def State.vinTaken (s : State) (vin : Nat) : State :=
  { s with power := { s.power with
      vin := vin, vinValid := s.power.vinValid && decide (10 * s.getF Reg.ENG_PL2_VIN_FAIL + 200 ≤ vin) } }

/-- VHOLD and VIN shown. -/
def State.voltsShown (s : State) (vhold vin : Nat) : State :=
  (s.setF Reg.ENG_VOLT_VHOLD 0 (satN 16 vhold)).setF Reg.ENG_VOLT_VIN 0 (satN 16 vin)

theorem exec_dlMeasureFrame (hl : s.live = true) :
    exec (.dlMeasureFrame seq vhold vin gap) s = .next ((((s.dlValid seq gap).arm vhold).vinTaken vin).voltsShown vhold vin) := by
  have hexec : exec (.dlMeasureFrame seq vhold vin gap) s = execDlMeasureFrame seq vhold vin gap s := rfl
  rw [hexec, execDlMeasureFrame, State.whenLive_of_live _ _ hl]
  rfl

theorem State.voltsShown_onlyFields : onlyFields s (s.voltsShown vhold vin) [(Reg.ENG_VOLT_VIN, 0), (Reg.ENG_VOLT_VHOLD, 0)] :=
  (s.setF_onlyFields _ _ _).trans (State.setF_onlyFields _ _ _ _)

theorem State.voltsShown_volts : (s.voltsShown vhold vin).getF Reg.ENG_VOLT_VHOLD = satN 16 vhold ∧
    (s.voltsShown vhold vin).getF Reg.ENG_VOLT_VIN = satN 16 vin := by
  refine ⟨(State.getF_setF_ne _ _ _ _ _ _ (by decide)).trans ?_, ?_⟩
  · exact s.getF_setF_satN (f := Reg.ENG_VOLT_VHOLD) (by decide) 0 vhold
  · exact State.getF_setF_satN _ (f := Reg.ENG_VOLT_VIN) (by decide) 0 vin

theorem dlMeasureFrame_taken (hl : s.live = true) : ∃ t,
    exec (.dlMeasureFrame seq vhold vin gap) s = .next t ∧ t.getF Reg.ENG_VOLT_VHOLD = satN 16 vhold ∧
      t.getF Reg.ENG_VOLT_VIN = satN 16 vin ∧ t.power.vhold = vhold ∧ t.power.vin = vin ∧
      t.power.vinValid = (s.power.vinValid && decide (10 * s.getF Reg.ENG_PL2_VIN_FAIL + 200 ≤ vin)) ∧ t.flag Reg.DL_STATUS_UP = true ∧
      t.flag Reg.DL_STATUS_DOWN = false ∧ t.dl.rx = seq ∧ t.dl.rxSeen = true ∧
      t.getF Reg.DL_CNT_GAP_COUNT = (if s.dl.rxSeen = true ∧ seq ≠ s.dl.rx + 1 then (s.getF Reg.DL_CNT_GAP_COUNT + 1) % 2 ^ 32
        else s.getF Reg.DL_CNT_GAP_COUNT) ∧
      (s.flag Reg.DL_STATUS_DOWN = true → s.getF Reg.ENG_STATUS_PL_STEP = 0 → t.power.admClosed = false ∧
        t.evr = (s.event 0x35 0 0 (s.getF Reg.DL_CNT_CRC_COUNT)).evr) ∧
      (s.flag Reg.DL_STATUS_DOWN = false → t.power.admClosed = s.power.admClosed ∧ t.evr = s.evr) ∧
      t = { s with regs := t.regs, dl := t.dl, evr := t.evr, power := t.power } := by
  have hexec := exec_dlMeasureFrame s seq gap vhold vin hl
  have hframe := s.dlValid_frame seq gap
  have hkept := s.dlValid_fieldsKept seq gap
  obtain ⟨hup, hdown⟩ := s.dlValid_status seq gap
  have hcount := (s.dlValid_count seq gap).trans (s.gapCounted_count seq)
  have hback := s.dlValid_of_down seq gap
  have hstays := s.dlValid_of_up seq gap
  generalize s.dlValid seq gap = v at *
  obtain ⟨hvhold, hvin⟩ := ((v.arm vhold).vinTaken vin).voltsShown_volts vhold vin
  obtain ⟨hshown, hshownKept⟩ := ((v.arm vhold).vinTaken vin).voltsShown_onlyFields vhold vin
  have hfail : v.getF Reg.ENG_PL2_VIN_FAIL = s.getF Reg.ENG_PL2_VIN_FAIL := hkept _ 0 (by decide)
  have hdl : v.dl = { s.dl with rx := seq, rxSeen := true } := by rw [hframe]
  have hpower : v.power.vinValid = s.power.vinValid := by rw [hframe]
  refine ⟨_, hexec, hvhold, hvin, rfl, rfl, ?_, ?_, ?_, congrArg DieLink.rx hdl, congrArg DieLink.rxSeen hdl, ?_, hback, hstays, ?_⟩
  · rw [← hfail, ← hpower]
    rfl
  · exact (congrArg (· != 0) (hshownKept Reg.DL_STATUS_UP 0 (by decide))).trans hup
  · exact (congrArg (· != 0) (hshownKept Reg.DL_STATUS_DOWN 0 (by decide))).trans hdown
  · exact (hshownKept _ 0 (by decide)).trans hcount
  · rw [hshown, State.vinTaken, State.arm, hframe]

end

end Sys2Proof.Machine
end

section
/-! What a STATE frame and the silence of the link do to the loops (spec/08 R190, R191; spec/10 R224 to R226). -/

namespace Sys2Proof.Machine

set_option Elab.async false

/-- A flag outside of the listed fields stays. -/
theorem fieldsKept.flag {s t : State} {l : List (Field × Nat)} (h : fieldsKept s t l) (f : Field) (i : Nat)
    (hne : ∀ e ∈ l, f.key i ≠ e.1.key e.2) : t.flag f i = s.flag f i := congrArg (· != 0) (h f i hne)

theorem loaded_apart_entered : ∀ a < 2, ∀ e ∈ enteredFields a, Reg.ACT_STATE_LOADED.key a ≠ e.1.key e.2 := by decide

theorem actState_apart_entered_other : ∀ a < 2, ∀ e ∈ enteredFields a, Reg.ACT_STATE_STATE.key (1 - a) ≠ e.1.key e.2 := by decide

theorem actState_apart_loaded : ∀ a < 2, ∀ b < 2, Reg.ACT_STATE_STATE.key b ≠ Reg.ACT_STATE_LOADED.key a := by decide

/-! ### A retract that the power die begins on its own (R190) -/

section
variable (s : State) {a : Nat} {torn : Bool}

theorem State.ownRetract_of_retracting (h : s.actState a = 7) : s.ownRetract a torn = s := if_pos h

theorem State.ownRetract_eq (h : s.actState a ≠ 7) : s.ownRetract a torn =
    (s.retractLoopFor a 7 torn).setLoop a { (s.retractLoopFor a 7 torn).loop a with retReq := false } := if_neg h

variable (hc : s.completesNone a torn)
include hc

theorem State.ownRetract_loopFrame : loopFrame s (s.ownRetract a torn) := by
  unfold State.ownRetract
  split
  · rfl
  · exact loopFrame.trans (s.retractLoopFor_loopFrame 7 hc) rfl

theorem State.ownRetract_fieldsKept : fieldsKept s (s.ownRetract a torn) (stateFields a) := by
  unfold State.ownRetract
  split
  · exact fieldsKept_of_regs rfl _
  · exact fun f i hne => (State.setLoop_getF _ _ _ _ _).trans (s.retractLoopFor_fieldsKept 7 hc f i hne)

theorem State.ownRetract_gate_ne {m : Nat} (hm : m ≠ a) : ((s.ownRetract a torn).rw m).gate = (s.rw m).gate := by
  unfold State.ownRetract
  split
  · rfl
  · exact s.retractLoopFor_gate_ne 7 hc hm

/-- The loop is in RETRACT, and asks the power die for nothing. -/
theorem State.ownRetract_loop (h : s.actState a ≠ 7) : ((s.ownRetract a torn).loop a).loadReq = false ∧
    ((s.ownRetract a torn).loop a).retReq = false ∧ ((s.ownRetract a torn).loop a).held = none := by
  rw [s.ownRetract_eq h, State.loop_setLoop_self, s.retractLoopFor_loop_self 7 hc, State.retractAsked, State.loop_setLoop_self]
  exact ⟨rfl, rfl, rfl⟩

variable (ha : a < 2)
include ha

theorem State.ownRetract_actState : (s.ownRetract a torn).actState a = 7 := by
  by_cases h : s.actState a = 7
  · rwa [s.ownRetract_of_retracting h]
  · rw [s.ownRetract_eq h, State.actState, State.setLoop_getF]
    exact (s.retractAsked a).setActFor_actState 7 7 ha hc (by decide)

theorem State.ownRetract_actState_other : (s.ownRetract a torn).actState (1 - a) = s.actState (1 - a) :=
  s.ownRetract_fieldsKept hc _ _ (actState_apart_other a ha)

end

/-! ### The heads on the ramp, and loaded (R190, R191) -/

section
variable (s : State) {a : Nat} (ha : a < 2)
include ha

/-- A state entered from one that is not TRACK. -/
theorem State.setAct_of_not_track {st : Nat} (h : s.actState a ≠ 3) (hst : st < 8) : (s.setAct a st false).actState a = st ∧
    (s.setAct a st false).actState (1 - a) = s.actState (1 - a) ∧
    (s.setAct a st false).flag Reg.ACT_STATE_LOADED a = s.flag Reg.ACT_STATE_LOADED a ∧
    (s.setAct a st false).loop a = { s.loop a with uPrev := ((s.setAct a st false).loop a).uPrev } := by
  rw [State.setAct, State.setActFor_of_not_track _ h]
  exact ⟨s.stateEntered_actState a st ha hst, s.stateEntered_fieldsKept a st _ _ (actState_apart_entered_other a ha),
    (s.stateEntered_fieldsKept a st).flag _ _ (loaded_apart_entered a ha), s.stateEntered_loop_self a st⟩

theorem State.onRamp_of_retracting (h : s.actState a = 7) : (s.onRamp a).actState a = b2n (bitOf (s.getF Reg.LOOP_CTRL_EN) a) ∧
    (s.onRamp a).flag Reg.ACT_STATE_LOADED a = false ∧ (s.onRamp a).actState (1 - a) = s.actState (1 - a) := by
  have hlower : ∀ b < 2, (s.lower Reg.ACT_STATE_LOADED a).actState b = s.actState b := fun b hb =>
    s.getF_setF_ne _ _ _ _ _ (actState_apart_loaded a ha b hb)
  have hen : (s.lower Reg.ACT_STATE_LOADED a).getF Reg.LOOP_CTRL_EN = s.getF Reg.LOOP_CTRL_EN :=
    s.getF_setF_ne _ _ _ _ _ ((by decide : ∀ a < 2, Reg.LOOP_CTRL_EN.key 0 ≠ Reg.ACT_STATE_LOADED.key a) a ha)
  have hself := (hlower a ha).trans h
  have hparked : s.onRamp a = ((s.lower Reg.ACT_STATE_LOADED a).setAct a (b2n (bitOf (s.getF Reg.LOOP_CTRL_EN) a)) false).restReached := by
    rw [← hen]
    exact if_pos hself
  obtain ⟨hstate, hother, hloaded, -⟩ := State.setAct_of_not_track (s.lower Reg.ACT_STATE_LOADED a) ha
    (st := b2n (bitOf (s.getF Reg.LOOP_CTRL_EN) a)) (by omega) (by cases bitOf (s.getF Reg.LOOP_CTRL_EN) a <;> decide)
  obtain ⟨-, hrest⟩ := State.restReached_sequencerOnly
    ((s.lower Reg.ACT_STATE_LOADED a).setAct a (b2n (bitOf (s.getF Reg.LOOP_CTRL_EN) a)) false)
  have hapart : ∀ a < 2, (∀ e ∈ spnFields, Reg.ACT_STATE_STATE.key a ≠ e.1.key e.2) ∧
    ∀ e ∈ spnFields, Reg.ACT_STATE_LOADED.key a ≠ e.1.key e.2 := by decide
  rw [hparked]
  refine ⟨(hrest _ _ (hapart a ha).1).trans hstate, (hrest.flag _ _ (hapart a ha).2).trans (hloaded.trans ?_), ?_⟩
  · exact congrArg (· != 0) (s.getF_lower_self _ _ (by decide))
  · exact (hrest _ _ (hapart (1 - a) (by omega)).1).trans (hother.trans (hlower _ (by omega)))

theorem State.headsLoaded_of_asked (h : s.actState a = 1) (hreq : (s.loop a).loadReq = true) : (s.headsLoaded a).actState a = 2 ∧
    (s.headsLoaded a).flag Reg.ACT_STATE_LOADED a = true ∧ ((s.headsLoaded a).loop a).loadReq = false ∧
    (s.headsLoaded a).actState (1 - a) = s.actState (1 - a) := by
  have hraise : ∀ b < 2, ((s.setLoop a { s.loop a with loadReq := false, acq := 0 }).raise Reg.ACT_STATE_LOADED a).actState b =
    s.actState b := fun b hb => (State.getF_setF_ne _ _ _ _ _ _ (actState_apart_loaded a ha b hb)).trans (State.setLoop_getF _ _ _ _ _)
  have hloaded : s.headsLoaded a =
    ((s.setLoop a { s.loop a with loadReq := false, acq := 0 }).raise Reg.ACT_STATE_LOADED a).setAct a 2 false := if_pos hreq
  have hself := hraise a ha
  obtain ⟨hstate, hother, hflag, hloop⟩ := State.setAct_of_not_track
    ((s.setLoop a { s.loop a with loadReq := false, acq := 0 }).raise Reg.ACT_STATE_LOADED a) ha (st := 2) (by omega) (by decide)
  rw [hloaded]
  refine ⟨hstate, hflag.trans ?_, ?_, hother.trans (hraise _ (by omega))⟩
  · exact congrArg (· != 0) (State.getF_raise_self _ _ _ (by decide) (by decide))
  · rw [hloop]
    exact congrArg Loop.loadReq (s.loop_setLoop_self a _)

end

/-! ### The STATE frame (R224 to R226) -/

section
variable (s : State) (seq : Byte) (gap : Nat) (harvest charger : Bool)

/-- What a STATE frame shows: AUTO_RETRACT and the states of harvest and charger as the power die holds them. -/
def State.dieShown (s : State) (auto harvest charger : Bool) : State :=
  let s := s.setBit Reg.DL_STATUS_AUTO_RETRACT 0 auto
  { s with dl := { s.dl with harvest := harvest, charger := charger } }

/-- A STATE frame heard. -/
def State.stateHeard (s : State) (seq : Byte) (gap : Nat) (harvest charger : Bool) : State :=
  (s.dlValid seq gap).dieShown s.power.autoRetract harvest charger

/-- The heads of actuator `a` as the power die reports them. -/
def State.loadedShown (s : State) (a : Nat) (loaded : Bool) : State :=
  { s with power := { s.power with loaded := sput false a loaded s.power.loaded } }

/-- What a STATE frame reports of actuator `a`, whose heads it has shown. -/
def State.reported (s : State) (a : Nat) (ret ramp loaded : Bool) : State :=
  let s := if ret then s.ownRetract a true else s
  let s := if ramp then s.onRamp a else s
  if loaded && !ret then s.headsLoaded a else s

theorem exec_dlStateFrame (hl : s.live = true) (retA retB rampA rampB loadedA loadedB : Bool) :
    exec (.dlStateFrame seq retA retB rampA rampB loadedA loadedB harvest charger true true gap) s =
      .next (((((s.stateHeard seq gap harvest charger).loadedShown 0 loadedA).reported 0 retA rampA loadedA).loadedShown 1 loadedB).reported
        1 retB rampB loadedB) := by
  have hexec : exec (.dlStateFrame seq retA retB rampA rampB loadedA loadedB harvest charger true true gap) s =
    execDlStateFrame seq retA retB rampA rampB loadedA loadedB harvest charger true true gap s := rfl
  rw [hexec, execDlStateFrame, State.whenLive_of_live _ _ hl]
  rfl

theorem State.dieShown_loops (auto : Bool) : (s.dieShown auto harvest charger).loops = s.loops := rfl

theorem State.dieShown_fieldsKept (auto : Bool) :
    fieldsKept s (s.dieShown auto harvest charger) [(Reg.DL_STATUS_AUTO_RETRACT, 0)] := s.setF_fieldsKept _ _ (b2n auto)

theorem State.stateHeard_loops : (s.stateHeard seq gap harvest charger).loops = s.loops := by
  rw [State.stateHeard, State.dieShown_loops, State.dlValid_frame]

theorem State.stateHeard_fieldsKept :
    fieldsKept s (s.stateHeard seq gap harvest charger) ((Reg.DL_STATUS_AUTO_RETRACT, 0) :: validFields) :=
  (s.dlValid_fieldsKept seq gap).trans ((s.dlValid seq gap).dieShown_fieldsKept harvest charger s.power.autoRetract)

/-- A STATE frame that reports one actuator alone acts as that report does on a state whose loops are unchanged. -/
theorem dlStateFrame_reports (hl : s.live = true) {a : Nat} (ha : a < 2) (ret ramp loaded : Bool) : ∃ v t,
    exec (.dlStateFrame seq (ret && decide (a = 0)) (ret && decide (a = 1)) (ramp && decide (a = 0)) (ramp && decide (a = 1))
      (loaded && decide (a = 0)) (loaded && decide (a = 1)) harvest charger true true gap) s = .next t ∧
    v.loops = s.loops ∧ fieldsKept s v ((Reg.DL_STATUS_AUTO_RETRACT, 0) :: validFields) ∧
    t.regs = (v.reported a ret ramp loaded).regs ∧ t.loops = (v.reported a ret ramp loaded).loops := by
  have hloops := s.stateHeard_loops seq gap harvest charger
  have hkept := s.stateHeard_fieldsKept seq gap harvest charger
  have hexec := exec_dlStateFrame s seq gap harvest charger hl
  generalize s.stateHeard seq gap harvest charger = v at *
  match a, ha with
  | 0, _ =>
    refine ⟨v.loadedShown 0 loaded, _, hexec _ _ _ _ _ _, hloops, hkept, ?_⟩
    simp only [zero_ne_one, decide_true, decide_false, Bool.and_true, Bool.and_false, State.reported]
    exact ⟨rfl, rfl⟩
  | 1, _ =>
    refine ⟨(v.loadedShown 0 false).loadedShown 1 loaded, _, hexec _ _ _ _ _ _, hloops, hkept, ?_⟩
    simp only [one_ne_zero, decide_true, decide_false, Bool.and_true, Bool.and_false, State.reported]
    exact ⟨rfl, rfl⟩

end

theorem actState_apart_stateFrame : ∀ a < 2, ∀ e ∈ (Reg.DL_STATUS_AUTO_RETRACT, 0) :: validFields,
    Reg.ACT_STATE_STATE.key a ≠ e.1.key e.2 := by
  decide

section
variable (s : State) (seq : Byte) (gap : Nat) (harvest charger : Bool) (hl : s.live = true) {a : Nat} (ha : a < 2)
include hl ha

theorem dlStateFrame_retracts (h : s.actState a ≠ 7) : ∃ t,
    exec (.dlStateFrame seq (true && decide (a = 0)) (true && decide (a = 1)) (false && decide (a = 0)) (false && decide (a = 1))
      (false && decide (a = 0)) (false && decide (a = 1)) harvest charger true true gap) s = .next t ∧ t.actState a = 7 ∧
    t.actState (1 - a) = s.actState (1 - a) ∧ (t.loop a).loadReq = false ∧ (t.loop a).retReq = false ∧ (t.loop a).held = none := by
  obtain ⟨v, t, hexec, -, hkept, hregs, htloops⟩ := dlStateFrame_reports s seq gap harvest charger hl ha true false false
  have hstate : v.actState a = s.actState a := hkept _ _ (actState_apart_stateFrame a ha)
  have hother : v.actState (1 - a) = s.actState (1 - a) := hkept _ _ (actState_apart_stateFrame (1 - a) (by omega))
  have hc : v.completesNone a true := .inr rfl
  have hretracts : v.reported a true false false = v.ownRetract a true := rfl
  rw [hretracts] at hregs htloops
  refine ⟨t, hexec, (State.getF_congr hregs _ _).trans (v.ownRetract_actState hc ha),
    ((State.getF_congr hregs _ _).trans (v.ownRetract_actState_other hc ha)).trans hother, ?_⟩
  rw [State.loop_congr htloops]
  exact v.ownRetract_loop hc (hstate.trans_ne h)

theorem dlStateFrame_parks (h : s.actState a = 7) : ∃ t,
    exec (.dlStateFrame seq (false && decide (a = 0)) (false && decide (a = 1)) (true && decide (a = 0)) (true && decide (a = 1))
      (false && decide (a = 0)) (false && decide (a = 1)) harvest charger true true gap) s = .next t ∧
    t.actState a = b2n (bitOf (s.getF Reg.LOOP_CTRL_EN) a) ∧ t.flag Reg.ACT_STATE_LOADED a = false ∧
    t.actState (1 - a) = s.actState (1 - a) := by
  obtain ⟨v, t, hexec, -, hkept, hregs, -⟩ := dlStateFrame_reports s seq gap harvest charger hl ha false true false
  have hstate : v.actState a = s.actState a := hkept _ _ (actState_apart_stateFrame a ha)
  have hother : v.actState (1 - a) = s.actState (1 - a) := hkept _ _ (actState_apart_stateFrame (1 - a) (by omega))
  have hen : v.getF Reg.LOOP_CTRL_EN = s.getF Reg.LOOP_CTRL_EN := hkept _ 0 (by decide)
  obtain ⟨hparked, hflag, hrest⟩ := v.onRamp_of_retracting ha (hstate.trans h)
  rw [hen] at hparked
  exact ⟨t, hexec, (State.getF_congr hregs _ _).trans hparked, (State.flag_congr hregs _ _).trans hflag,
    (State.getF_congr hregs _ _).trans (hrest.trans hother)⟩

theorem dlStateFrame_loads (h : s.actState a = 1) (hreq : (s.loop a).loadReq = true) : ∃ t,
    exec (.dlStateFrame seq (false && decide (a = 0)) (false && decide (a = 1)) (false && decide (a = 0)) (false && decide (a = 1))
      (true && decide (a = 0)) (true && decide (a = 1)) harvest charger true true gap) s = .next t ∧ t.actState a = 2 ∧
    t.flag Reg.ACT_STATE_LOADED a = true ∧ (t.loop a).loadReq = false ∧ t.actState (1 - a) = s.actState (1 - a) := by
  obtain ⟨v, t, hexec, hloops, hkept, hregs, htloops⟩ := dlStateFrame_reports s seq gap harvest charger hl ha false false true
  have hstate : v.actState a = s.actState a := hkept _ _ (actState_apart_stateFrame a ha)
  have hother : v.actState (1 - a) = s.actState (1 - a) := hkept _ _ (actState_apart_stateFrame (1 - a) (by omega))
  obtain ⟨hacquire, hflag, hdone, hrest⟩ := v.headsLoaded_of_asked ha (hstate.trans h) (by rwa [State.loop_congr hloops])
  refine ⟨t, hexec, (State.getF_congr hregs _ _).trans hacquire, (State.flag_congr hregs _ _).trans hflag, ?_,
    (State.getF_congr hregs _ _).trans (hrest.trans hother)⟩
  rw [State.loop_congr htloops]
  exact hdone

end

/-! ### The link silent (R225, R226) -/

section
variable (s : State)

theorem powerDieAutoRetract_taken (h : s.power.vaon = true) : ∃ t, exec .powerDieAutoRetract s = .next t ∧ t.power.autoRetract = true ∧
    (∀ a < 2, sget false a t.power.retract = true) ∧ t.power.coil = [] ∧ t.power.loadReq = [] ∧ t.power.spinCmd = 0 ∧
    (t.power.harvest = true ↔ s.lossStands = true) ∧ t.power.bridge = (if s.lossStands = true then 9 else 0) ∧
    t = { s with power := t.power } := by
  have hexec : exec .powerDieAutoRetract s = execPowerDieAutoRetract s := rfl
  rw [hexec, execPowerDieAutoRetract, State.when', if_pos h]
  exact ⟨_, rfl, rfl, fun a ha => sget_sput_pair false (fun _ => true) _ ha, rfl, rfl, rfl, Iff.rfl, rfl, rfl⟩

/-- Admission is closed, and both loops go to RETRACT. -/
def State.silenced (s : State) (tornA tornB : Bool) : State :=
  (State.ownRetract { s with power := { s.power with admClosed := true } } 0 tornA).ownRetract 1 tornB

theorem exec_dielinkDown (tornA tornB : Bool) (hl : s.live = true) : exec (.dielinkDown tornA tornB) s =
    .next (s.when' (!s.flag Reg.DL_STATUS_DOWN) fun s => (((s.silenced tornA tornB).raise Reg.DL_STATUS_DOWN).lower Reg.DL_STATUS_UP).event
      0x34 0 0 ((s.silenced tornA tornB).getF Reg.DL_CNT_CRC_COUNT)) := by
  have hexec : exec (.dielinkDown tornA tornB) s = execDielinkDown tornA tornB s := rfl
  rw [hexec, execDielinkDown, State.whenLive_of_live _ _ hl]
  rfl

theorem State.silenced_spec (tornA tornB : Bool) (hcA : s.completesNone 0 tornA) (hcB : s.completesNone 1 tornB) :
    loopFrame { s with power := { s.power with admClosed := true } } (s.silenced tornA tornB) ∧
      ∀ a < 2, (s.silenced tornA tornB).actState a = 7 := by
  unfold State.silenced
  set u : State := { s with power := { s.power with admClosed := true } }
  have hcA : u.completesNone 0 tornA := hcA
  have hcB : (u.ownRetract 0 tornA).completesNone 1 tornB := by
    rw [State.completesNone, u.ownRetract_gate_ne hcA (by decide)]
    exact hcB
  refine ⟨(u.ownRetract_loopFrame hcA).trans (State.ownRetract_loopFrame _ hcB), fun a ha => ?_⟩
  match a, ha with
  | 0, _ => exact (State.ownRetract_actState_other _ hcB (by decide)).trans (u.ownRetract_actState hcA (by decide))
  | 1, _ => exact State.ownRetract_actState _ hcB (by decide)

theorem dielinkDown_silences (tornA tornB : Bool) (hl : s.live = true) (hup : s.flag Reg.DL_STATUS_DOWN = false)
    (hcA : s.completesNone 0 tornA) (hcB : s.completesNone 1 tornB) : ∃ t, exec (.dielinkDown tornA tornB) s = .next t ∧
    t.flag Reg.DL_STATUS_DOWN = true ∧ t.flag Reg.DL_STATUS_UP = false ∧ t.power.admClosed = true ∧ (∀ a < 2, t.actState a = 7) ∧
    t.chans = s.chans := by
  obtain ⟨hframe, hstate⟩ := s.silenced_spec tornA tornB hcA hcB
  have hexec := exec_dielinkDown s tornA tornB hl
  rw [State.when', hup, Bool.not_false, if_pos rfl] at hexec
  generalize s.silenced tornA tornB = u at *
  have hapart : ∀ a < 2, Reg.ACT_STATE_STATE.key a ≠ Reg.DL_STATUS_UP.key 0 ∧ Reg.ACT_STATE_STATE.key a ≠ Reg.DL_STATUS_DOWN.key 0 := by
    decide
  have hchans : u.chans = s.chans := hframe.chans
  have hpower : u.power.admClosed = true := congrArg Power.admClosed hframe.power
  refine ⟨_, hexec, ?_, ?_, ?_, fun a ha => ?_, ?_⟩
  · rw [State.event_flag]
    refine congrArg (· != 0) ((State.getF_setF_ne _ _ _ _ _ _ (by decide)).trans (u.getF_raise_self _ 0 (by decide) (by decide)))
  · rw [State.event_flag]
    exact congrArg (· != 0) (State.getF_lower_self _ _ 0 (by decide))
  · rw [State.event_withEvr]
    exact hpower
  · rw [State.actState, State.event_getF]
    exact ((State.getF_setF_ne _ _ _ _ _ _ (hapart a ha).1).trans (State.getF_setF_ne _ _ _ _ _ _ (hapart a ha).2)).trans (hstate a ha)
  · rw [State.event_withEvr]
    exact hchans

/-- A link already known to be down. -/
theorem dielinkDown_again (tornA tornB : Bool) (hl : s.live = true) (hdown : s.flag Reg.DL_STATUS_DOWN = true) :
    exec (.dielinkDown tornA tornB) s = .next s := by
  rw [exec_dielinkDown s tornA tornB hl, State.when', hdown]
  rfl

theorem exec_dlHeartbeat (hl : s.live = true) :
    exec .dlHeartbeat s = .next { s with dl := { s.dl with tx := s.dl.tx + 1, out := dlFrame 1 s.dl.tx 0 } } :=
  congrArg Host.Outcome.next (State.whenLive_of_live _ _ hl)

theorem exec_dlBadCrcFrame (hl : s.live = true) : exec .dlBadCrcFrame s = .next (s.bump Reg.DL_CNT_CRC_COUNT) :=
  congrArg Host.Outcome.next (State.whenLive_of_live _ _ hl)

end

/-- Settles O32: each frame sent or received, and the silence of the link, has its theorem above. -/
theorem dieLinkFrames : Obligations.DieLinkFrames := by
  refine ⟨fun s hl => ⟨exec_dlHeartbeat s hl, exec_dlBadCrcFrame s hl, dlActuatorFrame_drives s hl,
    fun a ha hreq => dlActuatorFrame_retracts s hl ha hreq, dlSpindleFrame_taken s hl⟩,
    fun s seq vhold vin gap a hl ha => ⟨dlMeasureFrame_taken s seq gap vhold vin hl, fun harvest charger =>
      ⟨fun h _ => dlStateFrame_retracts s seq gap harvest charger hl ha h, dlStateFrame_parks s seq gap harvest charger hl ha,
        dlStateFrame_loads s seq gap harvest charger hl ha⟩⟩,
    fun s tornA tornB => ⟨powerDieAutoRetract_taken s, fun hl hup hA hB =>
      dielinkDown_silences s tornA tornB hl hup (.inl hA) (.inl hB), dielinkDown_again s tornA tornB⟩⟩

end Sys2Proof.Machine
end

section
/-! A sample of the spindle (spec/08 R176, R188; spec/09 R207): the speed loop, the speed reached, and what the sample leaves to the check of
UNLOAD_RPM. -/

namespace Sys2Proof.Machine

set_option Elab.async false

/-- `t` differs from `s` at most in what a sample may touch before the check of UNLOAD_RPM. -/
def sampleFrame (s t : State) : Prop :=
  t = { s with
    regs := t.regs, evr := t.evr, tenants := t.tenants, dict := t.dict, shock := t.shock, spl := t.spl, spindle := t.spindle
    power := t.power }

theorem sampleFrame.trans {s t u : State} (h : sampleFrame s t) (h' : sampleFrame t u) : sampleFrame s u :=
  Eq.trans h' (congrArg (fun v : State => { v with
    regs := u.regs, evr := u.evr, tenants := u.tenants, dict := u.dict, shock := u.shock, spl := u.spl, spindle := u.spindle
    power := u.power }) h)

theorem sampleFrame.rwc {s t : State} (h : sampleFrame s t) : t.rwc = s.rwc := by rw [h]
theorem sampleFrame.chans {s t : State} (h : sampleFrame s t) : t.chans = s.chans := by rw [h]

section
variable (s : State) (period : Nat) (shock : BitVec 16)

/-! ### The speed loop (R176) -/

/-- The speed error, in rpm with 16 fraction bits. -/
def State.speedError (s : State) (period : Nat) : Int := (s.nSet : Int) * 65536 - roundDiv 60000000000000 period

/-- The integrator after the sample. -/
def State.speedIntegral (s : State) (period : Nat) : Int :=
  clampI (roundShift (s.spl.i * (2 ^ 20 : Nat) + s.coef 2 5 * s.speedError period) 20) (-(s.iClamp 2 * 65536)) (s.iClamp 2 * 65536)

/-- The command after the sample. -/
def State.speedCommand (s : State) (period : Nat) : Int :=
  satI 16 (clampI (roundShift (satI 64 (s.coef 2 4 * s.speedError period + s.speedIntegral period * (2 ^ 20 : Nat) + s.feedFwd)) 36)
    (-(s.getF Reg.SPD_ILIM_I_LIM_S : Int)) (s.getF Reg.SPD_ILIM_I_LIM_S : Int))

theorem State.speedLoop_locked (hlock : s.flag Reg.CHN_STATUS_LOCK = true) : s.speedLoop period =
    State.setF { s with spl := { i := s.speedIntegral period, u := s.speedCommand period } } Reg.SPD_CMD_CMD 0
      (unsigned 16 (s.speedCommand period)) := by
  unfold State.speedLoop
  rw [hlock]
  rfl

/-- The reading of the shock sensor is taken where R188 asks for one. -/
def State.shockTaken (s : State) (shock : BitVec 16) : State :=
  if s.flag Reg.SHK_CTRL_FF_EN || s.shock.low then s.shockReading shock else s

/-- The speed loop computes where it is enabled. -/
def State.loopRun (s : State) (period : Nat) : State := if bitOf (s.getF Reg.LOOP_CTRL_EN) 2 then s.speedLoop period else s

theorem State.shockTaken_withShock : s.shockTaken shock = { s with shock := (s.shockTaken shock).shock } := by
  unfold State.shockTaken
  split <;> rfl

theorem State.loopRun_frame : s.loopRun period = { s with regs := (s.loopRun period).regs, spl := (s.loopRun period).spl } := by
  unfold State.loopRun
  split <;> rfl

theorem State.loopRun_fieldsKept : fieldsKept s (s.loopRun period) [(Reg.SPD_CMD_CMD, 0)] := by
  unfold State.loopRun
  split
  · have hset : ∃ x v, s.speedLoop period = State.setF { s with spl := x } Reg.SPD_CMD_CMD 0 v := ⟨_, _, rfl⟩
    obtain ⟨x, v, hset⟩ := hset
    rw [hset]
    exact State.setF_fieldsKept { s with spl := x } _ _ v
  · exact fieldsKept_of_regs rfl _

/-- What the speed loop computes under LOCK, and shows. -/
theorem State.loopRun_locked (hlock : s.flag Reg.CHN_STATUS_LOCK = true) (hen : bitOf (s.getF Reg.LOOP_CTRL_EN) 2 = true) :
    (s.loopRun period).spl = { i := s.speedIntegral period, u := s.speedCommand period } ∧
      (s.loopRun period).getF Reg.SPD_CMD_CMD = unsigned 16 (s.speedCommand period) := by
  rw [State.loopRun, if_pos hen, s.speedLoop_locked period hlock]
  exact ⟨rfl, (State.getF_setF_self _ _ _ _ (by decide)).trans (Nat.mod_eq_of_lt (unsigned_lt _ _))⟩

/-! ### The energy account (R216, R217) -/

/-- The fields that a new E_KIN may set. -/
def rekinFields : List (Field × Nat) :=
  [(Reg.ENG_EVENTS_CLOSE, 0), (Reg.ENG_STATUS_LEND_OK, 0)] ++ ([(Reg.ENG_LEND_E, 0)] ++ [(Reg.ENG_EKIN_E, 0)])

theorem State.rekin_frame : s.rekin =
    { s with regs := s.rekin.regs, evr := s.rekin.evr, tenants := s.rekin.tenants, dict := s.rekin.dict } := by
  rw [State.rekin, State.relend, State.checkEnergy_withRegs]
  rfl

theorem State.rekin_fieldsKept : fieldsKept s s.rekin rekinFields :=
  ((s.setF_fieldsKept _ _ _).trans (State.setF_fieldsKept _ _ _ _)).trans (State.checkEnergy_fieldsKept _)

/-! ### The speed judged (R207) -/

/-- The fields that judging the speed may set. -/
def judgeFields : List (Field × Nat) := [(Reg.SPN_STATE_HEATING, 0), (Reg.SPN_EVENTS_AT_SPEED_UP, 0), (Reg.SPN_STATE_AT_SPEED, 0)]

/-- The samples near N_SET, and far from it, are counted. -/
def State.samplesJudged (s : State) : State := s.modSpn (fun p => { p with
  atCount := if s.flag Reg.CHN_STATUS_LOCK &&
      decide (256 * ((s.getF Reg.CHN_RPM_RPM8 : Int) - 8 * (s.nSet : Int)).natAbs ≤ 8 * s.nSet) then p.atCount + 1 else 0
  offCount := if decide (8 * s.nSet < 64 * ((s.measured8 : Int) - 8 * (s.nSet : Int)).natAbs) then p.offCount + 1 else 0 })

/-- AT_SPEED stands, and the drive is no longer being heated. -/
def State.speedFlagged (s : State) : State :=
  ((s.raise Reg.SPN_STATE_AT_SPEED).raise Reg.SPN_EVENTS_AT_SPEED_UP).lower Reg.SPN_STATE_HEATING

/-- The spindle is at speed: the spin-up charge leaves the account. -/
def State.speedReached (s : State) : State :=
  { s.speedFlagged with power := { s.speedFlagged.power with spinup := none } }

theorem State.speedFlagged_onlyFields : onlyFields s s.speedFlagged judgeFields :=
  ((s.setF_onlyFields _ _ _).trans (State.setF_onlyFields _ _ _ _)).trans (State.setF_onlyFields _ _ _ _)

theorem State.speedFlagged_flags : s.speedFlagged.atSpeed = true ∧ s.speedFlagged.getF Reg.SPN_EVENTS_AT_SPEED_UP = 1 := by
  have hlower := State.setF_fieldsKept ((s.raise Reg.SPN_STATE_AT_SPEED).raise Reg.SPN_EVENTS_AT_SPEED_UP) Reg.SPN_STATE_HEATING 0 0
  have hraise := State.setF_fieldsKept (s.raise Reg.SPN_STATE_AT_SPEED) Reg.SPN_EVENTS_AT_SPEED_UP 0 1
  have hfast : (s.raise Reg.SPN_STATE_AT_SPEED).getF Reg.SPN_STATE_AT_SPEED = 1 := s.getF_raise_self _ 0 (by decide) (by decide)
  refine ⟨congrArg (· != 0) ((hlower _ _ (by decide)).trans ((hraise _ _ (by decide)).trans hfast)), ?_⟩
  exact (hlower _ _ (by decide)).trans (State.getF_raise_self _ _ 0 (by decide) (by decide))

theorem State.speedReached_regs : s.speedReached.regs = s.speedFlagged.regs := rfl

theorem State.speedReached_sampleFrame : sampleFrame s s.speedReached := by
  rw [sampleFrame, State.speedReached, s.speedFlagged_onlyFields.1]

theorem State.speedReached_spl : s.speedReached.spl = s.spl := by rw [State.speedReached, s.speedFlagged_onlyFields.1]

theorem State.speedReached_fieldsKept : fieldsKept s s.speedReached judgeFields := fun f i hne =>
  (State.getF_congr s.speedReached_regs f i).trans (s.speedFlagged_onlyFields.2 f i hne)

theorem State.speedReached_flags : s.speedReached.atSpeed = true ∧ s.speedReached.getF Reg.SPN_EVENTS_AT_SPEED_UP = 1 := by
  rw [State.atSpeed, State.flag_congr s.speedReached_regs, State.getF_congr s.speedReached_regs]
  exact s.speedFlagged_flags

/-- The spindle is judged to be at speed, to be off it, or neither. -/
theorem State.judgeSpeed_cases : s.judgeSpeed = s.samplesJudged.speedReached ∨
    s.judgeSpeed = s.samplesJudged.lower Reg.SPN_STATE_AT_SPEED ∨ s.judgeSpeed = s.samplesJudged := by
  have hreached : s.judgeSpeed = s.samplesJudged.speedReached ∨ s.judgeSpeed = _ := ite_eq_or_eq _ _ _
  exact hreached.imp_right fun h => (ite_eq_or_eq _ _ _).imp h.trans h.trans

theorem State.judgeSpeed_sampleFrame : sampleFrame s s.judgeSpeed := by
  have hjudged : sampleFrame s s.samplesJudged := rfl
  obtain h | h | h := s.judgeSpeed_cases <;> rw [h]
  · exact hjudged.trans (State.speedReached_sampleFrame _)
  · exact hjudged.trans rfl
  · exact hjudged

theorem State.judgeSpeed_spl : s.judgeSpeed.spl = s.spl := by
  obtain h | h | h := s.judgeSpeed_cases <;> rw [h]
  · exact State.speedReached_spl _
  · rfl
  · rfl

theorem State.judgeSpeed_fieldsKept : fieldsKept s s.judgeSpeed judgeFields := by
  intro f i hne
  obtain h | h | h := s.judgeSpeed_cases <;> rw [h]
  · exact s.samplesJudged.speedReached_fieldsKept f i hne
  · exact s.samplesJudged.setF_fieldsKept Reg.SPN_STATE_AT_SPEED 0 0 f i fun e he => hne e (List.mem_append_right [_, _] he)
  · exact State.modSpn_getF _ _ _ _

/-- AT_N samples near N_SET in RUN. -/
theorem State.judgeSpeed_reaches (hslow : s.atSpeed = false) (hrun : s.spn = 7) (hlock : s.flag Reg.CHN_STATUS_LOCK = true)
    (hnear : 256 * ((s.getF Reg.CHN_RPM_RPM8 : Int) - 8 * (s.nSet : Int)).natAbs ≤ 8 * s.nSet)
    (hmany : s.getF Reg.SPN_THR2_AT_N ≤ s.spindle.atCount + 1) : s.judgeSpeed = s.samplesJudged.speedReached := by
  have hcount : s.samplesJudged.spindle.atCount = s.spindle.atCount + 1 := by
    refine if_pos ?_
    rw [hlock, decide_eq_true hnear]
    rfl
  refine if_pos ?_
  change (!s.atSpeed && _ && decide (s.getF Reg.SPN_THR2_AT_N ≤ s.samplesJudged.spindle.atCount) && s.spn == 7) = true
  rw [hslow, hlock, hcount, hrun, decide_eq_true hmany]
  simpa using hnear

/-! ### The sample -/

/-- E_KIN follows the loop. -/
def State.sampledSpeed (s : State) (period : Nat) (shock : BitVec 16) : State := ((s.shockTaken shock).loopRun period).rekin

/-- The fields that a sample may set before the speed is judged. -/
def sampledFields : List (Field × Nat) := rekinFields ++ [(Reg.SPD_CMD_CMD, 0)]

theorem State.sampledSpeed_frame : sampleFrame s (s.sampledSpeed period shock) := by
  rw [sampleFrame, State.sampledSpeed, State.rekin_frame, State.loopRun_frame, State.shockTaken_withShock]

theorem State.sampledSpeed_fieldsKept : fieldsKept s (s.sampledSpeed period shock) sampledFields := fun f i hne =>
  (((s.shockTaken shock).loopRun_fieldsKept period).trans (State.rekin_fieldsKept _) f i hne).trans
    (State.getF_congr (by rw [State.shockTaken_withShock]) f i)

theorem State.sampledSpeed_spindle : (s.sampledSpeed period shock).spindle = s.spindle := by
  rw [State.sampledSpeed, State.rekin_frame, State.loopRun_frame, State.shockTaken_withShock]

theorem State.sampledSpeed_nSet : (s.sampledSpeed period shock).nSet = s.nSet := by
  have hkept := s.sampledSpeed_fieldsKept period shock
  rw [State.nSet, State.nSet, hkept _ _ (by decide), hkept _ _ (by decide)]

/-- What the speed loop has computed and shown, once E_KIN has followed. -/
theorem State.sampledSpeed_locked (hlock : s.flag Reg.CHN_STATUS_LOCK = true) (hen : bitOf (s.getF Reg.LOOP_CTRL_EN) 2 = true) :
    (s.sampledSpeed period shock).spl = { i := s.speedIntegral period, u := s.speedCommand period } ∧
      (s.sampledSpeed period shock).getF Reg.SPD_CMD_CMD = unsigned 16 (s.speedCommand period) := by
  have hspl : (s.sampledSpeed period shock).spl = ((s.shockTaken shock).loopRun period).spl := by
    rw [State.sampledSpeed, State.rekin_frame]
  have hcmd : (s.sampledSpeed period shock).getF Reg.SPD_CMD_CMD = ((s.shockTaken shock).loopRun period).getF Reg.SPD_CMD_CMD :=
    State.rekin_fieldsKept _ _ _ (by decide)
  rw [hspl, hcmd, State.shockTaken_withShock]
  exact State.loopRun_locked { s with shock := (s.shockTaken shock).shock } period hlock hen

theorem State.drainLoad_of_noLoss (h : s.getF Reg.ENG_STATUS_PL_STEP = 0) : s.drainLoad = s := by
  have hsuspended : s.parkSuspended = false := by rw [State.parkSuspended, h]; rfl
  rw [State.drainLoad, hsuspended]
  rfl

end

section
variable (s : State) (period : Nat) (shock : BitVec 16) {tornA tornB : Bool} (hl : s.live = true) (hswap : s.swap = [])
  (hstep : s.getF Reg.ENG_STATUS_PL_STEP = 0)
  (hcA : s.completesNone 0 tornA) (hcB : s.completesNone 1 tornB)

/-- The state before the check of UNLOAD_RPM. -/
def State.sampleJudged (s : State) (period : Nat) (shock : BitVec 16) : State := (s.sampledSpeed period shock).judgeSpeed

theorem State.sampleJudged_frame : sampleFrame s (s.sampleJudged period shock) :=
  (s.sampledSpeed_frame period shock).trans (State.judgeSpeed_sampleFrame _)

theorem State.sampleJudged_fieldsKept : fieldsKept s (s.sampleJudged period shock) (judgeFields ++ sampledFields) :=
  (s.sampledSpeed_fieldsKept period shock).trans (State.judgeSpeed_fieldsKept _)

theorem State.sampleJudged_completesNone {a : Nat} {torn : Bool} (h : s.completesNone a torn) :
    (s.sampleJudged period shock).completesNone a torn := by
  rwa [State.completesNone, State.rw_congr (s.sampleJudged_frame period shock).rwc]

/-- What the speed loop has computed and shown stands while the speed is judged. -/
theorem State.sampleJudged_locked (hlock : s.flag Reg.CHN_STATUS_LOCK = true) (hen : bitOf (s.getF Reg.LOOP_CTRL_EN) 2 = true) :
    (s.sampleJudged period shock).spl = { i := s.speedIntegral period, u := s.speedCommand period } ∧
      (s.sampleJudged period shock).getF Reg.SPD_CMD_CMD = unsigned 16 (s.speedCommand period) := by
  obtain ⟨hspl, hcmd⟩ := s.sampledSpeed_locked period shock hlock hen
  exact ⟨(State.judgeSpeed_spl _).trans hspl, (State.judgeSpeed_fieldsKept _ _ _ (by decide)).trans hcmd⟩

include hcA hcB

theorem State.sampleUnloaded_loopFrame :
    loopFrame (s.sampleJudged period shock) ((s.sampleJudged period shock).unloadCheck tornA tornB) :=
  State.unloadCheck_loopFrame _ (s.sampleJudged_completesNone period shock hcA) (s.sampleJudged_completesNone period shock hcB)

theorem State.sampleUnloaded_fieldsKept :
    fieldsKept (s.sampleJudged period shock) ((s.sampleJudged period shock).unloadCheck tornA tornB) unloadFields :=
  State.unloadCheck_fieldsKept _ (s.sampleJudged_completesNone period shock hcA) (s.sampleJudged_completesNone period shock hcB)

include hl hswap hstep

theorem exec_spindleSample : exec (.spindleSample period shock tornA tornB) s =
    .next ((s.sampleJudged period shock).unloadCheck tornA tornB) := by
  have hexec : exec (.spindleSample period shock tornA tornB) s = execSpindleSample period shock tornA tornB s := rfl
  have hnoLoss : ((s.sampleJudged period shock).unloadCheck tornA tornB).getF Reg.ENG_STATUS_PL_STEP = 0 :=
    (s.sampleUnloaded_fieldsKept period shock hcA hcB _ _ (by decide)).trans
      ((s.sampleJudged_fieldsKept period shock _ _ (by decide)).trans hstep)
  rw [hexec, execSpindleSample, State.whenLive_of_live _ _ hl, s.swapBank_of_none 2 hswap]
  exact congrArg Host.Outcome.next (State.drainLoad_of_noLoss _ hnoLoss)

variable (hlock : s.flag Reg.CHN_STATUS_LOCK = true)
include hlock

theorem spindleSample_commands (hen : bitOf (s.getF Reg.LOOP_CTRL_EN) 2 = true) : ∃ t,
    exec (.spindleSample period shock tornA tornB) s = .next t ∧ t.spl.i = s.speedIntegral period ∧ t.spl.u = s.speedCommand period ∧
      t.getF Reg.SPD_CMD_CMD = unsigned 16 t.spl.u ∧ t.chans = s.chans := by
  have hexec := exec_spindleSample s period shock hl hswap hstep hcA hcB
  obtain ⟨hspl, hcmd⟩ := s.sampleJudged_locked period shock hlock hen
  have hchans := (s.sampleJudged_frame period shock).chans
  have hunload := s.sampleUnloaded_loopFrame period shock hcA hcB
  have hkept := s.sampleUnloaded_fieldsKept period shock hcA hcB Reg.SPD_CMD_CMD 0 (by decide)
  generalize (s.sampleJudged period shock).unloadCheck tornA tornB = t at *
  refine ⟨t, hexec, ?_, ?_, ?_, hunload.chans.trans hchans⟩
  · rw [hunload.spl, hspl]
  · rw [hunload.spl, hspl]
  · rw [hunload.spl, hspl]
    exact hkept.trans hcmd

theorem spindleSample_reaches (hslow : s.atSpeed = false) (hrun : s.spn = 7)
    (hnear : 256 * ((s.getF Reg.CHN_RPM_RPM8 : Int) - 8 * (s.nSet : Int)).natAbs ≤ 8 * s.nSet)
    (hmany : s.getF Reg.SPN_THR2_AT_N ≤ s.spindle.atCount + 1) : ∃ t,
    exec (.spindleSample period shock tornA tornB) s = .next t ∧ t.atSpeed = true ∧ t.getF Reg.SPN_EVENTS_AT_SPEED_UP = 1 ∧
      t.power.spinup = none := by
  have hkept := s.sampledSpeed_fieldsKept period shock
  have hjudged : s.sampleJudged period shock = (s.sampledSpeed period shock).samplesJudged.speedReached := by
    refine State.judgeSpeed_reaches _ ((hkept.flag _ _ (by decide)).trans hslow) ((hkept _ _ (by decide)).trans hrun)
      ((hkept.flag _ _ (by decide)).trans hlock) ?_ ?_
    · rwa [hkept _ _ (by decide), State.sampledSpeed_nSet]
    · rwa [hkept _ _ (by decide), State.sampledSpeed_spindle]
  obtain ⟨hfast, hup⟩ := (s.sampledSpeed period shock).samplesJudged.speedReached_flags
  have hunload := s.sampleUnloaded_fieldsKept period shock hcA hcB
  refine ⟨_, exec_spindleSample s period shock hl hswap hstep hcA hcB, (hunload.flag _ _ (by decide)).trans ?_,
    (hunload _ _ (by decide)).trans ?_, ?_⟩
  · rw [hjudged]
    exact hfast
  · rw [hjudged]
    exact hup
  · rw [(s.sampleUnloaded_loopFrame period shock hcA hcB).power, hjudged]
    rfl

theorem spindleSample_unloads (hslow : s.getF Reg.CHN_RPM_RPM8 < 8 * s.getF Reg.SPN_THR_UNLOAD_RPM) : ∃ t,
    exec (.spindleSample period shock tornA tornB) s = .next t ∧
      ∀ a < 2, t.actState a = (if s.actState a ≤ 1 then s.actState a else 7) ∧
        (2 ≤ s.actState a → s.actState a < 7 → (t.loop a).retReq = true) := by
  have hkept := s.sampleJudged_fieldsKept period shock
  have hspeed : (s.sampleJudged period shock).measured8 = s.getF Reg.CHN_RPM_RPM8 := by
    rw [State.measured8, hkept.flag _ _ (by decide), hlock, if_pos rfl, hkept _ _ (by decide)]
  have hbelow : (s.sampleJudged period shock).measured8 < 8 * (s.sampleJudged period shock).getF Reg.SPN_THR_UNLOAD_RPM := by
    rwa [hspeed, hkept _ _ (by decide)]
  have hapart : ∀ a < 2, ∀ e ∈ judgeFields ++ sampledFields, Reg.ACT_STATE_STATE.key a ≠ e.1.key e.2 := by decide
  refine ⟨_, exec_spindleSample s period shock hl hswap hstep hcA hcB, fun a ha => ?_⟩
  have hstate : (s.sampleJudged period shock).actState a = s.actState a := hkept _ _ (hapart a ha)
  rw [← hstate]
  exact State.unloadCheck_retracts _ (s.sampleJudged_completesNone period shock hcA) (s.sampleJudged_completesNone period shock hcB)
    hbelow a ha

end

end Sys2Proof.Machine
end

section
/-! Commutation (spec/09 R194, R198, R203, R205 to R207): zero crossings, the hand-off to the speed loop, commutation lost and the kick
brake. -/

namespace Sys2Proof.Machine

set_option Elab.async false

section
variable (s : State) (interval : Nat) (back : Bool)

/-! ### A zero crossing measured (R194) -/

/-- A crossing joins the last six, and DIR_NOW follows. -/
def State.crossingSeen (s : State) (interval : Nat) (back : Bool) : State :=
  (s.modSpn (fun p => { p with crossings := (interval :: s.spindle.crossings).take 6 })).setBit Reg.SPN_STATE_DIR_NOW 0 back

/-- The speed over the last six crossings, in 1/8 rpm. -/
def State.crossingSpeed (s : State) (interval : Nat) : Nat :=
  if s.getF Reg.SPN_MOTOR_POLE_PAIRS * ((interval :: s.spindle.crossings).take 6).sum = 0 then 65535
  else 80000000000 * ((interval :: s.spindle.crossings).take 6).length /
    (s.getF Reg.SPN_MOTOR_POLE_PAIRS * ((interval :: s.spindle.crossings).take 6).sum)

theorem State.zeroCrossing_eq : s.zeroCrossing interval back = (s.crossingSeen interval back).setEst (s.crossingSpeed interval) := rfl

/-- The first crossing gives the speed of its own interval. -/
theorem State.crossingSpeed_of_first (hno : s.spindle.crossings = []) (hpos : 0 < s.getF Reg.SPN_MOTOR_POLE_PAIRS * interval) :
    s.crossingSpeed interval = 80000000000 / (s.getF Reg.SPN_MOTOR_POLE_PAIRS * interval) := by
  rw [State.crossingSpeed, hno]
  simp only [List.take_succ_cons, List.take_nil, List.sum_cons, List.sum_nil, Nat.add_zero, List.length_cons, List.length_nil,
    Nat.zero_add, Nat.mul_one]
  rw [if_neg hpos.ne']

theorem State.crossingSeen_fieldsKept : fieldsKept s (s.crossingSeen interval back) [(Reg.SPN_STATE_DIR_NOW, 0)] := fun f i hne =>
  (State.setF_fieldsKept _ _ _ _ f i hne).trans (State.modSpn_getF _ _ _ _)

theorem State.crossingSeen_dir : (s.crossingSeen interval back).flag Reg.SPN_STATE_DIR_NOW = back := by
  rw [State.flag, State.crossingSeen, State.getF_setBit_self _ _ _ _ (by decide) (by decide)]
  cases back <;> rfl

/-- The fields that a crossing sets while both actuators rest. -/
def crossingFields : List (Field × Nat) := [(Reg.SPN_EST_RPM8, 0), (Reg.SPN_STATE_DIR_NOW, 0)]

/-- The fields that a crossing may set. -/
theorem State.zeroCrossing_fieldsKept :
    fieldsKept s (s.zeroCrossing interval back) (unloadFields ++ crossingFields) := fun f i hne =>
  (State.setEst_fieldsKept _ _ f i fun e he => hne e (by
    simp only [List.mem_append, crossingFields, List.mem_cons] at he ⊢
    tauto)).trans
    (s.crossingSeen_fieldsKept interval back f i fun e he => hne e (by
      simp only [List.mem_append, crossingFields, List.mem_cons] at he ⊢
      tauto))

theorem State.zeroCrossing_est : (s.zeroCrossing interval back).getF Reg.SPN_EST_RPM8 = satN 16 (s.crossingSpeed interval) :=
  State.setEst_est _ _

section
variable (hrest : s.bothAtRest = true)
include hrest

/-- While both actuators rest a crossing is measured only. -/
theorem State.zeroCrossing_of_atRest :
    s.zeroCrossing interval back = (s.crossingSeen interval back).estSet (s.crossingSpeed interval) := by
  have hapart : ∀ a < 2, ∀ e ∈ [(Reg.SPN_STATE_DIR_NOW, 0)], Reg.ACT_STATE_STATE.key a ≠ e.1.key e.2 := by decide
  have hseen : (s.crossingSeen interval back).bothAtRest = true :=
    (State.bothAtRest_congr fun a ha => s.crossingSeen_fieldsKept interval back _ _ (hapart a ha)).trans hrest
  rw [State.zeroCrossing_eq, State.setEst_of_atRest _ _ hseen]

theorem State.zeroCrossing_atRest_frame : s.zeroCrossing interval back =
    { s with regs := (s.zeroCrossing interval back).regs
             spindle := { s.spindle with crossings := (interval :: s.spindle.crossings).take 6 } } := by
  rw [s.zeroCrossing_of_atRest interval back hrest]
  rfl

theorem State.zeroCrossing_atRest_fieldsKept : fieldsKept s (s.zeroCrossing interval back) crossingFields := by
  rw [s.zeroCrossing_of_atRest interval back hrest]
  exact (s.crossingSeen_fieldsKept interval back).trans (State.setF_fieldsKept _ Reg.SPN_EST_RPM8 0 _)

theorem State.zeroCrossing_atRest_dir : (s.zeroCrossing interval back).flag Reg.SPN_STATE_DIR_NOW = back := by
  rw [s.zeroCrossing_of_atRest interval back hrest]
  exact (congrArg (· != 0) (State.setF_fieldsKept _ Reg.SPN_EST_RPM8 0 _ Reg.SPN_STATE_DIR_NOW 0 (by decide))).trans
    (s.crossingSeen_dir interval back)

end

/-! ### Commutation lost (R206) -/

/-- The loss of commutation is recorded. -/
def State.commRecorded (s : State) : State :=
  let t := (s.raise Reg.SPN_EVENTS_COMM_LOST).bump Reg.CNT_COMM_LOST_COUNT
  t.event 0x2D 0 0 (t.getF Reg.SPN_EST_RPM8)

theorem State.commRecorded_frame : s.commRecorded = { s with regs := s.commRecorded.regs, evr := s.commRecorded.evr } := by
  rw [State.commRecorded, State.event_withEvr]
  rfl

theorem State.commRecorded_fieldsKept :
    fieldsKept s s.commRecorded [(Reg.CNT_COMM_LOST_COUNT, 0), (Reg.SPN_EVENTS_COMM_LOST, 0)] := fun f i hne =>
  (State.event_getF _ _ _ _ _ f i).trans (((s.setF_fieldsKept _ _ _).trans (State.setF_fieldsKept _ _ _ _)) f i hne)

theorem State.commRecorded_counts : s.commRecorded.getF Reg.SPN_EVENTS_COMM_LOST = 1 ∧
    s.commRecorded.getF Reg.CNT_COMM_LOST_COUNT = (s.getF Reg.CNT_COMM_LOST_COUNT + 1) % 2 ^ 32 := by
  refine ⟨(State.event_getF _ _ _ _ _ _ _).trans ?_, (State.event_getF _ _ _ _ _ _ _).trans ?_⟩
  · exact (State.getF_setF_ne _ _ _ _ _ _ (by decide)).trans (s.getF_raise_self _ _ (by decide) (by decide))
  · refine (State.getF_bump_self _ _ _ _ (by decide)).trans ?_
    rw [State.raise, State.getF_setF_ne _ _ _ _ _ _ (by decide)]
    rfl

theorem State.commRecorded_evr : s.commRecorded.evr = (s.event 0x2D 0 0 (s.getF Reg.SPN_EST_RPM8)).evr := by
  have hest : ((s.raise Reg.SPN_EVENTS_COMM_LOST).bump Reg.CNT_COMM_LOST_COUNT).getF Reg.SPN_EST_RPM8 = s.getF Reg.SPN_EST_RPM8 :=
    (State.getF_setF_ne _ _ _ _ _ _ (by decide)).trans (State.getF_setF_ne _ _ _ _ _ _ (by decide))
  rw [State.commRecorded, hest]
  exact State.event_evr_congr (s := s) (t := (s.raise Reg.SPN_EVENTS_COMM_LOST).bump Reg.CNT_COMM_LOST_COUNT) rfl rfl rfl _ _ _ _

theorem State.enterDetect_spn : s.enterDetect.spn = 1 := State.enterSpn_spn _ (by decide)

theorem State.enterDetect_handed : s.enterDetect.flag Reg.SPN_STATE_HANDED = false := by
  rw [State.enterDetect, State.enterSpn_of_driven (st := 1) _ (by decide) (by decide)]
  exact State.spnSet_handed _ 1 (by decide)

/-- Commutation is recorded as lost, and only the sequencer goes on from there. -/
theorem State.commLost_sequencerOnly : sequencerOnly s.commRecorded s.commLost :=
  (State.modSpn_sequencerOnly _ _).trans (State.enterDetect_sequencerOnly _)

theorem State.commLost_spec : s.commLost.spn = 1 ∧ s.commLost.getF Reg.SPN_EVENTS_COMM_LOST = 1 ∧
    s.commLost.getF Reg.CNT_COMM_LOST_COUNT = (s.getF Reg.CNT_COMM_LOST_COUNT + 1) % 2 ^ 32 ∧
    s.commLost.evr = (s.event 0x2D 0 0 (s.getF Reg.SPN_EST_RPM8)).evr ∧ s.commLost.flag Reg.SPN_STATE_HANDED = false ∧
    s.commLost = { s with regs := s.commLost.regs, spindle := s.commLost.spindle, evr := s.commLost.evr } := by
  obtain ⟨hframe, hkept⟩ := s.commLost_sequencerOnly
  obtain ⟨hlost, hcount⟩ := s.commRecorded_counts
  refine ⟨State.enterDetect_spn _, (hkept _ _ (by decide)).trans hlost, (hkept _ _ (by decide)).trans hcount, ?_,
    State.enterDetect_handed _, ?_⟩
  · rw [hframe]
    exact s.commRecorded_evr
  · rw [hframe, State.commRecorded_frame]

theorem State.commLost_fieldsKept :
    fieldsKept s s.commLost (spnFields ++ [(Reg.CNT_COMM_LOST_COUNT, 0), (Reg.SPN_EVENTS_COMM_LOST, 0)]) :=
  s.commRecorded_fieldsKept.trans s.commLost_sequencerOnly.2

/-! ### The hand-off (R207) -/

/-- The speed loop starts from the last current command. -/
def State.loopPreset (s : State) : State :=
  { s with spl := { i := (s.getF Reg.SPN_IRUN_SYNC_I : Int) * 65536 - roundShift s.feedFwd 20, u := s.getF Reg.SPN_IRUN_SYNC_I } }

/-- The sequencer is in RUN, its speed loop not yet flagged. -/
def State.runEntered (s : State) : State := (s.loopPreset.modSpn (fun p => { p with starting := false })).enterSpn 7

theorem State.runEntered_sequencerOnly : sequencerOnly s.loopPreset s.runEntered :=
  (s.loopPreset.modSpn_sequencerOnly _).trans (State.enterSpn_sequencerOnly (st := 7) _ (by decide) (by decide))

theorem State.runEntered_frame :
    s.runEntered = { s with regs := s.runEntered.regs, spindle := s.runEntered.spindle, spl := s.loopPreset.spl } :=
  s.runEntered_sequencerOnly.1

theorem State.handOff_frame : s.handOff = { s with regs := s.handOff.regs, spindle := s.handOff.spindle, spl := s.loopPreset.spl } := by
  have hraise : s.handOff = { s.runEntered with regs := s.handOff.regs } := rfl
  rw [State.runEntered_frame] at hraise
  exact hraise

theorem State.handOff_fieldsKept : fieldsKept s s.handOff ((Reg.SPN_STATE_HANDED, 0) :: spnFields) :=
  s.runEntered_sequencerOnly.2.trans (s.runEntered.setF_fieldsKept Reg.SPN_STATE_HANDED 0 1)

theorem State.handOff_spn : s.handOff.spn = 7 :=
  (s.runEntered.getF_setF_ne Reg.SPN_STATE_HANDED Reg.SPN_STATE_STATE 0 0 1 (by decide)).trans (State.enterSpn_spn _ (by decide))

theorem State.handOff_handed : s.handOff.flag Reg.SPN_STATE_HANDED = true :=
  congrArg (· != 0) (s.runEntered.getF_raise_self Reg.SPN_STATE_HANDED 0 (by decide) (by decide))

theorem State.handOff_u : s.handOff.spl.u = s.getF Reg.SPN_IRUN_SYNC_I := by
  rw [State.handOff_frame]
  rfl

end

end Sys2Proof.Machine
end

section
/-! Zero crossings in each state of the sequencer (spec/09 R197, R198, R205 to R207). -/

namespace Sys2Proof.Machine

set_option Elab.async false

section
variable (s : State) (interval onTime : Nat) (back : Bool)

/-! ### A crossing in SYNC and RUN -/

/-- The next commutation follows; `n` predicted crossings in a row so far. -/
def State.stepTaken (s : State) (n : Nat) : State := (s.modSpn (fun p => { p with predicted := n })).commutate

theorem State.stepTaken_regs (n : Nat) : (s.stepTaken n).regs = s.regs := rfl

theorem State.stepTaken_dir (n : Nat) : (s.stepTaken n).spindle.dir = s.spindle.dir := rfl

theorem State.stepTaken_frame (n : Nat) : sequencerFrame s (s.stepTaken n) := rfl

/-- After a crossing and its commutation: commutation is lost, the speed loop takes over, or neither. -/
def State.runJudged (s : State) (n : Nat) : State :=
  if s.getF Reg.SPN_MOTOR_SKIP_MAX ≤ n then s.commLost
  else if s.spn = 6 && !s.spindle.dir && decide (8 * s.getF Reg.SPN_THR_HANDOFF_RPM ≤ s.getF Reg.SPN_EST_RPM8) then s.handOff
  else s

theorem State.runCrossing_eq (n : Nat) : s.runCrossing interval back n = ((s.zeroCrossing interval back).stepTaken n).runJudged n := rfl

theorem State.zeroCrossing_atRest_sequencerFrame (hrest : s.bothAtRest = true) : sequencerFrame s (s.zeroCrossing interval back) := by
  rw [sequencerFrame, s.zeroCrossing_atRest_frame interval back hrest]

/-- A narrow window that is used as found is counted. -/
def State.distCounted (s : State) (onTime : Nat) : State := if s.narrow onTime then s.bump Reg.CNT_DIST_COUNT else s

theorem State.distCounted_onlyFields : onlyFields s (s.distCounted onTime) [(Reg.CNT_DIST_COUNT, 0)] := by
  unfold State.distCounted
  split
  · exact s.setF_onlyFields _ _ _
  · exact ⟨rfl, fieldsKept_of_regs rfl _⟩

theorem State.distCounted_count : (s.distCounted onTime).getF Reg.CNT_DIST_COUNT =
    (s.getF Reg.CNT_DIST_COUNT + b2n (s.narrow onTime)) % 2 ^ 32 := by
  rw [State.distCounted]
  cases s.narrow onTime
  · exact (Nat.mod_eq_of_lt (s.getF_lt Reg.CNT_DIST_COUNT 0)).symm
  · exact s.getF_bump_self _ _ _ (by decide)

theorem State.distCounted_spindle : (s.distCounted onTime).spindle = s.spindle := by rw [(s.distCounted_onlyFields onTime).1]

theorem State.distCounted_bothAtRest : (s.distCounted onTime).bothAtRest = s.bothAtRest := by
  have hapart : ∀ a < 2, ∀ e ∈ [(Reg.CNT_DIST_COUNT, 0)], Reg.ACT_STATE_STATE.key a ≠ e.1.key e.2 := by decide
  exact State.bothAtRest_congr fun a ha => (s.distCounted_onlyFields onTime).2 _ _ (hapart a ha)

/-! ### The commands -/

variable (hl : s.live = true)
include hl

/-- In the states that neither start nor run the rotor, a crossing is measured only. -/
theorem exec_bemf_measured (h : s.spn ≤ 4 ∨ 9 ≤ s.spn) :
    exec (.bemfZeroCrossing interval onTime false back) s = .next (s.zeroCrossing interval back) := by
  have hexec : exec (.bemfZeroCrossing interval onTime false back) s = execBemfZeroCrossing interval onTime false back s := rfl
  rw [hexec, execBemfZeroCrossing, State.whenLive_of_live _ _ hl]
  split
  · omega
  · omega
  · omega
  · omega
  · rfl

/-- In STOP the negative torque gives way to the short brake. -/
def State.stopJudged (s : State) : State :=
  if s.getF Reg.SPN_EST_RPM8 < 8 * s.getF Reg.SPN_DET_CATCH_MIN then s.modSpn (fun p => { p with stopBrake := true }) else s

theorem exec_bemf_stop (h : s.spn = 8) :
    exec (.bemfZeroCrossing interval onTime false back) s = .next (s.zeroCrossing interval back).stopJudged := by
  have hexec : exec (.bemfZeroCrossing interval onTime false back) s = execBemfZeroCrossing interval onTime false back s := rfl
  rw [hexec, execBemfZeroCrossing, State.whenLive_of_live _ _ hl, h]
  rfl

/-- A crossing that is predicted from the last step interval. -/
def State.crossingPredicted (s : State) : State :=
  match s.spindle.crossings with
  | [] => s
  | t :: _ => (s.bump Reg.CNT_SKIP_COUNT).runCrossing t (s.flag Reg.SPN_STATE_DIR_NOW) (s.spindle.predicted + 1)

section
variable (h : s.spn = 6 ∨ s.spn = 7)
include h

theorem exec_bemf_run (flyback : Bool) : exec (.bemfZeroCrossing interval onTime flyback back) s = .next (
    if flyback then s
    else if !s.narrow onTime then s.runCrossing interval back 0
    else if s.flag Reg.SPN_MOTOR_NARROW then (s.bump Reg.CNT_DIST_COUNT).runCrossing interval back 0
    else s.crossingPredicted) := by
  have hexec : exec (.bemfZeroCrossing interval onTime flyback back) s = execBemfZeroCrossing interval onTime flyback back s := rfl
  rw [hexec, execBemfZeroCrossing, State.whenLive_of_live _ _ hl]
  rcases h with h | h <;> rw [h] <;> rfl

theorem exec_bemf_flyback : exec (.bemfZeroCrossing interval onTime true back) s = .next s := exec_bemf_run s interval onTime back hl h true

/-- A crossing of SYNC or RUN that is used as found. -/
theorem exec_bemf_used (huse : s.narrow onTime = false ∨ s.flag Reg.SPN_MOTOR_NARROW = true) :
    exec (.bemfZeroCrossing interval onTime false back) s = .next ((s.distCounted onTime).runCrossing interval back 0) := by
  rw [exec_bemf_run s interval onTime back hl h, State.distCounted]
  rcases hn : s.narrow onTime with _ | _
  · simp
  · simp [huse.resolve_left (by simp [hn])]

/-- The crossing after SKIP_MAX predicted ones loses commutation. -/
theorem bemf_losesCommutation (hn : s.narrow onTime = true) (hskip : s.flag Reg.SPN_MOTOR_NARROW = false)
    (hc : s.spindle.crossings ≠ []) (hmax : s.getF Reg.SPN_MOTOR_SKIP_MAX ≤ s.spindle.predicted + 1) : ∃ t,
    exec (.bemfZeroCrossing interval onTime false back) s = .next t ∧ t.spn = 1 ∧ t.getF Reg.SPN_EVENTS_COMM_LOST = 1 ∧
      t.getF Reg.CNT_SKIP_COUNT = (s.getF Reg.CNT_SKIP_COUNT + 1) % 2 ^ 32 := by
  obtain ⟨x, r, hx⟩ := List.exists_cons_of_ne_nil hc
  have hbump : fieldsKept s (s.bump Reg.CNT_SKIP_COUNT) [(Reg.CNT_SKIP_COUNT, 0)] := s.setF_fieldsKept _ _ _
  have hcount : (s.bump Reg.CNT_SKIP_COUNT).getF Reg.CNT_SKIP_COUNT = (s.getF Reg.CNT_SKIP_COUNT + 1) % 2 ^ 32 :=
    s.getF_bump_self _ _ _ (by decide)
  have hexec := exec_bemf_run s interval onTime back hl h false
  simp only [Bool.false_eq_true, if_false, hn, Bool.not_true, hskip, State.crossingPredicted, hx, State.runCrossing_eq] at hexec
  have hcross := hbump.trans ((s.bump Reg.CNT_SKIP_COUNT).zeroCrossing_fieldsKept x (s.flag Reg.SPN_STATE_DIR_NOW))
  have hcountZ := ((s.bump Reg.CNT_SKIP_COUNT).zeroCrossing_fieldsKept x (s.flag Reg.SPN_STATE_DIR_NOW)
    Reg.CNT_SKIP_COUNT 0 (by decide)).trans hcount
  generalize (s.bump Reg.CNT_SKIP_COUNT).zeroCrossing x (s.flag Reg.SPN_STATE_DIR_NOW) = z at *
  have hregs := State.getF_congr (z.stepTaken_regs (s.spindle.predicted + 1))
  rw [State.runJudged, if_pos (by rwa [hregs, hcross _ _ (by decide)])] at hexec
  obtain ⟨hspn, hlost, -⟩ := (z.stepTaken (s.spindle.predicted + 1)).commLost_spec
  refine ⟨_, hexec, hspn, hlost, ?_⟩
  rw [State.commLost_fieldsKept _ _ _ (by decide), hregs, hcountZ]

end

theorem exec_commutationLost (h : s.spn = 6 ∨ s.spn = 7) : exec .commutationLost s = .next s.commLost := by
  have hexec : exec .commutationLost s = execCommutationLost s := rfl
  rw [hexec, execCommutationLost, State.whenLive_of_live _ _ hl, State.when', if_pos (by rcases h with h | h <;> rw [h] <;> rfl)]

section
variable (hrest : s.bothAtRest = true) (hno : s.spindle.crossings = []) (hpos : 0 < s.getF Reg.SPN_MOTOR_POLE_PAIRS * interval)
include hrest hno hpos

theorem bemf_measures (h : s.spn ≤ 4 ∨ 9 ≤ s.spn) : ∃ t, exec (.bemfZeroCrossing interval onTime false back) s = .next t ∧
    t.getF Reg.SPN_EST_RPM8 = satN 16 (80000000000 / (s.getF Reg.SPN_MOTOR_POLE_PAIRS * interval)) ∧ t.spn = s.spn ∧
    t.flag Reg.SPN_STATE_DIR_NOW = back ∧ t = { s with regs := t.regs, spindle := { s.spindle with crossings := [interval] } } := by
  have hframe := s.zeroCrossing_atRest_frame interval back hrest
  rw [hno] at hframe
  refine ⟨_, exec_bemf_measured s interval onTime back hl h, ?_, s.zeroCrossing_atRest_fieldsKept interval back hrest _ _ (by decide),
    s.zeroCrossing_atRest_dir interval back hrest, hframe⟩
  rw [State.zeroCrossing_est, s.crossingSpeed_of_first interval hno hpos]

theorem bemf_stops (h : s.spn = 8)
    (hslow : satN 16 (80000000000 / (s.getF Reg.SPN_MOTOR_POLE_PAIRS * interval)) < 8 * s.getF Reg.SPN_DET_CATCH_MIN) : ∃ t,
    exec (.bemfZeroCrossing interval onTime false back) s = .next t ∧ t.spn = 8 ∧ t.spindle.stopBrake = true := by
  have hkept := s.zeroCrossing_atRest_fieldsKept interval back hrest
  have hexec := exec_bemf_stop s interval onTime back hl h
  rw [State.stopJudged, if_pos (by rwa [State.zeroCrossing_est, s.crossingSpeed_of_first interval hno hpos, hkept _ _ (by decide)])] at hexec
  exact ⟨_, hexec, (State.modSpn_getF _ _ _ _).trans ((hkept _ _ (by decide)).trans h), rfl⟩

/-- A crossing of forward SYNC: the speed follows, and at HANDOFF_RPM the speed loop takes the spindle. -/
theorem bemf_handsOff (h : s.spn = 6) (hdir : s.spindle.dir = false)
    (huse : s.narrow onTime = false ∨ s.flag Reg.SPN_MOTOR_NARROW = true) (hmax : 1 ≤ s.getF Reg.SPN_MOTOR_SKIP_MAX) :
    let est := satN 16 (80000000000 / (s.getF Reg.SPN_MOTOR_POLE_PAIRS * interval))
    ∃ t, exec (.bemfZeroCrossing interval onTime false back) s = .next t ∧ t.getF Reg.SPN_EST_RPM8 = est ∧
      t.getF Reg.CNT_DIST_COUNT = (s.getF Reg.CNT_DIST_COUNT + b2n (s.narrow onTime)) % 2 ^ 32 ∧
      (8 * s.getF Reg.SPN_THR_HANDOFF_RPM ≤ est → t.spn = 7 ∧ t.flag Reg.SPN_STATE_HANDED = true ∧
        t.spl.u = s.getF Reg.SPN_IRUN_SYNC_I) ∧
      (est < 8 * s.getF Reg.SPN_THR_HANDOFF_RPM → t.spn = 6) ∧ t = { s with regs := t.regs, spindle := t.spindle, spl := t.spl } := by
  intro est
  have hexec := exec_bemf_used s interval onTime back hl (.inl h) huse
  obtain ⟨hcounted, hcountedKept⟩ := s.distCounted_onlyFields onTime
  have hcount := s.distCounted_count onTime
  have hspindle := s.distCounted_spindle onTime
  have hrestU := (s.distCounted_bothAtRest onTime).trans hrest
  generalize s.distCounted onTime = u at *
  have hpoles : u.getF Reg.SPN_MOTOR_POLE_PAIRS = s.getF Reg.SPN_MOTOR_POLE_PAIRS := hcountedKept _ _ (by decide)
  have hest : (u.zeroCrossing interval back).getF Reg.SPN_EST_RPM8 = est := by
    rw [State.zeroCrossing_est, u.crossingSpeed_of_first interval (by rw [hspindle, hno]) (by rwa [hpoles]), hpoles]
  have hkept : fieldsKept s (u.zeroCrossing interval back) (crossingFields ++ [(Reg.CNT_DIST_COUNT, 0)]) :=
    hcountedKept.trans (u.zeroCrossing_atRest_fieldsKept interval back hrestU)
  have hcountZ := (u.zeroCrossing_atRest_fieldsKept interval back hrestU Reg.CNT_DIST_COUNT 0 (by decide)).trans hcount
  have hframe : sequencerFrame s (u.zeroCrossing interval back) :=
    sequencerFrame.trans (by rw [sequencerFrame, hcounted]) (u.zeroCrossing_atRest_sequencerFrame interval back hrestU)
  have hdirZ : (u.zeroCrossing interval back).spindle.dir = false := by rw [u.zeroCrossing_atRest_frame interval back hrestU, hspindle, hdir]
  rw [State.runCrossing_eq] at hexec
  generalize u.zeroCrossing interval back = z at *
  have hregs := State.getF_congr (z.stepTaken_regs 0)
  have hframeV := hframe.trans (z.stepTaken_frame 0)
  have hdirV : (z.stepTaken 0).spindle.dir = false := by rw [State.stepTaken_dir, hdirZ]
  have hspn : (z.stepTaken 0).spn = 6 := (hregs _ _).trans ((hkept _ _ (by decide)).trans h)
  generalize z.stepTaken 0 = v at *
  rw [State.runJudged, if_neg (by rw [hregs, hkept _ _ (by decide)]; omega), hspn, hdirV, hregs, hkept _ _ (by decide), hregs,
    hest] at hexec
  by_cases hfast : 8 * s.getF Reg.SPN_THR_HANDOFF_RPM ≤ est
  · rw [decide_eq_true hfast] at hexec
    refine ⟨v.handOff, hexec, ?_, ?_, fun _ => ⟨v.handOff_spn, v.handOff_handed, ?_⟩, fun hslow => by omega, ?_⟩
    · rw [v.handOff_fieldsKept _ _ (by decide), hregs, hest]
    · rw [v.handOff_fieldsKept _ _ (by decide), hregs, hcountZ]
    · rw [v.handOff_u, hregs, hkept _ _ (by decide)]
    · exact v.handOff_frame.trans (congrArg (fun w : State =>
        { w with regs := v.handOff.regs, spindle := v.handOff.spindle, spl := v.handOff.spl }) hframeV)
  · rw [decide_eq_false hfast] at hexec
    refine ⟨v, hexec, (hregs _ _).trans hest, (hregs _ _).trans hcountZ, fun hf => absurd hf hfast, fun _ => hspn, ?_⟩
    have hspl : v.spl = s.spl := by rw [hframeV]
    exact Eq.trans hframeV (by rw [hspl])

end

theorem kickBrakeEnd_ramps (h : s.spn = 2) (hkick : s.spindle.brake = .kick) : ∃ t, exec .kickBrakeEnd s = .next t ∧ t.spn = 5 ∧
    t.spindle.vector = (s.spindle.guess + 3) % 6 ∧ t = { s with regs := t.regs, spindle := t.spindle } := by
  have hexec : exec .kickBrakeEnd s = execKickBrakeEnd s := rfl
  rw [hexec, execKickBrakeEnd, State.whenLive_of_live _ _ hl, State.when', if_pos (by rw [h, hkick]; rfl)]
  refine ⟨_, rfl, State.enterSpn_spn _ (by decide), ?_, (s.enterRamp_sequencerOnly _).1⟩
  rw [State.enterRamp, State.enterSpn_of_driven (st := 5) _ (by decide) (by decide), State.spnSet_spindle]
  rfl

end

end Sys2Proof.Machine
end

section
/-! Heating of the spindle's drive (spec/09 R208, R209): the winding temperature and the ends of heating. -/

namespace Sys2Proof.Machine

set_option Elab.async false

section
variable (s : State)

/-! ### The end of heating (R208, R209) -/

/-- The end of heating is recorded, and no HEAT command is served any more. -/
def State.heatRecorded (s : State) (cause : Nat) : State :=
  State.modSpn (if cause = 3 then (s.event 0x2E cause 0 (s.getF Reg.WIND_T)).raise Reg.SPN_EVENTS_HEAT_TIMEOUT
    else s.event 0x2E cause 0 (s.getF Reg.WIND_T)) (fun p => { p with forHeat := false })

/-- A start after heating begins with its first attempt, from the heater vector. -/
def State.heatedStart (s : State) : State := (s.setF Reg.SPN_STATE_TRY 0 1).modSpn (fun p => { p with heated := true })

theorem State.heatEnd_eq (cause : Nat) (start : Bool) : s.heatEnd cause start =
    if start then (if (s.heatRecorded cause).heatedStart.bothAtRest then (s.heatRecorded cause).heatedStart
      else (s.heatRecorded cause).heatedStart.enterDetect).enterSense
    else (s.heatRecorded cause).enterSpn 0 := rfl

theorem State.heatRecorded_fieldsKept (cause : Nat) : fieldsKept s (s.heatRecorded cause) [(Reg.SPN_EVENTS_HEAT_TIMEOUT, 0)] := by
  intro f i hne
  rw [State.heatRecorded, State.modSpn_getF]
  split
  · rw [State.raise, State.setF_fieldsKept _ _ _ _ _ _ hne, State.event_getF]
  · exact State.event_getF _ _ _ _ _ _ _

theorem State.heatRecorded_evr (cause : Nat) : (s.heatRecorded cause).evr = (s.event 0x2E cause 0 (s.getF Reg.WIND_T)).evr := by
  rw [State.heatRecorded]
  split <;> rfl

theorem State.heatRecorded_timeout : (s.heatRecorded 3).getF Reg.SPN_EVENTS_HEAT_TIMEOUT = 1 :=
  (State.modSpn_getF _ _ _ _).trans (State.getF_raise_self _ _ _ (by decide) (by decide))

theorem State.heatedStart_sequencerFrame : sequencerFrame s s.heatedStart := rfl

theorem State.heatedStart_fieldsKept : fieldsKept s s.heatedStart [(Reg.SPN_STATE_TRY, 0)] := fun f i hne =>
  (State.modSpn_getF _ _ _ _).trans (s.setF_fieldsKept _ _ _ f i hne)

theorem State.heatedStart_heated : s.heatedStart.spindle.heated = true := rfl

theorem sequencerFrame.evr {s t : State} (h : sequencerFrame s t) : t.evr = s.evr := by rw [h]

/-- No field of `l` holds the state of an actuator. -/
abbrev apartFromLoops (l : List (Field × Nat)) : Prop := ∀ a < 2, ∀ e ∈ l, Reg.ACT_STATE_STATE.key a ≠ e.1.key e.2

theorem fieldsKept.bothAtRest {s t : State} {l : List (Field × Nat)} (h : fieldsKept s t l) (hl : apartFromLoops l) :
    t.bothAtRest = s.bothAtRest := State.bothAtRest_congr fun a ha => h _ _ (hl a ha)

theorem State.enterRamp_spn (v : Nat) : (s.enterRamp v).spn = 5 := State.enterSpn_spn _ (by decide)

/-- A heated rotor starts in RAMP, once both actuators rest. -/
theorem State.enterSense_heated (hrest : s.bothAtRest = true) (hheat : s.spindle.heated = true) : s.enterSense.spn = 5 := by
  rw [State.enterSense, if_pos hrest]
  exact (congrArg State.spn (if_pos hheat)).trans (State.enterRamp_spn _ _)

/-- Until then the start waits. -/
theorem State.enterSense_waits (hrest : s.bothAtRest = false) : s.enterSense.spn = s.spn := by
  rw [State.enterSense, hrest]
  exact State.modSpn_getF _ _ _ _

/-- A heated rotor starts, or waits for the actuators in DETECT. -/
def State.heatedSense (s : State) : State := (if s.bothAtRest then s else s.enterDetect).enterSense

theorem State.heatedSense_sequencerOnly : sequencerOnly s s.heatedSense := by
  unfold State.heatedSense
  split
  · exact s.enterSense_sequencerOnly
  · exact s.enterDetect_sequencerOnly.trans (State.enterSense_sequencerOnly _)

theorem State.heatedSense_spn (hheat : s.spindle.heated = true) : s.heatedSense.spn = (if s.bothAtRest = true then 5 else 1) := by
  rw [State.heatedSense]
  cases hrest : s.bothAtRest
  · rw [if_neg Bool.false_ne_true, if_neg Bool.false_ne_true]
    have hwaits : s.enterDetect.bothAtRest = false :=
      (s.enterDetect_sequencerOnly.2.bothAtRest (by decide)).trans hrest
    exact (State.enterSense_waits _ hwaits).trans (State.enterDetect_spn s)
  · rw [if_pos rfl, if_pos rfl]
    exact s.enterSense_heated hrest hheat

theorem State.heatEnd_start (cause : Nat) : s.heatEnd cause true = (s.heatRecorded cause).heatedStart.heatedSense := by
  rw [State.heatEnd_eq, if_pos rfl, State.heatedSense]

/-- The sequencer after heating that a start follows. -/
theorem State.heatEnd_starts (cause : Nat) : (s.heatEnd cause true).spn = (if s.bothAtRest = true then 5 else 1) ∧
    sequencerFrame (s.heatRecorded cause) (s.heatEnd cause true) ∧
    fieldsKept (s.heatRecorded cause) (s.heatEnd cause true) (spnFields ++ [(Reg.SPN_STATE_TRY, 0)]) := by
  have hstart := (s.heatRecorded cause).heatedStart_fieldsKept
  have hrest : (s.heatRecorded cause).heatedStart.bothAtRest = s.bothAtRest :=
    ((s.heatRecorded_fieldsKept cause).trans hstart).bothAtRest (by decide)
  obtain ⟨hsense, hkept⟩ := (s.heatRecorded cause).heatedStart.heatedSense_sequencerOnly
  rw [State.heatEnd_start, State.heatedSense_spn _ (State.heatedStart_heated _), hrest]
  exact ⟨rfl, (State.heatedStart_sequencerFrame _).trans hsense, hstart.trans hkept⟩

/-- Entering OFF while both actuators rest. -/
theorem State.noRotation_of_atRest (hrest : s.bothAtRest = true) : sequencerFrame s s.noRotation := by
  have hoff : (s.modSpn fun p => { p with crossings := [] }).bothAtRest = true :=
    (State.bothAtRest_congr fun _ _ => State.modSpn_getF _ _ _ _).trans hrest
  rw [State.noRotation, State.setEst_of_atRest _ _ hoff]
  rfl

/-- The sequencer after heating that no start follows. -/
theorem State.enterOff_of_atRest (hrest : s.bothAtRest = true) : sequencerFrame s (s.enterSpn 0) := by
  have hset : sequencerFrame s (s.spnSet 0) := s.spnSet_frame 0
  have hsetRest : (s.spnSet 0).bothAtRest = true :=
    ((s.spnSet_fieldsKept 0).bothAtRest (by decide)).trans hrest
  rw [State.enterSpn_eq, if_pos (.inl rfl)]
  exact hset.trans (State.noRotation_of_atRest _ hsetRest)

/-- Where the sequencer goes when heating ends. -/
def State.heatEndState (s : State) (start : Bool) : Nat := if start = true then (if s.bothAtRest = true then 5 else 1) else 0

theorem State.heatEnd_off (cause : Nat) : s.heatEnd cause false = (s.heatRecorded cause).enterSpn 0 := by
  rw [State.heatEnd_eq, if_neg Bool.false_ne_true]

/-- The end of heating: where the sequencer goes, HEAT_END, and what stays. -/
theorem State.heatEnd_spec (cause : Nat) (start : Bool) : (s.heatEnd cause start).spn = s.heatEndState start ∧
    (s.bothAtRest = true → (s.heatEnd cause start).evr = (s.event 0x2E cause 0 (s.getF Reg.WIND_T)).evr) ∧
    (s.heatEnd cause start).getF Reg.WIND_T = s.getF Reg.WIND_T ∧
    (s.heatEnd cause start).getF Reg.SPN_EVENTS_HEAT_TIMEOUT = (s.heatRecorded cause).getF Reg.SPN_EVENTS_HEAT_TIMEOUT := by
  have hrecorded := s.heatRecorded_fieldsKept cause
  have htemp : (s.heatRecorded cause).getF Reg.WIND_T = s.getF Reg.WIND_T := hrecorded _ _ (by decide)
  rw [← s.heatRecorded_evr cause]
  cases start
  · have hkept := (s.heatRecorded cause).enterSpn_fieldsKept 0
    have hspn : ((s.heatRecorded cause).enterSpn 0).spn = 0 := State.enterSpn_spn _ (by decide)
    have hoff := (s.heatRecorded cause).enterOff_of_atRest
    rw [(hrecorded.bothAtRest (by decide) : (s.heatRecorded cause).bothAtRest = s.bothAtRest)] at hoff
    rw [State.heatEnd_off]
    generalize (s.heatRecorded cause).enterSpn 0 = t at *
    exact ⟨hspn, fun hrest => (hoff hrest).evr, (hkept _ _ (by decide)).trans htemp, hkept _ _ (by decide)⟩
  · obtain ⟨hspn, hframe, hkept⟩ := s.heatEnd_starts cause
    exact ⟨hspn, fun _ => hframe.evr, (hkept _ _ (by decide)).trans htemp, hkept _ _ (by decide)⟩

/-! ### The winding measured (R208) -/

section
variable (r : Nat)

/-- The winding's rise of resistance, in units in which 393 · WIND_RREF is one degree. -/
def State.windRise (s : State) (r : Nat) : Int := ((satN 16 r : Int) - s.getF Reg.WIND_RREF_R) * 100000

/-- WIND.T of a measurement. -/
def State.windTemp (s : State) (r : Nat) : Nat :=
  unsigned 16 (satI 16 (400 + 16 * s.windRise r / (393 * (s.getF Reg.WIND_RREF_R : Int))))

/-- The measurement shown. -/
def State.windShown (s : State) (r : Nat) : State := (s.setF Reg.WIND_R 0 (satN 16 r)).setF Reg.WIND_T 0 (s.windTemp r)

theorem State.windShown_onlyFields : onlyFields s (s.windShown r) [(Reg.WIND_R, 0), (Reg.WIND_T, 0)] := by
  refine ⟨rfl, fun f i hne => ?_⟩
  have hR := hne (Reg.WIND_R, 0) List.mem_cons_self
  have hT := hne (Reg.WIND_T, 0) (List.mem_cons_of_mem _ List.mem_cons_self)
  exact (State.getF_setF_ne _ _ _ _ _ _ hT).trans (State.getF_setF_ne _ _ _ _ _ _ hR)

theorem State.windShown_wind : (s.windShown r).getF Reg.WIND_R = satN 16 r ∧ (s.windShown r).getF Reg.WIND_T = s.windTemp r := by
  refine ⟨(State.getF_setF_ne _ _ _ _ _ _ (by decide)).trans (s.getF_setF_satN (f := Reg.WIND_R) (by decide) 0 r), ?_⟩
  exact (State.getF_setF_self _ _ _ _ (by decide)).trans (Nat.mod_eq_of_lt (unsigned_lt _ _))

variable (hl : s.live = true) (h : s.spn = 3)
include hl h

/-- A measurement shows the winding, and ends heating at HEAT_TGT. -/
theorem exec_heaterMeasure (href : s.getF Reg.WIND_RREF_R ≠ 0) : exec (.heaterMeasure r) s = .next (
    if (s.getI Reg.SPN_HEAT_HEAT_TGT - 25) * (393 * (s.getF Reg.WIND_RREF_R : Int)) ≤ s.windRise r then
      (s.windShown r).heatEnd 1 s.spindle.autoStart
    else s.windShown r) := by
  have hexec : exec (.heaterMeasure r) s = execHeaterMeasure r s := rfl
  have htarget : (s.windShown r).getI Reg.SPN_HEAT_HEAT_TGT = s.getI Reg.SPN_HEAT_HEAT_TGT :=
    congrArg (signed _) ((s.windShown_onlyFields r).2 _ _ (by decide))
  rw [hexec, execHeaterMeasure, State.whenLive_of_live _ _ hl, State.when', if_pos (by rw [h]; rfl), ← htarget]
  exact congrArg Host.Outcome.next (if_neg href)

theorem heaterMeasure_shows (href : s.getF Reg.WIND_RREF_R ≠ 0)
    (hcold : s.windRise r < (s.getI Reg.SPN_HEAT_HEAT_TGT - 25) * (393 * (s.getF Reg.WIND_RREF_R : Int))) : ∃ t,
    exec (.heaterMeasure r) s = .next t ∧ t.getF Reg.WIND_R = satN 16 r ∧ t.getF Reg.WIND_T = s.windTemp r ∧
      onlyFields s t [(Reg.WIND_R, 0), (Reg.WIND_T, 0)] := by
  obtain ⟨hR, hT⟩ := s.windShown_wind r
  rw [exec_heaterMeasure s r hl h href, if_neg (Int.not_le.2 hcold)]
  exact ⟨_, rfl, hR, hT, s.windShown_onlyFields r⟩

theorem heaterMeasure_ends (href : s.getF Reg.WIND_RREF_R ≠ 0)
    (hwarm : (s.getI Reg.SPN_HEAT_HEAT_TGT - 25) * (393 * (s.getF Reg.WIND_RREF_R : Int)) ≤ s.windRise r) : ∃ t,
    exec (.heaterMeasure r) s = .next t ∧ t.spn = s.heatEndState s.spindle.autoStart ∧
      (s.bothAtRest = true → t.evr = (s.event 0x2E 1 0 (s.windTemp r)).evr) ∧ t.getF Reg.WIND_T = s.windTemp r := by
  obtain ⟨hshown, hkept⟩ := s.windShown_onlyFields r
  obtain ⟨-, hT⟩ := s.windShown_wind r
  have hrest : (s.windShown r).bothAtRest = s.bothAtRest := hkept.bothAtRest (by decide)
  have hexec := exec_heaterMeasure s r hl h href
  rw [if_pos hwarm] at hexec
  generalize s.windShown r = u at *
  obtain ⟨hspn, hevr, htemp, -⟩ := u.heatEnd_spec 1 s.spindle.autoStart
  refine ⟨_, hexec, ?_, fun hb => ?_, htemp.trans hT⟩
  · rw [hspn, State.heatEndState, hrest]
    rfl
  · rw [hevr (hrest.trans hb), hT]
    exact State.event_evr_congr (State.live_congr (by rw [hshown]) (by rw [hshown])) (by rw [hshown]) (by rw [hshown]) _ _ _ _

end

theorem heatTimeout_ends (hl : s.live = true) (h : s.spn = 3) : ∃ t, exec .heatTimeout s = .next t ∧
    t.spn = s.heatEndState s.spindle.autoStart ∧ t.getF Reg.SPN_EVENTS_HEAT_TIMEOUT = 1 ∧
    (s.bothAtRest = true → t.evr = (s.event 0x2E 3 0 (s.getF Reg.WIND_T)).evr) := by
  have hexec : exec .heatTimeout s = execHeatTimeout s := rfl
  obtain ⟨hspn, hevr, -, hflag⟩ := s.heatEnd_spec 3 s.spindle.autoStart
  rw [hexec, execHeatTimeout, State.whenLive_of_live _ _ hl, State.when', if_pos (by rw [h]; rfl)]
  exact ⟨_, rfl, hspn, hflag.trans s.heatRecorded_timeout, hevr⟩

end

/-- Settles O30: the sample of the spindle, each crossing and each end of heating has its theorem above. -/
theorem spindleSampledAndHeated : Obligations.SpindleSampledAndHeated := by
  refine ⟨fun s period shock tornA tornB hl hswap hstep hlock hA hB => ⟨?_, ?_, ?_⟩,
    fun s interval onTime r back hl => ⟨?_, ?_, ?_, ?_, ?_, ?_, ?_, ?_, ?_⟩⟩
  · exact spindleSample_commands s period shock hl hswap hstep (.inl hA) (.inl hB) hlock
  · exact spindleSample_reaches s period shock hl hswap hstep (.inl hA) (.inl hB) hlock
  · exact spindleSample_unloads s period shock hl hswap hstep (.inl hA) (.inl hB) hlock
  · exact fun h _ hrest hno hpos => bemf_measures s interval onTime back hl hrest hno hpos h
  · exact fun h hrest hno hpos hslow => bemf_stops s interval onTime back hl hrest hno hpos h hslow
  · exact fun h hrest hdir hno huse hpos hmax => bemf_handsOff s interval onTime back hl hrest hno hpos h hdir huse hmax
  · exact fun h => exec_bemf_flyback s interval onTime back hl h
  · exact fun h hn hskip hc hmax => bemf_losesCommutation s interval onTime back hl h hn hskip hc hmax
  · exact fun h => ⟨_, exec_commutationLost s hl h, s.commLost_spec⟩
  · exact fun h hkick => kickBrakeEnd_ramps s hl h hkick
  · exact fun h href => ⟨heaterMeasure_shows s r hl h href, heaterMeasure_ends s r hl h href⟩
  · exact heatTimeout_ends s hl

end Sys2Proof.Machine
end
